-- ==== Sys2Proof/Word.lean ====
section
/-! DEFINITION. Byte and word types, and the ranges of the block's identifiers (Table 0.7, Table 0.8, R12). -/

namespace Sys2Proof

/-- One byte. -/
abbrev Byte := BitVec 8
/-- A 64-bit register or object. -/
abbrev Word := BitVec 64
/-- One 64 B granule of data: byte `k` of the granule is bits `8k+7 .. 8k` (R4). -/
abbrev Line := BitVec 512

/-- Array 0 to 191 (Table 0.7). -/
abbrev ArrayId := Fin 192
/-- Cluster 0 to 47. -/
abbrev ClusterId := Fin 48
/-- Core port 0 to 191 (R13). -/
abbrev PortId := Fin 192
/-- Context 0 to 4,095. -/
abbrev CtxId := Fin 4096
/-- Queue 0 to 16,383. -/
abbrev QueueId := Fin 16384
/-- Sequence 0 to 262,143. -/
abbrev SeqId := Fin 262144
/-- Sync counter 0 to 131,071. -/
abbrev CounterId := Fin 131072
/-- Watch slot 0 to 262,143. -/
abbrev WatchId := Fin 262144
/-- Walker 0 to 63. -/
abbrev WalkerId := Fin 64
/-- Master 0 to 7. -/
abbrev MasterId := Fin 8
/-- Home slice 0 to 47. -/
abbrev HomeId := Fin 48
/-- Copy engine 0 to 39: 0 to 15 host-to-device, 16 to 31 device-to-host, 32 to 39 peer (Table 0.6). -/
abbrev EngineId := Fin 40
/-- Stack 0 to 5. -/
abbrev StackId := Fin 6
/-- Host port HP0 or HP1. -/
abbrev HostId := Fin 2
/-- Peer link: 0 to 7 are PP_D0 to PP_D7, 8 to 11 are PP_B0 to PP_B3. -/
abbrev PeerId := Fin 12
/-- Key slot 0 to 4,095. -/
abbrev KeySlotId := Fin 4096
/-- Page-fault record 0 to 4,095. -/
abbrev RecordId := Fin 4096

end Sys2Proof
end

