-- ==== Sys2Proof/Syntax.lean ====
section
/-! DEFINITION. The commands of the block: one constructor of `Instr` per row of the opcode table, with its operands.
No row has bits in the table: the block has no instruction encoding. A command carries what arrives with it (an
address, data, a message) and what the spec leaves to time or to the surroundings (a sample, a measured value, the
bytes that a host or peer delivers). -/

namespace Sys2Proof

/-- Completion, record and dictionary status codes (Table 0.4, Table 15.3). -/
inductive Status where
  | ok | inexact
  | malformed | staleSlot | boundFault | rightsFault | xlateFault
  | poisonConsumed | crcExhausted | deadTarget | timeout
  | aborted | contextKilled | fencedUnit
  deriving DecidableEq, Repr

/-- The 8-bit code of a status (R8, Table 0.4). -/
def Status.code : Status → Nat
  | .ok => 0x00 | .inexact => 0x01
  | .malformed => 0x10 | .staleSlot => 0x11 | .boundFault => 0x12 | .rightsFault => 0x13 | .xlateFault => 0x14
  | .poisonConsumed => 0x20 | .crcExhausted => 0x21 | .deadTarget => 0x22 | .timeout => 0x23
  | .aborted => 0x30 | .contextKilled => 0x31 | .fencedUnit => 0x32

/-- Bytes that a host or a peer delivers with a command, keyed by physical address. -/
abbrev Ext := List (Nat × Byte)

/-- What the checks of storage find on an access: nothing, a corrected or an uncorrectable error of the data (R149, R157, R228,
R230), a device-cache tag that fails its parity and is reloaded, or one whose line record is bad too (R228). -/
inductive Ecc where
  | clean | corrected | uncorrectable | tagParity | tagLost
  deriving DecidableEq, Repr

/-- Who writes or reads a block register: the host through BAR0 of a port, or a carrier core through its port in a
stream, for a context (R252). -/
inductive Requester where
  | host (p : HostId)
  | core (p : PortId) (stream : Fin 64) (ctx : CtxId)
  deriving DecidableEq, Repr

/-- One transfer of a core port's request channel (Table 17.13): attribute word, address, data, byte mask and tag. -/
structure CoreReq where
  port : PortId
  attr : Word
  va : BitVec 56
  data : Line
  mask : Word
  tag : BitVec 10
  deriving DecidableEq, Repr

/-- A state granted by DATA or DATA_FWD (Table 9.4). -/
inductive Grant where
  | none | s | f | e | m
  deriving DecidableEq, Repr

/-- A coherence request from a requester to a home slice (R231). -/
structure CohReq where
  agent : Nat
  pa : Nat
  ctx : CtxId
  keySlot : KeySlotId
  cache : Fin 3
  retry : Fin 16
  aged : Bool
  deriving DecidableEq, Repr

/-- A write or an atomic carried by a coherence request: the data and the bytes it names within the granule. -/
structure CohData where
  data : Line
  mask : Word
  poison : Bool
  deriving DecidableEq, Repr

/-- A chain frame (Table 15.7), or the header of a mailbox request (R392). `crcOk` says what its CRC finds; `session` is the
session under whose key and frame counter its MAC verifies, if any (R387). -/
structure Frame where
  dest : Byte
  src : Byte
  typ : Fin 16
  disp : Fin 4
  master : MasterId
  resp : Bool
  tag : Byte
  index : BitVec 16
  sub : Byte
  seg : Byte
  status : Byte
  data : BitVec 32
  session : Option Nat
  crcOk : Bool
  deriving DecidableEq, Repr

/-- The transports of SPDM messages (R419, R423). -/
inductive Via where
  | doe (p : HostId)
  | mailbox (p : HostId)
  | chain
  | peer (l : PeerId)
  deriving DecidableEq, Repr

/-- What a tenant allows its confidential context (Table 16.8): a host window of pages, a peer window, a host decoder. -/
inductive ConfAllow where
  | hostWindow (pa pages : Nat)
  | peerWindow (l : PeerId) (w : Fin 64)
  | hostDecoder (p : HostId) (d : Fin 8)
  deriving DecidableEq, Repr

/-- A firmware image as the boot ROM finds it: VERSION, SVN and the SHA-384 of the image (Table 16.4, R415). -/
structure ImageReport where
  version : BitVec 32
  svn : Byte
  measure : BitVec 384
  deriving DecidableEq, Repr

/-- A droop calibration of one cluster: its load in % of RATED_MA and the supplies found, in mV (Table 15.14). -/
structure CalRead where
  cluster : ClusterId
  load : Byte
  vQuiet : BitVec 16
  vNominal : BitVec 16
  vPeak : BitVec 16
  deriving DecidableEq, Repr

/-- What happened while a start-up step ran: its failed attempts in order, each with its unit and status (R405); for S02 the
image; for S05 nothing; for S06 the rows replaced; for S15 and S16 the calibrations. -/
structure StepReport where
  fails : List (BitVec 16 × Status)
  image : Option ImageReport
  rows : BitVec 32
  cal : List CalRead
  deriving DecidableEq, Repr

/-- A peer flit (Table 17.10). Its body stands in clear; `crcOk` and `tagOk` say what its two checks find (R443, R423). -/
structure PeerFlit where
  seq : BitVec 16
  ack : BitVec 16
  reqCredits : Fin 64
  dataCredits : Fin 256
  slots : BitVec 14
  body : BitVec 1792
  crcOk : Bool
  tagOk : Bool
  deriving DecidableEq, Repr

/-- What a unit reports to the fault collector: class, unit, context, address and its kind, operation, status, detail (R348). -/
structure EventReport where
  cls : Fin 256
  unit : BitVec 16
  ctx : Option CtxId
  addr : Word
  addrKind : Fin 4
  op : Byte
  status : Status
  detail : BitVec 32
  deriving DecidableEq, Repr

/-- The MetaValue of a host's CXL.mem request (Table 9.11). -/
inductive Meta where
  | invalid | shared | any
  deriving DecidableEq, Repr

/-- A host's answer to a back-invalidate snoop (R247). -/
inductive BiRsp where
  | s | i | e
  deriving DecidableEq, Repr

/-- A host's answer to a CXL.cache request: ownership or data granted, or the host takes the data (R245). -/
inductive H2d where
  | goI | goS | goE | goM | pull
  deriving DecidableEq, Repr

/-- An operation that waits on a page-fault record (R179). -/
inductive Waiter where
  | portOp (port id : Nat)
  | array (a id : Nat)
  | queueCmd (q idx : Nat)
  | ds (c : Nat)
  deriving DecidableEq, Repr

/-- What a run of a course or a burst cost: ARR cycles that presented a row, other ARR cycles, and bytes per class (R335,
R336). It is a matter of timing, so it arrives with the command. -/
structure Work where
  rows : Nat
  other : Nat
  stack : Nat
  loft : Nat
  host : Nat
  peer : Nat
  deriving DecidableEq, Repr

/-- What a run of a course has come to when a command ends it, or discards it: its cost; the rows, in flat form weight columns,
that it had made indicative; the idle rows that the governor inserted (R115), the cycles that it waited for staging (R132),
whether it was confirmed late (R131); and the host bytes that it has read. -/
structure RunLog where
  work : Work
  rows : Nat
  idle : Nat
  stalls : Nat
  late : Bool
  ext : Ext
  deriving DecidableEq, Repr

/-- The commands: one constructor per row of the opcode table, in its order. -/
inductive Instr where
  /-- PWR_OK_RISE, R404: PWR_OK rises and the start-up sequencer begins a start once the reset being released has also risen. -/
  | pwrOkRise
  /-- PWR_OK_FALL, R435: PWR_OK falls and the block stops at once without a drain, losing everything including retained AON storage. -/
  | pwrOkFall
  /-- COLD_RST_N_ASSERT, R434: COLD_RST_N is held low for 3 AON ticks or more and resets everything outside retained AON storage. -/
  | coldRstNAssert
  /-- WARM_RST_N_ASSERT, R407: WARM_RST_N is held low for 3 AON ticks or more; near caches write back, home slices drain, and the logic reset takes hold while the kept state is preserved. -/
  | warmRstNAssert
  /-- RESET_RELEASE, R404: COLD_RST_N or WARM_RST_N rises and a new start begins, or an abandoned start is replaced. -/
  | resetRelease (cold : Bool)
  /-- HP_PERST_N_FALL, R436: HP_PERST_N of a host port falls; this is a host reset on that port and is taken at once. -/
  | hpPerstNFall (p : HostId)
  /-- HP_PERST_N_RISE, R436: HP_PERST_N of a host port rises and link training of that port begins again. -/
  | hpPerstNRise (p : HostId)
  /-- FREEZE_N_FALL, R426: FREEZE_N falls and every block clock domain stops with its state held, together with AONCNT and the always-on timers. -/
  | freezeNFall
  /-- FREEZE_N_RISE, R429: FREEZE_N rises; the block resumes from a held-link freeze, or otherwise performs a warm reset with START_KIND 3. -/
  | freezeNRise
  /-- TAP_RESET, R460: TRST_N resets the TAP and its IEEE 1687 network. -/
  | tapReset (low : Bool)
  /-- RAIL_PG_FALL, R437: RAIL_PG of a main rail or VDD_RET falls while the block runs, and the block behaves as if COLD_RST_N were held low until the rail returns. -/
  | railPgFall (r : Fin 24)
  /-- RAIL_PG_TIMEOUT, R437: A requested rail has not asserted RAIL_PG within 120 µs of RAIL_EN; S00 fails and the block enters SAFE. -/
  | railPgTimeout (r : Fin 24)
  /-- GRANT_STB, R453: GRANT is sampled in an AON tick with GRANT_STB high and becomes the power-budget grant used by the governor. -/
  | grantStb (grant : BitVec 12)
  /-- DROOP_STOP, R116: DROOP_STOP_N of a cluster goes low and CLK_ARR of that cluster stops with every state held. -/
  | droopStop (c : ClusterId)
  /-- DROOP_STOP_PERSISTS, R116: A droop stop lasts 64 ARR cycle-times; CLK_ARR restarts with one idle row in every two until the droop clears, and the event is counted. -/
  | droopStopPersists (c : ClusterId)
  /-- DROOP_CLEAR, R116: A droop input rises and the cluster resumes from its held state, or at its full issue rate. -/
  | droopClear (c : ClusterId) (warn : Bool)
  /-- DROOP_WARN, R454: DROOP_WARN_N of a cluster goes low and the cluster presents an idle row in one slot of every four while it stays low. -/
  | droopWarn (c : ClusterId)
  /-- THERMTRIP, R455: A sensor reaches 125 °C; the block raises THERMTRIP_N and stops every fast clock within 1 µs. -/
  | thermtrip (sensor : Fin 64) (temp : BitVec 12)
  /-- SENSOR_SAMPLE, R351: Every 16 AON ticks the management subsystem samples each temperature sensor and each voltage monitor. -/
  | sensorSample (temps volts : List (BitVec 12))
  /-- CPN_WAKE, R450: A carrier core raises its CPn_WAKE line, which acts as a doorbell wake event; CPn_AWAKE rises once credits are granted. -/
  | cpnWake (p : PortId) (high : Bool)
  /-- STACK_PG_FALL, R451: SPs_PG falls while a stack is active and the stack's channels are fenced. -/
  | stackPgFall (k : StackId)
  /-- INTERFACE_CLOCK_STOP, R433: A PHY-supplied interface clock stops for 1 µs and the block treats the link as down. -/
  | interfaceClockStop (l : Fin 14)
  /-- CHAIN_PARTNER_LOST, R452: CH_DN has held no symbol lock for 10 µs, so the port has no partner. -/
  | chainPartnerLost
  /-- WAKE_EVENT, R21: A wake event of Table 1.6 arrives while the block is ASLEEP or entering ASLEEP; CLK_FAB starts within 6 µs, or the entry is cancelled. -/
  | wakeEvent
  /-- SLEEP_DELAY_EXPIRY, R21: The idle conditions have held for SLEEP_DELAY AON ticks; the block enters ASLEEP, retains SRAM and loft, and stops its fast clocks. -/
  | sleepDelayExpiry
  /-- CLUSTER_IDLE_EXPIRY, R20: A cluster has issued no row for the cluster idle delay and power-gates. -/
  | clusterIdleExpiry (c : ClusterId)
  /-- LOFT_IDLE_EXPIRY, R163: A loft slice has served no access for LOFT_IDLE_DELAY and enters retention. -/
  | loftIdleExpiry (slice : Fin 192)
  /-- SR_DELAY_EXPIRY, R163: A stack controller has served no access for SR_DELAY and places its stack in self-refresh. -/
  | srDelayExpiry (k : StackId)
  /-- GOVERNOR_TICK, R398: At the end of each AON tick the occupancy governor compares its power estimate with the limit and adjusts the issue fraction. -/
  | governorTick (p : BitVec 12) (heavy : List ClusterId)
  /-- POWER_POINT_SWITCH, R24: A cluster reaches a cycle with no row in flight, or 10 µs have passed after a power-point write, and it moves CLK_ARR to the new point. -/
  | powerPointSwitch (c : ClusterId)
  /-- RAMP_DOWN, R90: An array has no course queued after its last row, or has waited 64 ARR cycles for an input, and ramps its current down. -/
  | rampDown (a : ArrayId)
  /-- ADAPT_TICKS_REACHED, R401: The count of full-load ticks of a provisional cluster reaches ADAPT_TICKS and the monitor writes a new adaptive calibration record. -/
  | adaptTicksReached (c : ClusterId) (load : Byte)
  /-- GUARD_LOWER, R401: 50,000,000 counted ticks pass without a droop event and the provisional cluster's guard falls by 5 mV. -/
  | guardLower (c : ClusterId)
  /-- LINK_MARGIN_CHECK, R402: A link's traffic stays above 60 % of its rate for 1 ms for the first time, and the block reads the PHY margin and sets the link record's STATE. -/
  | linkMarginCheck (l : Fin 14) (margin : Byte)
  /-- LINK_REEQUALISE, R402: A link in STATE 3 has traffic below 10 % for 1 ms; the block re-equalises it and the record returns to STATE 1. -/
  | linkReequalise (l : Fin 14)
  /-- L1_IDLE_EXPIRY, R439: A host link has carried no transaction for L1_IDLE ticks and enters L1. -/
  | l1IdleExpiry (p : HostId)
  /-- START_BEGIN, R404: A start begins and the sequencer reads each step's previous entry and runs the steps of Table 16.1 in order. -/
  | startBegin
  /-- START_STEP_COMPLETE, R405: A start-up step or group of steps ends; the sequencer records STATUS, ALT and ATTEMPTS and begins the next step, or enters SAFE. -/
  | startStepComplete (k : Fin 24) (r : StepReport)
  /-- JOURNAL_WAIT_EXPIRY, R410: JOURNAL_WAIT runs out during S22, which ends ALT_OK with the remaining queues still HELD. -/
  | journalWaitExpiry
  /-- FRAME_FORWARD, R385: A whole chain frame is received and CRC-checked and is forwarded, acted on, or discarded. -/
  | frameForward (up : Bool) (queued : Fin 257) (f : Frame)
  /-- TOKEN, R390: A TOKEN frame reaches the block, which takes address v + 1, forwards the token, or sends TOKEN_END. -/
  | token (f : Frame)
  /-- ADDR_GRANT, R391: ADDR_GRANT with the block's nonce arrives and the block takes the granted address, or stays without one. -/
  | addrGrant (f : Frame)
  /-- READ, R389: A chain READ frame reads a segment of an object; SEG 0 captures the object into the master's snapshot record. -/
  | chainRead (queued : Fin 257) (f : Frame)
  /-- WRITE, R389: A chain WRITE frame carries a segment into the master's write buffer; the write takes effect whole with its last segment. -/
  | chainWrite (queued : Fin 257) (f : Frame)
  /-- DESCRIBE, R386: A DESCRIBE frame returns an object's type code, access class and size. -/
  | chainDescribe (queued : Fin 257) (f : Frame)
  /-- SPDM_FRAME, R386: A chain SPDM frame carries SPDM message bytes to the responder. -/
  | spdmFrame (f : Frame)
  /-- REGISTER, R393: A requester with a completed SPDM session registers as a master and takes the lowest free master identifier. -/
  | register (path : Fin 3) (queued : Fin 257) (f : Frame)
  /-- CLAIM, R394: A master sets or withdraws its claim priority, which may start an election. -/
  | claim (path : Fin 3) (queued : Fin 257) (f : Frame)
  /-- HANDOVER, R394: The owner hands ownership to a candidate master, which starts a new lease. -/
  | handover (path : Fin 3) (queued : Fin 257) (f : Frame)
  /-- RELEASE, R394: The owner gives up ownership; its claim becomes 0 and an election follows if a candidate remains. -/
  | ownerRelease (path : Fin 3) (queued : Fin 257) (f : Frame)
  /-- RENEW, R395: The owner renews its lease. -/
  | renew (path : Fin 3) (queued : Fin 257) (f : Frame)
  /-- ELECTION_WINDOW_END, R394: The election window ends and the highest claim wins, or the block returns to NO_OWNER. -/
  | electionWindowEnd
  /-- LEASE_LAPSE, R395: The owner's lease runs out at the end of a tick and ownership is given up. -/
  | leaseLapse
  /-- REGISTRATION_EXPIRY, R393: A master has sent no request for 60 s, or its session ends, and its registration ends. -/
  | registrationExpiry (m : MasterId)
  /-- MAILBOX_DICTIONARY, R392: CXL mailbox vendor command 0xC000 reads or writes a whole object or record in one command. -/
  | mailboxDictionary (p : HostId) (queued : Fin 257) (f : Frame) (bytes : List Byte)
  /-- MAILBOX_SPDM, R392: CXL mailbox vendor command 0xC001 carries an SPDM message. -/
  | mailboxSpdm (p : HostId) (bytes : List Byte)
  /-- MP_WATCHDOG_EXPIRY, R382: The MP watchdog expires; the always-on domain resets the MP alone, discards its queue and restarts it, or holds it in reset after the third expiry. -/
  | mpWatchdogExpiry
  /-- MIRROR_COMPLETE, R377: The MP finishes mirroring a persistent object to the carrier's flash. -/
  | mirrorComplete (index : BitVec 16) (sub : Byte) (ok : Bool)
  /-- GET_VERSION, R419: The SPDM responder answers GET_VERSION. -/
  | getVersion (v : Via)
  /-- GET_CAPABILITIES, R419: The SPDM responder answers GET_CAPABILITIES. -/
  | getCapabilities (v : Via)
  /-- NEGOTIATE_ALGORITHMS, R419: The SPDM responder answers NEGOTIATE_ALGORITHMS. -/
  | negotiateAlgorithms (v : Via)
  /-- GET_DIGESTS, R419: The SPDM responder returns the digest of its certificate chain. -/
  | getDigests (v : Via)
  /-- GET_CERTIFICATE, R419: The SPDM responder returns its slot 0 certificate chain. -/
  | getCertificate (v : Via) (off len : BitVec 16)
  /-- CHALLENGE, R419: The SPDM responder answers CHALLENGE with an alias-key signature. -/
  | challenge (v : Via) (msg : List Byte)
  /-- GET_MEASUREMENTS, R420: The SPDM responder returns the measurement blocks, signed when requested. -/
  | getMeasurements (v : Via) (op : Byte) (sign : Bool) (msg : List Byte)
  /-- KEY_EXCHANGE, R419: The SPDM responder opens a session, or answers Busy beyond 64 sessions. -/
  | keyExchange (v : Via) (msg : List Byte)
  /-- FINISH, R419: The SPDM responder completes session establishment. -/
  | finish (v : Via) (id : Nat) (ok : Bool) (digest : BitVec 384) (master : Bool)
  /-- HEARTBEAT, R419: The SPDM responder answers a session heartbeat. -/
  | heartbeat (v : Via) (id : Nat) (ok : Bool)
  /-- KEY_UPDATE, R419: The session keys are updated, as on peer links before their flit counters reach 2^32. -/
  | keyUpdate (v : Via) (id : Nat) (ok : Bool)
  /-- END_SESSION, R419: An SPDM session ends, which ends any master registration on it. -/
  | endSession (v : Via) (id : Nat) (ok : Bool)
  /-- CONF_CREATE, R425: A tenant creates a confidential context, or rebinds its session to one, with fresh key slots and a queue key. -/
  | confCreate (v : Via) (id : Nat) (ok : Bool) (c : CtxId) (slots : List KeySlotId)
  /-- CONF_ALLOW, R425: A tenant permits host windows, a peer window or a host decoder for its confidential context. -/
  | confAllow (v : Via) (id : Nat) (ok : Bool) (a : ConfAllow)
  /-- CONF_END, R425: A tenant ends its confidential context as CTX_CMD END would. -/
  | confEnd (v : Via) (id : Nat) (ok : Bool) (c : CtxId)
  /-- DICTIONARY_WRITE, R375: A write to a dictionary object that has no behaviour of its own takes effect, or is refused under Table 15.3. -/
  | dictionaryWrite (m : MasterId) (index : BitVec 16) (sub : Byte) (data : List Byte)
  /-- CACHE_STEPS, R154: An owner write of CACHE_STEPS writes back and invalidates the device cache and moves the split between scratch and cache. -/
  | cacheSteps (m : MasterId) (v : Byte)
  /-- FENCE, R124: An owner write of an array's FENCE pre-empts its course, spills its store and resumes on the substitute, or takes the array back into use. -/
  | arrayFence (m : MasterId) (a : ArrayId) (v : Byte)
  /-- HOME_SLICE_FENCE, R244: A home slice is fenced and its directory, near-cache lines and device-cache lines move to the substitute slice. -/
  | homeSliceFence (m : MasterId) (h : HomeId) (v : Byte)
  /-- ENGINE_FENCE, R277: An owner write of a copy engine's FENCE fences it at its next burst boundary, or returns it to use once idle. -/
  | engineFence (m : MasterId) (e : EngineId) (v : Byte)
  /-- NEAR_FENCE, R358: The owner fences the near cache of a core port, whose accesses then go uncached to the home slices. -/
  | nearFence (m : MasterId) (v : Byte)
  /-- WINDOW_CONTROL, R189: An owner write sets or clears PRESENT of a peer window record, after range and confidentiality checks. -/
  | windowControl (m : MasterId) (l : PeerId) (w : Fin 64) (v : Byte)
  /-- DEC_CONTEXT, R248: An owner write of a host decoder's context or key slot, refused while the decoder is committed. -/
  | decContext (m : MasterId) (p : HostId) (d : Fin 8) (slot : Bool) (v : BitVec 16)
  /-- POINT_REQUESTED, R397: An owner write of the power point, which takes effect under R24 unless PEAK is held for provisional calibration. -/
  | pointRequested (m : MasterId) (v : Byte)
  /-- FIRST_CLEAR, R353: The owner empties the first-error latch and clears OVERFLOW. -/
  | firstClear (m : MasterId) (v : Byte)
  /-- OWNER_KILL, R396: The owner kills a context as CTX_CMD KILL would. -/
  | ownerKill (m : MasterId) (c : BitVec 16)
  /-- RESTORE_DEFAULTS, R377: The owner sets every RWP_OWNER object to its default and mirrors the result. -/
  | restoreDefaults (m : MasterId) (v : Byte)
  /-- RETRY_MASK, R406: The owner makes the next start forget the previous entries of the selected steps. -/
  | retryMask (m : MasterId) (v : BitVec 32)
  /-- PKG_OFFSET, R368: A write of 0 to PKG_OFFSET discards any field-test package, or ends a run, and starts loading. -/
  | pkgOffset (m : MasterId) (v : BitVec 32)
  /-- PKG_DATA, R368: 64 B of a field-test package are stored at PKG_OFFSET, which advances. -/
  | pkgData (m : MasterId) (data : Line)
  /-- PKG_COMMIT, R368: The loaded field-test package is verified and becomes VERIFIED or REJECTED. -/
  | pkgCommit (m : MasterId) (v : Byte)
  /-- RUN, R369: A field-test run starts on a fenced idle unit with the requested trims and heating. -/
  | testRun (m : MasterId) (r : BitVec 128)
  /-- HEATING_LIMIT, R369: A heating phase reaches TEMP_MIN or its 100 ms limit, and the patterns begin. -/
  | heatingLimit
  /-- MAX_TICKS_EXPIRY, R369: A field-test run passes MAX_TICKS and ends with status TIMEOUT. -/
  | maxTicksExpiry (ran first fails : BitVec 16)
  /-- FIELD_TEST_RESULT, R370: A field-test run ends and its result is written to RESULT and counted. -/
  | fieldTestResult (ran first fails : BitVec 16)
  /-- FW_OFFSET, R416: A write of 0 to FW_OFFSET discards any loaded firmware image and starts loading. -/
  | fwOffset (m : MasterId) (v : BitVec 32)
  /-- FW_DATA, R416: 64 B of a firmware image are stored at FW_OFFSET, which advances. -/
  | fwData (m : MasterId) (data : Line)
  /-- FW_COMMIT, R416: The loaded firmware image is verified and written over the image in flash. -/
  | fwCommit (m : MasterId) (v : Byte)
  /-- FW_ACTIVATE, R416: The MP alone is reset into the written image. -/
  | fwActivate (m : MasterId) (v : Byte)
  /-- DEBUG_UNLOCK, R427: An owner write of DEBUG_UNLOCK, refused for 1 once a confidential context has existed. -/
  | debugUnlock (m : MasterId) (v : Byte)
  /-- LINK_HOLD, R428: A write of 1 to LINK_HOLD stops admission and quiesces links into their hold state; a write of 0 restores admission. -/
  | linkHold (m : MasterId) (v : Byte)
  /-- HOLD_COMPLETE, R428: Link hold quiescing ends, with HOLD_STATE 2 when done or 3 after 100 ms. -/
  | holdComplete
  /-- REGISTER_WRITE, R251: A write to a block register that has no behaviour of its own takes effect, or completes MALFORMED at an unlisted offset. -/
  | registerWrite (w : Requester) (off : Fin 0x8000000) (len : Fin 9) (data : Word) (ext : Ext)
  /-- DOORBELL, R259: A doorbell write is accepted and the queue reads its new slots, or is rejected. -/
  | doorbell (w : Requester) (q : QueueId) (data : Word)
  /-- CQ_CONS, R274: A write of CQ_CONS frees completion-ring space, or completes MALFORMED when it passes CQ_PROD. -/
  | cqCons (w : Requester) (q : QueueId) (data : Word)
  /-- QUEUE_ENABLE, R253: A write of QCFG that sets ENABLE starts the queue, or registers a HELD journaled queue again. -/
  | queueEnable (w : Requester) (q : QueueId) (data : Word) (ext : Ext)
  /-- QUEUE_DISABLE, R254: A write of ENABLE = 0 puts the queue into DRAINING. -/
  | queueDisable (w : Requester) (q : QueueId) (data : Word)
  /-- QUEUE_RESUME, R254: RESUME written to QCTL restarts a STOPPED queue by reading slot CONS afresh. -/
  | queueResume (w : Requester) (q : QueueId) (data : Word)
  /-- SPACE, R166: A write of an address-space entry; disabling it drains the space's translations and removes its TLB entries. -/
  | spaceEntry (w : Requester) (a : Fin 4096) (raw : BitVec 128)
  /-- FRING_CONFIG, R178: A write of FRING_BASE or FRING_LOG2 reconfigures the page-fault ring and resets its indices, or is refused under R464. -/
  | fringConfig (w : Requester) (isBase : Bool) (data : Word)
  /-- NRING_CONFIG, R312: A write of NRING_BASE or NRING_LOG2 reconfigures the notification ring and releases held records, or is refused under R464. -/
  | nringConfig (w : Requester) (isBase : Bool) (data : Word)
  /-- FLT_CONFIG, R352: A write of FLT_BASE or FLT_LOG2 reconfigures the fault ring and resets its indices, or is refused under R464. -/
  | fltConfig (w : Requester) (isBase : Bool) (data : Word)
  /-- RESOLVE_RETRY, R182: A RETRY resolve frees a page-fault record, and every attached waiter re-checks its whole footprint. -/
  | resolveRetry (w : Requester) (raw : BitVec 128)
  /-- RESOLVE_FAIL, R182: A FAIL resolve frees a page-fault record and completes its waiters with the kind's status. -/
  | resolveFail (w : Requester) (raw : BitVec 128)
  /-- MIGRATE_COPY, R184: A MIGRATE_COPY resolve blocks the grain, drains its holders and starts the migration copy to DEST. -/
  | migrateCopy (w : Requester) (raw : BitVec 128)
  /-- INVAL, R186: An invalidation command takes a sequence number and starts removing overlapping TLB entries, restarting walks and stopping holders. -/
  | inval (w : Requester) (raw : BitVec 128)
  /-- INVAL_COMPLETE, R186: An invalidation's conditions hold and INVAL_DONE advances in sequence order. -/
  | invalComplete
  /-- CTX_WRITE, R319: A write of a context state word takes effect under the field rules, or is counted as without effect. -/
  | ctxWrite (w : Requester) (c : CtxId) (k : Fin 8) (data : Word)
  /-- CREATE, R320: CTX_CMD CREATE makes a FREE context READY after its checks. -/
  | ctxCreate (w : Requester) (c : CtxId)
  /-- SUSPEND, R320: CTX_CMD SUSPEND makes a context SUSPENDED and every engine pre-empts it. -/
  | ctxSuspend (w : Requester) (c : CtxId)
  /-- RESUME, R320: CTX_CMD RESUME makes a SUSPENDED context READY. -/
  | ctxResume (w : Requester) (c : CtxId)
  /-- END, R320: CTX_CMD END makes a context ENDING, so that nothing new is admitted. -/
  | ctxEnd (w : Requester) (c : CtxId)
  /-- KILL, R320: CTX_CMD KILL makes a context RELEASING at once and its started work completes CONTEXT_KILLED. -/
  | ctxKill (w : Requester) (c : CtxId)
  /-- RESTART_STEPS, R320: CTX_CMD RESTART_STEPS clears STEP_STATUS and list building resumes. -/
  | ctxRestartSteps (w : Requester) (c : CtxId)
  /-- CONTEXT_ENDING_DRAINED, R320: Every started item of an ENDING context has completed and the context becomes RELEASING. -/
  | contextEndingDrained (c : CtxId)
  /-- CONTEXT_RELEASE, R320: A RELEASING context's watches, counters, loft granules, key slots, sequences, remote-wait records and store contents are released and it becomes FREE. -/
  | contextRelease (c : CtxId)
  /-- SEQ_CREATE, R323: SEQ_CMD CREATE makes a FREE sequence ACTIVE from a 64 B image. -/
  | seqCreate (w : Requester) (raw : BitVec 128) (ext : Ext)
  /-- SEQ_READ, R323: SEQ_CMD READ writes a sequence entry as it stands at one instant. -/
  | seqRead (w : Requester) (raw : BitVec 128) (ext : Ext)
  /-- SEQ_PARK, R322: SEQ_CMD PARK parks an ACTIVE sequence, or sets PARK_REQ while a token is due. -/
  | seqPark (w : Requester) (raw : BitVec 128) (ext : Ext)
  /-- SEQ_UNPARK, R322: SEQ_CMD UNPARK makes a PARKED sequence ACTIVE. -/
  | seqUnpark (w : Requester) (raw : BitVec 128) (ext : Ext)
  /-- SEQ_END, R323: SEQ_CMD END gives the verdict END for a due step, or sets ENDING at once. -/
  | seqEnd (w : Requester) (raw : BitVec 128) (ext : Ext)
  /-- SEQ_FREE, R322: SEQ_CMD FREE makes a DONE sequence FREE. -/
  | seqFree (w : Requester) (raw : BitVec 128) (ext : Ext)
  /-- SEQ_TOKEN, R325: A token record for a step sets DONE_STEP, LAST_TOKEN and LENGTH and gives the step's verdict. -/
  | seqToken (w : Requester) (data : Word)
  /-- SEQUENCE_DONE, R322: Every course with rows bound to an ENDING sequence has completed; the sequence becomes DONE and END_CTR is signalled. -/
  | sequenceDone (q : SeqId)
  /-- ACCT_SNAP, R337: An accounting snapshot captures a context's or the block's counters, writes the record and optionally signals. -/
  | acctSnap (w : Requester) (raw : BitVec 128)
  /-- CTRL, R302: A write of a counter's control register binds or unbinds it and captures BASELINE, unless a watch is registered. -/
  | counterCtrl (w : Requester) (c : CounterId) (data : Word)
  /-- VALUE, R302: A write of a counter's value register, which has no effect while a watch is registered. -/
  | counterValue (w : Requester) (c : CounterId) (data : Word)
  /-- JSTAGE, R283: A write of a queue's staging register, which has no effect while the queue is enabled. -/
  | jstage (w : Requester) (q : QueueId) (data : Word)
  /-- DISCARD, R296: JCTL DISCARD aborts a HELD or stopped journaled queue's accepted commands, frees its state and disables it. -/
  | journalDiscard (w : Requester) (q : QueueId) (data : Word)
  /-- ACK_HOLD, R354: An acknowledgement with HOLD stops a running grace timer with no action. -/
  | ackHold (w : Requester) (serial : BitVec 32)
  /-- ACK_ACT, R354: An acknowledgement with ACT stops a running grace timer and takes its action at once. -/
  | ackAct (w : Requester) (serial : BitVec 32)
  /-- LOAD_FRESH, R424: KEY_CMD LOAD_FRESH fills an empty key slot with a new key bound to a context. -/
  | loadFresh (w : Requester) (c : CtxId) (k : KeySlotId)
  /-- LOAD_DRIVER, R424: KEY_CMD LOAD_DRIVER fills an empty key slot with a new key held by the driver. -/
  | loadDriver (w : Requester) (c : CtxId) (k : KeySlotId)
  /-- BIND, R424: KEY_CMD BIND adds a context to a key slot. -/
  | bind (w : Requester) (c : CtxId) (k : KeySlotId)
  /-- UNBIND, R424: KEY_CMD UNBIND removes a context from a key slot. -/
  | unbind (w : Requester) (c : CtxId) (k : KeySlotId)
  /-- DESTROY, R424: KEY_CMD DESTROY empties a key slot bound to the driver or to no running context. -/
  | destroy (w : Requester) (c : CtxId) (k : KeySlotId)
  /-- LOAD, R193: A core-port LOAD request is translated and performed, and its response returned in stream order. -/
  | portLoad (r : CoreReq) (e : Ecc)
  /-- STORE, R196: A core-port STORE request enters the store buffer or is performed, with its response returned EARLY or LATE. -/
  | portStore (r : CoreReq) (e : Ecc)
  /-- RLOAD, R208: A reserved load sets its stream's reservation and brings the line in with ownership. -/
  | portRload (r : CoreReq) (e : Ecc)
  /-- CSTORE, R210: A conditional store writes only while its stream holds the reservation, and clears it. -/
  | portCstore (r : CoreReq) (e : Ecc)
  /-- ATOMIC, R207: A core-port atomic is performed and returns the old value. -/
  | portAtomic (r : CoreReq) (e : Ecc)
  /-- BARRIER, R216: A barrier waits for its earlier set under Table 8.7 and completes with OK or the status of lost writes. -/
  | portBarrier (r : CoreReq)
  /-- WRITE_PERFORMED, R195: A write held in a store buffer or write queue reaches its point of performance and releases what waits on it. -/
  | writePerformed (p : PortId) (id : Nat)
  /-- HOLD_WINDOW_EXPIRY, R211: The 256 FAB-cycle hold window after a reserved load ends and deferred requests to the line proceed. -/
  | holdWindowExpiry (p : PortId)
  /-- COURSE_HALF, R449: A half of a course descriptor arrives on a core port's course channel and is joined with the other half. -/
  | courseHalf (p : PortId) (stream : Fin 64) (c : CtxId) (half : BitVec 512) (last : Bool)
  /-- COURSE, R104: A course descriptor with OPCODE COURSE is read and checked and its footprint is translated before any operand byte moves. -/
  | course (a : ArrayId) (ext : Ext)
  /-- RIDGE_SCAN, R103: A RIDGE_SCAN course folds the elements of an extent into a ridge record. -/
  | ridgeScan (a : ArrayId) (ext : Ext)
  /-- DIAGONAL, R120: A DIAGONAL course performs one element operation on the diagonal cells for each memory row. -/
  | diagonal (a : ArrayId) (ext : Ext)
  /-- FOOTPRINT_READY, R107: Every page of a waiting operation's footprint is present with its rights, and the operation starts to move bytes. -/
  | footprintReady (w : Waiter) (errs : List (Nat × Ecc))
  /-- BLOCK_CHECK, R341: A receiver checks a 64 B block's CRC and poison code within 12 FAB cycles of its arrival, and asks for a re-send when the check fails. -/
  | blockCheck (receiver sender : BitVec 16) (g : Nat) (ok write : Bool) (r : RunLog)
  /-- BLOCK_RESEND, R343: A re-sent block arrives and is checked again; after the fourth failure the transfer ends CRC_EXHAUSTED. -/
  | blockResend (receiver sender : BitVec 16) (g : Nat) (ok : Bool) (r : RunLog)
  /-- VERDICT, R126: A verdict reaches an array holding rows bound to the step; CONTINUE confirms them and END squashes that sequence's outputs. -/
  | seqVerdict (a : ArrayId) (q : SeqId) (step : BitVec 32)
  /-- STRICT_RERUN, R43: A course with STRICT_RIDGE in effect breaches, and its gutters are discarded and it re-runs with the observed ridge. -/
  | strictRerun (a : ArrayId) (r : RunLog)
  /-- COURSE_COMPLETE, R133: Every output of a course is indicative or squashed; the course result is delivered, the digest folded and SIGNAL_EN signalled. -/
  | courseComplete (a : ArrayId) (r : RunLog)
  /-- PREEMPTION, R110: An array accepts a pre-emption request, stops presenting rows and drains the rows already presented. -/
  | preemption (a : ArrayId) (row : BitVec 32) (intake : Byte) (pass : Fin 28)
  /-- PREEMPT_SAVE, R110: A pre-emption drain ends and the array writes the 4 KiB save area. -/
  | preemptSave (a : ArrayId) (r : RunLog)
  /-- COURSE_RESUME, R111: A pre-empted course resumes after its save-area CRC and footprint checks, or re-runs on a CRC mismatch. -/
  | courseResume (a : ArrayId)
  /-- CHAIN_SPILL, R112: The continuation store of another context is spilled, or reloaded, before a course that uses the store starts. -/
  | chainSpill (a : ArrayId)
  /-- COURSE_FAULT, R114: A fault of a running course discards what is not indicative and re-runs the course, or completes it with the fault's status after a second fault. -/
  | courseFault (a : ArrayId) (st : Status) (r : RunLog)
  /-- SEQUENCER_MISMATCH, R118: An array's duplicated sequencers differ; the array is fenced and its course re-runs on the substitute. -/
  | sequencerMismatch (a : ArrayId) (r : RunLog)
  /-- SM_MISMATCH, R360: A copy-engine or walker duplicated state machine differs; the unit is fenced and its work restarts elsewhere. -/
  | smMismatch (unit : BitVec 16)
  /-- REMOTE_WAIT, R334: An engine detects that its work waits only on peer responses; it moves them into remote-wait records and pre-empts. -/
  | remoteWait (e : Fin 232)
  /-- REMOTE_RESPONSE_LAND, R334: A peer response lands in its remote-wait record; once all have landed the work rejoins the ready set. -/
  | remoteResponseLand (l : PeerId)
  /-- PEER_TIMEOUT, R215: A peer request has had no response within the peer timeout and its operation ends with TIMEOUT. -/
  | peerTimeout (l : PeerId) (slot : BitVec 16)
  /-- SLICE_END, R331: A context's time slice on an engine ends and the engine pre-empts it if other eligible work waits. -/
  | sliceEnd (e : Fin 232)
  /-- ENGINE_CHOOSE, R330: An engine becomes free or work joins its ready set, and it chooses the next context by priority and rotation. -/
  | engineChoose (e : Fin 232)
  /-- LIST_SCAN, R329: A scan of the sequence table starts and builds every step list due at its start. -/
  | listScan
  /-- STEP_ISSUE, R328: A step's gate watch is released, or no gate applies, and DS issues the step program's courses. -/
  | stepIssue (c : CtxId)
  /-- NOP, R257: Queue opcode NOP completes with no effect. -/
  | queueNop (q : QueueId)
  /-- COURSE_SLOT, R257: Queue opcode COURSE hands its course descriptor to the named array or to any array. -/
  | courseSlot (q : QueueId)
  /-- COPY, R269: Queue opcode COPY is checked, translated and placed on a copy engine of its class. -/
  | queueCopy (q : QueueId)
  /-- FILL, R268: Queue opcode FILL writes a 4-byte pattern over a destination. -/
  | queueFill (q : QueueId)
  /-- INLINE_WRITE, R257: Queue opcode INLINE_WRITE writes the bytes of its BODY to a destination. -/
  | queueInlineWrite (q : QueueId)
  /-- FLASHING, R264: Queue opcode FLASHING orders the queue's earlier commands before later ones at host scope with read-backs. -/
  | queueFlashing (q : QueueId)
  /-- QUEUE_SIGNAL, R257: Queue opcode SIGNAL signals a counter after every earlier command of the queue has completed. -/
  | queueSignal (q : QueueId)
  /-- QUEUE_WAIT, R257: Queue opcode WAIT holds back later commands until its watch is released, and stops the queue on timeout. -/
  | queueWait (q : QueueId)
  /-- DIGEST_OPEN, R364: DIGEST OPEN opens or clears the accumulator for a tensor identifier. -/
  | digestOpen (q : QueueId)
  /-- DIGEST_REGION, R366: DIGEST REGION digests a memory region's tiles on arrays and folds them at completion. -/
  | digestRegion (q : QueueId) (ext : Ext)
  /-- DIGEST_READ, R365: DIGEST READ writes the accumulator's result record. -/
  | digestRead (q : QueueId)
  /-- DIGEST_CLOSE, R364: DIGEST CLOSE frees an accumulator. -/
  | digestClose (q : QueueId)
  /-- SLOT_READ_RETURN, R261: A read of slot CONS returns; a visible slot goes on to its checks, otherwise a re-read is scheduled. -/
  | slotReadReturn (q : QueueId) (ext : Ext) (failed : Option Status)
  /-- SLOT_REREAD, R261: A slot re-read falls due; after the eighth failure the queue stops with STALE_SLOT. -/
  | slotReread (q : QueueId)
  /-- BURST_COMPLETE, R270: A copy engine ends a 1 MiB burst and moves on, or yields at the burst boundary. -/
  | burstComplete (e : EngineId) (ext : Ext)
  /-- ENGINE_FAULT, R272: A copy engine faults during a copy and the command re-runs on another engine, or completes with the fault status. -/
  | engineFault (e : EngineId) (st : Status)
  /-- COMPLETION_RECORD, R275: A command's writes are performed and read back and its commit made, and its completion record is written and CQ_CTR signalled. -/
  | completionRecord (q : QueueId) (idx : Nat)
  /-- READBACK_COMPLETE, R265: A CXL.io read-back completes on a host port, confirming earlier posted writes on it. -/
  | readbackComplete (p : HostId)
  /-- ACCEPT, R287: An ACCEPT record for a run of slot copies is confirmed and the commands are accepted and may start. -/
  | journalAccept (q : QueueId)
  /-- INTENT, R289: A unit's INTENT record is confirmed and the unit is performed to its destination. -/
  | journalIntent (q : QueueId) (idx : Nat)
  /-- COMMIT, R289: A unit's COMMIT record is confirmed and its frame is freed. -/
  | journalCommit (q : QueueId) (idx : Nat)
  /-- DONE, R290: A journaled command reaches DONE, applying its internal effects with the DONE mark and writing its DONE record. -/
  | queueDone (q : QueueId) (idx : Nat)
  /-- RECOVER_LIMIT_EXPIRY, R296: A recovery has not completed within RECOVER_LIMIT and the queue stops with TIMEOUT and stays HELD. -/
  | recoverLimitExpiry (q : QueueId)
  /-- SIGNAL, R307: A SIGNAL adds to a counter and releases observing watches, then consuming watches in order. -/
  | syncSignal (w : Requester) (raw : BitVec 128)
  /-- TAKE, R300: A TAKE subtracts from a counter when its value covers the count. -/
  | syncTake (w : Requester) (raw : BitVec 128)
  /-- WAIT_CONSUME, R306: A consuming wait is satisfied at once or registers a consuming watch. -/
  | waitConsume (w : Requester) (raw : BitVec 128)
  /-- WAIT_OBSERVE, R306: An observing wait is satisfied at once or registers an observing watch. -/
  | waitObserve (w : Requester) (raw : BitVec 128)
  /-- SYNC_READ, R300: A sync READ returns a counter's value. -/
  | syncRead (w : Requester) (raw : BitVec 128)
  /-- CANCEL, R310: A CANCEL removes the requesting context's watch, or answers ALREADY_RELEASED. -/
  | cancel (w : Requester) (raw : BitVec 128)
  /-- WATCH_TIMEOUT, R309: At the end of its deadline tick a watch still registered is released as TIMED_OUT. -/
  | watchTimeout
  /-- NOTIFICATION_RECORD, R312: A notification record is written to the host ring once there is room, NRING_CTR signalled and the MSI-X vector sent. -/
  | notificationRecord
  /-- FAULT_EVENT, R349: A unit reports a fault event; the collector counts, escalates, raises a record, latches it, writes it to the ring and starts a grace timer. -/
  | faultEvent (ev : EventReport)
  /-- GRACE_EXPIRY, R354: A grace timer still running at the end of its deadline tick expires and its action is taken. -/
  | graceExpiry
  /-- FAULT_RECORD_COPY, R178: In the fifth AON tick after raising or attachment, a page-fault record copy is written to the ring once there is room. -/
  | faultRecordCopy
  /-- FAULT_TIMEOUT_EXPIRY, R183: A page-fault record still pending at the end of tick r + FAULT_TIMEOUT is resolved as FAIL. -/
  | faultTimeoutExpiry (id : RecordId)
  /-- WALK, R174: A TLB miss starts a walk, or joins one in flight, that bisects the range array. -/
  | walk (w : Waiter) (space : Fin 4096) (va : BitVec 56)
  /-- WALK_COMPLETE, R174: A walk returns an entry, which fills the TLBs, or raises ABSENT, BAD_ENTRY or TABLE_ERROR. -/
  | walkComplete (k : WalkerId)
  /-- MIGRATION_COPY_DONE, R184: A migration copy ends and the record is written again with STATE COPIED and COPY_STATUS. -/
  | migrationCopyDone (e : Fin 16) (st : Status) (ext : Ext)
  /-- RD_S, R233: The home acts on a read that keeps a shared copy by its granule's directory state. -/
  | rdS (r : CohReq)
  /-- RD_X, R233: The home acts on a read with ownership by its granule's directory state. -/
  | rdX (r : CohReq)
  /-- UPG, R233: The home grants ownership to a holder without data, or treats the request as RD_X. -/
  | upg (r : CohReq)
  /-- RD_NC, R233: The home returns current data without keeping a copy. -/
  | rdNc (r : CohReq)
  /-- WR_NC, R233: The home applies a write from a requester that keeps no copy. -/
  | wrNc (r : CohReq) (d : CohData)
  /-- ATOM_H, R233: The home performs an atomic at memory. -/
  | atomH (r : CohReq) (d : CohData) (aop : Fin 10) (size : Fin 3)
  /-- ZERO_L, R225: The home allocates a whole line as zeros without reading it. -/
  | zeroL (r : CohReq)
  /-- WB, R232: The home applies a writeback of an M line at once and makes the entry unowned. -/
  | writeback (r : CohReq) (bad : Bool)
  /-- SNP_FWD_S, R231: A holder forwards data to the requester and keeps S. -/
  | snpFwdS (p : PortId) (g requester : Nat)
  /-- SNP_FWD_X, R231: A holder forwards data and ownership to the requester and goes I. -/
  | snpFwdX (p : PortId) (g requester : Nat)
  /-- SNP_GET_S, R231: A holder sends data to the home and keeps S. -/
  | snpGetS (p : PortId) (g requester : Nat)
  /-- SNP_GET_I, R231: A holder sends data to the home and goes I. -/
  | snpGetI (p : PortId) (g requester : Nat)
  /-- SNP_CUR, R231: A holder sends data to the home and keeps its state. -/
  | snpCur (p : PortId) (g requester : Nat)
  /-- SNP_INV, R231: A holder goes I without data. -/
  | snpInv (p : PortId) (g requester : Nat)
  /-- RSP_I, R238: The home takes a holder's answer that it has no copy, supplying data from memory where needed. -/
  | rspI (p : PortId) (g : Nat)
  /-- RSP_FWD_S, R231: The home takes a holder's answer that it forwarded data and kept S. -/
  | rspFwdS (p : PortId) (g : Nat) (dirty : Bool)
  /-- RSP_FWD_I, R231: The home takes a holder's answer that it forwarded data and ownership and is now I. -/
  | rspFwdI (p : PortId) (g : Nat) (dirty : Bool)
  /-- RSP_DATA, R231: The home takes data sent for a snoop, with its dirty flag. -/
  | rspData (p : PortId) (g : Nat) (dirty : Bool)
  /-- RSP_WBIF, R239: The home takes a no-copy answer with a writeback in flight and waits for or uses the writeback. -/
  | rspWbif (p : PortId) (g : Nat)
  /-- DATA_FWD, R231: A requester receives data from a holder with the granted state. -/
  | dataFwdMessage (agent g : Nat) (x : Grant) (line : Line) (poison : Bool)
  /-- DATA, R240: A requester receives data from the home with the granted state. -/
  | dataMessage (agent g : Nat) (x : Grant) (line : Line) (poison : Bool)
  /-- CMP_FWD, R231: A requester learns that its data comes from the holder. -/
  | cmpFwd (agent g : Nat)
  /-- GNT_X, R231: A requester receives ownership without data. -/
  | gntX (agent g : Nat)
  /-- CMP, R231: A requester learns that its write, atomic or ZERO_L is complete. -/
  | cmpMessage (agent g : Nat) (old : Line) (poison : Bool)
  /-- WB_ACK, R239: A near cache learns that its writeback is applied and frees its buffer. -/
  | wbAck (agent g : Nat)
  /-- RETRY, R234: A requester's request is refused; it increments the retry count and sends again, aged from count 9. -/
  | retryMessage (agent g : Nat) (n : Fin 16)
  /-- DONE_MESSAGE, R232: A near cache's DONE reaches the home and ends the granule's transaction. -/
  | doneMessage (agent g : Nat)
  /-- SNPDATA, R246: The block answers a host SnpData after acting on near-cache copies. -/
  | snpdata (p : HostId) (g : Nat)
  /-- SNPINV, R246: The block answers a host SnpInv after recalling near-cache copies. -/
  | snpinv (p : HostId) (g : Nat)
  /-- SNPCUR, R246: The block answers a host SnpCur with current data. -/
  | snpcur (p : HostId) (g : Nat)
  /-- MEMRD, R247: A host MemRd or MemRdData enters the home's order as RD_NC, RD_S or RD_X by its MetaValue. -/
  | memrd (p : HostId) (hpa : Nat) (mv : Meta)
  /-- MEMINV, R247: A host MemInv acts as UPG or as a release of the host's copy. -/
  | meminv (p : HostId) (hpa : Nat) (mv : Meta)
  /-- MEMWR, R247: A host MemWr or MemWrPtl acts as a writeback or a write at memory. -/
  | memwr (p : HostId) (hpa : Nat) (d : CohData) (mv : Meta)
  /-- BIRSP, R247: The host answers a back-invalidate snoop with BIRspS, BIRspI or BIRspE, and the waiting request proceeds. -/
  | birsp (p : HostId) (g : Nat) (rsp : BiRsp)
  /-- BICONFLICT, R247: A host request meeting an outstanding back-invalidate snoop is resolved by the BIConflict exchange. -/
  | biconflict (p : HostId) (g : Nat)
  /-- AGENT_DEATH, R242: A near cache or the host proxy dies and every home slice runs a reclaim scan, poisoning its exclusive granules. -/
  | agentDeath (agent : Option PortId)
  /-- HOST_PORT_DOWN, R249: A host port reports link-down, host reset or a retrain over 100 ms; traffic moves to the other port, or the host proxy dies. -/
  | hostPortDown (p : HostId)
  /-- RETRAIN_LIMIT, R293: A host link retrain lasts longer than 100 ms and becomes a link-down. -/
  | retrainLimit (p : HostId)
  /-- PEER_LINK_DOWN, R215: A peer link goes down and unperformed writes to it are declared lost. -/
  | peerLinkDown (l : PeerId)
  /-- NORMAL, R444: A NORMAL peer flit is received, checked and acknowledged, or discarded with a NAK. -/
  | peerNormal (l : PeerId) (f : PeerFlit)
  /-- NAK, R444: A NAK makes the sender send again every unacknowledged flit in order. -/
  | peerNak (l : PeerId) (f : PeerFlit)
  /-- HOLD, R446: A HOLD flit places the peer link in its hold state. -/
  | peerHold (l : PeerId) (f : PeerFlit)
  /-- HOLD_EXIT, R446: A HOLD_EXIT flit ends the hold state of a peer link. -/
  | peerHoldExit (l : PeerId) (f : PeerFlit)
  /-- ACK_TIMEOUT, R444: No ACK arrives within 100 µs of a NORMAL flit and the peer link goes down. -/
  | ackTimeout (l : PeerId)
  /-- PEER_READ, R445: A peer READ message is checked against the window and performed locally. -/
  | peerRead (l : PeerId)
  /-- PEER_WRITE, R445: A peer WRITE message is checked against the window and performed locally. -/
  | peerWrite (l : PeerId)
  /-- PEER_ATOMIC, R445: A peer ATOMIC message is performed at the receiving home slice. -/
  | peerAtomic (l : PeerId)
  /-- PROBE, R188: A peer PROBE checks a footprint against a window and returns OK or a refusal. -/
  | peerProbe (l : PeerId)
  /-- PEER_SYNC, R303: A peer sync message signals a counter when PEER_ALLOW permits its link. -/
  | peerSync (l : PeerId)
  /-- PEER_SPDM, R445: A peer SPDM message carries session set-up bytes over the link. -/
  | peerSpdm (l : PeerId) (answer : List Byte) (session : Option Nat)
  /-- READ_RSP, R445: A peer read response arrives with its data blocks for the waiting requester. -/
  | readRsp (l : PeerId)
  /-- WRITE_ACK, R445: A peer write acknowledgement arrives and the write is performed. -/
  | writeAck (l : PeerId)
  /-- ATOMIC_RSP, R445: A peer atomic response returns the old value. -/
  | atomicRsp (l : PeerId)
  /-- PROBE_RSP, R188: A probe response grants a window or completes the operation with a refusal. -/
  | probeRsp (l : PeerId)
  /-- SYNC_RSP, R445: A peer sync response reports the outcome of a signal. -/
  | syncRsp (l : PeerId)
  /-- SPDM_RSP, R445: A peer SPDM response carries session set-up bytes. -/
  | spdmRsp (l : PeerId) (answer : List Byte) (session : Option Nat)
  /-- RAIL_PG_RISE, R437: RAIL_PG of a rail that had fallen returns, which ends the held cold reset so that a start with START_KIND 1 can begin. -/
  | railPgRise (r : Fin 24)
  /-- HOST_LINK_TRAINED, R436: A host port finishes link training, or a retrain of 100 ms or less ends, and the port carries traffic again, so held host-ring records and re-issued requests can proceed. -/
  | hostLinkTrained (p : HostId) (width rate : Byte)
  /-- HOST_LINK_RETRAIN, R293: The link-training logic detects a retrain of a host port from the PIPE status and stalls the port's traffic, read-backs included. -/
  | hostLinkRetrain (p : HostId)
  /-- PEER_LINK_TRAINED, R446: A peer link that went down trains again through its PHY and its session is set up again as at S21. -/
  | peerLinkTrained (l : PeerId) (lanes : Fin 65)
  /-- CHAIN_SYMBOL_LOCK, R452: The CH_DN receiver gains symbol lock, so the port has a partner and the block stops being the end of the chain. -/
  | chainSymbolLock
  /-- CREDIT_RETURN, R448: A carrier core returns a credit on the response or event channel, releasing responses and events that the block held for want of credits. -/
  | creditReturn (p : PortId) (event : Bool)
  /-- IDLE, R444: An IDLE peer flit is received, carrying ACK and returned request and data-slot credits, which free replay-buffer entries and allow sends. -/
  | peerIdle (l : PeerId) (f : PeerFlit)
  /-- IDE_KM, R422: The host delivers or changes a host port's IDE keys through IDE_KM messages over DOE. -/
  | ideKm (p : HostId) (key : Nat)
  /-- HDM_DECODER_COMMIT, R248: The host commits or uncommits an HDM decoder of a host port through the CXL decoder capability registers. -/
  | hdmDecoderCommit (p : HostId) (d : Fin 8) (commit : Bool) (base size dpa : Nat) (ways : Fin 2) (gran : Fin 7)
  /-- H2D_RESPONSE, R245: The host answers a CXL.cache request of the device cache with data or a completion, which fills or releases the shingle and acknowledges an eviction. -/
  | h2dResponse (p : HostId) (g : Nat) (rsp : H2d) (data : Option Line) (poison : Bool)
  /-- CXL_IO_COMPLETION, R207: The host returns the completion of a CXL.io read or PCIe AtomicOp that the block sent on the task-flushed path. -/
  | cxlIoCompletion (q : PortId) (id : Nat) (data : Line) (poison : Bool)
  /-- PHY_INITIATED_UPDATE, R451: A stack PHY initiates a DFI update; the block grants it within 2 µs and holds that channel's traffic until the update ends. -/
  | phyInitiatedUpdate (k : StackId) (c : Fin 32) (begins : Bool)
  /-- MP_RESTARTED, R382: The MP finishes restarting from its image after a watchdog reset or FW_ACTIVATE, the dictionary answers again, and the fused SVN is raised when the new image requires it. -/
  | mpRestarted
  /-- FW_READ_BACK, R416: The write of a verified firmware image to flash and its read-back end, and FW_STATE becomes 4, or 6 if the read-back differs. -/
  | fwReadBack (same : Bool)
  deriving DecidableEq, Repr

end Sys2Proof
end

