-- ==== Sys2Proof/Decode.lean ====
section
/-! DEFINITION. Decoding a word of the opcode table. The table gives no row any bits: a command of this block is no
instruction word, so no word spells one. -/

namespace Sys2Proof

/-- The command that a table word spells: none, for every word, since no row of the table has bits. -/
def decodeTableWord (_nbits _w : Nat) : Option Instr := none

end Sys2Proof
end

