-- ==== Sys2Proof/Machine/Bits.lean ====
section
/-! DEFINITION. Bit fields, byte order (R4: little-endian) and list helpers. -/

namespace Sys2Proof.Machine

/-- Bits `lo + n - 1 .. lo` of a natural number. -/
def nbits (v lo n : Nat) : Nat := v / 2 ^ lo % 2 ^ n

/-- Bit `i` of a natural number. -/
def nbit (v i : Nat) : Bool := v / 2 ^ i % 2 = 1

/-- Bits `lo + n - 1 .. lo` of a raw structure, as a number. -/
def fld {w : Nat} (v : BitVec w) (lo n : Nat) : Nat := nbits v.toNat lo n

/-- Bit `i` of a raw structure. -/
def flag {w : Nat} (v : BitVec w) (i : Nat) : Bool := nbit v.toNat i

/-- Bits `lo + n - 1 .. lo` are all zero (a RSVD field, R5). -/
def zeroFld {w : Nat} (v : BitVec w) (lo n : Nat) : Bool := fld v lo n = 0

/-- The number a little-endian list of bytes spells. -/
def ofLe : List Byte → Nat
  | [] => 0
  | b :: bs => b.toNat + 256 * ofLe bs

/-- `n` bytes of `v`, least significant first. -/
def toLe : Nat → Nat → List Byte
  | 0, _ => []
  | n + 1, v => BitVec.ofNat 8 v :: toLe n (v / 256)

/-- Bytes of a raw structure. -/
def bytesOf {w : Nat} (n : Nat) (v : BitVec w) : List Byte := toLe n v.toNat

/-- A raw structure of `w` bits from its bytes. -/
def ofBytes (w : Nat) (bs : List Byte) : BitVec w := BitVec.ofNat w (ofLe bs)

/-- Put the low `n` bits of `x` at bit `lo` of `v`. -/
def putBits (v lo n x : Nat) : Nat := v - nbits v lo n * 2 ^ lo + x % 2 ^ n * 2 ^ lo

/-- 1 for true. -/
def b2n (b : Bool) : Nat := if b then 1 else 0

/-- A structure built from (width, value) fields, lowest first. -/
def pack : List (Nat × Nat) → Nat
  | [] => 0
  | (w, v) :: fs => v % 2 ^ w + 2 ^ w * pack fs

/-- The numbers `lo .. lo + n - 1`. -/
def rangeFrom (lo n : Nat) : List Nat := (List.range n).map (lo + ·)

/-- The serial number `a` is ahead of `b`, or equal, in RFC 1982 arithmetic over `w` bits. -/
def serialGe (w a b : Nat) : Bool := (a + 2 ^ w - b % 2 ^ w) % 2 ^ w < 2 ^ (w - 1)

/-- `a - b` modulo `2 ^ w`. -/
def subMod (w a b : Nat) : Nat := (a % 2 ^ w + 2 ^ w - b % 2 ^ w) % 2 ^ w

/-- Round `v` up to a multiple of `k`. -/
def roundUp (v k : Nat) : Nat := (v + k - 1) / k * k

end Sys2Proof.Machine
end

