-- ==== Sys2Proof/Machine/Crc.lean ====
section
/-! DEFINITION. The check codes of Table 14.1 (R340) and the chain's frame CRC. -/

namespace Sys2Proof.Machine

/-- One bit of a non-reflected CRC of width `w`. -/
def crcStep (w poly c : Nat) : Nat :=
  if c / 2 ^ (w - 1) % 2 = 1 then (c * 2 % 2 ^ w) ^^^ poly else c * 2 % 2 ^ w

/-- One byte of a non-reflected CRC of width `w`. -/
def crcByte (w poly c : Nat) (b : Byte) : Nat :=
  (List.range 8).foldl (fun acc _ => crcStep w poly acc) (c ^^^ (b.toNat * 2 ^ (w - 8)))

/-- A non-reflected CRC. -/
def crcMsb (w poly init : Nat) (bs : List Byte) : Nat := bs.foldl (crcByte w poly) init

/-- One bit of a reflected CRC; `poly` is the bit-reversed polynomial. -/
def crcStepR (poly c : Nat) : Nat := if c % 2 = 1 then (c / 2) ^^^ poly else c / 2

/-- One byte of a reflected CRC. -/
def crcByteR (poly c : Nat) (b : Byte) : Nat :=
  (List.range 8).foldl (fun acc _ => crcStepR poly acc) (c ^^^ b.toNat)

/-- Block CRC, CRC-16/T10-DIF (Table 14.1). -/
def crcT10 (bs : List Byte) : Nat := crcMsb 16 0x8BB7 0 bs

/-- CRC-64/ECMA-182 (Table 14.1). -/
def crc64 (bs : List Byte) : Nat := crcMsb 64 0x42F0E1EBA9EA3693 0 bs

/-- CRC-32C (Table 14.1): polynomial 0x1EDC6F41 reflected, all ones in and out. -/
def crc32c (bs : List Byte) : Nat := (bs.foldl (crcByteR 0x82F63B78) 0xFFFFFFFF) ^^^ 0xFFFFFFFF

/-- A record of `n` bytes whose last 4 bytes take the CRC-32C of the bytes before them. -/
def sealCrc (n v : Nat) : Nat := v % 2 ^ (8 * (n - 4)) + crc32c (toLe (n - 4) v) * 2 ^ (8 * (n - 4))

end Sys2Proof.Machine
end

