-- ==== Sys2Proof/Machine/Flags.lean ====
section
/-! DEFINITION. The block's status computations: which status is reported when several apply (R10). -/

namespace Sys2Proof.Machine

/-- The class of a status: the high nibble of its code (R8). -/
def statusClass (s : Status) : Nat := s.code / 16

/-- R10: of two statuses, the one of the highest class, and within a class the lowest code; OK only when nothing else
applies. -/
def worst (a b : Status) : Status :=
  if a = .ok then b
  else if b = .ok then a
  else if statusClass a < statusClass b then b
  else if statusClass b < statusClass a then a
  else if b.code < a.code then b else a

/-- R10 over a list of statuses. -/
def worstOf (l : List Status) : Status := l.foldl worst .ok

/-- The status of a code of Table 0.4; a reserved code counts as a failure (R9) and reads as ABORTED here. -/
def statusOfCode (n : Nat) : Status :=
  match n with
  | 0x00 => .ok | 0x01 => .inexact | 0x10 => .malformed | 0x11 => .staleSlot | 0x12 => .boundFault
  | 0x13 => .rightsFault | 0x14 => .xlateFault | 0x20 => .poisonConsumed | 0x21 => .crcExhausted
  | 0x22 => .deadTarget | 0x23 => .timeout | 0x31 => .contextKilled | 0x32 => .fencedUnit | _ => .aborted

end Sys2Proof.Machine
end

