-- ==== Sys2Proof/Config.lean ====
section
/-! DEFINITION. What an implementation or a named outside standard fixes, and the free values. Every constant here is
opaque: nothing can be proved about its value, so every claim holds whatever it is. -/

namespace Sys2Proof.Config

/-- The free values: whatever the spec leaves open. `State.free` counts how many were used (DESIGN CHOICE, log 3). -/
opaque freeBits (w n : Nat) : BitVec w

/-- The data that a read of stack granule `g` returns when nothing was written there under the reader's key (R160),
for the `n`-th use of a free value. -/
opaque freeLine (n g : Nat) : BitVec 512

/-- The set of the device cache that holds a 256 B line, with the cache at `steps` steps; not an interface (R221). -/
opaque setIndex (steps line : Nat) : Nat

/-- The directory set of a granule within its home slice; not an interface (R235). -/
opaque dirSet (granule : Nat) : Nat

/-- The energy coefficient `i` (0 row to 5 peer byte) in fJ at a power point other than NOMINAL, whose values the spec does
not state (R336). -/
opaque energyCoef (point i : Nat) : Nat

/-- AES-GCM-256 opening of a confidential queue's slot under the context's queue key (R262): the nonce and the slot give the
decrypted bytes 0x10 to 0xDF, or none when the tag does not match. The cipher is a named outside standard. -/
opaque slotOpen (keySerial : Nat) (nonce : BitVec 96) (slot : BitVec 2048) : Option (BitVec 1664)

/-! ### Fused values (Table 15.12, Table 16.9): set at manufacture, unique to the part or its ROM, and never changed. -/

/-- SERIAL, 16 bytes. -/
opaque serial : BitVec 128
/-- ROM_VERSION. -/
opaque romVersion : BitVec 32
/-- The SHA-384 of the device certificate. -/
opaque deviceCert : BitVec 384
/-- The fused security version at manufacture. -/
opaque fuseSvn : BitVec 6
/-- The SHA-384 of the fused public-key hashes (Table 16.6). -/
opaque keyHashes : BitVec 384

/-! ### Cryptography of named outside standards (R415, R418 to R420): functions that nothing here evaluates. -/

/-- SHA-384 of a message. -/
opaque sha384 (m : List (BitVec 8)) : BitVec 384
/-- The firmware key's signature over header and body verifies (R414). -/
opaque firmwareSigned (m sig : List (BitVec 8)) : Bool
/-- The field-test key's signature over a package verifies (R367). -/
opaque packageSigned (m sig : List (BitVec 8)) : Bool
/-- The SHA-384 of the alias certificate that a firmware measurement gives (Table 16.5). -/
opaque aliasCert (measurement : BitVec 384) : BitVec 384
/-- The certificate chain in slot 0 that a firmware measurement gives (R419), and the alias key's signature of a message
(Table 16.5). -/
opaque certChain (measurement : BitVec 384) : List (BitVec 8)
opaque aliasSign (measurement : BitVec 384) (m : List (BitVec 8)) : List (BitVec 8)

end Sys2Proof.Config
end

