-- ==== Sys2Proof/Machine/Table.lean ====
section
/-! DEFINITION. Sparse tables: a list of (key, value) pairs with rising keys and no entry equal to the table's
default, so that equal tables are equal data. Device memory is one of them (`Table Byte`, default 0). -/

namespace Sys2Proof.Machine

/-- A sparse table. -/
abbrev Table (α : Type) := List (Nat × α)

/-- The value at key `k`; `d` where nothing is listed. -/
def tget {α : Type} (d : α) : Table α → Nat → α
  | [], _ => d
  | (a, v) :: m, k => if a = k then v else tget d m k

/-- Store `v` at key `k`, keeping the canonical form: storing the default removes the key. -/
def tset {α : Type} [DecidableEq α] (d : α) : Table α → Nat → α → Table α
  | [], k, v => if v = d then [] else [(k, v)]
  | (a, x) :: m, k, v =>
    if k < a && v ≠ d then (k, v) :: (a, x) :: m
    else if k = a then (if v = d then tset d m k v else (k, v) :: m)
    else (a, x) :: tset d m k v

/-- Change the value at key `k`. -/
def tmod {α : Type} [DecidableEq α] (d : α) (t : Table α) (k : Nat) (f : α → α) : Table α :=
  tset d t k (f (tget d t k))

/-- The canonical form, above a bound on the first key. -/
def twfFrom {α : Type} [DecidableEq α] (d : α) : Option Nat → Table α → Bool
  | _, [] => true
  | lo, (a, v) :: m => (match lo with | none => true | some b => decide (b < a)) && decide (v ≠ d) && twfFrom d (some a) m

/-- The canonical form of a table: keys strictly rising, no entry equal to the default. -/
def twf {α : Type} [DecidableEq α] (d : α) (t : Table α) : Bool := twfFrom d none t

/-- The keys of a table whose value meets `p`, in rising order. -/
def tkeys {α : Type} (t : Table α) (p : α → Bool) : List Nat :=
  t.filterMap fun kv => if p kv.2 then some kv.1 else none

/-- Drop every entry whose key and value meet `p`: those keys read as the default again. -/
def tdrop {α : Type} (t : Table α) (p : Nat → α → Bool) : Table α :=
  t.filter fun kv => ! p kv.1 kv.2

/-- A table of other values at the same keys. -/
def tmapTo {α β : Type} [DecidableEq β] (d : β) (f : α → β) (t : Table α) : Table β :=
  t.foldl (fun u kv => tset d u kv.1 (f kv.2)) []

/-- The lowest key below `n` whose value is the default and that meets `ok`. -/
def tfree {α : Type} [DecidableEq α] (d : α) (t : Table α) (lo n : Nat) : Option Nat :=
  match n with
  | 0 => none
  | n + 1 => if lo < n + 1 then
      match tfree d t lo n with
      | some k => some k
      | none => if tget d t n = d then some n else none
    else none

end Sys2Proof.Machine
end

