-- ==== Sys2Proof/Machine/State.lean ====
section
/-! DEFINITION. The state of the block, as plain data: every piece the spec names, in one record per part of the block;
the fault and refusal reasons; the state right after reset. Every table is sparse: an unlisted key has the value that
the spec gives at reset. -/

namespace Sys2Proof.Machine

/-- The reasons a step can stop with a fault: none. Faults of this hardware are statuses, records and fences
(Table 0.4, 07, 14), and every command answers a next state. The one constructor is raised by no meaning (safe). -/
inductive Fault where
  | none
  deriving DecidableEq, Repr

/-- The reasons a command is refused: raised by the dispatcher alone, for a row that has no meaning yet (safe). -/
inductive Refusal where
  | notModelled (mnemonic : String)
  deriving DecidableEq, Repr

/-! ### Memory (06) -/

/-- A key slot of the stack controllers (R158, R424). The key itself is only an identity: no path returns it. -/
structure KeySlot where
  key : Option Nat := none
  bound : List Nat := []
  driver : Bool := false
  conf : Bool := false
  deriving DecidableEq, Repr

/-- The record of one stack (Table 6.7). -/
structure Stack where
  active : Bool := true
  selfRefresh : Bool := false
  rate : Nat := 12800
  cause : Nat := 0
  fenced : List Nat := []
  pwrEn : Bool := false
  pg : Bool := true
  updating : List Nat := []
  deriving DecidableEq, Repr

/-- Device memory, its tags, keys and stacks (06). -/
structure MemUnit where
  bytes : Table Byte := []
  poison : Table Bool := []
  flaws : Table Ecc := []       -- what the code will find when the granule is read next (R149, R157)
  tags : Table (Option Nat) := []
  keyOf : Table (Option Nat) := []
  slots : Table KeySlot := []
  keySerial : Nat := 0
  steps : Nat := 4
  inChange : Bool := false
  stackRecs : Table Stack := []
  retained : Table Bool := []
  repaired : Nat := 0
  deriving DecidableEq, Repr

/-! ### Rings in memory (R178, R312, R352, R464) -/

/-- The registers of one ring of records. -/
structure Ring where
  base : Nat := 0
  log2 : Nat := 0
  baseSet : Bool := false
  logSet : Bool := false
  ctr : Nat := 0
  vec : Nat := 0
  prod : Nat := 0
  cons : Nat := 0
  deriving DecidableEq, Repr

/-! ### Translation (07) -/

/-- A pending page-fault record (Table 7.7). -/
structure PfRec where
  space : Nat
  kind : Nat
  raised : Nat
  mask : Nat
  count : Nat
  need : Nat
  va : Nat
  footEnd : Nat
  paOld : Nat
  ctx : Nat
  unit : Nat
  copied : Bool
  copyStatus : Nat
  failStatus : Status
  waiters : List Waiter
  grainLo : Nat
  grainPages : Nat
  moving : Option Nat
  shownMask : Nat
  shownNeed : Nat
  written : Bool
  timeout : Nat
  drain : List Waiter
  deriving DecidableEq, Repr

/-- An invalidation in progress (R186). -/
structure InvalCmd where
  seq : Nat
  raw : BitVec 128
  holders : List Waiter
  deriving DecidableEq, Repr

/-- A walk in flight (R174, R175): the operations whose misses merged on it, and whether it has returned. -/
structure WalkJob where
  space : Nat
  va : Nat
  misses : List Waiter
  back : Bool
  deriving DecidableEq, Repr

/-- An entry of a TLB, with the top slot in whose array it was found (R170). A TLB is numbered: arrays 0 to 191, clusters 192 to 239,
the service TLB 240 (R173). -/
structure TlbEntry where
  tlb : Nat
  space : Nat
  top : Nat
  entry : BitVec 256
  deriving DecidableEq, Repr

/-- The translation unit. `walks` keys from 64 on are walks that wait for a walker; `starved` are the operations that wait for a free
page-fault record (R178), `closing` the spaces whose ENABLE = 0 waits for their walks (R166); `copies` stand in due order. -/
structure TransUnit where
  spaces : Table (BitVec 128) := []
  fring : Ring := {}
  recs : Table (Option PfRec) := []
  copies : List (Nat × Nat) := []
  tlb : List TlbEntry := []
  starved : List Waiter := []
  closing : List Nat := []
  walks : Table (Option WalkJob) := []
  walkerFenced : Table Bool := []
  issued : Nat := 0
  invDone : Nat := 0
  invals : List InvalCmd := []
  deriving DecidableEq, Repr

/-! ### Core ports (08, 17) -/

/-- The snoops a home slice sends (Table 9.4). -/
inductive SnpKind where
  | fwdS | fwdX | getS | getI | cur | inv
  deriving DecidableEq, Repr

/-- Where a core-port request stands. -/
inductive Phase where
  | start                     -- not yet performed: waits for order, its context or a barrier
  | fault (rec : Nat)         -- waits on a page-fault record
  | line                      -- waits for its line in the near cache
  | home                      -- sent to the home slice without keeping a copy
  | io                        -- sent to the host on the task-flushed path
  | peer (slot : Nat)         -- sent to a peer, in message slot `slot`
  | buffered                  -- a write in the store buffer
  | course                    -- a course issued to an array, until its result
  | finished                  -- performed or lost
  deriving DecidableEq, Repr

/-- The response of a request: status, SC_FAIL and data (Table 17.13). -/
structure Answer where
  status : Status
  scFail : Bool
  data : Line
  deriving DecidableEq, Repr

/-- What an entry of a core port is: a request of the request channel, a sync request (Table 12.4), or a course. -/
inductive What where
  | mem
  | sync (raw : BitVec 128)
  | course (raw : BitVec 1024)
  deriving DecidableEq, Repr

/-- One request of a core port, from its arrival until it is answered and performed. -/
structure PortOp where
  id : Nat
  req : CoreReq
  what : What
  pa : Nat
  keySlot : Nat
  cache : Nat
  flushed : Bool
  early : Bool
  pairOk : Bool
  sent : Bool
  phase : Phase
  scope : Nat
  kind : Nat
  answer : Option Answer
  answered : Bool
  need0 : Nat
  need1 : Nat
  deriving DecidableEq, Repr

/-- A reservation (R208). -/
structure Reservation where
  granule : Nat
  ctx : Nat
  deriving DecidableEq, Repr

/-- What a block sends toward a carrier core. -/
inductive ToCore where
  | response (a : Answer) (stream : Nat) (tag : BitVec 10)
  | event (kind : Nat) (data : BitVec 128)
  deriving DecidableEq, Repr

/-- A core port. -/
structure Port where
  ops : List PortOp := []
  nextId : Nat := 0
  resv : Table (Option Reservation) := []
  fails : Table (Option (Nat × Nat)) := []
  hold : List (Nat × Nat) := []         -- open hold windows, oldest first: granule and stream (R211)
  half : Option (BitVec 512 × Nat × Nat) := none
  deferred : List (SnpKind × Nat × Nat × Nat) := []   -- kind, granule, requester, and the entry that arrives next (R211)
  respCredits : Nat := 16
  eventCredits : Nat := 16
  held : List ToCore := []
  lost : List (Nat × Nat × Nat × Status) := []   -- lost EARLY writes: entry, stream, the narrowest scope that waits for it, status
  seen : List (Nat × Nat × Nat) := []   -- stream and entry of a load, and the store of the buffer that answered it (R213)
  wake : Bool := false
  awake : Bool := false
  nearFenced : Bool := false
  deriving DecidableEq, Repr

/-! ### Arrays and courses (02 to 05) -/

/-- Who issued a course (R100). -/
inductive CourseSrc where
  | core (port id : Nat)
  | queue (q idx : Nat)
  | ds (c : Nat)
  | test
  deriving DecidableEq, Repr

/-- One run of translated bytes of a footprint. -/
structure Extent where
  va : Nat
  pa : Nat
  len : Nat
  keySlot : Nat
  cache : Nat
  early : Bool
  flushed : Bool
  deriving DecidableEq, Repr

/-- Where a course stands. -/
inductive CourseStage where
  | issued                 -- handed to its array, not yet checked
  | fault (rec : Nat) (saved : Bool)   -- waits on a page-fault record; `saved`: as it resumes
  | ready                  -- in the array's ready set
  | running
  | draining (row intake pass : Nat)   -- pre-empted: presents nothing after this row
  | saved                  -- its save area is written
  | writing (need0 need1 : Nat)   -- its outputs are on their way to SYSTEM scope
  deriving DecidableEq, Repr

/-- A gutter and its side state (Tables 2.5, 2.6): the sum in units of 2 ^ (R - 126). `sat` notes a saturation. -/
structure Gutter where
  sum : Int := 0
  obs : Int := -512
  breach : Bool := false
  ninf : Bool := false
  pinf : Bool := false
  nan : Bool := false
  sat : Bool := false
  deriving DecidableEq, Repr

/-- A course on an array, from its issue to its result. `bound` lists the sequences it serves with their bound step and
verdict: 0 pending, 1 CONTINUE or none needed, 2 END. `windowOk` (0x4000:09), `diagOk` (0x4100:04), `specData`, `specCont`
and `digests` (the context's AGREE and the course's DIGEST) are as they stood at its issue;
`clamps` and `notStrict` wait to be counted until its rows are indicative; `intake` and `part` are what a resumed flat course
goes on from; `touched` lists the runs that software read or wrote before the footprint was known (write: true), `stale` says
that software broke R108 on the footprint, `heldKept` that it keeps the held set of the course before it (R84); `home` is the array that
it was issued to, whose chains it continues (R76, R119); `wrote` is how far the host ports had written when it was saved; `work` is what
its saved runs have cost while its chain is open (R127), and `seen` tells for a row how many of its outputs the counters have counted as indicative. -/
structure Course where
  id : Nat
  raw : BitVec 1024
  ctx : Nat
  src : CourseSrc
  stream : Nat
  stage : CourseStage
  opS : BitVec 256
  opT : BitVec 256
  opO : BitVec 256
  foot : List Extent
  ridge : Int
  round : Nat
  sat : Bool
  strict : Bool
  specData : Bool
  specCont : Bool
  windowOk : Bool
  diagOk : Bool
  digests : Bool
  notStrict : Bool
  clamps : Nat
  strictRun : Bool
  faultRun : Bool
  reissued : Bool
  resume : Nat
  pass : Nat
  intake : Nat
  part : List Gutter
  obsSoFar : Int
  breachSoFar : Bool
  rowSeq : List (Option Nat)
  bound : List (Nat × Nat × Nat)
  touched : List (Nat × Nat × Bool)
  kept : Ext
  stale : Bool
  heldKept : Bool
  home : Nat
  work : Work
  seen : List (Nat × Nat)
  blocked : Bool
  result : BitVec 128
  started : Nat
  savedOn : Nat
  wrote : Nat × Nat
  deriving DecidableEq, Repr

/-- The continuation store of an array (R72, R112): the open chain or strict hold of one context. `entries` holds what the
chain has written, by the index of R72; `members` the courses of the chain, with their descriptors; `home` the array that they were
issued to; `rebuild` says that the entries are discarded and that the chain runs again from its first course (R114, R136), `unsure`
that some of them waited for a verdict at a drain (R137); `work`, `clamps` and `loose` are what the members have cost and counted
(ridges clamped, strict ridges not applied), until the chain is indicative. -/
structure Store where
  ctx : Option Nat := none
  home : Nat := 0
  chain : Bool := false
  form : Nat := 0
  rows : Nat := 0
  held : Nat := 0
  ridge : Int := 0
  entries : Table (Option Gutter) := []
  dead : List Nat := []
  members : List Course := []
  rebuild : Bool := false
  unsure : Bool := false
  work : Work := ⟨0, 0, 0, 0, 0, 0⟩
  clamps : Nat := 0
  loose : Nat := 0
  deriving DecidableEq, Repr

/-- The held set of an array (R84): whose it is, its descriptor's address and value, and the bytes as they were loaded. -/
structure HeldSet where
  ctx : Nat
  va : Nat
  desc : BitVec 256
  bytes : List Byte
  deriving DecidableEq, Repr

/-- One array; `current` says that it holds its current (R90), `heldSet` is the held set of the flat course that ran last;
`fencing` is the FENCE_CAUSE of a fence that waits for the array's clock (R116, R117). -/
structure ArrayU where
  fenced : Bool := false
  cause : Nat := 0
  current : Bool := false
  courses : List Course := []
  run : Option Nat := none
  ask : Bool := false
  store : Store := {}
  spills : Table (Option Store) := []
  heldSet : Option HeldSet := none
  fencing : Option Nat := none
  deriving DecidableEq, Repr

/-- The arrays, with the next course identifier. -/
structure ArrayUnit where
  arr : Table ArrayU := []
  nextId : Nat := 0
  deriving DecidableEq, Repr

/-- A transfer of one 64 B block whose check failed: receiver, sender, failed re-sends, and whether it is a write (R343). -/
structure Transfer where
  receiver : Nat
  sender : Nat
  granule : Nat
  write : Bool
  fails : Nat
  deriving DecidableEq, Repr

/-! ### Caches and homes (09) -/

/-- The states of a near-cache line (R229). -/
inductive NearState where
  | i | s | f | e | m
  deriving DecidableEq, Repr

/-- A near-cache line: its state and context field. Its data is the granule's coherent value (log 11). -/
structure NearLine where
  st : NearState := .i
  ctx : Nat := 0
  deriving DecidableEq, Repr

/-- Directory states (R235). -/
inductive DirState where
  | invalid | shared | exclusive | broadcast
  deriving DecidableEq, Repr

/-- A directory entry: state, holder pointers and the holder that answers. -/
structure DirEntry where
  st : DirState := .invalid
  ptrs : List Nat := []
  f : Option Nat := none
  deriving DecidableEq, Repr

/-- Shingle states (Table 9.2). -/
inductive Shingle where
  | i | v | d | s | e | m
  deriving DecidableEq, Repr

/-- A device-cache line (R221): its key slot, set and way, its four shingles, and the dirty mask in its line record. -/
structure DevLine where
  keySlot : Nat
  set : Nat
  way : Nat
  sh : List Shingle
  dirty : Nat
  deriving DecidableEq, Repr

/-- The requests a home slice orders (Table 9.4). -/
inductive CohKind where
  | rdS | rdX | upg | rdNc | wrNc | atomH | zeroL
  deriving DecidableEq, Repr

/-- A message on the internal fabric, sent and not yet taken (Table 9.4). -/
inductive Msg where
  | request (k : CohKind) (r : CohReq) (d : CohData) (aop size : Nat)
  | snoop (k : SnpKind) (holder granule requester : Nat)
  | answer (k : SnpKind) (holder granule : Nat) (had dirty wbif : Bool)
  | data (agent granule : Nat) (g : Grant) (line : Line) (poison fwd : Bool)
  | cmpFwd (agent granule : Nat)
  | gntX (agent granule : Nat)
  | cmp (agent granule : Nat) (old : Line) (poison : Bool)
  | wb (agent granule : Nat)
  | wbAck (agent granule : Nat)
  | retry (agent granule : Nat) (count : Nat)
  | done (agent granule : Nat)
  deriving DecidableEq, Repr

/-- What a transaction is for: a request of Table 9.4; a host's write that keeps the directory, or its release of its copy
(Table 9.11); a host's snoop on a port (Table 9.10); an access of an agent that keeps no copy, whose way it clears; the recall of
every copy (R225, R237). -/
inductive TxnForm where
  | plain | keeps | release
  | snoop (k : SnpKind) (port : Nat)
  | bulk | recall
  deriving DecidableEq, Repr

/-- A request that waits at a home: aged, or of a proxy (R234). -/
structure Queued where
  kind : CohKind
  req : CohReq
  data : CohData
  aop : Nat
  size : Nat
  slotless : Bool            -- waits outside the 64 aged slots: a proxy's, or one that waits for an eviction
  form : TxnForm
  deriving DecidableEq, Repr

/-- An open transaction of a granule (R232). -/
structure Txn where
  kind : CohKind
  req : CohReq
  data : CohData
  aop : Nat
  size : Nat
  asked : List Nat           -- holders whose answer is awaited
  fwd : Option Nat           -- the holder asked to forward
  wbWait : Option Nat        -- waits for this agent's writeback
  memWait : Bool             -- waits for a host shingle
  doneWait : Bool            -- waits for DONE
  form : TxnForm
  deriving DecidableEq, Repr

/-- Near caches, home slices, directory, device cache. A near line is keyed `port * 2^46 + granule`. -/
structure Coherence where
  near : Table NearLine := []
  wbs : List (Nat × Nat) := []
  dir : Table DirEntry := []
  txns : Table (Option Txn) := []
  queued : List Queued := []
  fabric : List Msg := []
  dev : Table (Option DevLine) := []
  lfsr : Table Nat := []
  missing : List (Nat × Nat) := []
  merged : List (Nat × Nat) := []   -- lines being filled and the requests on their registers, by granule, in the order in which they merged (R227)
  fresh : List Nat := []            -- granules whose data or ownership the home has obtained for an access that keeps no copy
  through : List Nat := []      -- host granules that RdOwn brought in for a CACHE 1 region (R245)
  evicting : List (Nat × Bool) := []
  sentOn : Table Nat := []      -- the port over which the last D2H request of a granule went (R249)
  proxyGone : Bool := true
  homeState : Table Nat := []
  homeCause : Table Nat := []   -- the CAUSE of the capacity record of a fence that is under way (R244)
  lost : Table (BitVec 128) := []
  lostProduced : Nat := 0
  deriving DecidableEq, Repr

/-! ### Host ports and peer links (09, 17) -/

/-- An HDM decoder (R248). -/
structure Decoder where
  committed : Bool := false
  base : Nat := 0
  size : Nat := 0
  ways : Nat := 1
  gran : Nat := 256
  dpa : Nat := 0
  deriving DecidableEq, Repr

/-- A write that a host port has accepted and that no read-back has confirmed yet: its number on the port, its address, its bytes and
its poison indication (R195, R265). -/
structure Posted where
  seq : Nat
  pa : Nat
  bytes : List Byte
  poison : Bool
  deriving DecidableEq, Repr

/-- One host port: link, decoders, IDE, and the task-flushed path with its write queue, oldest write first, and read-backs (R265). -/
structure HostPort where
  link : Nat := 0
  width : Nat := 0
  rate : Nat := 0
  perst : Bool := true
  retrainStart : Option Nat := none
  longest : Nat := 0
  lastUse : Nat := 0
  decoders : Table Decoder := []
  ideKey : Option Nat := none
  wseq : Nat := 0
  confirmed : Nat := 0
  readbacks : List Nat := []
  wqueue : List Posted := []
  lastWrite : Nat := 0
  asked : List Nat := []
  bisnp : List (Nat × SnpKind) := []
  io : List (Nat × Nat) := []
  deriving DecidableEq, Repr

/-- A peer request of this block that awaits its response. -/
structure PeerReq where
  slot : Nat
  waiter : Waiter
  op : Nat
  pa : Nat
  len : Nat
  issued : Nat
  limit : Nat
  landed : Bool
  remote : Bool
  data : List Byte
  bad : Bool
  deriving DecidableEq, Repr

/-- One peer link (R441 to R446). A message is its slot and the bytes of its data slots. `inbox` holds messages received
and not yet acted on, `part` one whose data slots have not all arrived, `outq` messages that wait for credits, `replay` the
flits not yet acknowledged with their ticks, `owedReq` and `owedData` credits to return, `grants` windows whose probes have been granted. -/
structure PeerLink where
  state : Nat := 0
  lanes : Nat := 0
  sendSeq : Nat := 0
  recvSeq : Nat := 0
  reqCredits : Nat := 256
  dataCredits : Nat := 1024
  replay : List (Nat × PeerFlit) := []
  outq : List (BitVec 256 × List Byte) := []
  inbox : List (BitVec 256 × List Byte) := []
  part : Option (BitVec 256 × List Byte) := none
  owedReq : Nat := 0
  owedData : Nat := 0
  rounds : Nat := 0
  tagRun : Nat := 0
  nakSent : Bool := false
  session : Option Nat := none
  flits : Nat := 0
  spdm : Nat := 0
  heldSince : Nat := 0
  out : List PeerReq := []
  grants : List Nat := []
  deriving DecidableEq, Repr

/-! ### Queues, copy engines, the journal (10, 11) -/

/-- A started (on a journaled queue: accepted) command of a queue. -/
structure Cmd where
  idx : Nat
  ext : Nat
  slot : BitVec 2048
  started : Bool            -- its effects may run (journaled: its ACCEPT record is confirmed)
  footOk : Bool             -- its footprint has passed its check
  waitRec : Option Nat      -- page-fault record it waits on
  engine : Option Nat       -- copy engine or array running it
  burst : Nat               -- next burst (1 MiB), also the next unit of a journaled command
  reruns : Nat
  poison : Bool
  reissued : Bool
  fin : Option Status       -- its outcome, once it has one
  detail : BitVec 128
  need0 : Nat               -- host writes of HP0 that must be confirmed before its record
  need1 : Nat
  intent : Option Nat       -- frame of the unit between INTENT and COMMIT
  performed : Bool          -- that unit has been written
  unconfirmed : Bool        -- that unit is UNCONFIRMED
  commitNum : Option Nat    -- number of that unit's COMMIT record, once it is written
  frames : List Nat         -- the frames that hold its staged units, from unit `committed` on (R289)
  committed : Nat
  doneMark : Bool
  doneNum : Option Nat      -- number of its DONE record, once it is written
  doneRec : Bool            -- its DONE record is confirmed
  cqAt : Option (Nat × Nat × Nat)   -- its completion record is written: number in the ring, port and number of the host write
  foot : List Extent
  probing : Bool            -- waits for its peer probe
  acceptNum : Option Nat    -- number of its ACCEPT record
  accepted : Bool           -- that record has been confirmed (R287)
  again : Bool              -- a warm reset makes it run again (R297)
  avoid : Option Nat        -- the copy engine that faulted on it (R272)
  recheck : Bool            -- a FORCE invalidation: it checks again before its next burst (R187)
  oldPart : Bool            -- the translation of what it has done is older than such a check
  intentNum : Nat           -- number of the INTENT record of its open unit
  staged : Table (Option Byte)   -- its external outputs by destination address (R288)
  stagedBad : List Nat           -- granules of those addresses whose bytes are poisoned
  whole : Bool                   -- they are all there
  folds : List (Nat × BitVec 64) -- digests that it folds with its DONE mark: tensor and tile digest (R290)
  kept : Ext                     -- the IN_PLACE copy of its inputs (R291)
  keptFrames : List Nat          -- the frames that hold it
  deriving DecidableEq, Repr

/-- A journal record in the shadow tail: its number and image, whether it is confirmed, and the host write that carries it, by port and
number (R286, R292). -/
structure JRecord where
  num : Nat
  raw : BitVec 256
  confirmed : Bool
  port : Nat := 0
  seq : Nat := 0
  deriving DecidableEq, Repr

/-- The journal state of a queue (Table 11.4, R292). `cause` is why it was last HELD, `owes` that its recovery has still to write
RECOVER, `closing` that the recovery writes its completion records (R295). -/
structure Journal where
  state : Nat := 0
  stage : Word := 0
  jprod : Nat := 0
  jhead : Nat := 0
  resume : Nat := 0
  recStatus : Nat := 0
  recs : List JRecord := []
  frames : List Nat := []
  keptField : Word := 0
  keptCtx : Nat := 0
  keptStage : Word := 0
  limit : Option Nat := none
  cause : Nat := 0
  owes : Bool := false
  closing : Bool := false
  nextAcc : Nat := 0
  deriving DecidableEq, Repr

/-- One command queue (Tables 10.2, 10.3). -/
structure Queue where
  cfg : BitVec 256 := 0
  state : Nat := 0
  stop : Nat := 0
  cons : Nat := 0
  prod : Nat := 0
  cqProd : Nat := 0
  cqCons : Nat := 0
  epoch : Nat := 0
  rereads : Nat := 0
  rereadDue : Option Nat := none
  reading : Bool := false
  head : Option (BitVec 2048) := none
  cmds : List Cmd := []
  waits : List (Nat × Nat) := []       -- waits already counted: 0 completion ring, 1 acceptance, 2 next record; and for whom
  jrn : Journal := {}
  deriving DecidableEq, Repr

/-- A copy engine (Table 10.14). -/
structure Engine where
  fenced : Bool := false
  fencing : Bool := false
  fenceCause : Nat := 0
  job : Option (Nat × Nat) := none     -- (queue, slot index) of the command it runs
  yields : Bool := false               -- it pre-empts at its next burst boundary
  migrate : Option Nat := none         -- it copies the grain of this page-fault record
  deriving DecidableEq, Repr

/-! ### Sync unit (12) -/

/-- Who registered a watch (Table 12.7). -/
inductive WatchDest where
  | core (p : Nat)
  | host
  | queue (q : Nat)
  | ds (c : Nat)
  deriving DecidableEq, Repr

/-- A registered watch (R306). -/
structure Watch where
  slot : Nat
  counter : Nat
  n : Nat
  consuming : Bool
  deadline : Option Nat
  cookie : Nat
  stream : Nat
  dest : WatchDest
  ctx : Nat
  deriving DecidableEq, Repr

/-- A release of a watch that has left it: who must be told, and how it ended (R311). -/
structure Release where
  watch : Watch
  outcome : Nat
  status : Status
  deriving DecidableEq, Repr

/-- The sync unit. Watches stand oldest first. `held` are the notification records not yet written (R312). -/
structure SyncUnit where
  value : Table (BitVec 32) := []
  ctrl : Table Word := []
  watches : List Watch := []
  nring : Ring := {}
  held : List (BitVec 128) := []
  parked : List (BitVec 128) := []
  lastImbalance : Word := 0
  deriving DecidableEq, Repr

/-! ### Scheduling (13) -/

/-- The accounting counters of a context or of the block (Table 13.11), with the energy in fJ kept in full (R336). -/
structure Acct where
  engineTime : Nat := 0
  host : Nat := 0
  stack : Nat := 0
  loft : Nat := 0
  peer : Nat := 0
  energyFj : Nat := 0
  sqOutputs : Nat := 0
  sqCycles : Nat := 0
  sqBytes : Nat := 0
  sqEnergyFj : Nat := 0
  overrun : Nat := 0
  preempt : Nat := 0
  deriving DecidableEq, Repr

/-- The step lists of a context (R326 to R328). -/
structure StepRun where
  built : Nat := 0
  issuing : Option Nat := none
  gate : Nat := 0             -- 0 not asked, 1 its watch is registered, 2 passed
  waitRec : Option Nat := none
  deriving DecidableEq, Repr

/-- The slice of an engine: arrays 0 to 191, copy engines 192 to 231 (R330 to R333). -/
structure Slice where
  ctx : Option Nat := none
  last : Nat := 4095
  start : Nat := 0
  short : Nat := 0            -- the overrun taken off the running slice
  endedAt : Option Nat := none
  carried : Table Nat := []
  deriving DecidableEq, Repr

/-- The dispatcher's contexts, sequences, step lists, slices and accounting. -/
structure Sched where
  ctx : Table (BitVec 512) := []
  seqs : Table (BitVec 512) := []
  seqDone : Nat := 0
  seqLast : Nat := 0
  steps : Table StepRun := []
  slices : Table Slice := []
  acct : Table Acct := []
  total : Acct := {}
  tickNj : Nat := 0
  releasing : List Nat := []
  remoteFree : Nat := 16384
  deriving DecidableEq, Repr

/-! ### Faults, agreement, field test (14) -/

/-- An event reported to the fault collector (R348, Table 14.4). -/
structure Event where
  cls : Nat
  unit : Nat
  ctx : Option Nat := none
  addr : Nat := 0
  addrKind : Nat := 0
  op : Nat := 0
  status : Status := .ok
  detail : Nat := 0
  deriving DecidableEq, Repr

/-- A running grace timer (R354). -/
structure Grace where
  serial : Nat
  deadline : Nat
  action : Nat
  unit : Nat
  ctx : Option Nat
  deriving DecidableEq, Repr

/-- The fault collector. A source is keyed `unit * 256 + class`. -/
structure FaultUnit where
  sources : Table (Nat × Nat) := []
  serial : Nat := 0
  last : BitVec 512 := 0
  first : BitVec 512 := 0
  firstValid : Bool := false
  overflow : Bool := false
  ring : Ring := {}
  grace : List Grace := []
  capacityGen : Nat := 0
  temps : Table (BitVec 12) := []
  volts : Table (BitVec 12) := []
  deriving DecidableEq, Repr

/-- An open agreement accumulator (R363). -/
structure Accum where
  ctx : Nat
  tensor : Nat
  digest : BitVec 64
  tiles : Nat
  deriving DecidableEq, Repr

/-- A field-test run in progress (R369). -/
structure TestRun where
  req : BitVec 128
  started : Nat
  heating : Bool
  met : Bool
  temp : Nat
  volt : Nat
  deriving DecidableEq, Repr

/-- The field-test package and run (R367 to R370). -/
structure FieldTest where
  pkg : Table Byte := []
  offset : Nat := 0
  state : Nat := 0
  run : Option TestRun := none
  result : BitVec 256 := 0
  deriving DecidableEq, Repr

/-! ### Management (15) -/

/-- The answer to a dictionary request (R375): its disposition is 0 DONE, 1 BUSY or 2 REFUSED. -/
structure Reply where
  disp : Nat
  status : Status
  retry : Nat
  data : List Byte
  deriving DecidableEq, Repr

/-- A master (Table 15.13), its last responses (R388), its write buffer and its snapshot record (R389). -/
structure Master where
  used : Bool := false
  path : Nat := 0
  session : Nat := 0
  claim : Nat := 0
  digest : Nat := 0
  last : Nat := 0
  requests : Word := 0
  kept : List (Nat × Reply) := []
  wobj : Nat := 0
  wbuf : List Byte := []
  snapOf : Nat := 0
  snapAt : Nat := 0
  snap : List Byte := []
  deriving DecidableEq, Repr

/-- Masters, ownership, the chain and the management processor: `electing` is the tick at which the election window ends,
`lease` the tick in which the lease runs out, `oldAddr` the chain address in retained storage, `mpRestart` the tick by which a
restarting MP answers again, `mirror` the persistent objects in flash, `spdmIn` SPDM message bytes by transport. -/
structure Mgmt where
  masters : Table Master := []
  owner : Option Nat := none
  electing : Option Nat := none
  lease : Nat := 0
  chainAddr : Nat := 0
  oldAddr : Nat := 0
  nonce : Option Nat := none
  mpQueue : Nat := 0
  mpRestart : Option Nat := none
  mpHeld : Bool := false
  expiries : List Nat := []
  mirror : Table (Option Nat) := []
  mirrorAddr : Nat := 0
  mirrorPending : List Nat := []
  mirrorState : Nat := 0
  spdmIn : Table (List Byte) := []
  deriving DecidableEq, Repr

/-! ### Power and calibration (01, 15, 17) -/

/-- A cluster: its power gating, the point of its clock, its droop inputs, whether it drew 60 % of RATED_MA or more in the last
tick, and its calibration record (Table 15.14) with the ticks counted for R401. `rowDue` is the tick from which it has issued no row
for CLUSTER_IDLE_DELAY (R20). -/
structure Cluster where
  gated : Bool := true
  point : Nat := 1
  stopped : Bool := false
  half : Bool := false
  warned : Bool := false
  heavy : Bool := false
  provisional : Bool := false
  source : Nat := 0
  load : Nat := 0
  guard : Nat := 25
  vQuiet : Nat := 0
  vNominal : Nat := 0
  vPeak : Nat := 0
  taken : Nat := 0
  temp : Nat := 0
  counted : Nat := 0
  quiet : Nat := 0
  rowDue : Nat := 0
  deriving DecidableEq, Repr

/-- A link record (Table 15.14). -/
structure LinkRec where
  state : Nat := 0
  margin : Nat := 0
  since : Nat := 0
  deriving DecidableEq, Repr

/-- The instruction in force in the TAP (R460). -/
inductive Tap where
  | idcode | bypass | network
  deriving DecidableEq, Repr

/-- The governor (`below` counts ticks in a row below 0.97 of the limit), the clusters, the links' records, the TAP. `idleFrom` is the
tick from which the conditions of R21 have held, with SLEEP_DELAY as it was then and the work that the block had had by then; `loftDue` and `stackDue` are the ticks from which a
slice or a stack has served no access for its delay (R163), as the delay was at the access (R164). -/
structure PowerUnit where
  grant : Nat := 340
  limit : Nat := 0
  power : Nat := 0
  issue : Nat := 32
  below : Nat := 0
  pointAt : Nat := 0
  clusters : Table Cluster := []
  links : Table LinkRec := []
  linksProv : Nat := 0x3FFF
  fullStep : Nat := 1
  tap : Tap := .idcode
  idleFrom : Option (Nat × Nat × Nat) := none
  loftDue : Table Nat := []
  stackDue : Table Nat := []
  deriving DecidableEq, Repr

/-! ### Pins, start-up, freeze (16, 17) -/

/-- Pins of the block as it sees them (17), and the rail logic; `chainDown` says that CH_DN has a partner (R452). -/
structure Pins where
  pwrOk : Bool := true
  coldN : Bool := true
  warmN : Bool := true
  freezeN : Bool := true
  trstN : Bool := true
  railEn : Nat := 0x600000
  railPg : Nat := 0xFFFFFF
  fallen : List Nat := []
  thermtrip : Bool := false
  chainDown : Bool := false
  deriving DecidableEq, Repr

/-- The start-up sequencer (Tables 16.1, 16.2): the step records of this start and of the previous one, the steps that
run now, whether a start is due, and the copy of the record in flash (R412). `forget` is the RETRY_MASK that this start uses, `down` the
units (step * 65536 + unit) that this start has fenced or disabled as alternatives, `prevDown` those of the previous one (R406). -/
structure StartUnit where
  state : Nat := 0
  step : Nat := 0
  kind : Nat := 0
  inReset : Bool := false
  due : Bool := true
  running : List Nat := []
  cur : Table (BitVec 128) := []
  prev : Table (BitVec 128) := []
  retryMask : Nat := 0
  forget : Nat := 0
  down : List Nat := []
  prevDown : List Nat := []
  s22Since : Nat := 0
  mirrored : Table (BitVec 128) := []
  deriving DecidableEq, Repr

/-- Freeze and link hold (R426 to R429). -/
structure FreezeUnit where
  state : Nat := 0
  hold : Nat := 0
  holdSince : Nat := 0
  aoncnt : Nat := 0
  deriving DecidableEq, Repr

/-! ### Security root (16) -/

/-- A confidential context (R425): what its tenant allowed, the digest of the tenant's certificate, the session bound to
it, its key slots and the identity of its queue key. -/
structure ConfCtx where
  hosts : List (Nat × Nat) := []
  peers : List (Nat × Nat) := []
  decoders : List (Nat × Nat) := []
  tenant : Nat := 0
  session : Option Nat := none
  slots : List Nat := []
  queueKey : Nat := 0
  deriving DecidableEq, Repr

/-- An SPDM session (R419): its identifier, the digest of the requester's leaf certificate, whether its chain is accepted for a
master (R421), whether FINISH has come, its frame counters (R387) and its key generation. -/
structure Session where
  id : Nat
  digest : Nat
  master : Bool
  finished : Bool
  rx : Nat := 0
  tx : Nat := 0
  keyGen : Nat := 0
  deriving DecidableEq, Repr

/-- The security root. -/
structure SecUnit where
  sessions : List Session := []
  nextSession : Nat := 1
  conf : Table (Option ConfCtx) := []
  confEver : Bool := false
  debugEver : Bool := false
  ready : Bool := false
  svn : Nat := 0
  keyDone : Nat := 0
  keyLast : Nat := 0
  deriving DecidableEq, Repr

/-- The firmware (R414 to R417): the image being loaded, the running image's VERSION, SVN and measurement, and whether the
loaded image has been written and is to be started. -/
structure Firmware where
  state : Nat := 0
  offset : Nat := 0
  image : Table Byte := []
  version : Nat := 0
  svn : Nat := 0
  measure : Nat := 0
  starting : Bool := false
  deriving DecidableEq, Repr

/-! ### What the block sends -/

/-- What the block has sent at its ports and pins, newest first (the model's own record). -/
inductive Out where
  | core (port : Nat) (t : ToCore)
  | hostWrite (port addr : Nat) (bytes : List Byte) (poison : Bool)
  | hostRead (port addr len : Nat)
  | hostAtomic (port addr aop size : Nat) (data : Line)
  | readback (port addr : Nat)
  | d2h (port addr : Nat) (req : String) (data : Option Line) (mask : Word) (poison : Bool)
  | snoopRsp (port addr : Nat) (rsp : String) (data : Option Line) (poison : Bool)
  | memRsp (port addr : Nat) (rsp : String) (data : Option Line) (poison : Bool)
  | biSnoop (port addr : Nat) (snp : String)
  | biConflict (port addr : Nat)
  | msix (port vector : Nat)
  | peerFlit (link kind : Nat) (f : PeerFlit)
  | chain (up : Bool) (f : Frame)
  | mailbox (port : Nat) (f : Frame) (r : Reply)
  | answer (master : Nat) (r : Reply)
  | spdm (via : Via) (rsp : String) (data : List Byte)
  | regRsp (status : Status)
  | regData (status : Status) (data : Word)
  | pin (name : String) (idx : Nat) (level : Bool)
  | phy (name : String) (idx : Nat)
  | flash (name : String) (data : List Byte)
  deriving DecidableEq, Repr

/-- Work that a step still owes before it ends: actions that one part of the block takes on another. It is empty
between steps (`settle` runs it). -/
inductive Act where
  | fence (unit cause : Nat)
  | kill (ctx cause : Nat)
  | freeze
  | pump (port : Nat)
  | failOp (w : Waiter) (status : Status)
  | retryOp (w : Waiter)
  | released (r : Release)
  | peerOp (port id : Nat)
  | regOp (port id : Nat)
  | issueCourse (port id : Nat)
  | peerSend (w : Waiter) (op pa : Nat) (bytes : List Byte) (poison : Bool)
  | peerRead (w : Waiter) (pa len : Nat)
  | arrayDone (a : Nat)
  | walkDone (w : Nat)
  | ecc (e : Ecc) (granule : Nat) (ctx : Option Nat) (op : Nat) (held : Shingle)
  | homesMove
  deriving DecidableEq, Repr

/-! ### The whole state -/

/-- The state of the block; `stalled` is what the host ports have to send while their links retrain (R293). -/
structure State where
  pending : List Instr := []
  free : Nat := 0
  out : List Out := []
  stalled : List (Nat × Out) := []
  acts : List Act := []
  aoncnt : Nat := 0
  latch : Table Word := []
  objs : Table (Option Nat) := []
  ctrs : Table Word := []
  wraps : Table Bool := []
  mem : MemUnit := {}
  tu : TransUnit := {}
  ports : Table Port := []
  coh : Coherence := {}
  hosts : Table HostPort := []
  peers : Table PeerLink := []
  arrays : ArrayUnit := {}
  xfers : List Transfer := []
  queues : Table Queue := []
  engines : Table Engine := []
  sync : SyncUnit := {}
  sched : Sched := {}
  flt : FaultUnit := {}
  accums : List Accum := []
  ftest : FieldTest := {}
  pins : Pins := {}
  start : StartUnit := {}
  freeze : FreezeUnit := {}
  sec : SecUnit := {}
  fw : Firmware := {}
  mgmt : Mgmt := {}
  power : PowerUnit := {}
  asleep : Bool := false
  deriving DecidableEq, Repr

/-- The block right after reset. -/
def State.reset : State := {}

end Sys2Proof.Machine
end

