-- ==== Sys2Proof/Machine/Ops.lean ====
section
/-! DEFINITION. The named operations over the state that every family uses: objects and counters of the dictionary,
free values, what the block sends, the parts of the block, and when a part runs. -/

namespace Sys2Proof.Machine

/-! ### Objects and counters -/

/-- The key of the dictionary object Index:Sub. -/
def okey (idx sub : Nat) : Nat := idx * 256 + sub

/-- The value of a writable object; `d` is its default (the Default column). -/
def obj (s : State) (idx sub d : Nat) : Nat := (tget none s.objs (okey idx sub)).getD d

/-- Store a writable object's value. -/
def setObj (idx sub v : Nat) (s : State) : State :=
  { s with objs := tset none s.objs (okey idx sub) (some v) }

/-- A 64-bit counter object. -/
def ctr (s : State) (idx sub : Nat) : Word := tget 0 s.ctrs (okey idx sub)

/-- Add `n` to a counter object: it wraps modulo 2^64 and then sets its sticky WRAPPED bit. -/
def countN (idx sub n : Nat) (s : State) : State :=
  let v := (ctr s idx sub).toNat + n
  { s with ctrs := tset 0 s.ctrs (okey idx sub) (BitVec.ofNat 64 v)
           wraps := if v < 2 ^ 64 then s.wraps else tset false s.wraps (okey idx sub) true }

/-- Count one event. -/
def count (idx sub : Nat) (s : State) : State := countN idx sub 1 s

/-! ### Outputs, owed work, free values -/

/-- Send something at a port. -/
def emit (o : Out) (s : State) : State := { s with out := o :: s.out }

/-- Owe an action to the end of this step. -/
def owe (a : Act) (s : State) : State := { s with acts := s.acts ++ [a] }

/-- The free value that the next `takeFree` uses. -/
def peekFree (w : Nat) (s : State) : BitVec w := Config.freeBits w s.free

/-- Use one free value up. -/
def takeFree (s : State) : State := { s with free := s.free + 1 }

/-! ### Parts of the block -/

def getPort (s : State) (p : Nat) : Port := tget {} s.ports p
def modPort (p : Nat) (f : Port → Port) (s : State) : State := { s with ports := tmod {} s.ports p f }
def getHost (s : State) (p : Nat) : HostPort := tget {} s.hosts p
def modHost (p : Nat) (f : HostPort → HostPort) (s : State) : State := { s with hosts := tmod {} s.hosts p f }
def getPeer (s : State) (l : Nat) : PeerLink := tget {} s.peers l
def modPeer (l : Nat) (f : PeerLink → PeerLink) (s : State) : State := { s with peers := tmod {} s.peers l f }
def getQueue (s : State) (q : Nat) : Queue := tget {} s.queues q
def modQueue (q : Nat) (f : Queue → Queue) (s : State) : State := { s with queues := tmod {} s.queues q f }
def getEngine (s : State) (e : Nat) : Engine := tget {} s.engines e
def modEngine (e : Nat) (f : Engine → Engine) (s : State) : State := { s with engines := tmod {} s.engines e f }
def getStack (s : State) (k : Nat) : Stack := tget {} s.mem.stackRecs k
def modStack (k : Nat) (f : Stack → Stack) (s : State) : State := { s with mem.stackRecs := tmod {} s.mem.stackRecs k f }

def getCluster (s : State) (c : Nat) : Cluster := tget {} s.power.clusters c
def modCluster (c : Nat) (f : Cluster → Cluster) (s : State) : State := { s with power.clusters := tmod {} s.power.clusters c f }

/-! ### When parts run -/

/-- A freeze holds every block clock domain and AONCNT (R426). -/
def frozen (s : State) : Bool := s.freeze.state ≠ 0

/-- The always-on domain runs: power is good and the block is not frozen (R18, R426, R435). -/
def aonRuns (s : State) : Bool := s.pins.pwrOk && !frozen s

/-- The data path is served: from step S22 of a start, and while READY (R404, R410); not in reset, frozen, tripped
or with a start-up failure (R411, R455). -/
def dataOn (s : State) : Bool :=
  aonRuns s && !s.start.inReset && !s.pins.thermtrip && s.pins.fallen.isEmpty &&
  (s.start.state = 1 || (s.start.state = 0 && 22 ≤ s.start.step))

/-- CLK_FAB runs and the data path is served (R18, R21). -/
def fabOn (s : State) : Bool := dataOn s && !s.asleep

/-- The link logic runs: clocks are up, the block is not in reset, not frozen, not tripped, and not in SAFE (R404, R411). -/
def linkOn (s : State) : Bool :=
  aonRuns s && !s.start.inReset && !s.pins.thermtrip && s.pins.fallen.isEmpty && (s.start.state ≠ 2)

/-- The start has reached step `n`, or is over (R404, R409). -/
def stepReached (n : Nat) (s : State) : Bool := !s.start.inReset && (s.start.state ≠ 0 || n ≤ s.start.step)

/-- Every CPn_AWAKE rises or falls (R450). -/
def setAwake (b : Bool) (s : State) : State :=
  (List.range 192).foldl (fun st p => modPort p (fun x => { x with awake := b }) st) s

/-- A wake event of Table 1.6: CLK_FAB starts, and every CPn_AWAKE rises (R21, R450). -/
def wakeUp (s : State) : State := if s.asleep then setAwake true { s with asleep := false } else s

/-- One tick of CLK_AON: AONCNT counts while the always-on domain runs, the block's own energy of R336 is charged, and the MP takes
an entry of its queue (R18; DESIGN CHOICE, log 1 and 43). -/
def idleTick (s : State) : State :=
  if aonRuns s then
    { s with aoncnt := s.aoncnt + 1
             mgmt.mpQueue := s.mgmt.mpQueue - 1
             sched.tickNj := s.sched.tickNj + (if obj s 0x2000 2 1 = 1 then 1800 else Config.energyCoef (obj s 0x2000 2 1) 6) }
  else s

/-! ### Host ports -/

/-- A host port can carry traffic: its link is in L0, L0p, L1, or retraining (then the traffic is stalled, not lost). -/
def hostUp (s : State) (p : Nat) : Bool := 2 ≤ (getHost s p).link

/-- The host proxy is alive: some host port is up (R241). -/
def proxyAlive (s : State) : Bool := hostUp s 0 || hostUp s 1

/-- Host memory is out of a queue's reach: no host port is up, or the queue is HELD (R294). -/
def hostLost (s : State) (q : Nat) : Bool := !(proxyAlive s) || (getQueue s q).jrn.state = 2

/-- The port that carries a host access: PA[12] chooses while both ports are up, else the survivor (R271). -/
def hostPortOf (s : State) (pa : Nat) : Nat :=
  if hostUp s 0 && hostUp s 1 then nbits pa 12 1 else if hostUp s 1 then 1 else 0

/-- The link of a host port carries traffic now: it is up and does not retrain (R293). -/
def hostCarries (s : State) (p : Nat) : Bool := hostUp s p && (getHost s p).link ≠ 5

/-- Send at a host port. While its link retrains, what the port has to send waits for the link (R293). -/
def portSend (p : Nat) (o : Out) (s : State) : State :=
  if (getHost s p).link = 5 then { s with stalled := s.stalled ++ [(p, o)] } else emit o s

/-- Write host memory on the task-flushed path of port `p`: its write queue holds the bytes until their read-back returns (R195). -/
def hostPostOn (p pa : Nat) (bs : List Byte) (poison : Bool) (s : State) : State :=
  let n := (getHost s p).wseq + 1
  portSend p (.hostWrite p pa bs poison)
    (modHost p (fun h => { h with wseq := n, lastWrite := pa, wqueue := h.wqueue ++ [⟨n, pa, bs, poison⟩], lastUse := s.aoncnt, link := if h.link = 4 then 2 else h.link }) s)

/-- Write host memory on the task-flushed path of the port that carries the address. With no port up the write is
lost and nothing is sent. -/
def hostPost (pa : Nat) (bs : List Byte) (poison : Bool) (s : State) : State :=
  if proxyAlive s then hostPostOn (hostPortOf s pa) pa bs poison s else s

/-- The bytes that wait in the host write queues, the newest first: they answer any read of the block (R195). -/
def queueExt (s : State) : List (Nat × Byte) :=
  let of (p : Nat) : List (Nat × Byte) := (getHost s p).wqueue.reverse.flatMap fun w => (List.range w.bytes.length).map fun i => (w.pa + i, w.bytes.getD i 0)
  of 0 ++ of 1

/-- A byte that waits in a host write queue was written as poison. -/
def queuedBad (s : State) (pa : Nat) : Bool :=
  let bad (p : Nat) : Bool := match (getHost s p).wqueue.reverse.find? fun w => w.pa ≤ pa && pa < w.pa + w.bytes.length with
    | some w => w.poison
    | none => false
  bad 0 || bad 1

/-- Write `n` of port `p` has been confirmed by a read-back (R265). -/
def readBack (s : State) (p n : Nat) : Bool := n ≤ (getHost s p).confirmed

/-- The port of an MSI-X message: HP0, or HP1 while HP0 is down (R312, R352). -/
def msixPort (s : State) : Nat := if hostUp s 0 then 0 else 1

/-- Send an MSI-X vector, when a host port is up. -/
def msix (v : Nat) (s : State) : State := if proxyAlive s then portSend (msixPort s) (.msix (msixPort s) v) s else s

/-! ### Link records (R402) -/

def getLink (s : State) (l : Nat) : LinkRec := tget {} s.power.links l

/-- A link's record changes its STATE; LINKS_PROVISIONAL follows STATE 1 and 3. -/
def setLinkState (l st : Nat) (s : State) : State :=
  let prov := if st = 1 || st = 3 then putBits s.power.linksProv l 1 1 else putBits s.power.linksProv l 1 0
  { s with power.links := tmod {} s.power.links l (fun x => { x with state := st, since := s.aoncnt }), power.linksProv := prov }

/-! ### Core ports -/

/-- Is it for the response channel? -/
def onResponses (t : ToCore) : Bool := match t with | .response _ _ _ => true | .event _ _ => false

/-- Send to a carrier core, or hold it while the core gives its channel no credit (R448). -/
def toCore (p : Nat) (t : ToCore) (s : State) : State :=
  let pt := getPort s p
  if pt.held.any fun x => onResponses x = onResponses t then modPort p (fun x => { x with held := x.held ++ [t] }) s
  else if onResponses t then
    (if 0 < pt.respCredits then emit (.core p t) (modPort p (fun x => { x with respCredits := x.respCredits - 1 }) s)
     else modPort p (fun x => { x with held := x.held ++ [t] }) s)
  else if 0 < pt.eventCredits then emit (.core p t) (modPort p (fun x => { x with eventCredits := x.eventCredits - 1 }) s)
  else modPort p (fun x => { x with held := x.held ++ [t] }) s

/-- What a port held goes out as far as the credits reach. -/
def sendHeld (p : Nat) (s : State) : State :=
  (getPort s p).held.foldl (fun st t => toCore p t st) (modPort p (fun x => { x with held := [] }) s)

/-- The core returns a credit (R448). -/
def creditReturns (p : Nat) (event : Bool) (s : State) : State :=
  sendHeld p (modPort p (fun x => if event then { x with eventCredits := x.eventCredits + 1 } else { x with respCredits := x.respCredits + 1 }) s)

/-- The answer of a register access: a core's response comes from its request; a host's posted write has none (R259). -/
def isCore : Requester → Bool
  | .host _ => false
  | .core _ _ _ => true

end Sys2Proof.Machine
end

