-- ==== Sys2Proof/Machine/Mem.lean ====
section
/-! DEFINITION. Device memory (06): the physical address map, presence, keys, tags, and reads and writes of granules and
of byte runs. One coherent value per byte stands for every copy the caches hold (R192, R204; log 11). -/

namespace Sys2Proof.Machine

/-- The targets of Table 6.1. -/
inductive Target where
  | stacks | scratch | regs | host | peer | reserved
  deriving DecidableEq, Repr

/-- The target of a physical address (R143). -/
def target (pa : Nat) : Target :=
  match pa / 2 ^ 48 % 16 with
  | 0 => .stacks
  | 1 => .scratch
  | 2 => .regs
  | 4 => .host | 5 => .host | 6 => .host | 7 => .host
  | 8 => .peer | 9 => .peer | 10 => .peer | 11 => .peer
  | _ => .reserved

/-- The offset within a target, for the stacks, scratch and the registers (R143). -/
def offset (pa : Nat) : Nat := pa % 2 ^ 48

def peerLinkOf (pa : Nat) : Nat := nbits pa 46 4
def peerWindowOf (pa : Nat) : Nat := nbits pa 40 6
def peerOffsetOf (pa : Nat) : Nat := nbits pa 0 40

/-- The active stacks in rising order (R155). -/
def activeStacks (s : State) : List Nat := (List.range 6).filter fun k => (getStack s k).active

/-- Present size of the stacks (R143, R155). -/
def stackBytes (s : State) : Nat := (activeStacks s).length * 2 ^ 36

/-- Present size of loft scratch (Table 6.2). -/
def scratchBytes (s : State) : Nat := 1472 * 2 ^ 20 - s.mem.steps * 2 ^ 26

/-- Present size of a memory target. -/
def presentSize (s : State) (t : Target) : Nat :=
  match t with
  | .stacks => stackBytes s
  | .scratch => scratchBytes s
  | .host => 2 ^ 50
  | .peer => 2 ^ 50
  | .regs => 2 ^ 48
  | .reserved => 0

/-- R144: an access to `len` bytes at `pa` has a place in the address map. -/
def inMap (s : State) (pa len : Nat) : Bool :=
  match target pa with
  | .reserved => false
  | .stacks => offset pa + len ≤ stackBytes s
  | .scratch => offset pa + len ≤ scratchBytes s
  | .peer => peerLinkOf pa < 12
  | .host => true
  | .regs => true

/-- Stack and channel of a stack offset (R155). -/
def stackOf (s : State) (o : Nat) : Nat × Nat :=
  let act := activeStacks s
  let k := act.length
  let g := o / 256 % (32 * k)
  (act.getD (g % k) 0, g / k)

/-- The channel that holds a stack address is fenced (R161). -/
def channelFenced (s : State) (pa : Nat) : Bool :=
  target pa = .stacks &&
  (let (k, c) := stackOf s (offset pa); (getStack s k).fenced.contains c)

/-- One of the 256 B units that an access touches lies in a fenced channel (R161). -/
def rangeFenced (s : State) (pa len : Nat) : Bool :=
  (List.range 6).any (fun k => !(getStack s k).fenced.isEmpty) &&
  (List.range (min 192 ((pa + len - 1) / 256 - pa / 256 + 1))).any fun i => channelFenced s (pa / 256 * 256 + 256 * i)

def getSlot (s : State) (k : Nat) : KeySlot := tget {} s.mem.slots k

/-- The key slot of an access for which the spec names none (save areas, sequence images, snapshots): the granule's own key,
or the block's when it has none (DESIGN CHOICE, log 21). -/
def blockSlot : Nat := 65536

/-- R159: the key slot's verdict on an access of context `c`: an empty slot DEAD_TARGET, an unbound one RIGHTS_FAULT. -/
def slotVerdict (s : State) (c k : Nat) : Status :=
  if k = blockSlot then .ok else
  let sl := getSlot s k
  match sl.key with
  | none => .deadTarget
  | some _ => if sl.bound.contains c then .ok else .rightsFault

/-- R425: a confidential context reaches host memory only inside the host windows that its tenant allowed. -/
def hostAllowed (s : State) (c pa len : Nat) : Bool :=
  !nbit (tget 0 s.sched.ctx c).toNat 109 ||
  (match tget none s.sec.conf c with
    | some x => x.hosts.any fun w => w.1 ≤ pa && pa + len ≤ w.1 + w.2 * 4096
    | none => false)

/-- R144, R159, R161: the verdict on an access of context `c` under key slot `k`, before any byte moves; of a refused slot and a
fenced channel, R10's. -/
def accessVerdict (s : State) (c k pa len : Nat) : Status :=
  if !inMap s pa len then .boundFault
  else match target pa with
    | .stacks => worst (slotVerdict s c k) (if rangeFenced s pa len then .deadTarget else .ok)
    | .host => if hostAllowed s c pa len then .ok else .rightsFault
    | _ => .ok

/-- R159: a refused key slot is counted in 0x3100:09. -/
def countSlot (s0 : State) (c k pa : Nat) (s : State) : State :=
  if target pa = .stacks && slotVerdict s0 c k ≠ .ok then count 0x3100 0x09 s else s

/-- The refused key slots of a footprint are counted (R159). -/
def countSlots (c : Nat) (foot : List Extent) (s : State) : State := foot.foldl (fun acc x => countSlot s c x.keySlot x.pa acc) s

/-! ### Bytes -/

/-- Device memory stands in its one canonical form: addresses strictly rising, and no byte listed that is what an unlisted
address reads as (0, log 12). -/
def Memory.wf (m : Table Byte) : Bool := twf 0 m

/-- The stored byte at a physical address; a byte that nothing has written reads 0 here (log 12: the stacks return a
free value instead, see `readGranule`). -/
def byteAt (s : State) (pa : Nat) : Byte := tget 0 s.mem.bytes pa

/-- The stored bytes `pa .. pa + n - 1`. -/
def bytesAt (s : State) (pa n : Nat) : List Byte := (List.range n).map fun i => byteAt s (pa + i)

/-- Store a run of bytes. -/
def putBytes : Table Byte → Nat → List Byte → Table Byte
  | t, _, [] => t
  | t, pa, b :: bs => putBytes (tset 0 t pa b) (pa + 1) bs

/-- Byte `i` of a granule's data. -/
def lineByte (d : Line) (i : Nat) : Byte := BitVec.ofNat 8 (d.toNat / 2 ^ (8 * i))

/-- Byte `i` is named by the mask. -/
def maskBit (m : Word) (i : Nat) : Bool := nbit m.toNat i

/-- `old` with the bytes that the mask names taken from `new`. -/
def mergeLine (old new : Line) (m : Word) : Line :=
  ofBytes 512 ((List.range 64).map fun i => if maskBit m i then lineByte new i else lineByte old i)

/-- The mask of bytes `o .. o + n - 1` of a granule. -/
def maskOf (o n : Nat) : Word := BitVec.ofNat 64 ((2 ^ n - 1) * 2 ^ o)

/-- Every byte of a granule. -/
def fullMask : Word := BitVec.allOnes 64

/-- The granule's stored data. -/
def lineAt (s : State) (g : Nat) : Line := ofBytes 512 (bytesAt s (g * 64) 64)

def getLine (s : State) (l : Nat) : Option DevLine := tget none s.coh.dev l

/-- The state of a granule's shingle in the device cache; I where its line is not held. -/
def shingleOf (s : State) (g : Nat) : Shingle :=
  match getLine s (g / 4) with
  | some d => d.sh.getD (g % 4) .i
  | none => .i

/-- The poison that goes with a granule's coherent value, wherever that is held. -/
def heldPoison (s : State) (g : Nat) : Bool := tget false s.mem.poison g

/-- What the code will find when the granule is read next (R149, R157). -/
def flawAt (s : State) (g : Nat) : Ecc := tget .clean s.mem.flaws g

/-- A near cache holds the granule M: its value stands there alone, so that its memory copy is not read. -/
def dirtyAbove (s : State) (g : Nat) : Bool := s.coh.near.any fun kv => kv.1 % 2 ^ 46 = g && kv.2.st = .m

/-- The granule's stored data is lost: an uncorrectable error (R149, R157), but in a clean shingle, which is fetched again (R228);
for scratch, an uncorrectable error of its tag entry (R150). -/
def flawPoisons (s : State) (g : Nat) : Bool :=
  match flawAt s g with
  | .uncorrectable => !(dirtyAbove s g) && (match shingleOf s g with
    | .i => target (g * 64) = .stacks || target (g * 64) = .scratch
    | .d => true
    | .m => true
    | _ => false)
  | .tagLost => target (g * 64) = .scratch && !(dirtyAbove s g)
  | _ => false

/-- The device cache's clean shingle of a host granule has an uncorrectable error: the home fetches it again from the host before it reads
it (R228). -/
def hostBad (s : State) (g : Nat) : Bool :=
  target (g * 64) = .host && flawAt s g = .uncorrectable && !(dirtyAbove s g) && (shingleOf s g = .s || shingleOf s g = .e)

/-- Whether a granule reads as poison (R345). -/
def poisonAt (s : State) (g : Nat) : Bool := heldPoison s g || flawPoisons s g

/-- The tag that a granule bears whose tag entry is lost: no context's. -/
def lostTag : Nat := 4096

/-- A read of the granule, by operation `op` for a context, meets what the code finds on it. A bad clean shingle of a host line is fetched
again before anything reads it. -/
def meetFlaw (c : Option Nat) (op g : Nat) (s : State) : State :=
  match flawAt s g with
  | .clean => s
  | e =>
    if dirtyAbove s g || hostBad s g then s
    else
      let lost := flawPoisons s g
      owe (.ecc e g c op (shingleOf s g)) { s with
        mem.flaws := tset .clean s.mem.flaws g .clean
        mem.poison := if lost then tset false s.mem.poison g true else s.mem.poison
        mem.tags := if e = .tagLost && lost then tset none s.mem.tags g (some lostTag) else s.mem.tags }

/-- A write of the memory copy: one of the whole granule reads nothing and encodes it anew, one of a part reads it first (R149,
R157). -/
def meetWrite (c : Option Nat) (g : Nat) (full : Bool) (s : State) : State :=
  if flawAt s g = .clean then s
  else if full then { s with mem.flaws := tset .clean s.mem.flaws g .clean }
  else meetFlaw c 2 g s

/-- The tag of a scratch granule matches context `c` and is not VOID (R150). -/
def tagIs (s : State) (g c : Nat) : Bool := tget none s.mem.tags g = some c

/-- A stack granule was last written under the key that slot `k` now holds (R158). -/
def keyIs (s : State) (g k : Nat) : Bool :=
  if k = blockSlot then (tget none s.mem.keyOf g).isSome else
  match (getSlot s k).key with
  | none => false
  | some key => tget none s.mem.keyOf g = some key

/-- What context `c` reads of granule `g` under key slot `k`: scratch whose tag differs reads zeros (R150); a stack
granule written under another key, or never, reads a free value (R158, R160; log 12). -/
def granuleData (s : State) (c k g : Nat) : Line :=
  match target (g * 64) with
  | .scratch => if tagIs s g c then lineAt s g else 0
  | .stacks => if keyIs s g k then lineAt s g else Config.freeLine s.free g
  | _ => lineAt s g

/-- Whether context `c` reads the granule as poison; one in a fenced channel is not read (R161). -/
def granulePoison (s : State) (c g : Nat) : Bool :=
  match target (g * 64) with
  | .scratch => (tagIs s g c || tget none s.mem.tags g = some lostTag || flawAt s g = .tagLost) && poisonAt s g
  | .stacks => poisonAt s g && !(channelFenced s (g * 64))
  | _ => poisonAt s g

/-- Whether context `c` reads the granule as poison from a near cache that holds it. -/
def nearPoison (s : State) (c g : Nat) : Bool :=
  match target (g * 64) with
  | .scratch => (tagIs s g c || tget none s.mem.tags g = some lostTag) && heldPoison s g
  | _ => heldPoison s g

/-- The loft slice of a scratch address (R145). -/
def sliceOf (pa : Nat) : Nat := (64 * 2 ^ 20 + offset pa) / 512 % 192

/-- The loft slice that holds the data of a device-cache line: its place in the device-cache region follows its set and way (R145, R147;
DESIGN CHOICE, log 171). -/
def cacheSlice (s : State) (d : DevLine) : Nat := (1536 * 2 ^ 20 - s.mem.steps * 2 ^ 26 + 256 * (16 * d.set + d.way)) / 512 % 192

/-- An access takes a loft slice out of retention (R163). The idle delay begins again, as it stands now (R164). -/
def touchSlice (k : Nat) (s : State) : State :=
  { s with mem.retained := tset false s.mem.retained k false
           power.loftDue := tset 64 s.power.loftDue k (s.aoncnt + obj s 0x3000 0x0A 64) }

/-- An access takes the stack of a granule out of self-refresh (R163). -/
def touchStack (g : Nat) (s : State) : State :=
  let k := (stackOf s (offset (g * 64))).1
  modStack k (fun x => { x with selfRefresh := false }) { s with power.stackDue := tset 2500 s.power.stackDue k (s.aoncnt + obj s 0x3100 8 2500) }

/-- What serves an access to a granule wakes: the slice of the device-cache line that holds it, else its slice of the scratch, else its
stack (R163). -/
def touch (g : Nat) (s : State) : State :=
  match getLine s (g / 4), target (g * 64) with
  | _, .scratch => touchSlice (sliceOf (g * 64)) s
  | some d, .stacks => if shingleOf s g = .i then touchStack g s else touchSlice (cacheSlice s d) s
  | none, .stacks => touchStack g s
  | some d, .host => if shingleOf s g = .i then s else touchSlice (cacheSlice s d) s
  | _, _ => s

/-- A read of scratch under another context's tag is counted, but for one that a lost tag entry makes poison (R150). -/
def noteTag (c g : Nat) (s : State) : State :=
  if tagIs s g c || tget none s.mem.tags g = some lostTag then s else count 0x3000 0x07 s

/-- What a use of a granule's value changes: a tag mismatch is counted (R150), a free value is used up. -/
def noteUse (c k g : Nat) (s : State) : State :=
  match target (g * 64) with
  | .scratch => noteTag c g s
  | .stacks => if keyIs s g k then s else takeFree s
  | _ => s

/-- What a read of a granule in memory changes: its errors are found, what holds it wakes, and it is used. -/
def noteRead (c k g : Nat) (s : State) : State := noteUse c k g (touch g (meetFlaw (some c) 1 g s))

/-- The key under which slot `k` writes a granule; key 0 is the block's own. -/
def keyFor (s : State) (g k : Nat) : Option Nat :=
  if k = blockSlot then some ((tget none s.mem.keyOf g).getD 0) else (getSlot s k).key

/-- Write the bytes that the mask names in granule `g`, as context `c` under key slot `k` (R151, R158, R345): scratch
tagged otherwise, or VOID, becomes zero elsewhere and takes the tag; a stack granule under another key keeps a free
value elsewhere. A poisoned granule stays poisoned unless the write covers it whole. -/
def writeGranule (c k g : Nat) (data : Line) (mask : Word) (poison : Bool) (s : State) : State :=
  match target (g * 64) with
  | .scratch =>
    let own := tagIs s g c
    let old := if own then lineAt s g else 0
    { s with mem.bytes := putBytes s.mem.bytes (g * 64) (bytesOf 64 (mergeLine old data mask))
             mem.tags := tset none s.mem.tags g (some c)
             mem.poison := tset false s.mem.poison g (poison || ((own || tget none s.mem.tags g = some lostTag) && mask ≠ fullMask && heldPoison s g)) }
  | .stacks =>
    let own := keyIs s g k
    let old := if own then lineAt s g else Config.freeLine s.free g
    { s with mem.bytes := putBytes s.mem.bytes (g * 64) (bytesOf 64 (mergeLine old data mask))
             mem.keyOf := tset none s.mem.keyOf g (keyFor s g k)
             mem.poison := tset false s.mem.poison g (poison || (mask ≠ fullMask && heldPoison s g))
             free := if own then s.free else s.free + 1 }
  | _ =>
    { s with mem.bytes := putBytes s.mem.bytes (g * 64) (bytesOf 64 (mergeLine (lineAt s g) data mask))
             mem.poison := tset false s.mem.poison g (poison || (mask ≠ fullMask && heldPoison s g)) }

/-- A write that the block makes for no context (R463): only the named bytes change; tag and VOID stay. A granule that it covers whole is
poisoned no more (R345). -/
def writeRaw (pa : Nat) (bs : List Byte) (s : State) : State :=
  (rangeFrom (pa / 64) ((pa + bs.length + 63) / 64 - pa / 64)).foldl (fun st g =>
    let full := pa ≤ g * 64 && g * 64 + 64 ≤ pa + bs.length
    let st := touch g (meetWrite none g full st)
    if full then { st with mem.poison := tset false st.mem.poison g false } else st) { s with mem.bytes := putBytes s.mem.bytes pa bs }

/-! ### What software does beside a course (R108) -/

/-- A course takes note of an access of software, `(pa, bytes, write)`, that may touch its footprint. -/
def noteTouch (t : Nat × Nat × Bool) (c : Course) : Course :=
  if c.foot.isEmpty || c.foot.any (fun x => t.1 < x.pa + x.len && x.pa < t.1 + t.2.1) then { c with touched := c.touched ++ [t] } else c

/-- A core, a copy engine, a host or a peer accesses memory while courses have their results before them. -/
def softAccess (pa n : Nat) (write : Bool) (s : State) : State :=
  if s.arrays.arr.all fun kv => kv.2.courses.isEmpty then s
  else { s with arrays.arr := s.arrays.arr.map fun kv => (kv.1, { kv.2 with courses := kv.2.courses.map (noteTouch (pa, n, write)) }) }

/-- The bytes of granule `g` that a mask names are written so. -/
def softMask (g : Nat) (mask : Word) (s : State) : State :=
  match (List.range 64).filter (nbit mask.toNat) with
  | [] => s
  | b :: rest => softAccess (64 * g + b) ((b :: rest).getLastD b + 1 - b) true s

/-! ### Runs of bytes -/

/-- The granules that `len` bytes at `pa` touch. -/
def granulesOf (pa len : Nat) : List Nat :=
  if len = 0 then [] else rangeFrom (pa / 64) ((pa + len - 1) / 64 - pa / 64 + 1)

/-- The bytes of a run as context `c` reads them, granule by granule, with the reads' effects. -/
def readRun (c k pa len : Nat) (s : State) : List Byte × State :=
  (granulesOf pa len).foldl (fun (acc : List Byte × State) g =>
    let lo := max pa (g * 64)
    let hi := min (pa + len) (g * 64 + 64)
    let d := granuleData acc.2 c k g
    (acc.1 ++ (rangeFrom (lo - g * 64) (hi - lo)).map (lineByte d), noteRead c k g acc.2)) ([], s)

/-- Whether any granule of the run reads as poison. -/
def runPoison (s : State) (c pa len : Nat) : Bool := (granulesOf pa len).any (granulePoison s c)

/-- Write a run of bytes in memory as context `c` under key slot `k`. -/
def writeRun (c k pa : Nat) (bs : List Byte) (poison : Bool) (s : State) : State :=
  (granulesOf pa bs.length).foldl (fun st g =>
    let lo := max pa (g * 64)
    let hi := min (pa + bs.length) (g * 64 + 64)
    let part := (bs.drop (lo - pa)).take (hi - lo)
    writeGranule c k g (BitVec.ofNat 512 (ofLe part * 2 ^ (8 * (lo - g * 64)))) (maskOf (lo - g * 64) (hi - lo)) poison
      (touch g (meetWrite (some c) g (hi - lo = 64) st))) s

end Sys2Proof.Machine
end

