-- ==== Sys2Proof/Machine/Holders.lean ====
section
/-! DEFINITION. Who holds a copy of a granule (09): near-cache lines, directory entries, reservations, and what a write makes
leave. -/

namespace Sys2Proof.Machine

/-- A near cache. -/
def isNear (agent : Nat) : Bool := agent < 192

def nearKey (p g : Nat) : Nat := p * 2 ^ 46 + g
def getNear (s : State) (p g : Nat) : NearLine := tget {} s.coh.near (nearKey p g)
def getDir (s : State) (g : Nat) : DirEntry := tget {} s.coh.dir g
def setDir (g : Nat) (e : DirEntry) (s : State) : State := { s with coh.dir := tset {} s.coh.dir g e }
/-- Clear the reservations on a granule in port `p`, but for stream `keep` (R209), and the hold windows on it. -/
def clearResv (p g : Nat) (keep : Option Nat) (s : State) : State :=
  modPort p (fun x => { x with
    resv := tdrop x.resv fun st r => (match r with | some v => v.granule = g | none => false) && keep ≠ some st
    hold := x.hold.filter fun w => w.1 ≠ g || keep = some w.2 }) s

/-- Set a near-cache line. A line that leaves clears the reservations on it (R209). -/
def setNear (p g : Nat) (l : NearLine) (s : State) : State :=
  let s := { s with coh.near := tset {} s.coh.near (nearKey p g) l }
  if l.st = .i then clearResv p g none s else s

/-- The host proxy's agent identifier (Table 0.8). -/
def hostProxy : Nat := 0xF0

/-- Invalidate every near-cache copy of a granule at once, and its directory entry. A host copy is recalled by a back-invalidate
snoop; of a granule in BROADCAST it is an invalidation round (R236). For what stands inside one step: the host's answer is not awaited (log 176). -/
def dropCopies (g : Nat) (s : State) : State :=
  let e := getDir s g
  let round := e.st = .broadcast
  let hs := if round then
      ((List.range 192).filter fun p => (getNear s p g).st ≠ NearState.i) ++ (if target (g * 64) = .stacks && proxyAlive s then [hostProxy] else [])
    else e.ptrs
  let s := if round then count 0x3800 0x0B s else s
  let s := hs.foldl (fun st p => if isNear p then setNear p g {} st
    else count 0x5000 3 (portSend (hostPortOf st (g * 64)) (.biSnoop (hostPortOf st (g * 64)) (g * 64) "BISnpInv") st)) s
  setDir g {} s

/-- The copies of every granule of a run leave. -/
def dropRun (pa len : Nat) (s : State) : State := (granulesOf pa len).foldl (fun st g => dropCopies g st) s

end Sys2Proof.Machine
end

