-- ==== Sys2Proof/Machine/Faults.lean ====
section
/-! DEFINITION. The fault collector (14): classes, sources, records, the ring, the latch and the grace timers. -/

namespace Sys2Proof.Machine

/-! ### Contexts as the collector needs them -/

/-- A context's state after reset (Table 13.2): SLICE 50,000, SPEC_DATA and SPEC_CONT 1. -/
def ctxReset : BitVec 512 := BitVec.ofNat 512 (50000 * 2 ^ 224 + 2 ^ 112 + 2 ^ 111)

/-- The state image of context `c`. -/
def getCtx (s : State) (c : Nat) : BitVec 512 := tget ctxReset s.sched.ctx c

/-- Store bits `lo .. lo + n - 1` of a context's state. -/
def setCtxFld (c lo n v : Nat) (s : State) : State :=
  { s with sched.ctx := tset ctxReset s.sched.ctx c (BitVec.ofNat 512 (putBits (getCtx s c).toNat lo n v)) }

/-- STATE of a context: 0 FREE, 1 READY, 2 SUSPENDED, 3 ENDING, 4 RELEASING (R320). -/
def ctxState (s : State) (c : Nat) : Nat := fld (getCtx s c) 52 4

/-- CONFIDENTIAL of a context (R319). -/
def confidential (s : State) (c : Nat) : Bool := flag (getCtx s c) 109

/-! ### Classes (Table 14.3) -/

def classBase (k : Nat) : Nat :=
  match k with
  | 1 => 1 | 2 => 2 | 3 => 1 | 4 => 2 | 5 => 3 | 6 => 3 | 7 => 2 | 8 => 2 | 9 => 1 | 10 => 2 | 11 => 1
  | 12 => 0 | 13 => 2 | 14 => 2 | 15 => 2 | 16 => 4 | _ => 0

def classCeiling (k : Nat) : Nat :=
  match k with
  | 1 => 2 | 3 => 2 | 9 => 2 | 11 => 2 | _ => classBase k

def classN (k : Nat) : Nat := match k with | 1 => 64 | 3 => 1024 | 9 => 256 | 11 => 16 | _ => 0

def classW (k : Nat) : Nat :=
  match k with | 1 => 50000 | 3 => 50000000 | 9 => 50000 | 11 => 50000000 | _ => 0

/-- Default action: 0 NONE, 1 FENCE_UNIT, 2 KILL_CONTEXT, 3 FREEZE. -/
def classAction (k : Nat) : Nat :=
  match k with | 1 => 1 | 2 => 1 | 3 => 1 | 5 => 2 | 16 => 3 | _ => 0

/-- THRESHOLD and WINDOW have no effect on a class whose ceiling equals its base (R371). -/
def thresholdOf (s : State) (k : Nat) : Nat := if classCeiling k = classBase k then 0 else obj s (0x8000 + k) 1 (classN k)
def windowOf (s : State) (k : Nat) : Nat := if classCeiling k = classBase k then 0 else obj s (0x8000 + k) 2 (classW k)
def actionOf (s : State) (k : Nat) : Nat := obj s (0x8000 + k) 3 (classAction k)
def graceOf (s : State) (k : Nat) : Nat := obj s (0x8000 + k) 4 500000

/-! ### Sensors and rails (Table 17.16) -/

def sensorOf (unit : Nat) : Nat :=
  let i := unit % 4096
  match unit / 4096 with
  | 1 => if i < 2 then 58 + i else 62
  | 2 => if i < 8 then 60 else if i < 12 then 61 else 62
  | 3 => if i < 192 then i / 4 else 62
  | 4 => if i < 192 then i / 4 else 62
  | 5 => if i < 0xC0 then 48 + i / 48
         else if 0x100 ≤ i && i < 0x106 then 52 + (i - 0x100)
         else if 0x200 ≤ i && i < 0x2C0 then 52 + (i - 0x200) / 32 else 62
  | 12 => if i < 3 then 63 else 62
  | _ => 62

def railOf (unit : Nat) : Nat :=
  let i := unit % 4096
  match unit / 4096 with
  | 1 => if i < 2 then 17 else 12
  | 2 => if i < 12 then 18 else 12
  | 3 => if i < 192 then 13 else 12
  | 4 => if i < 192 then i / 16 else 12
  | 5 => if i < 0xC0 then 14
         else if (0x100 ≤ i && i < 0x106) || (0x200 ≤ i && i < 0x2C0) then 19 else 12
  | 12 => if i = 0 then 20 else if i < 3 then 21 else 12
  | _ => 12

/-! ### Rings -/

/-- A ring is present once its base and its size have been written validly (R464). -/
def ringOn (r : Ring) : Bool := r.baseSet && r.logSet && r.log2 ≠ 0

/-- The ring holds no room: PROD − CONS modulo 2^32 equals its size. -/
def ringFull (r : Ring) : Bool := subMod 32 r.prod r.cons = 2 ^ r.log2

/-- PHASE: 1 on the first pass, toggling on each wrap. -/
def ringPhase (r : Ring) : Nat := (r.prod / 2 ^ r.log2 + 1) % 2

/-- The address of the next record of `n` bytes. -/
def ringAddr (r : Ring) (n : Nat) : Nat := r.base + n * (r.prod % 2 ^ r.log2)

def ringBump (r : Ring) : Ring := { r with prod := (r.prod + 1) % 2 ^ 32 }

/-- The ring can take a record now: present, not full, and its host port is up if it lies in host memory (R465). -/
def ringReady (s : State) (r : Ring) : Bool :=
  ringOn r && !ringFull r && (target r.base ≠ .host || proxyAlive s)

/-- Write a record to memory for no context: every other copy leaves, with the reservations on it (R209). A host record is followed
by its read-back (R265, R463). -/
def writeRecord (pa : Nat) (bs : List Byte) (s : State) : State :=
  if target pa = .host then count 0x6000 0x0C (hostPost pa bs false s) else writeRaw pa bs (dropRun pa bs.length s)

/-! ### Raising a record -/

/-- The unit is under field test (R349). -/
def underTest (s : State) (unit : Nat) : Bool :=
  match s.ftest.run with
  | none => false
  | some r => fld r.req 80 16 = unit

/-- The source counting of R349: severity, escalated, events seen, and the source's new (start, count). -/
def sourceStep (s : State) (k unit : Nat) : Nat × Bool × Nat × (Nat × Nat) :=
  let old := tget (0, 0) s.flt.sources (unit * 256 + k)
  let (st, n) := if old.2 = 0 || windowOf s k ≤ s.aoncnt - old.1 then (s.aoncnt, 0) else old
  let seen := n + 1
  if 0 < thresholdOf s k && seen = thresholdOf s k then
    (min (classBase k + 1) (classCeiling k), true, seen, (st, 0))
  else (classBase k, false, seen, (st, seen))

/-- The image of a fault record (Table 14.4) with its CRC. -/
def recordImage (s : State) (e : Event) (sev seen : Nat) (esc first : Bool) (phase : Nat) : BitVec 512 :=
  let conf := match e.ctx with | some c => confidential s c | none => false
  BitVec.ofNat 512 (sealCrc 64 (pack [
    (167, 0), (1, phase), (8, e.status.code), (8, e.op), (8, e.cls), (6, 0), (3, sev), (3, actionOf s e.cls),
    (1, b2n first), (1, b2n esc), (2, if conf then 0 else e.addrKind), (1, b2n e.ctx.isSome), (12, e.ctx.getD 0),
    (5, railOf e.unit), (12, (tget 0 s.flt.volts (railOf e.unit)).toNat), (6, sensorOf e.unit),
    (12, (tget 0 s.flt.temps (sensorOf e.unit)).toNat), (16, seen), (16, e.unit), (32, e.detail),
    (32, s.flt.serial), (64, if conf then 0 else e.addr), (64, s.aoncnt)]))

/-- Change the fault collector. -/
def modFlt (f : FaultUnit → FaultUnit) (s : State) : State := { s with flt := f s.flt }

/-- Write a raised record to the fault ring, or count it as dropped (R352, R356, R465). -/
def ringRecord (img : BitVec 512) (s : State) : State :=
  let r := s.flt.ring
  if !ringOn r then s
  else if !ringReady s r then count 0x8000 0x0D s
  else
    let s := writeRecord (ringAddr r 64) (bytesOf 64 img) s
    let s := modFlt (fun f => { f with ring := ringBump r }) s
    if nbit r.vec 11 then msix (nbits r.vec 0 11) s else s

/-- Owe the grace action of a record (R355). -/
def oweAction (action unit : Nat) (ctx : Option Nat) (s : State) : State :=
  match action with
  | 1 => owe (.fence unit 1) s
  | 2 => match ctx with | some c => owe (.kill c 1) s | none => s
  | 3 => owe .freeze s
  | _ => s

/-- Start the grace timer of a record, or take its action at once when 64 run (R354). -/
def startGrace (e : Event) (serial : Nat) (s : State) : State :=
  let a := actionOf s e.cls
  if a = 0 then s
  else if s.flt.grace.length < 64 then
    modFlt (fun f => { f with grace := f.grace ++ [⟨serial, s.aoncnt + graceOf s e.cls, a, e.unit, e.ctx⟩] }) s
  else oweAction a e.unit e.ctx (count 0x8000 0x11 s)

/-- A raised record takes the next serial number, is the last one, and may be the first error or set OVERFLOW (R353). -/
def latchRecord (img : BitVec 512) (first latchable : Bool) (f : FaultUnit) : FaultUnit :=
  let f := { f with serial := (f.serial + 1) % 2 ^ 32, last := img }
  if first then { f with first := img, firstValid := true } else if latchable then { f with overflow := true } else f

/-- Raise one record of a severity (R350, R353). -/
def raiseRecord (e : Event) (sev seen : Nat) (esc timed : Bool) (s : State) : State :=
  let latchable := obj s 0x8000 2 2 ≤ sev
  let first := latchable && !s.flt.firstValid
  let written := obj s 0x8000 1 1 ≤ sev && ringReady s s.flt.ring
  let img := recordImage s e sev seen esc first (if written then ringPhase s.flt.ring else 0)
  let serial := s.flt.serial
  let s := modFlt (latchRecord img first latchable) (count 0x8000 (0x08 + sev) s)
  let s := if obj s 0x8000 1 1 ≤ sev then ringRecord img s else s
  if timed && 2 ≤ sev then startGrace e serial s else s

/-- An event reported to the collector (R349): it wakes a sleeping block (Table 1.6), and is counted, escalated, and raised as a
record. An event of a unit under field test is recorded with OPERATION 0x0D, outside the counting, and starts no grace timer. -/
def raise (e : Event) (s : State) : State :=
  let s := wakeUp s
  if underTest s e.unit then raiseRecord { e with op := 0x0D } (classBase e.cls) 0 false false s
  else
    let (sev, esc, seen, src) := sourceStep s e.cls e.unit
    let s := count (0x8000 + e.cls) 5 s
    let s := if esc then count (0x8000 + e.cls) 6 s else s
    let s := modFlt (fun f => { f with sources := tset (0, 0) f.sources (e.unit * 256 + e.cls) src }) s
    raiseRecord e sev seen esc true s

/-- A CONTROL_ACTION record (R355, R359): KIND and CAUSE in its DETAIL. -/
def raiseControl (kind cause unit : Nat) (ctx : Option Nat) (s : State) : State :=
  raise { cls := 0x11, unit := unit, ctx := ctx, op := 0x0F, detail := kind + 4 * cause } s

/-- R359: a fence or a return to use changes the capacity generation and raises its record; fences are counted. -/
def capacityChanged (fenced : Bool) (unit cause : Nat) (s : State) : State :=
  let s := { s with flt.capacityGen := (s.flt.capacityGen + 1) % 2 ^ 32 }
  let s := if fenced then count 0x8000 0x16 s else s
  raiseControl (if fenced then 0 else 1) cause unit none s

/-- R347: an operation that completes POISON_CONSUMED. -/
def raisePoisonConsumed (unit : Nat) (ctx : Option Nat) (op addr addrKind : Nat) (s : State) : State :=
  raise { cls := 5, unit := unit, ctx := ctx, op := op, addr := addr, addrKind := addrKind, status := .poisonConsumed }
    (count 0x8000 0x15 s)

/-! ### Storage units (R145, R155) -/

/-- The unit that stores a physical address: the loft slice under R145, or the stack channel under R155. -/
def storageUnit (s : State) (pa : Nat) : Nat :=
  match target pa with
  | .stacks => let (k, c) := stackOf s (offset pa); 0x5200 + 0x20 * k + c
  | _ => 0x5000 + sliceOf pa

/-- Poison is created in a granule (R345): data is lost, or a host or a peer delivers it as poison. -/
def poisonCreated (unit : Nat) (ctx : Option Nat) (op g : Nat) (s : State) : State :=
  raise { cls := 4, unit := unit, ctx := ctx, addr := g * 64, addrKind := 1, op := op } s

/-! ### Grace timers and acknowledgements (R354) -/

/-- FLT_ACK and object 0x8000:12 in the layout of Table 14.5: HOLD (0) stops the timer, ACT (1) also owes the action. -/
def acknowledge (data : Word) (s : State) : State :=
  let serial := fld data 0 32
  let disp := fld data 32 2
  match s.flt.grace.find? (fun t => t.serial = serial) with
  | none => count 0x8000 0x19 s
  | some t =>
    if 2 ≤ disp then count 0x8000 0x19 s
    else
      let s := count 0x8000 0x10 { s with flt.grace := s.flt.grace.filter (fun x => x.serial ≠ serial) }
      if disp = 1 then oweAction t.action t.unit t.ctx s else s

/-- The timers that run past their deadline tick, FREEZE first, then KILL_CONTEXT, then FENCE_UNIT, each in SERIAL
order (R355). -/
def expiredGrace (s : State) : List Grace :=
  let due := s.flt.grace.filter fun t => t.deadline ≤ s.aoncnt
  (due.filter fun t => t.action = 3) ++ (due.filter fun t => t.action = 2) ++ (due.filter fun t => t.action = 1)

end Sys2Proof.Machine
end

