-- ==== Sys2Proof/Machine/Agree.lean ====
section
/-! DEFINITION. Agreement digests (R362, R363): tile digests, accumulators. -/

namespace Sys2Proof.Machine

/-- The digest of a tile: CRC-64 over its index and its stream. -/
def tileDigest (index : Nat) (stream : List Byte) : BitVec 64 := BitVec.ofNat 64 (crc64 (toLe 8 index ++ stream))

/-- The open accumulator of a context and tensor. -/
def findAccum (s : State) (c tensor : Nat) : Option Accum := s.accums.find? fun a => a.ctx = c && a.tensor = tensor

/-- Fold a tile digest into its open accumulator, or count it as unmatched. -/
def foldDigest (c tensor : Nat) (d : BitVec 64) (s : State) : State :=
  if (findAccum s c tensor).isSome then
    let f (a : Accum) : Accum :=
      if a.ctx = c && a.tensor = tensor then { a with digest := a.digest ^^^ d, tiles := a.tiles + 1 } else a
    count 0x8400 3 { s with accums := s.accums.map f }
  else count 0x8400 4 s

/-- The result record of Table 14.11. -/
def accumRecord (a : Accum) : BitVec 256 :=
  BitVec.ofNat 256 (sealCrc 32 (pack [(52, 0), (12, a.ctx), (64, a.digest.toNat), (64, a.tiles), (32, a.tensor)]))

/-- The accumulators of a context close (R363). -/
def closeAccums (c : Nat) (s : State) : State := { s with accums := s.accums.filter fun a => a.ctx ≠ c }

end Sys2Proof.Machine
end

