-- ==== Sys2Proof/Machine/Account.lean ====
section
/-! DEFINITION. Accounting (R138, R335 to R338): charges of engine time, bytes and energy to a context and to the block.
The counters are kept in full; a register shows 64 bits and WRAPPED says that more were counted. -/

namespace Sys2Proof.Machine

/-- The energy coefficients of Table 13.9, in fJ: 0 row, 1 no-op, 2 loft, 3 stack, 4 host, 5 peer byte. -/
def energyCoef (s : State) (i : Nat) : Nat :=
  let point := obj s 0x2000 2 1
  if point = 1 then
    match i with | 0 => 1800000 | 1 => 300000 | 2 => 600 | 3 => 4070 | 4 => 12000 | _ => 9000
  else Config.energyCoef point i

/-- The energy of a piece of work. -/
def energyOf (s : State) (w : Work) : Nat :=
  w.rows * energyCoef s 0 + w.other * energyCoef s 1 + w.loft * energyCoef s 2 + w.stack * energyCoef s 3 +
  w.host * energyCoef s 4 + w.peer * energyCoef s 5

def noWork : Work := ⟨0, 0, 0, 0, 0, 0⟩

def addWork (a b : Work) : Work :=
  ⟨a.rows + b.rows, a.other + b.other, a.stack + b.stack, a.loft + b.loft, a.host + b.host, a.peer + b.peer⟩

/-- The indicative share floor(x * k / n) of every quantity (R138). -/
def shareOf (w : Work) (k n : Nat) : Work :=
  let f (x : Nat) : Nat := if n = 0 then x else x * k / n
  ⟨f w.rows, f w.other, f w.stack, f w.loft, f w.host, f w.peer⟩

def minusWork (a b : Work) : Work :=
  ⟨a.rows - b.rows, a.other - b.other, a.stack - b.stack, a.loft - b.loft, a.host - b.host, a.peer - b.peer⟩

def getAcct (s : State) (c : Nat) : Acct := tget {} s.sched.acct c
def modAcct (c : Nat) (f : Acct → Acct) (s : State) : State := { s with sched.acct := tmod {} s.sched.acct c f }
def modTotal (f : Acct → Acct) (s : State) : State := { s with sched.total := f s.sched.total }

/-- An indicative charge. -/
def chargeInd (c : Nat) (w : Work) (s : State) : State :=
  let e := energyOf s w
  let f (a : Acct) : Acct :=
    { a with engineTime := a.engineTime + w.rows + w.other, host := a.host + w.host, stack := a.stack + w.stack,
             loft := a.loft + w.loft, peer := a.peer + w.peer, energyFj := a.energyFj + e }
  modTotal f (modAcct c f s)

/-- A squash charge: `outs` outputs squashed (R138). -/
def chargeSquash (c outs : Nat) (w : Work) (s : State) : State :=
  let e := energyOf s w
  let bytes := w.stack + w.loft + w.host + w.peer
  let f (a : Acct) : Acct :=
    { a with sqOutputs := a.sqOutputs + outs, sqCycles := a.sqCycles + w.rows + w.other, sqBytes := a.sqBytes + bytes,
             sqEnergyFj := a.sqEnergyFj + e }
  modTotal f (modAcct c f s)

/-- `n` bytes of one target class, as work (R335): block registers are not charged. -/
def bytesWork (t : Nat) (n : Nat) : Work :=
  match t with
  | 0 => { noWork with stack := n }
  | 1 => { noWork with loft := n }
  | 4 => { noWork with host := n } | 5 => { noWork with host := n } | 6 => { noWork with host := n } | 7 => { noWork with host := n }
  | 8 => { noWork with peer := n } | 9 => { noWork with peer := n } | 10 => { noWork with peer := n } | 11 => { noWork with peer := n }
  | _ => noWork

/-- Bytes at a physical address, as work. -/
def paWork (pa n : Nat) : Work := bytesWork (pa / 2 ^ 48 % 16) n

/-- Charge the bytes of one access to a context. -/
def chargeBytes (c pa n : Nat) (s : State) : State := chargeInd c (paWork pa n) s

/-- A pre-emption of a context by an engine (R331). -/
def countPreemption (c : Nat) (s : State) : State :=
  let f (a : Acct) : Acct := { a with preempt := a.preempt + 1 }
  count 0x6C00 0x0C (modTotal f (modAcct c f s))

/-- An overrun of `t` ticks (R333). -/
def countOverrun (c t : Nat) (s : State) : State :=
  let f (a : Acct) : Acct := { a with overrun := a.overrun + t }
  count 0x6C00 0x0E (modTotal f (modAcct c f s))

/-- The twelve counters of Table 13.11, in the order of their offsets. -/
def acctList (a : Acct) : List Nat :=
  [a.engineTime, a.host, a.stack, a.loft, a.peer, a.energyFj / 1000000, a.sqOutputs, a.sqCycles, a.sqBytes,
   a.sqEnergyFj / 1000000, a.overrun, a.preempt]

/-- The WRAPPED bits of a list of counters. -/
def wrappedBits (l : List Nat) : Nat := pack (l.map fun v => (1, b2n (decide (2 ^ 64 ≤ v))))

end Sys2Proof.Machine
end

