-- ==== Sys2Proof/Machine/Arith.lean ====
section
/-! DEFINITION. Exact arithmetic (02): formats, exact products, gutters, ridges, the single rounding. A finite value is an
integer times a power of two. -/

namespace Sys2Proof.Machine

/-- A value: NaN, an infinity, or `n * 2 ^ e`. -/
inductive Val where
  | nan
  | inf (neg : Bool)
  | fin (n e : Int)
  deriving DecidableEq, Repr

/-- floor(log2 |n * 2 ^ e|), for n not 0. -/
def log2Val (n e : Int) : Int := (Nat.log2 n.natAbs : Int) + e

/-- Bits of an element (Table 2.1); a gutter image is 256. -/
def fmtBits (f : Nat) : Nat :=
  match f with
  | 0 => 4 | 1 => 8 | 2 => 4 | 3 => 6 | 4 => 6 | 5 => 8 | 6 => 8 | 7 => 16 | 8 => 16 | 9 => 32 | 10 => 64 | 11 => 256 | _ => 0

/-- Exponent bits, mantissa bits and bias of a floating-point format (Table 2.2). -/
def fmtParams (f : Nat) : Nat × Nat × Int :=
  match f with
  | 2 => (2, 1, 1) | 3 => (2, 3, 1) | 4 => (3, 2, 3) | 5 => (4, 3, 7) | 6 => (5, 2, 15)
  | 7 => (8, 7, 127) | 8 => (5, 10, 15) | 9 => (8, 23, 127) | _ => (11, 52, 1023)

/-- emax of a format (Table 2.2, R29); `mx` for an MXINT8 operand. -/
def fmtEmax (f : Nat) (mx : Bool) : Int :=
  match f with
  | 0 => 3 | 1 => if mx then 1 else 7 | 2 => 2 | 3 => 2 | 4 => 4 | 5 => 8 | 6 => 15 | 7 => 127 | 8 => 15 | 9 => 127 | _ => 1023

/-- Two's complement of `w` bits. -/
def signOf (w v : Nat) : Int := if v < 2 ^ (w - 1) then (v : Int) else (v : Int) - 2 ^ w

/-- The value that code `v` of format `f` encodes (R28, R29). Negative zero has the value zero. -/
def decodeElem (f : Nat) (mx : Bool) (v : Nat) : Val :=
  match f with
  | 0 => .fin (signOf 4 v) 0
  | 1 => .fin (signOf 8 v) (if mx then -6 else 0)
  | _ =>
    let (eb, m, bias) := fmtParams f
    let neg := nbit v (eb + m)
    let ex := nbits v m eb
    let man := nbits v 0 m
    let top := 2 ^ eb - 1
    let sgn (n : Nat) : Int := if neg then -(n : Int) else (n : Int)
    if f = 5 && ex = top && man = 7 then .nan
    else if 6 ≤ f && ex = top then (if man = 0 then .inf neg else .nan)
    else if ex = 0 then .fin (sgn man) (1 - bias - m)
    else .fin (sgn (2 ^ m + man)) ((ex : Int) - bias - m)

/-- A value scaled by an E8M0 scale byte (R29, R31). -/
def scaleVal (scale : Nat) (x : Val) : Val :=
  if scale = 0xFF then .nan
  else match x with
    | .fin n e => .fin n (e + (scale : Int) - 127)
    | y => y

def negVal : Val → Val
  | .nan => .nan
  | .inf s => .inf (!s)
  | .fin n e => .fin (-n) e

/-- The exact product, with the special rules of R47. -/
def mulVal : Val → Val → Val
  | .nan, _ => .nan
  | _, .nan => .nan
  | .inf s, .inf t => .inf (s != t)
  | .inf s, .fin n _ => if n = 0 then .nan else .inf (s != decide (n < 0))
  | .fin n _, .inf s => if n = 0 then .nan else .inf (s != decide (n < 0))
  | .fin n e, .fin m f => .fin (n * m) (e + f)

/-- n * 2 ^ (e - k), truncated toward zero. -/
def truncTo (n e k : Int) : Int :=
  if k ≤ e then n * 2 ^ (e - k).toNat else n.tdiv (2 ^ (k - e).toNat)

/-! ### Gutters (Tables 2.5, 2.6) -/

def clampI (lo hi x : Int) : Int := max lo (min hi x)

/-- Add an integer to the sum; outside 176 bits it saturates and sets BREACH (R37). -/
def addSum (d : Int) (g : Gutter) : Gutter :=
  let v := g.sum + d
  if v < -(2 ^ 175) then { g with sum := -(2 ^ 175), breach := true, sat := true }
  else if 2 ^ 175 ≤ v then { g with sum := 2 ^ 175 - 1, breach := true, sat := true }
  else { g with sum := v }

/-- The units of one finite product under ridge `r` (R36, R41, R57): clipped at the window's top, truncated to the grid. -/
def productUnits (r : Int) (windowed : Bool) (n e : Int) : Int :=
  let u := if windowed then r - 62 else r - 126
  let top : Int := if windowed then 2 ^ 63 - 1 else 2 ^ 127 - 1
  let t := if r + 1 ≤ log2Val n e then (if n < 0 then -top else top) else truncTo n e u
  if windowed then t * 2 ^ 64 else t

/-- Add one product to the partial sum of a row, which has no limit (R25, R34, R41, R42, R47). -/
def addProduct (r : Int) (windowed : Bool) (g : Gutter) (p : Val) : Gutter :=
  match p with
  | .nan => { g with nan := true }
  | .inf s => if s then { g with ninf := true } else { g with pinf := true }
  | .fin n e =>
    if n = 0 then g
    else
      let l := log2Val n e
      { g with sum := g.sum + productUnits r windowed n e, obs := max g.obs (clampI (-511) 511 l), breach := g.breach || decide (r + 1 ≤ l) }

/-- The partial sum of one row or intake cycle: exact over its truncated products (R34). -/
def rowPart (r : Int) (windowed : Bool) (ps : List Val) : Gutter := ps.foldl (addProduct r windowed) {}

/-- Join a gutter with a row's partial sum, an image's or another gutter's contents (R37, R59). -/
def joinGutter (a b : Gutter) : Gutter :=
  let g := addSum b.sum a
  { g with obs := max a.obs b.obs, breach := g.breach || b.breach, ninf := a.ninf || b.ninf, pinf := a.pinf || b.pinf, nan := a.nan || b.nan }

/-- A gutter image (Table 2.13) made under ridge `r`. -/
def gutterImage (r : Int) (g : Gutter) : Nat :=
  pack [(176, (g.sum % 2 ^ 176).toNat), (1, b2n g.nan), (1, b2n g.pinf), (1, b2n g.ninf), (1, b2n g.breach),
    (10, (r % 1024).toNat), (10, (g.obs % 1024).toNat), (56, 0)]

/-- The gutter of an image, and its ridge. -/
def ofImage (v : Nat) : Gutter × Int :=
  (⟨signOf 176 (nbits v 0 176), signOf 10 (nbits v 190 10), nbit v 179, nbit v 178, nbit v 177, nbit v 176, false⟩,
   signOf 10 (nbits v 180 10))

/-! ### Slices and digits (R60, R61) -/

/-- The nearest multiple of 2 ^ k to n, ties to even, in units of 2 ^ k. -/
def rneUnits (n : Int) (k : Nat) : Int :=
  let a := n.natAbs
  let q := a / 2 ^ k
  let r := a % 2 ^ k
  let q' := if 2 * r > 2 ^ k then q + 1 else if 2 * r = 2 ^ k && q % 2 = 1 then q + 1 else q
  if n < 0 then -(q' : Int) else (q' : Int)

/-- A value rounded to nearest even at 8 significant bits. -/
def round8 (n e : Int) : Int × Int :=
  let l := Nat.log2 n.natAbs
  if n = 0 || l ≤ 7 then (n, e) else (rneUnits n (l - 7), e + (l - 7 : Nat))

/-- x - y for values with the grid of `e`. -/
def subAt (n e m f : Int) : Int × Int :=
  let k := min e f
  (n * 2 ^ (e - k).toNat - m * 2 ^ (f - k).toNat, k)

/-- The three slices of a finite FP32 value (R60). -/
def slices32 (n e : Int) : List Val :=
  let (a, ea) := round8 n e
  let (r, er) := subAt n e a ea
  let (b, eb) := round8 r er
  let (c, ec) := subAt r er b eb
  [.fin a ea, .fin b eb, .fin c ec]

/-- The signed digits of the significand: digit `i` rounds what is left at weight 2 ^ (46 - 8 i); the seventh takes the rest
(R61). -/
def digits64 : Nat → Int → Int → List Val
  | 0, _, _ => []
  | 1, m, e => [.fin m e]
  | k + 2, m, e =>
    let w := 8 * (k + 2) - 10
    let d := rneUnits m w
    .fin d (e + w) :: digits64 (k + 1) (m - d * 2 ^ w) e

/-- The seven digits of a finite FP64 value: its significand is taken at 53 bits, so that a subnormal's leading digits are
of its own magnitude. -/
def slices64 (n e : Int) : List Val :=
  if n = 0 then List.replicate 7 (.fin 0 0)
  else
    let l := Nat.log2 n.natAbs
    let (m, em) := if l < 52 then (n * 2 ^ (52 - l), e - (52 - l : Nat)) else (n, e)
    digits64 7 m em

/-- The pieces of an element of a multi-pass pair; a value that is not finite, or zero, is one piece (R462). -/
def pieces (f : Nat) (x : Val) : List Val :=
  match x with
  | .fin n e => if f = 9 then slices32 n e else if f = 10 then slices64 n e else [x]
  | y => [y]

/-- The products of one pair of elements: one product, or the passes (i, j) with i + j at most 2 or 6 (R60, R61), each pair
flagged once when it is not finite (R462). -/
def pairProducts (f : Nat) (x y : Val) : List Val :=
  if f = 9 || f = 10 then
    match x, y with
    | .fin _ _, .fin _ _ =>
      let k := if f = 9 then 2 else 6
      let xs := pieces f x
      let ys := pieces f y
      (List.range (k + 1)).flatMap fun i => (List.range (k + 1 - i)).map fun j => mulVal (xs.getD i (.fin 0 0)) (ys.getD j (.fin 0 0))
    | a, b => [mulVal a b]
  else [mulVal x y]

/-! ### Ridges (R38, R39) -/

/-- An operand ridge from its source, clamped; and whether it was clamped (R38). -/
def clampRidge (f : Nat) (mx : Bool) (r : Int) : Int × Bool :=
  let top := if f = 9 || f = 10 then 255 else if mx then fmtEmax f true + 127 else fmtEmax f false
  if top < r then (top, true) else (r, false)

/-- The course ridge (R39). -/
def courseRidge (ra rb : Int) : Int := clampI (-512) 511 (ra + rb + 1)

/-! ### The single rounding (R48 to R52) -/

/-- Largest finite code of an output format. -/
def maxCode (f : Nat) : Nat :=
  match f with | 5 => 0x7E | 6 => 0x7B | 7 => 0x7F7F | 8 => 0x7BFF | _ => 0x7F7FFFFF

/-- Canonical NaN (Table 2.4). -/
def nanCode (f : Nat) : Nat :=
  match f with | 5 => 0x7F | 6 => 0x7E | 7 => 0x7FC0 | 8 => 0x7E00 | _ => 0x7FC00000

def signBit (f : Nat) (neg : Bool) : Nat := if neg then 2 ^ (fmtBits f - 1) else 0

def infCode (f : Nat) (neg : Bool) : Nat :=
  let (eb, m, _) := fmtParams f
  signBit f neg + (2 ^ eb - 1) * 2 ^ m

/-- mix of R50. -/
def mix (z : Nat) : Nat :=
  let z := (z ^^^ (z / 2 ^ 30)) * 0xBF58476D1CE4E5B9 % 2 ^ 64
  let z := (z ^^^ (z / 2 ^ 27)) * 0x94D049BB133111EB % 2 ^ 64
  z ^^^ (z / 2 ^ 31)

/-- The 32-bit value r of position-keyed stochastic rounding (R50). -/
def srValue (seed tensor elem : Nat) : Nat :=
  let gamma := 0x9E3779B97F4A7C15
  let k := mix ((seed + gamma) % 2 ^ 64)
  let k := mix (((k ^^^ tensor) + gamma) % 2 ^ 64)
  let k := mix (((k ^^^ (elem % 2 ^ 64)) + gamma) % 2 ^ 64)
  k / 2 ^ 32

/-- Whether the magnitude between `q` and `q + 1` units goes up: `rem / 2 ^ k` is the fraction (R49, R50). -/
def roundsUp (mode : Nat) (neg : Bool) (r32 q rem k : Nat) : Bool :=
  if rem = 0 then false
  else match mode with
    | 1 => false
    | 2 => !neg
    | 3 => neg
    | 4 =>
      if neg then !(decide (r32 < (2 ^ k - rem) * 2 ^ 32 / 2 ^ k)) else decide (r32 < rem * 2 ^ 32 / 2 ^ k)
    | _ => decide (2 ^ k < 2 * rem) || (2 * rem = 2 ^ k && q % 2 = 1)

/-- Units of the magnitude of n * 2 ^ e at 2 ^ u, rounded. -/
def roundMag (mode : Nat) (r32 : Nat) (n e u : Int) : Nat :=
  let a := n.natAbs
  if u ≤ e then a * 2 ^ (e - u).toNat
  else
    let k := (u - e).toNat
    let q := a / 2 ^ k
    let rem := a % 2 ^ k
    if roundsUp mode (decide (n < 0)) r32 q rem k then q + 1 else q

/-- The code on overflow (Table 2.11). -/
def overflowCode (f mode : Nat) (sat : Bool) (neg : Bool) : Nat :=
  let toMax := match mode with | 1 => true | 2 => neg | 3 => !neg | _ => false
  if toMax || (sat && (f = 5 || f = 6)) then signBit f neg + maxCode f
  else if f = 5 then nanCode 5
  else infCode f neg

/-- The code of the finite non-zero value n * 2 ^ e in output format `f` (R49 to R51). -/
def roundTo (f mode : Nat) (sat : Bool) (r32 : Nat) (n e : Int) : Nat :=
  if n = 0 then 0
  else
    let (_, m, bias) := fmtParams f
    let neg := decide (n < 0)
    let l := log2Val n e
    let u := max l (1 - bias) - m
    -- the largest finite magnitude in units of 2 ^ u
    let top : Val := decodeElem f false (maxCode f)
    let beyond : Bool := match top with
      | .fin tn te => decide (truncTo tn te (min te e) < truncTo (n.natAbs : Int) e (min te e))
      | _ => false
    let mode := if mode = 4 && beyond then 0 else mode
    let q := roundMag mode r32 n e u
    let tooBig : Bool := match top with
      | .fin tn te => decide (truncTo tn te (min te u) < truncTo (q : Int) u (min te u))
      | _ => false
    if tooBig then overflowCode f mode sat neg
    else if q = 0 then signBit f neg
    else
      let lq := Nat.log2 q
      if lq < m then signBit f neg + q
      else
        -- q is 2^m .. 2^(m+1): a carry to 2^(m+1) raises the exponent
        let ex := (u + m + bias + (lq - m : Nat)).toNat
        signBit f neg + ex * 2 ^ m + (q / 2 ^ (lq - m) - 2 ^ m)

/-- The code of a value that is not an MX element (R48): specials first, then the rounding. -/
def roundVal (f mode : Nat) (sat : Bool) (r32 : Nat) (x : Val) : Nat :=
  match x with
  | .nan => nanCode f
  | .inf neg =>
    if (f = 5 || f = 6) && sat then signBit f neg + maxCode f
    else if f = 5 then nanCode 5
    else infCode f neg
  | .fin n e => roundTo f mode sat r32 n e

/-- The exact value a gutter stands for, under ridge `r` (R48). -/
def gutterVal (r : Int) (g : Gutter) : Val :=
  if g.nan || (g.pinf && g.ninf) then .nan
  else if g.pinf then .inf false
  else if g.ninf then .inf true
  else .fin g.sum (r - 126)

/-- An MX block (R52): its scale byte and the codes of its elements. -/
def mxBlock (f mode : Nat) (xs : List (Val × Nat)) : Nat × List Nat :=
  let special := xs.any fun x => match x.1 with | .fin _ _ => false | _ => true
  if special then (0xFF, xs.map fun _ => nanCode f)
  else
    let logs := xs.filterMap fun x => match x.1 with | .fin n e => if n = 0 then none else some (log2Val n e) | _ => none
    let big := match logs with
      | [] => 0
      | l :: ls => clampI (-127) 127 (ls.foldl max l - fmtEmax f false)
    ((big + 127).toNat, xs.map fun x => match x.1 with | .fin n e => roundTo f mode true x.2 n (e - big) | _ => nanCode f)

/-! ### Ridge records (R44, R45) -/

/-- Fold one output value into a ridge record word. -/
def foldRidge (w : Nat) (x : Val) : Nat :=
  let rb := nbits w 0 10
  let fl := nbits w 16 3
  match x with
  | .nan => rb + (fl ||| 4) * 2 ^ 16
  | .inf _ => rb + (fl ||| 2) * 2 ^ 16
  | .fin n e => if n = 0 then rb + fl * 2 ^ 16 else max rb (clampI (-511) 511 (log2Val n e) + 512).toNat + (fl ||| 1) * 2 ^ 16

/-- The value that an output code has as written. -/
def outVal (f : Nat) (code : Nat) : Val := decodeElem f false code

end Sys2Proof.Machine
end

