-- ==== Sys2Proof/Machine/DevCache.lean ====
section
/-! DEFINITION. The device cache (09): its homes, its replacement, its lines and shingles. -/

namespace Sys2Proof.Machine

/-- The next unfenced slice at or above `h`, modulo 48, looking at `n` slices (R244). -/
def nextHome (s : State) (h : Nat) : Nat → Nat
  | 0 => h
  | n + 1 => if tget 0 s.coh.homeState (h % 48) = 2 then nextHome s (h + 1) n else h % 48

/-- The home slice that serves a granule: floor(PA / 256) mod 48, or its substitute (R220, R244). -/
def homeOf (s : State) (g : Nat) : Nat := nextHome s (g / 4 % 48) 48

def getTxn (s : State) (g : Nat) : Option Txn := tget none s.coh.txns g
def setTxn (g : Nat) (t : Option Txn) (s : State) : State := { s with coh.txns := tset none s.coh.txns g t }
/-! ### Replacement (R223) -/

/-- One step of the replacement LFSR. -/
def lfsrStep (v : Nat) : Nat :=
  let fb := b2n (xor (xor (nbit v 31) (nbit v 21)) (xor (nbit v 1) (nbit v 0)))
  (v * 2 + fb) % 2 ^ 32

/-- The LFSR `i` (0 lines, 1 directory) of slice `h`: h + 1 at reset (R223; the second: log 9). -/
def lfsrOf (s : State) (h i : Nat) : Nat :=
  let v := tget 0 s.coh.lfsr (2 * h + i)
  if v = 0 then h + 1 else v

/-- Step an LFSR and take way s[3:0]. -/
def stepWay (h i : Nat) (s : State) : Nat × State :=
  let v := lfsrStep (lfsrOf s h i)
  (v % 16, { s with coh.lfsr := tset 0 s.coh.lfsr (2 * h + i) v })

/-! ### The device cache (R221 to R228) -/

def setLine (l : Nat) (d : Option DevLine) (s : State) : State := { s with coh.dev := tset none s.coh.dev l d }

/-- A miss register holds the line (R227). -/
def lineMissing (s : State) (l : Nat) : Bool := s.coh.missing.any fun m => m.1 = l

/-- Set a granule's shingle in a held line; a line whose four shingles are I leaves, but for one that is being filled. A shingle
that becomes dirty is entered in the line record (R221). -/
def setShingle (g : Nat) (x : Shingle) (s : State) : State :=
  let s := if x = .i then { s with coh.through := s.coh.through.filter (· ≠ g) } else s
  match getLine s (g / 4) with
  | some d =>
    let sh := d.sh.set (g % 4) x
    let dirty := if (x = .d || x = .m) && !(nbit d.dirty (g % 4)) then d.dirty + 2 ^ (g % 4) else d.dirty
    setLine (g / 4) (if sh.all (· = Shingle.i) && !(lineMissing s (g / 4)) then none else some { d with sh := sh, dirty := dirty }) s
  | none => s

/-- Ask the host for a line or give one up (Table 9.9), with the bytes that the data names; an eviction is open until the host answers
it. -/
def d2h (g : Nat) (req : String) (data : Option Line) (mask : Word) (poison : Bool) (s : State) : State :=
  let p := hostPortOf s (g * 64)
  let s := { s with coh.sentOn := tset 0 s.coh.sentOn g p }
  let s := if req = "DirtyEvict" || req = "CleanEvictNoData" then { s with coh.evicting := s.coh.evicting ++ [(g, decide (req = "DirtyEvict"))] } else s
  portSend p (.d2h p (g * 64) req data mask poison) s

/-- Release one host shingle as Table 9.9 states. -/
def releaseShingle (g : Nat) (s : State) : State :=
  match shingleOf s g with
  | .m => setShingle g .i (d2h g "DirtyEvict" (some (lineAt s g)) fullMask (heldPoison s g) s)
  | .e => setShingle g .i (d2h g "CleanEvictNoData" none 0 false s)
  | .s => setShingle g .i (d2h g "CleanEvictNoData" none 0 false s)
  | _ => setShingle g .i s

/-- A shingle that RdOwn brought in for a CACHE 1 region is released once no near cache has a copy of it (R245; log 147). -/
def throughDone (g : Nat) (s : State) : State :=
  if s.coh.through.contains g && (getTxn s g).isNone && (getDir s g).st = .invalid then releaseShingle g s else s

/-- The near copies of a host granule come back to the device cache: a dirty one leaves its shingle M (R224, R246). -/
def recallNear (g : Nat) (s : State) : State :=
  let dirty := dirtyAbove s g
  let s := dropCopies g s
  if dirty && shingleOf s g ≠ .i then setShingle g .m s else s

/-- Evict a device-cache line (R224): a stack line's D shingles are written back and it is dropped; a host line's near copies are
recalled first and its shingles released. -/
def evictLine (l : Nat) (s : State) : State :=
  let gs := rangeFrom (4 * l) 4
  let s := if target (l * 256) = .host then gs.foldl (fun st g => releaseShingle g (recallNear g st)) s
    else if gs.any fun g => shingleOf s g = .d then touchStack (4 * l) s else s
  setLine l none s

/-- The lines held in a set. -/
def linesIn (s : State) (set : Nat) : List (Nat × Nat) :=
  s.coh.dev.filterMap fun kv => match kv.2 with
    | some d => if d.set = set then some (kv.1, d.way) else none
    | none => none

/-- The set of a line: of the sets that CACHE_STEPS × 64 MiB of 16-way lines make, the one that the part's own function picks
(R221). -/
def setOf (s : State) (l : Nat) : Nat := Config.setIndex s.mem.steps l % (16384 * s.mem.steps)

/-- A line is locked by a miss register or an open transaction (R223). -/
def lineLocked (s : State) (l : Nat) : Bool :=
  lineMissing s l || (rangeFrom (4 * l) 4).any fun g => (getTxn s g).isSome

/-- The first way, from `w` upward modulo 16, whose line is not locked. -/
def unlockedWay (s : State) (held : List (Nat × Nat)) (w : Nat) : Nat → Option Nat
  | 0 => none
  | n + 1 => match held.find? (fun x => x.2 = w % 16) with
    | some x => if lineLocked s x.1 then unlockedWay s held (w + 1) n else some (w % 16)
    | none => some (w % 16)

/-- Allocate a line: the lowest free way, else the LFSR's choice, evicting what it holds; none when every way is locked
or the cache allocates nothing (C = 0, or a split in progress, R154). -/
def allocLine (l keySlot : Nat) (s : State) : Option State :=
  if s.mem.steps = 0 || s.mem.inChange then none
  else
    let set := setOf s l
    let held := linesIn s set
    let fresh (w : Nat) (st : State) : State := setLine l (some ⟨keySlot, set, w, [.i, .i, .i, .i], 0⟩) st
    match (List.range 16).find? (fun w => !held.any fun x => x.2 = w) with
    | some w => some (fresh w s)
    | none =>
      let (w, s) := stepWay (homeOf s (4 * l)) 0 s
      match unlockedWay s held w 16 with
      | none => none
      | some w => match held.find? (fun x => x.2 = w) with
        | some x => some (fresh w (evictLine x.1 s))
        | none => some (fresh w s)

/-- The device cache's part in an access to a stack granule (R221, R224, R226): a hit under another key slot writes the
line back and fills it anew; a miss allocates unless CACHE is 2, and fills the whole line if it is to, but for a write of a whole
shingle, which fetches nothing; a write leaves D under CACHE 0 and V under CACHE 1. What comes from the stack or goes to it wakes the stack, and each granule that is
fetched meets its errors (R157, R163). -/
def stackLine (g keySlot cache : Nat) (write full : Bool) (s : State) : State :=
  let l := g / 4
  let s := match getLine s l with
    | some d => if d.keySlot ≠ keySlot && keySlot ≠ blockSlot then evictLine l s else s
    | none => s
  let fetch (st : State) : State := setShingle g .v (if write && full then st else touchStack g st)
  let fill (st : State) : State :=
    if obj st 0x3800 3 1 = 1 && !(write && full) then
      (rangeFrom (4 * l) 4).foldl (fun x k => if k = g || shingleOf x k ≠ .i then x else setShingle k .v (meetFlaw none 1 k x)) (fetch st)
    else fetch st
  let s := match getLine s l with
    | some _ =>
      if shingleOf s g = .i then (if cache = 2 then touchStack g s else fetch (count 0x3800 7 s))
      else count 0x3800 5 s
    | none =>
      if cache = 2 then touchStack g s
      else match allocLine l keySlot s with
        | some st => fill (count 0x3800 6 st)
        | none => touchStack g s
  let s := if write && cache = 1 then touchStack g s else s
  touch g (if write && cache = 0 && shingleOf s g ≠ .i then setShingle g .d s else s)

end Sys2Proof.Machine
end

