-- ==== Sys2Proof/Machine/Sync.lean ====
section
/-! DEFINITION. The sync unit (12): counters, watches, releases, notification records. The operations on counters and
watches are pure functions of the unit; what a release does elsewhere is owed to the end of the step. -/

namespace Sys2Proof.Machine

/-- The value of counter `c`. -/
def valueOf (u : SyncUnit) (c : Nat) : Nat := (tget 0 u.value c).toNat

/-- Store the value of a counter. -/
def setValue (c v : Nat) (u : SyncUnit) : SyncUnit := { u with value := tset 0 u.value c (BitVec.ofNat 32 v) }

def ctrlOf (u : SyncUnit) (c : Nat) : Word := tget 0 u.ctrl c

/-- R302: an operation on behalf of context `x` is accepted on counter `c`. -/
def boundTo (u : SyncUnit) (c x : Nat) : Bool := flag (ctrlOf u c) 0 && fld (ctrlOf u c) 20 12 = x

/-- Step 2 of R307: from the oldest, release consuming watches of counter `c` while the head's `n` is covered. The
result is the watches that stay, the value left, and the watches released, oldest first. -/
def consume (c : Nat) : List Watch → Nat → List Watch × Nat × List Watch
  | [], v => ([], v, [])
  | w :: ws, v =>
    if w.counter = c && w.consuming then
      if w.n ≤ v then
        let (k, v', r) := consume c ws (v - w.n)
        (k, v', w :: r)
      else (w :: ws, v, [])
    else
      let (k, v', r) := consume c ws v
      (w :: k, v', r)

/-- The observing watches of counter `c` that value `v` covers. -/
def observers (c v : Nat) (ws : List Watch) : List Watch := ws.filter fun w => w.counter = c && !w.consuming && w.n ≤ v

/-- SIGNAL(n) on counter `c` (R300, R307): none when it would pass 2^32 − 1; else the unit afterwards and the watches
released, observers first. -/
def signalUnit (c n : Nat) (u : SyncUnit) : Option (SyncUnit × List Watch) :=
  let v := valueOf u c + n
  if v ≤ 0xFFFFFFFF then
    let obs := observers c v u.watches
    let rest := u.watches.filter fun w => !(w.counter = c && !w.consuming && w.n ≤ v)
    let (stay, left, used) := consume c rest v
    some ({ setValue c left u with watches := stay }, obs ++ used)
  else none

/-- R308: the queue behind a consuming watch that left the head by timeout, cancellation or abort. -/
def releaseBehind (c : Nat) (u : SyncUnit) : SyncUnit × List Watch :=
  let (stay, left, used) := consume c u.watches (valueOf u c)
  ({ setValue c left u with watches := stay }, used)

/-- The first consuming watch of a counter. -/
def headOf (c : Nat) (ws : List Watch) : Option Watch := ws.find? fun w => w.counter = c && w.consuming

/-! ### Releases -/

/-- The release message of Table 12.6. -/
def releaseImage (s : State) (w : Watch) (outcome : Nat) (st : Status) (slot phase : Nat) : BitVec 128 :=
  BitVec.ofNat 128 (pack [(8, st.code), (2, 0), (1, phase), (3, outcome), (18, slot), (6, w.stream), (26, w.cookie), (64, s.aoncnt)])

/-- Queue a notification record for the host (R312). -/
def holdRecord (img : BitVec 128) (s : State) : State := { s with sync.held := s.sync.held ++ [img] }

/-- Tell a watch's destination of its release (Table 12.7): a core port by its event channel, the host by a notification
record, a queue and a step list by the work owed. -/
def deliver (outcome : Nat) (st : Status) (s : State) (w : Watch) : State :=
  match w.dest with
  | .core p => toCore p (.event 1 (releaseImage s w outcome st w.slot 0)) s
  | .host => holdRecord (releaseImage s { w with stream := 0 } outcome st w.slot 0) s
  | .queue _ => owe (.released ⟨w, outcome, st⟩) s
  | .ds _ => owe (.released ⟨w, outcome, st⟩) s

/-- Tell every released watch SATISFIED, with the counts of R309 and R317. -/
def deliverAll (ws : List Watch) (s : State) : State :=
  ws.foldl (fun st w =>
    let st := count 0x6800 0x08 st
    let st := if w.deadline = some st.aoncnt then count 0x6800 0x0A st else st
    deliver 0 .ok st w) s

/-- R301: an error of a counter operation. -/
def syncError (c x : Nat) (st : Status) (s : State) : State :=
  raise { cls := 0x0C, unit := 0x9000, ctx := some x, op := 8, status := st, detail := c } (count 0x6800 0x0B s)

/-- SIGNAL by the block itself, without the check of R302 (FRING_CTR, CQ_CTR, NRING_CTR). -/
def signalBlock (c n : Nat) (s : State) : State × Status :=
  match signalUnit c n s.sync with
  | none => (syncError c (fld (ctrlOf s.sync c) 20 12) .boundFault s, .boundFault)
  | some (u, rel) => (deliverAll rel (count 0x6800 0x06 { s with sync := u }), .ok)

/-- SIGNAL on behalf of context `x` (R300 to R302). -/
def signalFor (x c n : Nat) (s : State) : State × Status :=
  if n = 0 then (syncError c x .malformed s, .malformed)
  else if boundTo s.sync c x then
    match signalUnit c n s.sync with
    | none => (syncError c x .boundFault s, .boundFault)
    | some (u, rel) => (deliverAll rel (count 0x6800 0x06 { s with sync := u }), .ok)
  else (s, .rightsFault)

/-- TAKE on behalf of context `x`. -/
def takeFor (x c n : Nat) (s : State) : State × Status :=
  if n = 0 then (syncError c x .malformed s, .malformed)
  else if boundTo s.sync c x then
    if n ≤ valueOf s.sync c then (count 0x6800 0x07 { s with sync := setValue c (valueOf s.sync c - n) s.sync }, .ok)
    else (syncError c x .boundFault s, .boundFault)
  else (s, .rightsFault)

/-- How a WAIT ends at once, or the slot it registered. -/
inductive WaitResult where
  | satisfied
  | registered (slot : Nat)
  | refused (st : Status)
  deriving DecidableEq, Repr

/-- The lowest general slot that no watch holds (the choice among free slots is the model's: log 13). -/
def freeSlot (ws : List Watch) (n : Nat) : Option Nat :=
  (List.range (min n (ws.length + 1))).find? fun i => !ws.any fun w => w.slot = i

/-- The general slots that context `x` holds (R306). -/
def heldBy (ws : List Watch) (x : Nat) : Nat := (ws.filter fun w => w.ctx = x && w.slot < 229376).length

/-- WAIT on behalf of context `x` (R300, R306). `fixed` is the slot of a queue or of DS. -/
def waitFor (x c n : Nat) (observe : Bool) (timeout cookie stream : Nat) (dest : WatchDest) (fixed : Option Nat)
    (s : State) : State × WaitResult :=
  if n = 0 then (syncError c x .malformed s, .refused .malformed)
  else if !boundTo s.sync c x then (s, .refused .rightsFault)
  else
    let v := valueOf s.sync c
    if n ≤ v && (observe || (headOf c s.sync.watches).isNone) then
      (count 0x6800 0x08 { s with sync := if observe then s.sync else setValue c (v - n) s.sync }, .satisfied)
    else
      let slot := match fixed with
        | some k => some k
        | none => if heldBy s.sync.watches x < obj s 0x6800 5 16384 then freeSlot s.sync.watches 229376 else none
      match slot with
      | none => (count 0x6800 0x0C s, .refused .boundFault)
      | some k =>
        let w : Watch := ⟨k, c, n, !observe, if timeout = 0 then none else some (s.aoncnt + timeout), cookie, stream, dest, x⟩
        ({ s with sync.watches := s.sync.watches ++ [w] }, .registered k)

/-- Remove one watch and serve the queue behind it when it was the head of its counter's queue (R308). -/
def removeWatch (w : Watch) (s : State) : State :=
  let head := headOf w.counter s.sync.watches = some w
  let s := { s with sync.watches := s.sync.watches.erase w }
  if head then
    let (u, rel) := releaseBehind w.counter s.sync
    deliverAll rel { s with sync := u }
  else s

/-- How a CANCEL ends. -/
inductive CancelResult where
  | cancelled | already | refused
  deriving DecidableEq, Repr

/-- CANCEL of a slot and counter by context `x` (R310). -/
def cancelFor (x slot c : Nat) (s : State) : State × CancelResult :=
  if 229376 ≤ slot then (s, .refused)
  else match s.sync.watches.find? fun w => w.slot = slot && w.counter = c && w.ctx = x with
    | some w => (removeWatch w s, .cancelled)
    | none => (s, .already)

/-- The watches that `pick` names end together as ABORTED or TIMED_OUT, with a message each unless `silent` (R309, R315,
R316); then every counter whose head left serves the queue behind it (R308). -/
def endWatches (outcome : Nat) (st : Status) (silent : Bool) (pick : Watch → Bool) (s : State) : State :=
  let ws := s.sync.watches
  let gone := ws.filter pick
  let heads := ((gone.filter fun w => headOf w.counter ws = some w).map (·.counter)).eraseDups
  let s : State := { s with sync.watches := ws.filter fun w => !pick w }
  let s := if silent then s else gone.foldl (deliver outcome st) s
  heads.foldl (fun acc c => let (u, rel) := releaseBehind c acc.sync; deliverAll rel { acc with sync := u }) s

/-- A watch whose deadline tick has ended. -/
def overdue (s : State) (w : Watch) : Bool := match w.deadline with | none => false | some d => d ≤ s.aoncnt

/-- R309: at the end of a tick, every watch whose deadline has come ends TIMED_OUT. -/
def timeoutWatches (s : State) : State :=
  endWatches 1 .timeout false (overdue s) (countN 0x6800 0x09 (s.sync.watches.filter (overdue s)).length s)

/-! ### Notification records (R312) -/

/-- A RESULT record for a host request. -/
def resultRecord (cookie : Nat) (st : Status) (s : State) : State :=
  holdRecord (BitVec.ofNat 128 (pack [(8, st.code), (2, 0), (1, 0), (3, 3), (18, 0), (6, 0), (26, cookie), (64, s.aoncnt)])) s

/-- The held records that are RESULT records: 64 entries hold them (R312). -/
def heldResults (s : State) : Nat := (s.sync.held.filter fun r => fld r 11 3 = 3).length

/-- Write the oldest held record to the ring, when the ring can take it: the record, its read-back, NRING_PROD, the
signal and the MSI-X vector, in that order. -/
def writeNotification (s : State) : State :=
  let r := s.sync.nring
  match s.sync.held with
  | [] => s
  | img :: rest =>
    if ringReady s r then
      let img := BitVec.ofNat 128 (putBits img.toNat 10 1 (ringPhase r))
      let s := writeRecord (ringAddr r 16) (bytesOf 16 img) s
      let s := { s with sync.nring := ringBump r, sync.held := rest }
      let s := if nbit r.ctr 17 then (signalBlock (nbits r.ctr 0 17) 1 s).1 else s
      msix (nbits r.vec 0 11) s
    else s

end Sys2Proof.Machine
end

