-- ==== Sys2Proof/Machine/Trans.lean ====
section
/-! DEFINITION. The translation unit (07): address spaces, range tables, range TLBs, footprint checks, page-fault records
and invalidations. -/

namespace Sys2Proof.Machine

/-! ### Range entries (Table 7.4) -/

def reStart (e : BitVec 256) : Nat := fld e 212 44
def reLength (e : BitVec 256) : Nat := fld e 176 36
def rePbase (e : BitVec 256) : Nat := fld e 136 40
def reKeySlot (e : BitVec 256) : Nat := fld e 124 12
def reCache (e : BitVec 256) : Nat := fld e 14 2
def reEarly (e : BitVec 256) : Bool := flag e 13
def reFlushed (e : BitVec 256) : Bool := flag e 12
def reMigratable (e : BitVec 256) : Bool := flag e 11
def reRights (e : BitVec 256) : Nat := fld e 8 3
def rePresent (e : BitVec 256) : Bool := flag e 0

/-- The entry maps virtual page `p`. -/
def reMaps (e : BitVec 256) (p : Nat) : Bool := reStart e ≤ p && p < reStart e + reLength e

/-- PA of a virtual address that the entry maps (R169). -/
def rePa (e : BitVec 256) (va : Nat) : Nat := rePbase e * 4096 + (va - reStart e * 4096)

/-- R171: a malformed range entry. -/
def reMalformed (e : BitVec 256) : Bool :=
  !zeroFld e 96 28 || !zeroFld e 16 48 || !zeroFld e 1 7 || reLength e = 0 || reCache e = 3 ||
  2 ^ 44 < reStart e + reLength e ||
  (target (rePbase e * 4096) = .regs && reEarly e) ||
  (target (rePbase e * 4096) = .peer && 2 ^ 40 < peerOffsetOf (rePbase e * 4096) + reLength e * 4096)

/-! ### Address spaces (Table 7.1) -/

def getSpace (s : State) (a : Nat) : BitVec 128 := tget 0 s.tu.spaces a

/-- R166: the space translates: ENABLE is 1 and the entry is not malformed. -/
def spaceOn (e : BitVec 128) : Bool :=
  flag e 0 && fld e 2 2 ≠ 3 && fld e 60 4 = 0 && zeroFld e 64 64 && zeroFld e 4 16 && zeroFld e 1 1

def spaceTop (e : BitVec 128) : Nat := fld e 32 32 * 2 ^ 20
def spaceSlot (e : BitVec 128) : Nat := fld e 20 12

/-- Pages of a migration grain (R166): 1, 16 or 512. -/
def grainPages (e : BitVec 128) : Nat := match fld e 2 2 with | 0 => 1 | 1 => 16 | _ => 512

/-! ### Walks (R174) -/

/-- What a walk returns. -/
inductive WalkResult where
  | disabled
  | absent
  | badEntry
  | tableError (st : Status)
  | found (e : BitVec 256)
  deriving DecidableEq, Repr

/-- A walker's read of `n` bytes of a table under TABLE_SLOT: no binding check applies (R168). An address beyond the present size of
the stacks has no unit behind it, as an empty slot and a fenced channel have none: DEAD_TARGET (DESIGN CHOICE, log 160). -/
def tableRead (s : State) (slot pa n : Nat) : Nat ⊕ Status :=
  if !inMap s pa n || target pa ≠ .stacks then .inr .deadTarget
  else if (getSlot s slot).key = none || channelFenced s pa then .inr .deadTarget
  else if poisonAt s (pa / 64) then .inr .poisonConsumed
  else .inl (nbits (granuleData s 0 slot (pa / 64)).toNat (8 * (pa % 64)) (8 * n))

/-- The bisection of R174: the last entry probed whose START is at most the page, and the granules probed. In an unsorted or
overlapping array, where R170 does not define which entry a walk returns, this is the one of R174's own probes (DESIGN CHOICE, log 160). -/
def bisect (s : State) (slot array page : Nat) : Nat → Nat → Nat → Option (BitVec 256) → (Option (BitVec 256) ⊕ Status) × List Nat
  | 0, _, _, best => (.inl best, [])
  | fuel + 1, lo, hi, best =>
    if hi ≤ lo then (.inl best, [])
    else
      let mid := (lo + hi - 1) / 2
      let pa := array + 32 * mid
      match tableRead s slot pa 32 with
      | .inr st => (.inr st, [pa / 64])
      | .inl v =>
        let e := BitVec.ofNat 256 v
        let (r, gs) := if reStart e ≤ page then bisect s slot array page fuel (mid + 1) hi (some e)
          else bisect s slot array page fuel lo mid best
        (r, pa / 64 :: gs)

/-- The result that the entry found by a bisection gives. -/
def walkEnd (va : Nat) (r : Option (BitVec 256) ⊕ Status) : WalkResult :=
  match r with
  | .inr st => .tableError st
  | .inl none => .absent
  | .inl (some e) =>
    if !(reMaps e (va / 4096)) then .absent
    else if reMalformed e then .badEntry
    else if rePresent e then .found e
    else .absent

/-- A walk of `space` for `va` (R174), with the granules that it reads. -/
def walkReads (s : State) (space va : Nat) : WalkResult × List Nat :=
  let sp := getSpace s space
  if !spaceOn sp then (.disabled, [])
  else
    let top := spaceTop sp + 16 * (va / 2 ^ 40)
    match tableRead s (spaceSlot sp) top 16 with
    | .inr st => (.tableError st, [top / 64])
    | .inl t =>
      let array := nbits t 5 47 * 32
      let cnt := nbits t 96 20
      if nbits t 116 12 ≠ 0 || nbits t 52 44 ≠ 0 || nbits t 0 5 ≠ 0 || (cnt ≠ 0 && target array ≠ .stacks) then (.tableError .malformed, [top / 64])
      else
        let (r, gs) := bisect s (spaceSlot sp) array (va / 4096) 21 0 cnt none
        (walkEnd va r, top / 64 :: gs)

/-- What a walk of `space` for `va` returns. -/
def walk (s : State) (space va : Nat) : WalkResult := (walkReads s space va).1

/-- A walk's reads go through the device cache, under the slot TABLE_SLOT (R168). -/
def noteWalk (space va : Nat) (s : State) : State :=
  (walkReads s space va).2.foldl (fun st g => if inMap st (g * 64) 64 && target (g * 64) = .stacks then stackLine g (spaceSlot (getSpace s space)) 0 false false (meetFlaw none 6 g st) else st) s

/-! ### Range TLBs (R173) -/

/-- Capacity of a TLB: array 64, cluster 8,192, service 2,048. -/
def tlbSize (t : Nat) : Nat := if t < 192 then 64 else if t < 240 then 8192 else 2048

/-- Look an address up in the TLBs `ts`, in order: an entry serves the addresses of the top slot in whose array it was found (R170). -/
def tlbFind (s : State) (ts : List Nat) (space va : Nat) : Option (BitVec 256) :=
  ts.findSome? fun t => s.tu.tlb.findSome? fun x =>
    if x.tlb = t && x.space = space && x.top = va / 2 ^ 40 && reMaps x.entry (va / 4096) then some x.entry else none

/-- Put the entry found for `va` into each of the TLBs `ts`; the entry longest there leaves a full TLB (the choice is the model's:
log 14). -/
def tlbFill (ts : List Nat) (space va : Nat) (e : BitVec 256) (s : State) : State :=
  { s with tu.tlb := ts.foldl (fun l t =>
      let l := if (l.filter fun x => x.tlb = t).length < tlbSize t then l
               else match (l.filter fun x => x.tlb = t).getLast? with | some x => l.erase x | none => l
      ⟨t, space, va / 2 ^ 40, e⟩ :: l) s.tu.tlb }

/-- The TLBs an agent looks in: an array its own and its cluster's, a core port its cluster's, engines and DS the
service TLB (R173). -/
def tlbsOfArray (a : Nat) : List Nat := [a, 192 + a / 4]
def tlbsOfPort (p : Nat) : List Nat := [192 + p / 4]
def tlbsOfService : List Nat := [240]

/-- The walk of the space and top slot that is in flight (R175): its walker, or its place in the line of walks that wait for one. -/
def walkOf (s : State) (space va : Nat) : Option Nat :=
  s.tu.walks.findSome? fun kv => match kv.2 with | some j => if j.space = space && j.va / 2 ^ 40 = va / 2 ^ 40 then some kv.1 else none | none => none

/-- A walk of the space and top slot is in flight (R175). -/
def walkInFlight (s : State) (space va : Nat) : Bool := (walkOf s space va).isSome

/-- That walk has returned, and `va` is the address that it walked for. -/
def walkBack (s : State) (k va : Nat) : Bool :=
  match tget none s.tu.walks k with
  | some j => j.back && j.va / 4096 = va / 4096
  | none => false

/-- That walk has not returned. -/
def walkRuns (s : State) (k : Nat) : Bool := match tget none s.tu.walks k with | some j => !j.back | none => false

/-- A miss waits for the walk in flight (R175). -/
def joinWalk (k : Nat) (w : Waiter) (s : State) : State :=
  let join (j : WalkJob) : WalkJob := if j.misses.contains w then j else { j with misses := j.misses ++ [w] }
  { s with tu.walks := s.tu.walks.map fun kv => (kv.1, if kv.1 = k then kv.2.map join else kv.2) }

/-- The translation of one address. -/
inductive Looked where
  | is (r : WalkResult)
  | waits (walk : Nat)
  deriving DecidableEq, Repr

/-- The translation of one address: a TLB hit; a wait for the walk of its space and top slot in flight; or a walk of its own, which
fills the TLBs and is counted once (R175). The miss for which a walk ran takes that walk's result. -/
def lookup (ts : List Nat) (space va : Nat) (s : State) : Looked × State :=
  if !spaceOn (getSpace s space) then (.is .disabled, s)
  else match tlbFind s ts space va with
    | some e => (.is (.found e), s)
    | none =>
      let k := walkOf s space va
      match k.filter (walkRuns s) with
      | some k => (.waits k, s)
      | none =>
        let r := walk s space va
        let s := if k.any fun k => walkBack s k va then s else takeFree (count 0x5800 0x06 (noteWalk space va s))
        match r with
        | .found e => (.is r, tlbFill ts space va e s)
        | _ => (.is r, s)

/-! ### Footprint checks (R176, R177) -/

/-- Rights as bits: 1 READ, 2 WRITE, 4 ATOMIC, in the order of the entry's field. -/
def needR : Nat := 1
def needW : Nat := 2
def needRWA : Nat := 7

def hasRights (e : BitVec 256) (need : Nat) : Bool := need &&& reRights e = need

/-- A failing page: its kind, the entry's data it needs, and the status a FAIL gives (Table 7.6). -/
structure PageFault where
  kind : Nat
  va : Nat
  fail : Status
  paOld : Nat
  grainLo : Nat
  grainPages : Nat
  deriving DecidableEq, Repr

/-- What a check of one address finds. -/
inductive PageCheck where
  | good (e : BitVec 256)
  | off                          -- the space is disabled: XLATE_FAULT, no record
  | waits (walk : Nat)           -- a walk of its space and top slot is in flight
  | bad (f : PageFault)
  deriving DecidableEq, Repr

/-- The grain block of R184: GRAIN-aligned, clipped to its range entry; its first page and its length. -/
def grainBlock (sp : BitVec 128) (e : BitVec 256) (page : Nat) : Nat × Nat :=
  let n := grainPages sp
  let lo := max (page / n * n) (reStart e)
  let hi := min (page / n * n + n) (reStart e + reLength e)
  (lo, hi - lo)

/-- A record that blocks a page while its grain moves (R184). -/
def movingRec (s : State) (space page : Nat) : Option PfRec :=
  s.tu.recs.findSome? fun kv => match kv.2 with
    | some r => if r.space = space && r.moving.isSome && r.grainLo ≤ page && page < r.grainLo + r.grainPages then some r else none
    | none => none

/-- The first page from `page` on, before `hi`, at which a moving grain of the space begins, or `hi` (R184). -/
def movingFrom (s : State) (space page hi : Nat) : Nat :=
  s.tu.recs.foldl (fun m kv => match kv.2 with
    | some r => if r.space = space && r.moving.isSome && page < r.grainLo then min m r.grainLo else m
    | none => m) hi

/-- Check one address for rights; `migrates` for an array or a core port (Table 7.6). The record whose grain moves is looked for before
the space's own entry: an access to that grain attaches (R184 step 3) also while its space is disabled, where R166 gives XLATE_FAULT and no
record (DESIGN CHOICE, log 174). -/
def checkPage (ts : List Nat) (migrates : Bool) (space va need : Nat) (s : State) : PageCheck × State :=
  match movingRec s space (va / 4096) with
  | some r => (.bad ⟨2, va, .xlateFault, r.paOld, r.grainLo, r.grainPages⟩, s)
  | none =>
    let (r, s) := lookup ts space va s
    match r with
    | .waits k => (.waits k, s)
    | .is r => match r with
    | .disabled => (.off, s)
    | .absent => (.bad ⟨0, va, .xlateFault, 0, 0, 0⟩, s)
    | .badEntry => (.bad ⟨3, va, .malformed, 0, 0, 0⟩, s)
    | .tableError st => (.bad ⟨4, va, st, 0, 0, 0⟩, s)
    | .found e =>
      if !hasRights e need then (.bad ⟨1, va, .rightsFault, 0, 0, 0⟩, s)
      else if migrates && reMigratable e && target (rePbase e * 4096) = .host then
        let (lo, n) := grainBlock (getSpace s space) e (va / 4096)
        (.bad ⟨2, va, .xlateFault, rePa e (lo * 4096), lo, n⟩, s)
      else (.good e, s)

/-- One run of virtual addresses and the rights it needs. -/
structure Segment where
  va : Nat
  len : Nat
  need : Nat
  deriving DecidableEq, Repr

/-- The outcome of a footprint check. -/
inductive FootResult where
  | good (xs : List Extent)
  | off
  | waits (walk : Nat)
  | bad (f : PageFault)
  deriving DecidableEq, Repr

/-- Check one segment, range by range; the first failing page in address order ends it. A range is taken anew at each border of a top
slot (R170), and where a moving grain begins (R184). -/
def checkSegment (ts : List Nat) (migrates : Bool) (space : Nat) : Nat → Segment → State → FootResult × State
  | 0, _, s => (.good [], s)
  | fuel + 1, g, s =>
    if g.len = 0 then (.good [], s)
    else
      let (r, s) := checkPage ts migrates space g.va g.need s
      match r with
      | .off => (.off, s)
      | .waits k => (.waits k, s)
      | .bad f => (.bad f, s)
      | .good e =>
        let last := min (movingFrom s space (g.va / 4096) (reStart e + reLength e)) ((g.va / 2 ^ 40 + 1) * 2 ^ 28)
        let here := min g.len (last * 4096 - g.va)
        let x : Extent := ⟨g.va, rePa e g.va, here, reKeySlot e, reCache e, reEarly e, reFlushed e⟩
        match checkSegment ts migrates space fuel ⟨g.va + here, g.len - here, g.need⟩ s with
        | (.good xs, s) => (.good (x :: xs), s)
        | (r, s) => (r, s)

/-- Of two failing pages, the first in address order; of one page, RIGHTS goes before MIGRATE (R176, R177). -/
def firstFault (f g : PageFault) : PageFault :=
  if g.va / 4096 < f.va / 4096 || (g.va / 4096 = f.va / 4096 && f.kind = 2 && g.kind = 1) then g else f

/-- Check a whole footprint, segment by segment: it fails at its first failing page in address order (R176). -/
def checkFootprint (ts : List Nat) (migrates : Bool) (space : Nat) : List Segment → State → FootResult × State
  | [], s => (.good [], s)
  | g :: gs, s =>
    match checkSegment ts migrates space (g.len / 4096 + 2) g s with
    | (.good xs, s) => match checkFootprint ts migrates space gs s with
      | (.good ys, s) => (.good (xs ++ ys), s)
      | (r, s) => (r, s)
    | (.bad f, s) => match checkFootprint ts migrates space gs s with
      | (.bad g, s) => (.bad (firstFault f g), s)
      | (.waits k, s) => (.waits k, s)
      | (_, s) => (.bad f, s)
    | (.waits k, s) => (.waits k, s)
    | (.off, s) => (.off, s)

/-- The rights that a footprint needs on the page of an address, and its last byte (R176, R179). -/
def rightsAt (segs : List Segment) (va : Nat) : Nat :=
  segs.foldl (fun m g => if g.len ≠ 0 && va / 4096 * 4096 < g.va + g.len && g.va < va / 4096 * 4096 + 4096 then m ||| g.need else m) 0
def footLast (segs : List Segment) : Nat := segs.foldl (fun m g => max m (g.va + g.len - 1)) 0

/-! ### Page-fault records (R178 to R183) -/

/-- Whether a copy of a record is due. -/
def copyDue (s : State) (id : Nat) : Bool := s.tu.copies.any fun c => c.1 = id

/-- Put down a copy that falls due at a tick: copies stand in the order in which they fall due (R178). -/
def dueCopy (id due : Nat) : List (Nat × Nat) → List (Nat × Nat)
  | [] => [(id, due)]
  | c :: cs => if due < c.2 then (id, due) :: c :: cs else c :: dueCopy id due cs

def getRec (s : State) (id : Nat) : Option PfRec := tget none s.tu.recs id
def setRec (id : Nat) (r : Option PfRec) (s : State) : State := { s with tu.recs := tset none s.tu.recs id r }

/-- The pending record that a fault on a page joins: the record whose grain moves and holds the page (R184 step 3), else the same page or
a MIGRATE record whose grain holds it (R179). Where a page's own record and a MIGRATE record that does not move both qualify, the
first of them in the record table takes the fault (DESIGN CHOICE, log 174). -/
def joinable (s : State) (space page : Nat) : Option Nat :=
  let grain (r : PfRec) : Bool := r.kind = 2 && r.grainLo ≤ page && page < r.grainLo + r.grainPages
  let joins (p : PfRec → Bool) : Option Nat := s.tu.recs.findSome? fun kv => match kv.2 with
    | some r => if r.space = space && p r then some kv.1 else none
    | none => none
  match joins fun r => r.moving.isSome && grain r with
  | some id => some id
  | none => joins fun r => r.va / 4096 = page || grain r

/-- Put new bits that the last copy does not show down for a further copy, five ticks on (R180). -/
def scheduleUpdate (id : Nat) (r : PfRec) (s : State) : State :=
  if r.written && !copyDue s id && (r.mask ≠ r.shownMask || r.need ≠ r.shownNeed) then
    { s with tu.copies := dueCopy id (s.aoncnt + 5) s.tu.copies }
  else s

/-- Raise a record for a failing page, or attach to one that is pending (R177 to R180). The answer is the record, or none while 4,096
are pending: the operation then waits until one is freed (R178). -/
def raisePage (w : Waiter) (bit unit ctx space : Nat) (f : PageFault) (footEnd need : Nat) (s : State) : Option Nat × State :=
  match joinable s space (f.va / 4096) with
  | some id =>
    match getRec s id with
    | none => (none, s)
    | some r =>
      let r := { r with mask := r.mask ||| 2 ^ bit, count := r.count + 1, need := r.need ||| need, waiters := r.waiters ++ [w] }
      (some id, scheduleUpdate id r (count 0x5800 0x08 (setRec id (some r) s)))
  | none =>
    match tfree none s.tu.recs 0 4096 with
    | none => (none, { s with tu.starved := s.tu.starved ++ [w] })
    | some id =>
      let r : PfRec := ⟨space, f.kind, s.aoncnt, 2 ^ bit, 1, need, f.va, footEnd, f.paOld, ctx, unit, false, 0, f.fail, [w],
        f.grainLo, f.grainPages, none, 0, 0, false, obj s 0x5800 5 500000000, []⟩
      (some id, count 0x5800 0x07 { setRec id (some r) s with tu.copies := dueCopy id (s.aoncnt + 5) s.tu.copies })

/-- The image of a page-fault record (Table 7.7). -/
def pfImage (r : PfRec) (id phase : Nat) : BitVec 512 :=
  let state := if r.copied then 1 else if r.written then 2 else 0
  BitVec.ofNat 512 (pack [(4, 0), (4, state), (4, r.kind), (1, r.need), (1, r.need / 2), (1, r.need / 4), (1, phase),
    (112, 0), (8, r.copyStatus), (12, id), (16, r.unit), (12, r.ctx), (12, r.space), (52, r.paOld), (56, r.footEnd),
    (56, r.va), (32, r.count), (64, r.mask), (64, r.raised)])

/-- Write the copy that fell due first, once the ring can take it (R178). -/
def writePfCopy (s : State) : State :=
  match s.tu.copies with
  | [] => s
  | (id, due) :: rest =>
    if due ≤ s.aoncnt && ringReady s s.tu.fring then
      match getRec s id with
      | none => { s with tu.copies := rest }
      | some r =>
        let s := writeRecord (ringAddr s.tu.fring 64) (bytesOf 64 (pfImage r id (ringPhase s.tu.fring))) s
        let s := setRec id (some { r with written := true, shownMask := r.mask, shownNeed := r.need }) s
        let s := { s with tu.copies := rest, tu.fring := ringBump s.tu.fring }
        (signalBlock (nbits s.tu.fring.ctr 0 17) 1 s).1
    else s

/-- What the spec gives no number: an operation waits for a walk in flight (R175), or for a free record (R178). -/
def noRecord : Nat := 4096

/-- An operation whose check did not pass waits: on a record, on a walk, or for a free record (R175, R177, R178). -/
def waitsPage (w : Waiter) (bit unit ctx space : Nat) (segs : List Segment) (r : FootResult) (s : State) : Nat × State :=
  match r with
  | .bad f =>
    let (id, s) := raisePage w bit unit ctx space f (footLast segs) (rightsAt segs f.va) s
    (id.getD noRecord, s)
  | .waits k => (noRecord, joinWalk k w s)
  | _ => (noRecord, s)

/-- The operation still waits on the record: it has not left it by a pre-emption, a kill or an abort (R179). -/
def attached (s : State) (id : Nat) (w : Waiter) : Bool :=
  match w with
  | .portOp p i => (getPort s p).ops.any fun o => o.id = i && o.phase = .fault id
  | .array a i => (tget {} s.arrays.arr a).courses.any fun c => c.id = i && (c.stage = .fault id true || c.stage = .fault id false)
  | .queueCmd q i => (getQueue s q).cmds.any fun c => c.idx = i && c.waitRec = some id
  | .ds c => (tget {} s.sched.steps c).waitRec = some id

/-- An operation leaves its record, which stays pending (R179). -/
def leaveRecs (w : Waiter) (s : State) : State :=
  { s with tu.recs := s.tu.recs.map fun kv => (kv.1, kv.2.map fun r => { r with waiters := r.waiters.filter fun x => x ≠ w })
           tu.starved := s.tu.starved.filter fun x => x ≠ w }

/-- Free a record: the waiters still attached go on as `f` says, in the order in which they attached (R182), and the operations that
waited for a free record look again (R178). A copy of the record that is due and not yet written is written no more (DESIGN CHOICE,
log 160). -/
def freeRec (id : Nat) (f : Waiter → Act) (s : State) : State :=
  match getRec s id with
  | none => s
  | some r =>
    let s1 := (r.waiters.filter (attached s id)).foldl (fun st w => owe (f w) st)
      { setRec id none s with tu.copies := s.tu.copies.filter fun c => c.1 ≠ id }
    s1.tu.starved.foldl (fun st w => owe (.retryOp w) st) { s1 with tu.starved := [] }

/-- The record that a RESOLVE names, when it is pending with the same SPACE and page (R182). -/
def resolvable (s : State) (raw : BitVec 128) : Option (Nat × PfRec) :=
  let id := fld raw 8 12
  match getRec s id with
  | some r => if r.space = fld raw 20 12 && r.va / 4096 = fld raw 44 44 then some (id, r) else none
  | none => none

/-- RETRY: free the record; every waiter re-checks its whole footprint. -/
def resolveRetry (raw : BitVec 128) (s : State) : State :=
  match resolvable s raw with
  | some (id, _) => freeRec id .retryOp s
  | none => count 0x5800 0x0C s

/-- FAIL: free the record; every waiter completes with the status of Table 7.6. -/
def resolveFail (raw : BitVec 128) (s : State) : State :=
  match resolvable s raw with
  | some (id, r) => freeRec id (fun w => .failOp w r.failStatus) s
  | none => count 0x5800 0x0C s

/-- R183: a record still pending at its limit is resolved as FAIL. -/
def pfTimedOut (s : State) (id : Nat) : Bool :=
  match getRec s id with
  | none => false
  | some r => r.timeout ≠ 0 && r.raised + r.timeout ≤ s.aoncnt

/-! ### Invalidation (R185 to R187, Table 7.9) -/

def invForce (c : BitVec 128) : Bool := flag c 0
def invAll (c : BitVec 128) : Bool := flag c 1
def invEvery (c : BitVec 128) : Bool := flag c 2
def invSpace (c : BitVec 128) : Nat := fld c 36 12
def invStart (c : BitVec 128) : Nat := fld c 84 44
def invLength (c : BitVec 128) : Nat := fld c 48 36

/-- R186: a malformed invalidation. INVAL is a register, so that its RSVD bits are ignored (R5). -/
def invMalformed (c : BitVec 128) : Bool :=
  (invEvery c && !invAll c) ||
  (invAll c && (invStart c ≠ 0 || invLength c ≠ 0)) || (invEvery c && invSpace c ≠ 0)

/-- The command covers pages `lo .. lo + n - 1` of a space. -/
def invCovers (c : BitVec 128) (space lo n : Nat) : Bool :=
  invEvery c || (invSpace c = space && (invAll c || (invStart c < lo + n && lo < invStart c + invLength c)))

/-- An operation's translations are checked afresh: the invalidations and migrations in progress no longer
wait for it. -/
def dropHolder (w : Waiter) (s : State) : State :=
  { s with tu.invals := s.tu.invals.map fun i => { i with holders := i.holders.filter fun x => x ≠ w }
           tu.recs := s.tu.recs.map fun kv => (kv.1, kv.2.map fun r => { r with drain := r.drain.filter fun x => x ≠ w }) }

/-- Remove from the TLBs every entry that the command covers; restart the walks it overlaps (R186). -/
def invApply (c : BitVec 128) (s : State) : State :=
  { s with tu.tlb := s.tu.tlb.filter fun x => !invCovers c x.space (reStart x.entry) (reLength x.entry) }

end Sys2Proof.Machine
end

