-- ==== Sys2Proof/Machine/Coh.lean ====
section
/-! DEFINITION. Near caches, home slices, directory and device cache (09). States, messages and transactions are modelled;
the data of every copy is the granule's one coherent value (log 11). -/

namespace Sys2Proof.Machine

/-! ### Homes and holders -/

/-- The agent in whose name a home clears the way for an access of an array, a copy engine or DS, which keep no copy and have no
identifier in Table 0.8: no message bears it (log 164). -/
def bulkAgent : Nat := 0x100

/-- A peer proxy or the host proxy: never answered RETRY (R234). -/
def isProxy (agent : Nat) : Bool := 0xF0 ≤ agent && agent ≤ 0xFC

def sendMsg (m : Msg) (s : State) : State := { s with coh.fabric := s.coh.fabric ++ [m] }
def takeMsg (m : Msg) (s : State) : State := { s with coh.fabric := s.coh.fabric.erase m }

/-! ### Lost lines (R243) -/

/-- Write a lost-line record, or count it in LOST_OVERFLOW while the ring is full. -/
def lostLine (g agent cause : Nat) (s : State) : State :=
  if subMod 32 s.coh.lostProduced (obj s 0x3800 0x14 0) = 4096 then count 0x3800 0x15 s
  else
    let img := BitVec.ofNat 128 (pack [(8, 0), (2, cause), (8, agent), (46, g), (64, s.aoncnt)])
    { s with coh.lost := tset 0 s.coh.lost (s.coh.lostProduced % 4096) img
             coh.lostProduced := (s.coh.lostProduced + 1) % 2 ^ 32 }

/-! ### Transactions (R232, R233) -/

/-- Count and send a RETRY (R234). -/
def sendRetry (r : CohReq) (s : State) : State :=
  sendMsg (.retry r.agent (r.pa / 64) r.retry.val)
    (count (0x3801 + homeOf s (r.pa / 64)) 6 (count 0x3800 9 s))

/-- Send one snoop to a holder: a message to a near cache, a back-invalidate snoop to the host proxy (Table 9.11). -/
def sendSnoop (k : SnpKind) (g requester : Nat) (s : State) (holder : Nat) : State :=
  if isNear holder then sendMsg (.snoop k holder g requester) s
  else
    let name := match k with
      | .fwdS => "BISnpData" | .getS => "BISnpData"
      | .fwdX => "BISnpInv" | .getI => "BISnpInv" | .inv => "BISnpInv"
      | .cur => "BISnpCur"
    count 0x5000 3 (modHost (hostPortOf s (g * 64)) (fun h => { h with bisnp := h.bisnp ++ [(g, k)] })
      (portSend (hostPortOf s (g * 64)) (.biSnoop (hostPortOf s (g * 64)) (g * 64) name) s))

/-- Add a holder to a directory entry: it gets F, and a fifth holder makes BROADCAST, which drops pointers and F. -/
def addHolder (e : DirEntry) (r : Nat) (withF : Bool) : DirEntry :=
  if e.ptrs.contains r then { e with st := .shared, f := if withF then some r else e.f }
  else if e.ptrs.length < 4 then ⟨.shared, e.ptrs ++ [r], if withF then some r else e.f⟩
  else ⟨.broadcast, [], none⟩

/-- The agents asked in an invalidation round (R236): every near cache not fenced and, for a stack line, the host. -/
def roundAgents (s : State) (g r : Nat) : List Nat :=
  ((List.range 192).filter fun p => p ≠ r && !(getPort s p).nearFenced) ++
  (if target (g * 64) = .stacks && proxyAlive s && r ≠ hostProxy then [hostProxy] else [])

/-- The directory set of a granule in its slice: one of 4,096, that the part's own function picks (R235). -/
def dirSetOf (g : Nat) : Nat := Config.dirSet g % 4096

/-- The granules whose entries fill the directory set of `g`. -/
def dirUsed (s : State) (g : Nat) : List Nat :=
  s.coh.dir.filterMap fun kv => if homeOf s kv.1 = homeOf s g && dirSetOf kv.1 = dirSetOf g then some kv.1 else none

/-- The granule has no entry, and the 16 of its set are in use (R237). -/
def dirFull (s : State) (g : Nat) : Bool := (getDir s g).st = .invalid && 16 ≤ (dirUsed s g).length

/-- Every copy of the granule is being recalled. -/
def recalling (s : State) (g : Nat) : Bool := match getTxn s g with | some t => t.form = .recall | none => false

/-- A new entry must wait: an eviction is under way in its full set, or every entry of the set has an open transaction (R234, R237). -/
def dirBlocked (s : State) (g : Nat) : Bool :=
  dirFull s g && ((dirUsed s g).any (recalling s) || (dirUsed s g).all fun x => (getTxn s x).isSome)

/-- The host-line request that a home needs before it can act (Table 9.9), or none when the shingle suffices. -/
def hostNeed (s : State) (k : CohKind) (g cache : Nat) (full : Bool) : Option String :=
  let sh := shingleOf s g
  let owned := sh = .e || sh = .m
  match k with
  | .rdS => if sh = .i then some "RdShared" else none
  | .rdX => if owned then none else some "RdOwn"
  | .upg => if owned then none else some "RdOwn"
  | .rdNc => if sh = .i then (if cache = 2 then some "RdCurr" else some "RdShared") else none
  | .wrNc => if owned then none
      else if cache = 0 then (if full then some "RdOwnNoData" else some "RdOwn")
      else (if full then some "ItoMWr" else some "WOWrInv")
  | .atomH => if owned then none else some "RdOwn"
  | .zeroL => if owned then none else if cache = 0 then some "RdOwnNoData" else some "ItoMWr"

/-- The near-cache line's grant when the home supplies from memory: a host shingle held S grants no ownership (R246;
DEDUCED, log 15). -/
def memGrant (s : State) (g : Nat) (x : Grant) : Grant :=
  if target (g * 64) = .host && shingleOf s g = .s && (x = .e || x = .m) then .f else x

/-- Data to a requester from memory, as context and key slot see it. A fill of a near line is no read by the context:
the port counts the reads that use the line (R150). -/
def sendData (r : CohReq) (x : Grant) (s : State) : State :=
  let g := r.pa / 64
  let s := if isProxy r.agent then softAccess (64 * g) 64 false s else s
  (if x = .none then noteRead r.ctx r.keySlot g else touch g)
    (sendMsg (.data r.agent g x (granuleData s r.ctx r.keySlot g) (granulePoison s r.ctx g) false) s)

/-- Close a granule's transaction. A home slice that is being fenced looks whether its work has moved (R244). -/
def endTxn (g : Nat) (s : State) : State :=
  let s := if s.coh.homeState.any (fun kv => kv.2 = 1) then owe .homesMove s else s
  throughDone g (setTxn g none s)

/-- A requester that keeps a copy answers DONE; for the others the transaction ends with the home's message (R232). -/
def openUntilDone (t : Txn) (s : State) : State :=
  let g := t.req.pa / 64
  if isNear t.req.agent && (t.kind = .rdS || t.kind = .rdX || t.kind = .upg) then
    setTxn g (some { t with asked := [], fwd := none, wbWait := none, memWait := false, doneWait := true }) s
  else endTxn g s

/-- The granules that a request works on: a zeroed line has four (R225). -/
def reqGranules (k : CohKind) (g : Nat) : List Nat := if k = .zeroL then rangeFrom (g / 4 * 4) 4 else [g]

/-! ### Atomics (Table 8.8) -/

/-- A value of `bits` bits as a signed number. -/
def signedOf (bits v : Nat) : Int := if v < 2 ^ (bits - 1) then (v : Int) else (v : Int) - 2 ^ bits

/-- The new value of an atomic of `bits` bits: old value, operand and compare value. -/
def atomicNew (aop bits old arg cmp : Nat) : Nat :=
  match aop with
  | 0 => arg
  | 1 => if old = cmp then arg else old
  | 2 => (old + arg) % 2 ^ bits
  | 3 => old &&& arg
  | 4 => old ||| arg
  | 5 => old ^^^ arg
  | 6 => if signedOf bits old < signedOf bits arg then arg else old
  | 7 => if signedOf bits arg < signedOf bits old then arg else old
  | 8 => max old arg
  | _ => min old arg

/-- The new granule data of an atomic of `size` bytes at byte `o`: the operand stands at its bytes, a CAS's compare value
at the same offsets in the other 32-byte half. -/
def atomicLine (aop size o : Nat) (old data : Line) : Line :=
  let v := nbits old.toNat (8 * o) (8 * size)
  let arg := nbits data.toNat (8 * o) (8 * size)
  let cmp := nbits data.toNat (8 * (o ^^^ 32)) (8 * size)
  BitVec.ofNat 512 (atomicNew aop (8 * size) v arg cmp * 2 ^ (8 * o))

/-- Apply a write, an atomic or a zeroed line at memory, and say so with CMP (R233). A poisoned granule makes an atomic
change nothing and answer poison (R346). -/
def applyAtMemory (t : Txn) (s : State) : State :=
  let r := t.req
  let g := r.pa / 64
  let old := granuleData s r.ctx r.keySlot g
  let s := match t.kind with
    | .zeroL => softAccess (r.pa / 256 * 256) 256 true s
    | .atomH => softAccess r.pa t.size true s
    | _ => softMask g t.data.mask s
  let full := t.kind = .zeroL || (t.kind = .wrNc && t.data.mask = fullMask)
  let s := (reqGranules t.kind g).foldl (fun st x => if t.kind = .atomH then meetFlaw (some r.ctx) 3 x st else meetWrite (some r.ctx) x full st) s
  let s := if target r.pa = .stacks then (reqGranules t.kind g).foldl (fun st x => stackLine x r.keySlot r.cache true full st) s else s
  match t.kind with
  | .atomH =>
    if granulePoison s r.ctx g then sendMsg (.cmp r.agent g 0 true) s
    else
      let new := atomicLine t.aop t.size (r.pa % 64) old t.data.data
      sendMsg (.cmp r.agent g old false) (writeGranule r.ctx r.keySlot g new (maskOf (r.pa % 64) t.size) false (noteRead r.ctx r.keySlot g s))
  | .zeroL =>
    let gs := rangeFrom (g / 4 * 4) 4
    sendMsg (.cmp r.agent g 0 false) (gs.foldl (fun st k =>
      writeGranule r.ctx r.keySlot k 0 fullMask false (touch k (if k = g then st else dropCopies k st))) s)
  | _ => sendMsg (.cmp r.agent g 0 false) (writeGranule r.ctx r.keySlot g t.data.data t.data.mask t.data.poison (touch g s))

/-- A write of the bytes that the mask names, whose data the home holds, leaves a host granule M where the device cache owns it; else the
data goes to the host, as in answer to ItoMWr or WOWrInv (Table 9.3). -/
def hostTakes (mask : Word) (s : State) (g : Nat) : State :=
  let sh := shingleOf s g
  if sh = .e || sh = .m then setShingle g .m s
  else portSend (hostPortOf s (g * 64)) (.d2h (hostPortOf s (g * 64)) (g * 64) "Data" (some (lineAt s g)) mask (heldPoison s g)) (setShingle g .i s)

/-- A write at a host line leaves its shingles as Table 9.3 states. An atomic whose granule the device cache may not hold gives the line
that RdOwn brought back at once (Tables 9.1, 9.9; DESIGN CHOICE, log 171). -/
def hostWritten (t : Txn) (s : State) : State :=
  if target t.req.pa = .host then (reqGranules t.kind (t.req.pa / 64)).foldl (fun st g =>
    if t.kind = .atomH && shingleOf st g = .i then d2h g "DirtyEvict" (some (lineAt st g)) fullMask (heldPoison st g) st
    else if t.req.cache = 0 || t.kind = .atomH then hostTakes (if t.kind = .wrNc then t.data.mask else fullMask) st g
    else if shingleOf st g = .e || shingleOf st g = .m then setShingle g .m st
    else setShingle g .i st) s
  else s

/-! ### Requests that wait (R234) -/

/-- A request waits at the home: aged, or of a proxy (R234). -/
def queueRequest (q : Queued) (s : State) : State := { s with coh.queued := s.coh.queued ++ [q] }

/-- The request is aged: it was retried often enough, or R212 ages it. -/
def isAged (r : CohReq) : Bool := !(isProxy r.agent) && (r.aged || 9 ≤ r.retry.val)

/-- A request that can allocate a device-cache line (Table 9.3). -/
def mayAlloc (k : CohKind) (r : CohReq) : Bool :=
  r.cache ≠ 2 && (match target r.pa with
    | .stacks => true
    | .host => !((k = .wrNc || k = .zeroL) && r.cache = 1)
    | _ => false)

/-- A miss would allocate a line, and every way of its set is locked (R223). -/
def waysLocked (s : State) (g : Nat) : Bool :=
  let l := g / 4
  s.mem.steps ≠ 0 && !s.mem.inChange && (getLine s l).isNone &&
  (let held := linesIn s (setOf s l)
   ((List.range 16).all fun w => held.any fun x => x.2 = w) && (unlockedWay s held 0 16).isNone)

/-- The home's answer to the request comes from memory, not from a holder (Table 9.5). -/
def fromMemory (s : State) (k : CohKind) (r : CohReq) : Bool :=
  let e := getDir s (r.pa / 64)
  let others := e.ptrs.any (· ≠ r.agent)
  match k with
  | .rdS => match e.st with
    | .shared => (match e.f with | some f => f = r.agent || !(isNear f) | none => true)
    | .exclusive => !others
    | _ => true
  | .rdX => match e.st with
    | .shared => (match e.f with | some f => f = r.agent || !(isNear f) | none => true)
    | .exclusive => !others
    | _ => true
  | .upg => match e.st with
    | .shared => !(e.ptrs.contains r.agent) && (match e.f with | some f => !(isNear f) | none => true)
    | .exclusive => !others
    | .broadcast => false
    | .invalid => true
  | .rdNc => e.st ≠ .exclusive
  | _ => true

/-- The request needs a directory entry (R237). -/
def needsEntry (k : CohKind) (form : TxnForm) : Bool := form = .plain && (k = .rdS || k = .rdX || k = .upg)

/-- Take the host out of a granule's directory entry. -/
def dropHost (g : Nat) (s : State) : State :=
  let e := getDir s g
  match e.st with
  | .broadcast => s
  | _ =>
    let ptrs := e.ptrs.erase hostProxy
    setDir g (if ptrs.isEmpty then {} else { e with ptrs := ptrs }) s

/-- Answer a host snoop of a granule as Table 9.10 states for its shingle. -/
def snoopAnswer (p g : Nat) (kind : SnpKind) (s : State) : State :=
  let pa := g * 64
  let say (rsp : String) (d : Option Line) (st : State) : State :=
    portSend p (.snoopRsp p pa rsp d (d.isSome && heldPoison s g)) (count 0x5000 2 st)
  let data := some (lineAt s g)
  match kind, shingleOf s g with
  | .getI, .m => say "RspIFwdM" data (setShingle g .i s)
  | .getI, .e => say "RspIHitSE" none (setShingle g .i s)
  | .getI, .s => say "RspIHitSE" none (setShingle g .i s)
  | .cur, .m => say "RspVFwdV" data s
  | .cur, .e => say "RspVHitV" none s
  | .cur, .s => say "RspVHitV" none s
  | .getS, .m => say "RspSFwdM" data (setShingle g .s s)
  | .getS, .e => say "RspSHitSE" none (setShingle g .s s)
  | .getS, .s => say "RspSHitSE" none s
  | _, _ => say "RspIHitI" none s

/-- The near cache that asked to keep the granule died meanwhile (R241): the directory does not name it. A line that its holder had
forwarded to it with ownership is lost (R242). -/
def deadEnds (t : Txn) (s : State) : State :=
  let g := t.req.pa / 64
  let e := getDir s g
  endTxn g (match t.kind with
    | .rdS => setDir g (if e.ptrs.isEmpty && e.st ≠ .broadcast then {} else if e.st = .exclusive then ⟨.shared, e.ptrs, none⟩ else e) s
    | _ => setDir g {} (if t.fwd.isSome then lostLine g t.req.agent 0 { s with mem.poison := tset false s.mem.poison g true } else s))

/-- The request is of a dead near cache that meant to keep the granule. -/
def ofDead (s : State) (t : Txn) : Bool :=
  isNear t.req.agent && (getPort s t.req.agent).nearFenced && (t.kind = .rdS || t.kind = .rdX || t.kind = .upg)

/-- Every way is locked when the home comes to fill: the request receives RETRY, or waits (R223). -/
def turnedAway (t : Txn) (s : State) : State :=
  let g := t.req.pa / 64
  let s := setTxn g none (if t.kind = .rdS || t.kind = .rdNc then s else setDir g {} s)
  if isProxy t.req.agent || isAged t.req then queueRequest ⟨t.kind, t.req, t.data, t.aop, t.size, isProxy t.req.agent, t.form⟩ s
  else sendRetry t.req s

/-- The home has every answer it needs: finish a request of Table 9.4 from the directory as it stands (Table 9.5). -/
def finishPlain (t : Txn) (s : State) : State :=
  let r := t.req
  let g := r.pa / 64
  let e := getDir s g
  let grants := t.kind = .upg && (e.st = .broadcast || e.ptrs.contains r.agent || !isNear r.agent)
  let reads := (t.kind = .rdS || t.kind = .rdX || t.kind = .rdNc || t.kind = .upg) && !grants
  if ofDead s t then deadEnds t s
  else if target r.pa = .stacks && r.cache ≠ 2 && !grants && waysLocked s g then turnedAway t s
  else
    let s := if reads then meetFlaw (some r.ctx) 1 g s else s
    let s := if reads && target r.pa = .stacks then stackLine g r.keySlot r.cache false false s else s
    match t.kind with
    | .rdS => match e.st with
      | .invalid =>
        let x := if isNear r.agent then memGrant s g .e else .s
        openUntilDone t (setDir g (if x = .e then ⟨.exclusive, [r.agent], none⟩ else ⟨.shared, [r.agent], if isNear r.agent then some r.agent else none⟩)
          (sendData r x s))
      | .broadcast => openUntilDone t (sendData r .s s)
      | _ =>
        let e' := addHolder { e with st := .shared, f := none } r.agent (isNear r.agent)
        openUntilDone t (setDir g e' (sendData r (if isNear r.agent then .f else .s) s))
    | .rdX => openUntilDone t (setDir g ⟨.exclusive, [r.agent], none⟩ (sendData r .e s))
    | .upg =>
      if grants then openUntilDone t (setDir g ⟨.exclusive, [r.agent], none⟩ (sendMsg (.gntX r.agent g) s))
      else openUntilDone t (setDir g ⟨.exclusive, [r.agent], none⟩ (sendData r .e s))
    | .rdNc => openUntilDone t (sendData r .none s)
    | _ => openUntilDone t (hostWritten t (setDir g {} (applyAtMemory t s)))

/-- A transaction has every answer it needs: it does what it is for. -/
def finishTxn (t : Txn) (s : State) : State :=
  let g := t.req.pa / 64
  match t.form with
  | .plain => finishPlain t s
  | .keeps => endTxn g (applyAtMemory t s)
  | .release => endTxn g (sendMsg (.cmp hostProxy g 0 false) (dropHost g s))
  | .snoop k p =>
    let e := getDir s g
    let s := match k with
      | .getI => setDir g {} s
      | .getS => if e.st = .exclusive then setDir g ⟨.shared, e.ptrs, none⟩ s else s
      | _ => s
    endTxn g (snoopAnswer p g k s)
  | .bulk =>
    let s := if t.kind = .rdNc then s else setDir g {} s
    setTxn g none { s with coh.fresh := s.coh.fresh ++ [g] }
  | .recall => endTxn g (setDir g {} s)

/-- The forwarding holder has sent the line to the requester: the directory becomes what Table 9.5 states; the host never gets F
(Table 9.11). -/
def finishForwarded (t : Txn) (s : State) : State :=
  let g := t.req.pa / 64
  let e := getDir s g
  let e' := match t.kind with
    | .rdS => addHolder { e with st := .shared, f := none } t.req.agent (isNear t.req.agent)
    | _ => ⟨.exclusive, [t.req.agent], none⟩
  if ofDead s t then deadEnds t s else openUntilDone t (setDir g e' s)

/-- The home asks the holders `hs`, each with its snoop; with none to ask it finishes. -/
def askHolders (t : Txn) (hs : List Nat) (fwd : Option Nat) (snp : Nat → SnpKind) (s : State) : State :=
  let r := t.req
  let g := r.pa / 64
  if hs.isEmpty then finishTxn t s
  else
    let s := match fwd with
      | some _ => sendMsg (.cmpFwd r.agent g) s
      | none => s
    setTxn g (some { t with asked := hs, fwd := fwd }) (hs.foldl (fun st h => sendSnoop (snp h) g r.agent st h) s)

/-- An invalidation round (R236). -/
def askRound (t : Txn) (s : State) : State :=
  askHolders t (roundAgents s (t.req.pa / 64) t.req.agent) none (fun _ => .inv) (count 0x3800 0x0B s)

/-- The home asks the holders that the directory names, or finishes at once (Table 9.5; for a host snoop Table 9.10). -/
def proceedTxn (t : Txn) (s : State) : State :=
  let r := t.req
  let e := getDir s (r.pa / 64)
  let others := e.ptrs.filter (· ≠ r.agent)
  let inv (_ : Nat) : SnpKind := .inv
  -- SNP_FWD_X to the near cache that holds F, SNP_INV to every other holder
  let take (hs : List Nat) : State := askHolders t hs (e.f.filter fun f => f ≠ r.agent && isNear f) (fun h => if e.f = some h && isNear h then .fwdX else .inv) s
  match t.form with
  | .keeps => finishTxn t s
  | .release => finishTxn t s
  | .snoop k _ => (match e.st with
    | .invalid => finishTxn t s
    | .broadcast => if k = .getI then askRound t s else finishTxn t s
    | .shared => if k = .getI then askHolders t e.ptrs none inv s else finishTxn t s
    | .exclusive => askHolders t e.ptrs none (fun _ => k) s)
  | _ => match e.st with
    | .invalid => finishTxn t s
    | .broadcast => (match t.kind with
      | .rdS => finishTxn t s
      | .rdNc => finishTxn t s
      | _ => askRound t s)
    | .shared => (match t.kind with
      | .rdS => (match e.f with
        | some f => if f = r.agent then finishTxn t s else askHolders t [f] (if isNear f then some f else none) (fun _ => .fwdS) s
        | none => finishTxn t s)
      | .rdNc => finishTxn t s
      | .rdX => take others
      | .upg => if e.ptrs.contains r.agent then askHolders t others none inv s else take others
      | _ => askHolders t e.ptrs none inv s)
    | .exclusive => (match t.kind with
      | .rdS => if others.isEmpty then finishTxn t (setDir (r.pa / 64) {} s) else askHolders t others (others.head?.filter isNear) (fun _ => .fwdS) s
      | .rdX => askHolders t others (others.head?.filter isNear) (fun _ => .fwdX) s
      | .upg => askHolders t others (others.head?.filter isNear) (fun _ => .fwdX) s
      | .rdNc => askHolders t e.ptrs none (fun _ => .cur) s
      | .zeroL => askHolders t e.ptrs none inv s
      | _ => askHolders t e.ptrs none (fun _ => .getI) s)

/-- A transaction that works on the granule is open: its own, or one that zeroes its line. -/
def granuleBusy (s : State) (g : Nat) : Bool :=
  (getTxn s g).isSome || (rangeFrom (g / 4 * 4) 4).any fun x => match getTxn s x with | some t => t.kind = .zeroL | none => false

/-- The granule of the transaction that misses granule `g`. -/
def missOwner (s : State) (g : Nat) : Nat :=
  ((rangeFrom (g / 4 * 4) 4).find? fun x => match getTxn s x with
    | some t => t.kind = .zeroL && t.memWait
    | none => false).getD g

/-- A line takes a miss register, merges into the one that it has, or is held with the shingle not valid (R227). -/
def countMiss (g : Nat) (s : State) : State :=
  if s.coh.missing.any fun m => m.1 = g / 4 then count 0x3800 8 s
  else if (getLine s (g / 4)).isNone then count 0x3800 6 s
  else if shingleOf s g = .i then count 0x3800 7 s
  else s

/-- The device cache holds nothing: it has no steps, or its split is changing (R154, R219). -/
def noDevCache (s : State) : Bool := s.mem.steps = 0 || s.mem.inChange

/-- The home asks the host for a granule's shingle: it takes a miss register and, where the answer will be held, a way; or it
merges into the register that the line has (R223, R227). -/
def missShingle (k : CohKind) (r : CohReq) (d : CohData) (form : TxnForm) (s : State) (need : Nat × String) : State :=
  let g := need.1
  let sends := need.2 = "ItoMWr" || need.2 = "WOWrInv"
  let s := countMiss g s
  let s := if mayAlloc k r && (getLine s (g / 4)).isNone then (allocLine (g / 4) r.keySlot s).getD s else s
  let s := d2h g need.2 (if sends && form = .plain then some d.data else none) (if sends then d.mask else 0) (sends && d.poison) s
  { s with coh.missing := s.coh.missing ++ [(g / 4, g)] }

/-- What the home must ask of the host before it can act on a request (Table 9.9). -/
def hostNeeds (s : State) (k : CohKind) (r : CohReq) (full : Bool) (form : TxnForm) : List (Nat × String) :=
  if target r.pa = .host && (form = .plain || form = .bulk) then
    (reqGranules k (r.pa / 64)).filterMap fun x => (hostNeed s k x (if noDevCache s then 2 else r.cache) full).map fun req => (x, req)
  else []

/-- The request reads the device cache's copy of its granule, whose clean shingle is bad: the home fetches it again (R228). -/
def refetches (s : State) (k : CohKind) (r : CohReq) (full : Bool) (form : TxnForm) : Bool :=
  let g := r.pa / 64
  let e := getDir s g
  (form = .plain || form = .bulk) && hostBad s g &&
  (match k with
    | .upg => !(e.st = .broadcast || e.ptrs.contains r.agent || !isNear r.agent)
    | .wrNc => !full
    | .zeroL => false
    | _ => true)

/-- A bad clean shingle of a host line is invalidated, to be fetched again (R228). -/
def refetch (g : Nat) (s : State) : State :=
  setShingle g .i (count 0x3800 0x0E { s with mem.flaws := tset .clean s.mem.flaws g .clean })

/-- Start a transaction on a granule that has none open (R233). A host line first obtains the shingles it needs. -/
def startTxn (k : CohKind) (r : CohReq) (d : CohData) (aop size : Nat) (form : TxnForm) (s : State) : State :=
  let g := r.pa / 64
  let s := if s.coh.fresh.isEmpty then s else { s with coh.fresh := s.coh.fresh.filter fun x => !((reqGranules k g).contains x) }
  let r : CohReq := if target r.pa = .host && noDevCache s then { r with cache := 2 } else r
  let s := if refetches s k r (d.mask = fullMask) form then refetch g s else s
  let t : Txn := ⟨k, r, d, aop, size, [], none, none, false, false, form⟩
  let needs := hostNeeds s k r (d.mask = fullMask) form
  if needs.isEmpty then proceedTxn t (if target r.pa ≠ .host || shingleOf s g = .i || form ≠ .plain then s else count 0x3800 5 s)
  else
    let s := setTxn g (some { t with memWait := true }) (needs.foldl (missShingle k r d form) s)
    { s with coh.merged := s.coh.merged ++ [(g / 4, g)] }

/-- Home slice busy with a fence (R244). -/
def homeFencing (s : State) (g : Nat) : Bool := tget 0 s.coh.homeState (homeOf s g) = 1

/-- The miss registers of the slice cannot take this host line (R227): 256 lines, or 8 misses merged on one. -/
def missFull (s : State) (g : Nat) : Bool :=
  let mine := s.coh.missing.filter fun m => homeOf s (4 * m.1) = homeOf s g
  let sameLine := mine.filter fun m => m.1 = g / 4
  if sameLine.isEmpty then 256 ≤ (mine.map (·.1)).eraseDups.length else 9 ≤ sameLine.length

/-- The granules whose copies must leave before the home can start a request: the others of a line that is to be zeroed (R225), and a
host granule whose shingle is to be fetched again (R228, R246). -/
def firstClear (s : State) (k : CohKind) (r : CohReq) (full : Bool) (form : TxnForm) : List Nat :=
  let g := r.pa / 64
  (if k = .zeroL then (reqGranules k g).filter (fun x => x ≠ g) else []) ++ (if refetches s k r full form then [g] else [])

/-- Those granules have no copy left. -/
def lineClear (s : State) (k : CohKind) (r : CohReq) (full : Bool) (form : TxnForm) : Bool :=
  (firstClear s k r full form).all fun x => (getDir s x).st = .invalid

/-- The home cannot start a request now: its granule has an open transaction, or it needs a register, a way or an entry that is not
free (R234). -/
def mustWait (s : State) (k : CohKind) (r : CohReq) (full : Bool) (form : TxnForm) : Bool :=
  let g := r.pa / 64
  (reqGranules k g).any (granuleBusy s) || homeFencing s g || !(lineClear s k r full form) ||
  (!(hostNeeds s k r full form).isEmpty && missFull s g) ||
  ((form = .plain || form = .bulk) && mayAlloc k r && fromMemory s k r && waysLocked s g) ||
  (needsEntry k form && dirBlocked s g)

/-- Recall every copy of a granule (R225, R228, R237, R244). -/
def recallCopies (k : CohKind) (s : State) (g : Nat) : State :=
  if (getTxn s g).isSome then s else proceedTxn ⟨k, ⟨bulkAgent, g * 64, 0, 0, 2, 0, false⟩, ⟨0, 0, false⟩, 0, 0, [], none, none, false, false, .recall⟩ s

/-- Evict a directory entry of the set of `g`, chosen by the second LFSR, or the next upward without an open transaction (R237). -/
def evictEntry (g : Nat) (s : State) : State :=
  let used := dirUsed s g
  let (w, s) := stepWay (homeOf s g) 1 s
  match (rangeFrom w 16).find? (fun i => (getTxn s (used.getD (i % 16) g)).isNone) with
  | some i => count 0x3800 0x0C (recallCopies .wrNc s (used.getD (i % 16) g))
  | none => s

/-- Start a request, or first the eviction for whose entry it waits (R237). -/
def beginRequest (q : Queued) (s : State) : State :=
  let g := q.req.pa / 64
  if needsEntry q.kind q.form && dirFull s g then
    let s := evictEntry g s
    if dirFull s g then { s with coh.queued := { q with slotless := true } :: s.coh.queued }
    else startTxn q.kind q.req q.data q.aop q.size q.form s
  else startTxn q.kind q.req q.data q.aop q.size q.form s

/-- A request arrives at its home (R232, R234). An aged one is counted as the home takes it. -/
def homeRequest (k : CohKind) (r : CohReq) (d : CohData) (aop size : Nat) (form : TxnForm) (s : State) : State :=
  let g := r.pa / 64
  let q : Queued := ⟨k, r, d, aop, size, isProxy r.agent, form⟩
  let aged (st : State) : State := if isAged r then count 0x3800 0x0A st else st
  let full : Bool := d.mask = fullMask
  -- a line to be zeroed or fetched again first loses its copies
  let s := if lineClear s k r full form || (reqGranules k g).any (granuleBusy s) || homeFencing s g then s
    else ((firstClear s k r full form).filter fun x => (getDir s x).st ≠ .invalid).foldl (recallCopies (if k = .zeroL then .zeroL else .wrNc)) s
  let first := s.coh.queued.all fun x => x.req.pa / 64 ≠ g
  if first && !(mustWait s k r full form) then beginRequest q (aged s)
  else if isProxy r.agent || (first && !(lineClear s k r full form) && !((reqGranules k g).any fun x => (getTxn s x).isSome && !(recalling s x))) then
    queueRequest { q with slotless := true } (aged s)
  else if isAged r && !homeFencing s g then
    if (s.coh.queued.filter fun q => !q.slotless && homeOf s (q.req.pa / 64) = homeOf s g).length < 64 then queueRequest q (aged s)
    else sendRetry r s
  else sendRetry r s

/-- The waiting request that starts next: in the order in which they began to wait, the first that can start and has no
earlier one of its granule before it (R234). -/
def nextQueued (s : State) : Option Queued :=
  s.coh.queued.find? fun q => !(mustWait s q.kind q.req (q.data.mask = fullMask) q.form) &&
    (s.coh.queued.find? fun x => x.req.pa / 64 = q.req.pa / 64) = some q

/-- Start up to `n` waiting requests. -/
def serveQueuedN : Nat → State → State
  | 0, s => s
  | n + 1, s => match nextQueued s with
    | none => s
    | some q => serveQueuedN n (beginRequest q { s with coh.queued := s.coh.queued.erase q })

/-- A transaction has ended, or a register, a way or an entry is free: the waiting requests that can start do. -/
def serveQueued (s : State) : State := serveQueuedN s.coh.queued.length s

/-- A request that merged on a line's miss register waits no more for the host. -/
def filled (s : State) (g : Nat) : Bool :=
  match getTxn s g with
  | some t => !t.memWait || (reqGranules t.kind g).all fun x => !(s.coh.missing.contains (x / 4, x))
  | none => true

/-- The requests on a line's register go on in the order in which they merged (R227), up to `n` of them. -/
def serveLine (l : Nat) : Nat → State → State
  | 0, s => s
  | n + 1, s => match s.coh.merged.find? fun m => m.1 = l with
    | none => s
    | some m =>
      if filled s m.2 then
        let s := { s with coh.merged := s.coh.merged.erase m }
        serveLine l n (match getTxn s m.2 with
          | some t => if t.memWait then proceedTxn { t with memWait := false } (setTxn m.2 none s) else s
          | none => s)
      else s

/-- A holder has answered and nothing more is awaited of it; when it was the last, the transaction goes on. `forwarded`
says that it sent the line to the requester itself. -/
def holderAnswered (g holder : Nat) (forwarded : Bool) (s : State) : State :=
  match getTxn s g with
  | none => s
  | some t =>
    if !t.asked.contains holder then s
    else
      let t := { t with asked := t.asked.erase holder, fwd := if t.fwd = some holder && !forwarded then none else t.fwd }
      if !t.asked.isEmpty || t.wbWait.isSome then setTxn g (some t) s
      else serveQueued (if t.fwd.isSome then finishForwarded t s else finishTxn t s)

/-- Data that comes back dirty is written to memory: the device cache holds it D, or passes it on under CACHE 1 (R226);
a host line is M until the home gives it up (R245), which for a CACHE 1 region is when no copy is left. -/
def dirtyBack (g keySlot cache : Nat) (dirty : Bool) (s : State) : State :=
  match target (g * 64) with
  | .stacks => if dirty then stackLine g keySlot cache true true s else s
  | .host => if dirty && shingleOf s g ≠ .i then setShingle g .m s else s
  | _ => s

/-! ### Accesses of arrays, copy engines, DS and peers: each is made inside one command, once the way is clear -/

/-- A granule that a bulk access touches, and how: its key slot, its CACHE, whether it is written, and whether whole. -/
structure BulkGranule where
  g : Nat
  keySlot : Nat
  cache : Nat
  write : Bool
  full : Bool

/-- The granules of a footprint that the home slices order. -/
def bulkGranules (write : Bool) (foot : List Extent) : List BulkGranule :=
  foot.flatMap fun x =>
    if target x.pa = .stacks || target x.pa = .scratch || (target x.pa = .host && !x.flushed) then
      (granulesOf x.pa x.len).map fun g => ⟨g, x.keySlot, x.cache, write, x.pa ≤ g * 64 && g * 64 + 64 ≤ x.pa + x.len⟩
    else []

/-- The request that the access of a granule by an agent makes at its home (Table 9.4). -/
def bulkReq (who c : Nat) (b : BulkGranule) : CohReq :=
  ⟨who, b.g * 64, BitVec.toFin (BitVec.ofNat 12 c), BitVec.toFin (BitVec.ofNat 12 b.keySlot), Fin.ofNat 3 b.cache, 0, false⟩

/-- A transaction must come first: one is open on the granule or a writeback on its way, a holder must be asked (Table 9.5), or the
host must grant the line (Table 9.9), again where the shingle is bad (R228). While the slice is being fenced, or every way is locked, the
access waits (R223, R244). -/
def bulkWaits (s : State) (b : BulkGranule) : Bool :=
  granuleBusy s b.g || homeFencing s b.g || (target (b.g * 64) = .stacks && b.cache ≠ 2 && waysLocked s b.g) ||
  (!(s.coh.fresh.contains b.g) && (
    s.coh.wbs.any (fun w => w.2 = b.g) ||
    (match (getDir s b.g).st with
     | .invalid => false
     | .exclusive => true
     | _ => b.write) ||
    refetches s (if b.write then .wrNc else .rdNc) (bulkReq bulkAgent 0 b) b.full .bulk ||
    !(hostNeeds s (if b.write then .wrNc else .rdNc) (bulkReq bulkAgent 0 b) b.full .bulk).isEmpty))

/-- Start the transaction that clears the way for an access of agent `who`, if its home can take it now. -/
def clearWay (who c : Nat) (s : State) (b : BulkGranule) : State :=
  let k : CohKind := if b.write then .wrNc else .rdNc
  let mask : Word := if b.full then fullMask else 1
  let r := bulkReq who c b
  if s.coh.wbs.any (fun w => w.2 = b.g) then s
  else if !(lineClear s k r b.full .bulk) && !(granuleBusy s b.g) && !(homeFencing s b.g) then recallCopies .wrNc s b.g
  else if mustWait s k r b.full .bulk then s
  else startTxn k r ⟨0, mask, false⟩ 0 0 .bulk s

/-- An access of agent `who` for context `c` that reads and writes these footprints can be made now; else its home slices have begun
to clear its way (R220, R231, R232). -/
def accessReady (who c : Nat) (reads writes : List Extent) (s : State) : Bool × State :=
  let bs := bulkGranules true writes ++ bulkGranules false reads
  let w := bs.filter (bulkWaits s)
  if w.isEmpty then (true, s)
  else
    let s := w.foldl (clearWay who c) s
    (!(bs.any (bulkWaits s)), s)

/-- The same for an access of an array, a copy engine or DS. -/
def bulkReady (c : Nat) (reads writes : List Extent) (s : State) : Bool × State := accessReady bulkAgent c reads writes s

/-- What the home obtained for an access is used up. -/
def unfresh (gs : List Nat) (s : State) : State :=
  if s.coh.fresh.isEmpty then s else { s with coh.fresh := s.coh.fresh.filter fun x => !(gs.contains x) }

/-- A write of an agent that keeps no copy makes every copy leave (Table 9.5, WR_NC). A shingle of a CACHE 1 region that it leaves M is
released at once (R245). -/
def homeWrite (c k pa : Nat) (bs : List Byte) (poison : Bool) (cache : Nat) (s : State) : State :=
  let gs := granulesOf pa bs.length
  let full (g : Nat) : Bool := pa ≤ g * 64 && g * 64 + 64 ≤ pa + bs.length
  let s := gs.foldl (fun st g =>
    let st := dropCopies g (meetWrite (some c) g (full g) st)
    if target pa = .stacks then stackLine g k cache true (full g) st else st) s
  let s := writeRun c k pa bs poison s
  let mask (g : Nat) : Word := maskOf (max pa (g * 64) - g * 64) (min (pa + bs.length) (g * 64 + 64) - max pa (g * 64))
  unfresh gs (if target pa = .host then gs.foldl (fun st g => throughDone g (hostTakes (mask g) st g)) s else s)

/-- A read of an agent that keeps no copy (Table 9.5, RD_NC). -/
def homeRead (c k pa len cache : Nat) (s : State) : List Byte × State :=
  let gs := granulesOf pa len
  let s := gs.foldl (fun st g => meetFlaw (some c) 1 g st) s
  let s := if target pa = .stacks then gs.foldl (fun st g => stackLine g k cache false false st) s else s
  let r := readRun c k pa len s
  (r.1, unfresh gs r.2)

/-- What the reads of a footprint by operation `op` change, each granule once: errors are found (R149, R157), a tag mismatch is counted
(R150), a slice or a stack wakes (R163), a device-cache line is filled (Table 9.3). -/
def noteExtents (c op : Nat) (foot : List Extent) (s : State) : State :=
  foot.foldl (fun st x => (granulesOf x.pa x.len).foldl (fun a g =>
    match target x.pa with
    | .scratch => noteTag c g (touch g (meetFlaw (some c) op g a))
    | .stacks => stackLine g x.keySlot x.cache false false (meetFlaw (some c) op g a)
    | .host => if x.flushed then a else unfresh [g] (touch g (meetFlaw (some c) op g a))
    | _ => a) st) s

/-- A ring's next record, of `n` bytes, goes out through its home slice, which first clears its way (R220, R232); one for host memory goes
through the write queue of its port, and waits while that link retrains (R265, R293). -/
def throughHome (r : Ring) (n : Nat) (f : State → State) (s : State) : State :=
  let pa := ringAddr r n
  if target r.base = .host then (if hostCarries s (hostPortOf s pa) then f s else s)
  else
    let (ready, s) := bulkReady 0 [] [⟨0, pa, n, 0, 2, false, false⟩] s
    if ready then unfresh (granulesOf pa n) (f s) else s

end Sys2Proof.Machine
end

