-- ==== Sys2Proof/Machine/CorePort.lean ====
section
/-! DEFINITION. The core ports (08, 17): request checks, translation, order, barriers, the store buffer, reservations,
responses. `pump` takes every entry of a port, oldest first, as far as it can go now. -/

namespace Sys2Proof.Machine

/-! ### The attribute word (Table 8.2) -/

def atCtx (a : Word) : Nat := fld a 52 12
def atStream (a : Word) : Nat := fld a 46 6
def atOp (a : Word) : Nat := fld a 42 4
def atSize (a : Word) : Nat := fld a 39 3
def atAop (a : Word) : Nat := fld a 35 4
def atScope (a : Word) : Nat := fld a 33 2
def atKind (a : Word) : Nat := fld a 31 2

def opLoad : Nat := 0
def opStore : Nat := 1
def opRload : Nat := 2
def opCstore : Nat := 3
def opAtomic : Nat := 4
def opBarrier : Nat := 5

/-- Bytes of a request. -/
def reqLen (r : CoreReq) : Nat := 2 ^ atSize r.attr

/-- First byte within the granule. -/
def reqOff (r : CoreReq) : Nat := r.va.toNat % 64

/-- R194, R449: a malformed request. A request whose bytes cross its granule cannot set exactly their mask
(DEDUCED, log 16). -/
def reqMalformed (r : CoreReq) : Bool :=
  let op := atOp r.attr
  let sz := atSize r.attr
  6 ≤ op || sz = 7 || atScope r.attr = 3 || atKind r.attr = 3 || !zeroFld r.attr 0 31 ||
  (op ≠ opAtomic && atAop r.attr ≠ 0) || (op = opAtomic && 10 ≤ atAop r.attr) ||
  (op ≠ opBarrier && (atScope r.attr ≠ 0 || atKind r.attr ≠ 0)) ||
  (if op = opBarrier then sz ≠ 0 || r.data ≠ 0 || r.mask ≠ 0
   else 64 < reqOff r + reqLen r || r.mask ≠ maskOf (reqOff r) (reqLen r)) ||
  ((op = opLoad || op = opRload) && r.data ≠ 0) ||
  ((op = opRload || op = opCstore) && 4 < sz) ||
  (op = opAtomic && (sz < 2 || 4 < sz || r.va.toNat % reqLen r ≠ 0))

/-! ### Entries of a port -/

def opsOf (s : State) (p : Nat) : List PortOp := (getPort s p).ops
def findOp (s : State) (p id : Nat) : Option PortOp := (opsOf s p).find? fun o => o.id = id
def modOp (p id : Nat) (f : PortOp → PortOp) (s : State) : State :=
  modPort p (fun x => { x with ops := x.ops.map fun o => if o.id = id then f o else o }) s

def opCode (o : PortOp) : Nat := atOp o.req.attr
def opStream (o : PortOp) : Nat := atStream o.req.attr
def opCtx (o : PortOp) : Nat := atCtx o.req.attr
def opGranule (o : PortOp) : Nat := o.pa / 64
def opLen (o : PortOp) : Nat := reqLen o.req

def isBarrier (o : PortOp) : Bool := o.what = .mem && opCode o = opBarrier
/-- Counted as a load for Table 8.4. -/
def countsLoad (o : PortOp) : Bool :=
  match o.what with
  | .mem => opCode o = opLoad || opCode o = opRload || opCode o = opAtomic
  | .sync _ => false
  | .course _ => true
/-- Counted as a store for Table 8.4. -/
def countsStore (o : PortOp) : Bool :=
  match o.what with
  | .mem => opCode o = opStore || opCode o = opCstore || opCode o = opAtomic
  | .sync _ => true
  | .course _ => true

def inEarlier (kind : Nat) (o : PortOp) : Bool :=
  !isBarrier o && (match kind with | 0 => countsLoad o | 1 => countsStore o | _ => true)

def inLater (kind : Nat) (o : PortOp) : Bool :=
  match kind with
  | 1 => countsStore o
  | _ => true

/-- A conditional store. -/
def isCstore (o : PortOp) : Bool := o.what = .mem && opCode o = opCstore

/-- Answer an entry and take it as performed. A conditional store that ends with a fault has not taken place: SC_FAIL is 1 (R194), it is
counted (R218), and its stream's reservation is cleared (R209), but by a malformed one, which has no effect. -/
def finishOp (p id : Nat) (st : Status) (sc : Bool) (d : Line) (s : State) : State :=
  let s := modOp p id (fun o => { o with answer := some (o.answer.getD ⟨st, sc || (isCstore o && st ≠ .ok), d⟩), phase := .finished }) s
  match findOp s p id with
  | some o =>
    let s := if isCstore o && st ≠ .ok && st ≠ .malformed then count 0x3880 6 s else s
    if isCstore o && st ≠ .malformed then modPort p (fun x => { x with resv := tset none x.resv (opStream o) none }) s else s
  | none => s

/-- Only the bytes a request names, at their positions (log 17). -/
def namedBytes (r : CoreReq) (d : Line) : Line := mergeLine 0 d r.mask

/-- How a target is reached (Table 9.1, Table 8.3). -/
inductive Path where
  | line | home | io | peer | reg
  deriving DecidableEq, Repr

def pathOf (s : State) (p : Nat) (o : PortOp) : Path :=
  match target o.pa with
  | .regs => .reg
  | .peer => .peer
  | .host => if o.flushed then .io else if o.cache = 2 || (getPort s p).nearFenced || noDevCache s then .home else .line
  | _ => if o.cache = 2 || (getPort s p).nearFenced then .home else .line

/-- A reservation is held for this target (Table 8.8): cacheable device memory, and HOST_COHERENT memory whatever its CACHE (log 35). -/
def reservable (o : PortOp) : Bool :=
  match target o.pa with
  | .stacks => o.cache ≠ 2
  | .scratch => o.cache ≠ 2
  | .host => !o.flushed
  | _ => false

/-- Table 8.8: the ATOMIC is allowed at its target. -/
def atomicAllowed (o : PortOp) : Bool :=
  let aop := atAop o.req.attr
  let pair := opLen o = 16
  match target o.pa with
  | .stacks => if o.cache = 2 then !pair else (!pair || aop ≤ 1)
  | .scratch => if o.cache = 2 then !pair else (!pair || aop ≤ 1)
  | .host => if o.flushed then (if pair then aop = 1 else aop ≤ 2) else (!pair || aop ≤ 1)
  | .peer => !pair
  | _ => false

/-! ### Order -/

/-- The bytes of two entries overlap. -/
def overlaps (a b : PortOp) : Bool := a.pa < b.pa + opLen b && b.pa < a.pa + opLen a

/-- Older entries of the same stream. -/
def olderOf (s : State) (p : Nat) (o : PortOp) : List PortOp :=
  (opsOf s p).filter fun x => x.id < o.id && opStream x = opStream o

/-- A SIGNAL, which acts as if a STORE barrier of SYSTEM scope came before it (R203). -/
def isSignal (o : PortOp) : Bool := match o.what with | .sync raw => fld raw 17 3 = 0 | _ => false

/-- Held behind a barrier of its stream whose response has not been sent (R197, R216), or behind a SIGNAL that has not been performed
(R203). -/
def heldByBarrier (s : State) (p : Nat) (o : PortOp) : Bool :=
  (olderOf s p o).any fun b => (isBarrier b && !b.answered && inLater b.kind o) || (isSignal b && b.phase ≠ .finished && inLater 1 o)

/-- The store stands in its port's store buffer, which answers reads of its bytes: device and HOST_COHERENT memory (R196). -/
def buffers (s : State) (p : Nat) (o : PortOp) : Bool :=
  o.what = .mem && opCode o = opStore && (o.phase = .buffered || o.phase = .home) &&
    (match pathOf s p o with | .line => true | .home => true | _ => false)

/-- The buffered stores of a read's granule that answer it, oldest first: those of its own stream only if they are older (R192, R196). -/
def answering (s : State) (p : Nat) (o : PortOp) : List PortOp :=
  (opsOf s p).filter fun x => buffers s p x && opGranule x = opGranule o && !(opStream x = opStream o && o.id < x.id)

/-- The bytes of the port's store buffer over the granule that an entry reads (R196). -/
def overlayBuffer (s : State) (p : Nat) (o : PortOp) (d : Line) : Line :=
  (answering s p o).foldl (fun acc x => mergeLine acc x.req.data x.req.mask) d

/-- The store buffer holds every byte that a load names (R196). -/
def bufferCovers (s : State) (p : Nat) (o : PortOp) : Bool :=
  let held := (answering s p o).foldl (fun m x => m ||| x.req.mask) (0 : Word)
  o.req.mask &&& held = o.req.mask

/-- A read that goes to the home waits while a buffered store gives it a part of its bytes: the home's answer could be older (R192). -/
def partlyBuffered (s : State) (p : Nat) (o : PortOp) : Bool := (answering s p o).any fun x => overlaps x o

/-- Held behind an older overlapping access of its stream that is not performed (R192). A load is answered by the store
buffer instead, for device and HOST_COHERENT memory (R196). A write is held behind an older buffered store of any stream of the port
too, since the buffer has shown them in that order; a conditional store comes before it. -/
def heldByOverlap (s : State) (p : Nat) (o : PortOp) : Bool :=
  ((olderOf s p o).any fun x => x.what = .mem && !isBarrier x && x.phase ≠ .finished && overlaps x o &&
    !(countsLoad o && !countsStore o && buffers s p x)) ||
  (countsStore o && !(isCstore o) && (opsOf s p).any fun x => x.id < o.id && buffers s p x && overlaps x o)

/-- A message of the entry's peer requests waits for credits and has not been sent. -/
def unsentTo (s : State) (p : Nat) (o : PortOp) : Bool :=
  s.peers.any fun kv => kv.2.out.any fun r => r.waiter = .portOp p o.id && kv.2.outq.any fun m => fld m.1 80 8 < 0x80 && fld m.1 96 16 = r.slot

/-- An entry of a barrier's earlier set is as far as its scope needs (Table 8.7). -/
def barrierMet (s : State) (p scope : Nat) (o : PortOp) : Bool :=
  if o.phase = .finished then
    !(scope = 2 && o.flushed && countsStore o) ||
      (o.need0 ≤ (getHost s 0).confirmed && o.need1 ≤ (getHost s 1).confirmed)
  else if countsLoad o then false
  else match o.what with
    | .sync _ => false
    | .course _ => false
    | .mem =>
      match pathOf s p o with
      | .reg => false
      | .peer => (scope = 0 && o.answer.isSome) || (scope = 0 && o.phase = .buffered) ||
          (scope ≤ 1 && (match o.phase with | .peer _ => scope = 0 || !(unsentTo s p o) | _ => false))
      | .io => false   -- the buffer answers no read of these bytes, so even CORE waits for the host write queue (R214)
      | _ => scope = 0 && (o.phase = .buffered || o.phase = .home)

/-- The flushed writes a SYSTEM barrier waits for need read-backs: issue those not yet under way (R201, R265). -/
def issueReadbacks (need0 need1 : Nat) (s : State) : State :=
  let go (p need : Nat) (st : State) : State :=
    let h := getHost st p
    if h.confirmed < need && !(h.readbacks.any fun n => need ≤ n) then
      portSend p (.readback p h.lastWrite) (modHost p (fun x => { x with readbacks := x.readbacks ++ [x.wseq] }) st)
    else st
  go 1 need1 (go 0 need0 s)

/-- Read back what port `p` has carried up to write `n`. -/
def awaitPort (p n : Nat) (s : State) : State := if p = 0 then issueReadbacks n 0 s else issueReadbacks 0 n s

/-! ### Messages to homes -/

/-- The coherence request of an entry. -/
def cohReqOf (p : Nat) (o : PortOp) (aged : Bool) : CohReq :=
  { agent := p, pa := o.pa, ctx := BitVec.toFin (BitVec.ofNat 12 (opCtx o)), keySlot := BitVec.toFin (BitVec.ofNat 12 o.keySlot),
    cache := Fin.ofNat 3 o.cache, retry := 0, aged := aged }

def noData : CohData := ⟨0, 0, false⟩

/-- The entry has asked for a line that has not arrived. -/
def asksLine (s : State) (p : Nat) (o : PortOp) : Bool :=
  o.sent && o.phase ≠ .finished && o.phase ≠ .home && (pathOf s p o = .line || (o.what = .mem && opCode o = opRload))

/-- Another request of the port for the same line is already under way. -/
def lineAsked (s : State) (p g : Nat) : Bool := (opsOf s p).any fun o => asksLine s p o && opGranule o = g

/-- The near cache sends no request for a line now: its writeback is not acknowledged, or the 64 miss registers are busy (R229). -/
def nearBusy (s : State) (p g : Nat) : Bool :=
  s.coh.wbs.contains (p, g) || 64 ≤ (((opsOf s p).filter (asksLine s p)).map opGranule).eraseDups.length

/-- Ask the home for a line: with ownership or shared; UPG for a line held S or F (R231). -/
def askLine (p : Nat) (o : PortOp) (own aged : Bool) (s : State) : State :=
  let g := opGranule o
  if lineAsked s p g || nearBusy s p g then s
  else
    let st := (getNear s p g).st
    let k : CohKind := if !own then .rdS else if st = .s || st = .f then .upg else .rdX
    sendMsg (.request k (cohReqOf p o aged) noData 0 0) (modOp p o.id (fun x => { x with sent := true }) s)

/-- The near line answers this context: a scratch line only to its tag's own context (R152, R229). -/
def lineOk (s : State) (p : Nat) (o : PortOp) : Bool :=
  let l := getNear s p (opGranule o)
  l.st ≠ .i && (target o.pa ≠ .scratch || l.ctx = opCtx o)

def lineOwned (s : State) (p g : Nat) : Bool := let l := getNear s p g; l.st = .e || l.st = .m

/-- A write into an owned line (R220, R229): a dirty line of another context is written back first; the line becomes M
with the writer's context, and every other stream's reservation on it is cleared (R209). -/
def writeOwned (p : Nat) (o : PortOp) (data : Line) (mask : Word) (s : State) : State :=
  let g := opGranule o
  let l := getNear s p g
  let s := if l.st = .m && l.ctx ≠ opCtx o then dirtyBack g o.keySlot o.cache true s else s
  let s := writeGranule (opCtx o) o.keySlot g data mask false (softAccess o.pa (opLen o) true s)
  let s := if target o.pa = .host then setShingle g .m s else s
  clearResv p g (some (opStream o)) { s with coh.near := tset {} s.coh.near (nearKey p g) ⟨.m, opCtx o⟩ }

/-! ### Performing one entry -/

/-- A load that the buffer answered with a store of another stream has seen it before any agent outside the port can: a LOAD or FULL
barrier after the load waits for it (R197, R213). -/
def noteSeen (p : Nat) (o : PortOp) (s : State) : State :=
  let xs := (answering s p o).filter fun x => overlaps x o && opStream x ≠ opStream o
  if xs.isEmpty then s else modPort p (fun y => { y with seen := y.seen ++ xs.map fun x => (opStream o, o.id, x.id) }) s

/-- Bind a load from the near line or memory, under the store buffer (R196, R346). -/
def bindLoad (p : Nat) (o : PortOp) (s : State) : State :=
  let g := opGranule o
  let d := overlayBuffer s p o (granuleData s (opCtx o) o.keySlot g)
  if nearPoison s (opCtx o) g then
    finishOp p o.id .poisonConsumed false 0
      (raisePoisonConsumed (0x3000 + p) (some (opCtx o)) 1 o.req.va.toNat 2 s)
  else noteUse (opCtx o) o.keySlot g (noteSeen p o (finishOp p o.id .ok false (namedBytes o.req d) (softAccess o.pa (opLen o) false s)))

/-- The whole of the bytes stand in the host write queue of their port (R195). -/
def queuedBytes (s : State) (pa n : Nat) : Option (List Byte) :=
  let held := queueExt s
  let bs := (List.range n).map fun i => (held.find? fun e => e.1 = pa + i).map (·.2)
  if bs.all Option.isSome then some (bs.map fun b => b.getD 0) else none

def runLoad (p : Nat) (o : PortOp) (s : State) : State :=
  if bufferCovers s p o then noteSeen p o (finishOp p o.id .ok false (namedBytes o.req (overlayBuffer s p o 0)) s)
  else match pathOf s p o with
  | .reg => owe (.regOp p o.id) s
  | .peer => owe (.peerOp p o.id) s
  | .io => match queuedBytes s o.pa (opLen o) with
    | some bs => finishOp p o.id .ok false (BitVec.ofNat 512 (ofLe bs * 2 ^ (8 * reqOff o.req))) s
    | none => modOp p o.id (fun x => { x with phase := .io })
        (portSend (hostPortOf s o.pa) (.hostRead (hostPortOf s o.pa) o.pa (opLen o)) s)
  | .home =>
    if partlyBuffered s p o then s
    else modOp p o.id (fun x => { x with phase := .home, sent := true }) (sendMsg (.request .rdNc (cohReqOf p o false) noData 0 0) s)
  | .line =>
    if lineOk s p o then bindLoad p o s
    else if (getNear s p (opGranule o)).st ≠ .i then
      if partlyBuffered s p o then s else modOp p o.id (fun x => { x with phase := .home, sent := true })
        (sendMsg (.request .rdNc (cohReqOf p o false) noData 0 0) s)
    else modOp p o.id (fun x => { x with phase := .line }) (askLine p o false false s)

/-- Another stream's hold window keeps this write of the line waiting (R211). -/
def heldByWindow (s : State) (p : Nat) (o : PortOp) : Bool :=
  (getPort s p).hold.any fun w => w.1 = opGranule o && w.2 ≠ opStream o

/-- A snoop that a hold window deferred before the write came goes first (R211). -/
def heldBySnoop (s : State) (p : Nat) (o : PortOp) : Bool :=
  (getPort s p).deferred.any fun d => d.2.1 = opGranule o && d.2.2.2 ≤ o.id

/-- A buffered store can be performed in its port's line (R211, R220). -/
def lineReady (s : State) (p : Nat) (o : PortOp) : Bool := lineOwned s p (opGranule o) && !(heldByWindow s p o)

/-- A buffered store is performed in its port's line. -/
def performLine (p : Nat) (o : PortOp) (s : State) : State := finishOp p o.id .ok false 0 (writeOwned p o o.req.data o.req.mask s)

/-- R212: a stream that has failed eight conditional stores in a row on a granule has its next RLOAD aged. -/
def agedStream (s : State) (p : Nat) (o : PortOp) : Bool :=
  match tget none (getPort s p).fails (opStream o) with
  | some (g, n) => g = opGranule o && 8 ≤ n
  | none => false

def runRload (p : Nat) (o : PortOp) (s : State) : State :=
  if (getPort s p).nearFenced then finishOp p o.id .fencedUnit false 0 s
  else if !reservable o then
    runLoad p o (modPort p (fun x => { x with resv := tset none x.resv (opStream o) none }) s)
  else
    let g := opGranule o
    -- a store of another stream that the buffer holds for the granule is performed first: the reservation would not survive it
    if (opsOf s p).any fun x => buffers s p x && opGranule x = g && opStream x ≠ opStream o then s
    else
    let aged := agedStream s p o
    let s := if aged && o.phase = .start then count 0x3880 7 s else s
    if lineOwned s p g then
      bindLoad p o (modPort p (fun x => { x with
        fails := if aged then tset none x.fails (opStream o) none else x.fails
        resv := tset none x.resv (opStream o) (some ⟨g, opCtx o⟩), hold := x.hold.filter (fun w => w.2 ≠ opStream o) ++ [(g, opStream o)] }) s)
    else
      modOp p o.id (fun x => { x with phase := .line }) (askLine p o true aged s)

/-- A CSTORE takes place only under its stream's reservation on the granule; either way it clears it (R210, R212). -/
def runCstore (p : Nat) (o : PortOp) (s0 : State) : State :=
  let s := s0
  if (getPort s p).nearFenced then finishOp p o.id .fencedUnit false 0 s
  else
    let g := opGranule o
    let ok := match tget none (getPort s p).resv (opStream o) with
      | some r => r.granule = g && lineOwned s p g
      | none => false
    let s := modPort p (fun x => { x with resv := tset none x.resv (opStream o) none }) s
    if ok && heldByWindow s p o then s0
    else if ok then
      finishOp p o.id .ok false 0 (writeOwned p o o.req.data o.req.mask (count 0x3880 5
        (modPort p (fun x => { x with fails := tset none x.fails (opStream o) none }) s)))
    else
      let n := match tget none (getPort s p).fails (opStream o) with
        | some (g', n) => if g' = g then n + 1 else 1
        | none => 1
      finishOp p o.id .ok true 0 (count 0x3880 6
        (modPort p (fun x => { x with fails := tset none x.fails (opStream o) (some (g, n)) }) s))

def runAtomic (p : Nat) (o : PortOp) (s : State) : State :=
  if !atomicAllowed o then finishOp p o.id .malformed false 0 s
  else match pathOf s p o with
    | .reg => finishOp p o.id .malformed false 0 s
    | .peer => owe (.peerOp p o.id) s
    | .io => modOp p o.id (fun x => { x with phase := .io })
        (portSend (hostPortOf s o.pa) (.hostAtomic (hostPortOf s o.pa) o.pa (atAop o.req.attr) (opLen o) o.req.data) s)
    | .home => modOp p o.id (fun x => { x with phase := .home, sent := true })
        (sendMsg (.request .atomH (cohReqOf p o false) ⟨o.req.data, o.req.mask, false⟩ (atAop o.req.attr) (opLen o)) s)
    | .line =>
      let g := opGranule o
      if heldByWindow s p o || heldBySnoop s p o then s
      else if lineOwned s p g then
        if nearPoison s (opCtx o) g then
          finishOp p o.id .poisonConsumed false 0 (raisePoisonConsumed (0x3000 + p) (some (opCtx o)) 3 o.req.va.toNat 2 s)
        else
          let old := granuleData s (opCtx o) o.keySlot g
          let new := atomicLine (atAop o.req.attr) (opLen o) (reqOff o.req) old o.req.data
          finishOp p o.id .ok false (namedBytes o.req old)
            (writeOwned p o new o.req.mask (noteUse (opCtx o) o.keySlot g s))
      else modOp p o.id (fun x => { x with phase := .line }) (askLine p o true false s)

/-- A store enters the store buffer, if it has room; an EARLY store is answered then (R196). One that comes late waits for the younger
stores there that overlap it, so that the buffer shows the stores in the order in which they are performed (R192). -/
def bufferStore (p : Nat) (o : PortOp) (s : State) : State :=
  if 64 ≤ ((opsOf s p).filter fun x => x.phase = .buffered).length || (opsOf s p).any (fun x => o.id < x.id && buffers s p x && overlaps x o) then s
  else modOp p o.id (fun x => { x with phase := .buffered, answer := if x.early then some ⟨.ok, false, 0⟩ else none }) s

/-- A buffered store starts toward its point of performance (R195). The near line's and the host queue's last step is the
command WRITE_PERFORMED. -/
def driveStore (p : Nat) (o : PortOp) (s : State) : State :=
  match pathOf s p o with
  | .reg => owe (.regOp p o.id) s
  | .peer => owe (.peerOp p o.id) s
  | .io => s
  | .home => modOp p o.id (fun x => { x with phase := .home, sent := true })
      (sendMsg (.request .wrNc (cohReqOf p o false) ⟨o.req.data, o.req.mask, false⟩ 0 0) s)
  | .line => if lineOwned s p (opGranule o) || o.sent then s else askLine p o true false s

/-- A store that a load of the barrier's earlier set has seen in the buffer is not performed, and the barrier covers agents outside the port
(R213). -/
def waitsSeen (s : State) (p : Nat) (o : PortOp) : Bool :=
  o.scope ≠ 0 && o.kind ≠ 1 && (getPort s p).seen.any fun x => x.1 = opStream o && x.2.1 < o.id &&
    (match findOp s p x.2.2 with | some w => w.phase ≠ .finished | none => false)

/-- A barrier completes once every entry of its earlier set is as far as Table 8.7 needs (R216): with OK, or the status of
those lost writes of its stream for which it waits, which it alone reports (R216, R217). -/
def runBarrier (p : Nat) (o : PortOp) (s : State) : State :=
  let early := (olderOf s p o).filter (inEarlier o.kind)
  if early.all (barrierMet s p o.scope) && !(waitsSeen s p o) then
    let mine (x : Nat × Nat × Nat × Status) : Bool := x.1 < o.id && x.2.1 = opStream o && x.2.2.1 ≤ o.scope && o.kind ≠ 0
    let st := worstOf (((getPort s p).lost.filter mine).map (·.2.2.2))
    let s := count 0x3880 2 s
    let s := if st = .ok then s else count 0x3880 3 s
    finishOp p o.id st false 0 (modPort p (fun x => { x with lost := x.lost.filter fun y => !mine y }) s)
  else if o.scope = 2 then
    let n0 := (early.map (·.need0)).foldl max 0
    let n1 := (early.map (·.need1)).foldl max 0
    issueReadbacks n0 n1 s
  else s

/-! ### Translation of an entry (R176) -/

def needOf (o : PortOp) : Nat :=
  if opCode o = opAtomic then needRWA else if opCode o = opStore || opCode o = opCstore then needW else needR

/-- Check an entry's address. The answer is the entry with its physical address, or none when it was answered, waits on a
record or cannot yet have one. -/
def translateOp (p : Nat) (o : PortOp) (s : State) : Option PortOp × State :=
  let c := opCtx o
  let space := fld (getCtx s c) 116 12
  let va := o.req.va.toNat
  let segs : List Segment := [⟨va, reqLen o.req, needOf o⟩]
  let (r, s) := checkFootprint (tlbsOfPort p) true space segs s
  match r with
  | .off => (none, finishOp p o.id .xlateFault false 0 s)
  | .good xs =>
    match xs with
    | [] => (none, finishOp p o.id .xlateFault false 0 s)
    | x :: _ =>
      let v := accessVerdict s c x.keySlot x.pa (reqLen o.req)
      if v ≠ .ok then (none, finishOp p o.id v false 0 (countSlot s c x.keySlot x.pa s))
      else if target x.pa = .regs && !((opCode o = opLoad || opCode o = opStore) && (reqLen o.req = 4 || reqLen o.req = 8) && x.pa % reqLen o.req = 0) then
        (none, finishOp p o.id .malformed false 0 s)
      else
        let o' := { o with pa := x.pa, keySlot := x.keySlot, cache := x.cache, early := x.early && opCode o = opStore,
                           flushed := x.flushed && target x.pa = .host, pairOk := xs.length = 1 }
        (some o', modOp p o.id (fun _ => o') s)
  | r =>
    let (k, s) := waitsPage (.portOp p o.id) (p / 4) (0x3000 + p) c space segs r s
    (none, if k = noRecord then s else modOp p o.id (fun x => { x with phase := .fault k }) s)

/-! ### Sync requests of a core (R304, R305) -/

/-- The sync response of Table 12.5. -/
def syncResponse (v slot outcome : Nat) (st : Status) : BitVec 128 :=
  BitVec.ofNat 128 (pack [(8, st.code), (3, 0), (3, outcome), (18, slot), (32, v)])

/-- A malformed sync request (Table 12.4, R5): `host` for one written to SYNC_REQ. -/
def syncMalformed (raw : BitVec 128) (host : Bool) : Bool :=
  let op := fld raw 17 3
  6 ≤ op || (op ≠ 2 && op ≠ 3 && (fld raw 96 32 ≠ 0 || fld raw 38 26 ≠ 0)) ||
  (op = 4 && (host || fld raw 64 32 ≠ 0)) || (op = 5 && fld raw 82 14 ≠ 0) || (host && fld raw 32 6 ≠ 0)

/-- An operation of a sync request with n = 0 (R301). -/
def syncOfZero (raw : BitVec 128) : Bool := fld raw 17 3 ≤ 3 && fld raw 64 32 = 0

/-- Perform a sync request for `dest`: the response's value, slot, outcome and status (R300, R305). -/
def performSync (raw : BitVec 128) (dest : WatchDest) (s : State) : (Nat × Nat × Nat × Status) × State :=
  let c := fld raw 0 17
  let x := fld raw 20 12
  let n := fld raw 64 32
  let found := if boundTo s.sync c x then valueOf s.sync c else 0
  let wait (obs : Bool) : (Nat × Nat × Nat × Status) × State :=
    let (s', r) := waitFor x c n obs (fld raw 96 32) (fld raw 38 26) (fld raw 32 6) dest none s
    match r with
    | .satisfied => ((valueOf s'.sync c, 0, 0, .ok), s')
    | .registered k => ((valueOf s'.sync c, k, 1, .ok), s')
    | .refused st => ((found, 0, 4, st), s')
  match fld raw 17 3 with
  | 0 => let (s', st) := signalFor x c n s; ((if st = .ok then valueOf s'.sync c else found, 0, 4, st), s')
  | 1 => let (s', st) := takeFor x c n s; ((if st = .ok then valueOf s'.sync c else found, 0, 4, st), s')
  | 2 => wait false
  | 3 => wait true
  | 4 => if boundTo s.sync c x then ((found, 0, 4, .ok), s) else ((0, 0, 4, .rightsFault), s)
  | _ => let (s', r) := cancelFor x (fld raw 64 18) c s
         match r with
         | .cancelled => ((found, 0, 2, .ok), s')
         | .already => ((found, 0, 3, .ok), s')
         | .refused => ((0, 0, 4, .rightsFault), s')

/-- A sync request of a core: MALFORMED (that of n = 0 before any refusal of its context, R10, R301), refused for a context that admits
nothing (R320), or performed; a SIGNAL waits until every earlier store of its stream is performed at SYSTEM scope (R203). -/
def runSync (p : Nat) (o : PortOp) (raw : BitVec 128) (s : State) : State :=
  let c := fld raw 20 12
  let answer (r : Nat × Nat × Nat × Status) (s : State) : State :=
    modOp p o.id (fun x => { x with phase := .finished, answer := some ⟨.ok, false, (syncResponse r.1 r.2.1 r.2.2.1 r.2.2.2).setWidth 512⟩ }) s
  if syncMalformed raw false then answer (0, 0, 4, .malformed) s
  else match ctxState s c with
    | 1 =>
      if fld raw 17 3 = 0 && !(((olderOf s p o).filter (inEarlier 1)).all (barrierMet s p 2)) then
        let es := (olderOf s p o).filter (inEarlier 1)
        issueReadbacks ((es.map (·.need0)).foldl max 0) ((es.map (·.need1)).foldl max 0) s
      else let (r, s) := performSync raw (.core p) s; answer r s
    | 2 => s
    | _ =>
      if syncOfZero raw then let (r, s) := performSync raw (.core p) s; answer r s
      else answer (0, 0, 4, .rightsFault) s

/-! ### The pump -/

/-- A buffered store is driven on, unless an older entry of its stream holds it (R192, R197). -/
def driveBuffered (p id : Nat) (s : State) : State :=
  match findOp s p id with
  | none => s
  | some o => if o.phase ≠ .buffered || heldByBarrier s p o || heldByOverlap s p o then s else driveStore p o s

/-- Take one entry as far as it can go now. -/
def stepOp (p : Nat) (s : State) (id : Nat) : State :=
  match findOp s p id with
  | none => s
  | some o =>
    match o.phase with
    | .start =>
      (match o.what with
       | .sync raw => if heldByBarrier s p o then s else runSync p o raw s
       | .course _ => if heldByBarrier s p o then s else owe (.issueCourse p id) (modOp p id (fun x => { x with phase := .course }) s)
       | .mem =>
         if isBarrier o then runBarrier p o s
         else match ctxState s (opCtx o) with
           | 1 =>
             (match translateOp p o s with
              | (none, s) => s
              | (some o, s) =>
                if target o.pa = .host && !proxyAlive s then
                  -- no host port can carry the access: a store is lost, anything else ends DEAD_TARGET (R215, R249)
                  if opCode o = opStore then owe (.failOp (.portOp p id) .deadTarget) (bufferStore p o s)
                  else finishOp p id .deadTarget false 0 s
                else if heldByBarrier s p o then s
                else if opCode o = opStore then driveBuffered p id (bufferStore p o s)
                else if heldByBarrier s p o || heldByOverlap s p o then s
                else if opCode o = opLoad then runLoad p o s
                else if opCode o = opRload then runRload p o s
                else if opCode o = opCstore then runCstore p o s
                else runAtomic p o s)
           | 2 => s
           | _ => finishOp p id .rightsFault false 0 s)
    | .line =>
      if o.sent && !(lineOk s p o) then s
      else if opCode o = opLoad then runLoad p o s
      else if opCode o = opRload then runRload p o s
      else runAtomic p o s
    | .buffered => driveBuffered p id s
    | _ => s

/-- Responses leave in the order of a stream's requests (R193); a sync response leaves on the event channel. A barrier's response leaves with
a credit, and until then its later set waits (R216). -/
def deliverOps (p : Nat) (s : State) : State :=
  (opsOf s p).foldl (fun st o =>
    match o.answer with
    | none => st
    | some a =>
      if o.answered || (opsOf st p).any (fun x => x.id < o.id && opStream x = opStream o && !x.answered &&
          (match x.what, o.what with | .mem, .mem => true | .sync _, .sync _ => true | _, _ => false)) ||
          (isBarrier o && ((getPort st p).respCredits = 0 || (getPort st p).held.any onResponses)) then st
      else
        let st := modOp p o.id (fun x => { x with answered := true }) st
        match o.what with
        | .sync _ => toCore p (.event 2 (a.data.setWidth 128)) st
        | .course _ => toCore p (.event 0 (a.data.setWidth 128)) st
        | .mem => toCore p (.response a (opStream o) o.req.tag) st) s

/-- Entries that are answered and performed leave, but for flushed writes that a barrier may still wait for; what loads have seen of a store
that is performed goes. -/
def pruneOps (p : Nat) (s : State) : State :=
  modPort p (fun x => { x with
   seen := x.seen.filter fun y => x.ops.any fun o => o.id = y.2.2 && o.phase ≠ .finished
   ops := x.ops.filter fun o =>
    !(o.answered && o.phase = .finished &&
      (!o.flushed || (o.need0 ≤ (getHost s 0).confirmed && o.need1 ≤ (getHost s 1).confirmed))) }) s

/-- Take every entry of a port, oldest first, as far as it can go, then send the answers that are due. -/
def pump (p : Nat) (s : State) : State :=
  let waiting (st : State) : Nat := ((opsOf st p).filter fun o => isBarrier o && !o.answered).length
  let s := ((opsOf s p).map (·.id)).foldl (stepOp p) s
  let t := deliverOps p s
  -- what a barrier held goes on once its response is sent (R216)
  pruneOps p (if waiting t < waiting s then owe (.pump p) t else t)

/-! ### Arrival -/

/-- The STORE barriers of a stream that have not completed and have no access of the stream behind them; a malformed request is no
access. -/
def storeBarriers (s : State) (p st : Nat) : List PortOp :=
  let access (o : PortOp) : Bool := !(isBarrier o) && (match o.answer with | some a => a.status ≠ .malformed | none => true)
  ((((opsOf s p).filter fun o => opStream o = st).reverse.takeWhile fun o => !(access o)).filter fun o => isBarrier o && o.kind = 1)

/-- The barrier's scope and kind under the profile (R200); a LOAD barrier that follows a STORE barrier of its stream with no access
between acts with it as FULL of the narrower scope, the widest that one of them gives (R198). -/
def barrierTerms (s : State) (r : CoreReq) : Nat × Nat :=
  let prof := obj s 0x3880 1 2
  let scope := if prof = 1 then 2 else atScope r.attr
  let kind := if prof = 0 then 2 else atKind r.attr
  let before := storeBarriers s r.port.val (atStream r.attr)
  if atOp r.attr = opBarrier && kind = 0 && !before.isEmpty then (min scope ((before.map (·.scope)).foldl max 0), 2) else (scope, kind)

/-- A fresh entry of a port. -/
def newOp (id : Nat) (w : What) (r : CoreReq) (scope kind : Nat) : PortOp :=
  ⟨id, r, w, 0, 0, 0, false, false, true, false, .start, scope, kind, none, false, 0, 0⟩

/-- The hold window of a stream is open. -/
def windowOpen (x : Port) (st : Nat) : Bool := x.hold.any fun w => w.2 = st

/-- An ATOMIC that breaks Table 8.8 at the target that its address translates to now: it is malformed, with no effect but its response
(R194). -/
def breaksTable (s : State) (r : CoreReq) : Bool :=
  atOp r.attr = opAtomic &&
  (match (lookup (tlbsOfPort r.port.val) (fld (getCtx s (atCtx r.attr)) 116 12) r.va.toNat s).1 with
   | .is (.found e) =>
     let pa := rePa e r.va.toNat
     !(atomicAllowed { newOp 0 .mem r 0 0 with pa := pa, cache := reCache e, flushed := reFlushed e && target pa = .host })
   | _ => false)

/-- A request enters its port: the stream's hold window ends (R211). A change of context clears its reservation, and so does
the end of the window, but for the CSTORE that the reservation is for (R209, R212; DEDUCED, log 29). -/
def enterOp (w : What) (r : CoreReq) (s : State) : State :=
  let p := r.port.val
  let st := atStream r.attr
  let (scope, kind) := barrierTerms s r
  let breaks := w = .mem && breaksTable s r
  modPort p (fun x =>
    { x with
      nextId := x.nextId + 1
      hold := if breaks then x.hold else x.hold.filter fun y => y.2 ≠ st
      resv := if breaks then x.resv else match tget none x.resv st with
        | some v => if v.ctx ≠ atCtx r.attr || (windowOpen x st && !(w = .mem && atOp r.attr = opCstore)) then tset none x.resv st none else x.resv
        | none => x.resv
      ops := x.ops ++ [newOp x.nextId w r scope kind] }) s

/-- A request of the request channel arrives (R194, R449, R320). -/
def requestArrives (r : CoreReq) (s : State) : State :=
  let p := r.port.val
  let id := (getPort s p).nextId
  if reqMalformed r then
    -- no effect but its response, which keeps its stream's order
    pump p (finishOp p id .malformed false 0 (modPort p (fun x => { x with nextId := id + 1, ops := x.ops ++ [newOp id .mem r 0 0] }) s))
  else pump p (enterOp .mem r s)

end Sys2Proof.Machine
end

