-- ==== Sys2Proof/Machine/Near.lean ====
section
/-! DEFINITION. The messages of the home protocol at their receivers (09): holders answering snoops, homes taking answers
and writebacks, requesters taking data and grants; reclaim of a dead agent; the host's CXL.cache and CXL.mem sides. -/

namespace Sys2Proof.Machine

/-! ### Holders -/

/-- The context and key slot under which a granule's open transaction reads it. -/
def txnView (s : State) (g : Nat) : Nat × Nat × Nat :=
  match getTxn s g with
  | some t => (t.req.ctx, t.req.keySlot, t.req.cache)
  | none => (0, 0, 2)

/-- Send the line to the requester with the state granted. The context field of a dirty line goes with it (R229). -/
def forwardData (g requester : Nat) (x : Grant) (writer : Nat) (s : State) : State :=
  let v := txnView s g
  let s := if x = .m && isNear requester then { s with coh.near := tset {} s.coh.near (nearKey requester g) ⟨.i, writer⟩ } else s
  sendMsg (.data requester g x (granuleData s v.1 v.2.1 g) (nearPoison s v.1 g) true) s

/-- A near cache with a copy answers a snoop (Table 9.4): it moves on and says what it did. -/
def holderActs (k : SnpKind) (p g requester : Nat) (s : State) : State :=
  let l := getNear s p g
  let dirty := l.st = .m
  let say (st : State) : State := sendMsg (.answer k p g true dirty false) st
  match k with
  | .fwdS => say (setNear p g { l with st := .s } (forwardData g requester .f l.ctx s))
  | .fwdX => say (setNear p g {} (forwardData g requester (if dirty then .m else .e) l.ctx s))
  | .getS => say (setNear p g { l with st := .s } s)
  | .getI => say (setNear p g {} s)
  | .cur => say s
  | .inv => sendMsg (.answer k p g false false false) (setNear p g {} s)

/-- A holder receives a snoop: a fenced near cache has no copy (R241); a line with an unacknowledged writeback answers
RSP_WBIF (R239); within its hold window a reserved line makes the snoop wait (R211). -/
def snoopArrives (k : SnpKind) (p g requester : Nat) (s : State) : State :=
  let s := takeMsg (.snoop k p g requester) s
  let l := getNear s p g
  if (getPort s p).nearFenced then sendMsg (.answer k p g false false false) s
  else if s.coh.wbs.contains (p, g) then sendMsg (.answer k p g false false true) (count 0x3800 0x0D s)
  else if l.st = .i then sendMsg (.answer k p g false false false) s
  else if (getPort s p).hold.any (fun w => w.1 = g) then
    modPort p (fun x => { x with deferred := x.deferred ++ [(k, g, requester, x.nextId)] }) s
  else holderActs k p g requester s

/-- The writes of a granule that a hold window deferred and that came before `n`, as far as they can go (R211). -/
def deferredWrites (p g n : Nat) (s : State) : State :=
  ((opsOf s p).filter fun o => o.id < n && opGranule o = g && countsStore o && o.what = .mem).foldl (fun st o =>
    if o.phase = .buffered && pathOf st p o = .line then
      (if lineReady st p o && !(heldByBarrier st p o) && !(heldByOverlap st p o) then performLine p o st else st)
    else stepOp p st o.id) s

/-- What a hold window deferred proceeds once it has ended, in the order of arrival: a snoop after the writes that came before it, and
before the later ones. The snoops of an open window wait on (R211). -/
def serveDeferred (p : Nat) (s : State) : State :=
  let ds := (getPort s p).deferred
  let (still, due) := ds.partition fun d => (getPort s p).hold.any fun w => w.1 = d.2.1
  if due.isEmpty then s
  else owe (.pump p) (due.foldl (fun st d => snoopArrives d.1 p d.2.1 d.2.2.1 (deferredWrites p d.2.1 d.2.2.2 st)) (modPort p (fun x => { x with deferred := still }) s))

/-! ### Homes -/

/-- RSP_I: the holder has no copy (R238). -/
def rspI (p g : Nat) (s : State) : State :=
  let s := [SnpKind.fwdS, .fwdX, .getS, .getI, .cur, .inv].foldl (fun st k => takeMsg (.answer k p g false false false) st) s
  match getTxn s g with
  | none => s
  | some t =>
    if t.asked.contains p then
      let s := if (getNear s p g).st = .m then s else setNear p g {} s
      holderAnswered g p false s
    else s

/-- RSP_FWD_S, RSP_FWD_I and RSP_DATA: the holder answered with the line. A dirty line is written to memory where it is not the
holder's any longer, nor the requester's (Table 9.5): on SNP_FWD_S, SNP_GET_S and SNP_GET_I. -/
def rspHad (ks : List SnpKind) (p g : Nat) (dirty forwarded : Bool) (s : State) : State :=
  let asked := (ks.find? fun k => s.coh.fabric.contains (.answer k p g true dirty false)).getD (if (getNear s p g).st = .m then .cur else .getI)
  let dirty' := dirty && !forwarded && asked ≠ .cur || dirty && ks.contains .fwdS
  let s := ks.foldl (fun st k => takeMsg (.answer k p g true dirty false) st) s
  match getTxn s g with
  | none => s
  | some t =>
    if t.asked.contains p then holderAnswered g p forwarded (dirtyBack g t.req.keySlot t.req.cache dirty' s) else s

/-- A writeback has left the near cache and has not arrived. -/
def wbOnWay (s : State) (p g : Nat) : Bool := s.coh.fabric.contains (.wb p g)

/-- RSP_WBIF: a writeback is in flight; the home waits for it unless it has been applied (R239). -/
def rspWbif (p g : Nat) (s : State) : State :=
  let s := [SnpKind.fwdS, .fwdX, .getS, .getI, .cur, .inv].foldl (fun st k => takeMsg (.answer k p g false false true) st) s
  match getTxn s g with
  | none => s
  | some t =>
    if t.asked.contains p then
      if wbOnWay s p g || (getDir s g).st = .exclusive && (getDir s g).ptrs.contains p && (getNear s p g).st = .m then
        setTxn g (some { t with asked := t.asked.erase p, fwd := if t.fwd = some p then none else t.fwd, wbWait := some p }) s
      else holderAnswered g p false s
    else s

/-- WB: applied at once, whatever transaction is open (R232): memory is written, the entry becomes unowned, WB_ACK goes
out; a home that waits for it goes on (R239). `bad` is a line whose data failed its parity (R230). -/
def wbArrives (r : CohReq) (bad : Bool) (s : State) : State :=
  let g := r.pa / 64
  let p := r.agent
  let l := getNear s p g
  let sent := wbOnWay s p g
  if !sent && l.st ≠ .m || (getPort s p).nearFenced then takeMsg (.wb p g) s
  else
    let s := takeMsg (.wb p g) s
    let s := if sent then s else setNear p g {} s
    let s := if flawAt s g = .clean then s else { s with mem.flaws := tset .clean s.mem.flaws g .clean }
    let s := if bad then
        let s := { s with mem.poison := tset false s.mem.poison g true }
        let slot := s.coh.lostProduced % 4096
        let s := lostLine g p 1 (count 0x3800 0x11 s)
        let ev : Event := ⟨6, 0x3000 + p, some l.ctx, g * 64, 1, 2, .contextKilled, slot⟩
        owe (.kill l.ctx 15) (raise ev s)
      else s
    let s := dirtyBack g r.keySlot r.cache true s
    let e := getDir s g
    let s := if e.st = .exclusive && e.ptrs.contains p then setDir g {} s else s
    let s := sendMsg (.wbAck p g) (if sent then s else { s with coh.wbs := s.coh.wbs ++ [(p, g)] })
    match getTxn s g with
    | none => throughDone g s
    | some t =>
      if t.wbWait = some p then
        let t := { t with wbWait := none }
        if t.asked.isEmpty then serveQueued (if t.fwd.isSome then finishForwarded t s else finishTxn t s)
        else setTxn g (some t) s
      else s

/-- DONE ends the granule's transaction; the next waiting request starts. -/
def doneArrives (agent g : Nat) (s : State) : State :=
  let s := takeMsg (.done agent g) s
  match getTxn s g with
  | none => s
  | some t => if t.doneWait && t.req.agent = agent then serveQueued (endTxn g s) else s

/-! ### Requesters -/

/-- The state a grant leaves. -/
def nearOf : Grant → NearState
  | .none => .i | .s => .s | .f => .f | .e => .e | .m => .m

/-- The oldest request of a port that was sent to the home without keeping a copy. -/
def homeOp (s : State) (p g : Nat) (load : Bool) : Option PortOp :=
  (opsOf s p).find? fun o => o.phase = .home && opGranule o = g && ((opCode o = opLoad || opCode o = opRload) = load)

/-- Nothing of the port is under way for this line any longer: its waiting requests look again. -/
def lineSettled (p g : Nat) (s : State) : State :=
  let again (o : PortOp) : PortOp := if o.sent && o.phase ≠ .home && opGranule o = g then { o with sent := false } else o
  modPort p (fun x => { x with ops := x.ops.map again }) s

/-- The host port that waits for the answer of a CXL.mem request on a granule. -/
def memPort (s : State) (g : Nat) : Nat := if (getHost s 1).asked.contains g then 1 else 0

/-- Answer a host's CXL.mem request (Table 9.11). -/
def memAnswer (g : Nat) (rsp : String) (data : Option Line) (poison : Bool) (s : State) : State :=
  let p := memPort s g
  portSend p (.memRsp p (g * 64) rsp data poison) (modHost p (fun h => { h with asked := h.asked.erase g }) s)

/-- A block that failed its check and has not been sent again: no consumer but an array uses it (R125). -/
def unchecked (s : State) (unit g : Nat) : Bool := s.xfers.any fun t => t.receiver = unit && t.granule = g && !t.write

/-- The set of a near cache that holds a granule: one of 1,024 (R229; DESIGN CHOICE, log 55). -/
def nearSet (g : Nat) : Nat := g % 1024

/-- The granules that a near cache holds in the set of `g`. -/
def nearUsed (s : State) (p g : Nat) : List Nat :=
  s.coh.near.filterMap fun kv => if kv.1 / 2 ^ 46 = p && kv.2.st ≠ .i && nearSet (kv.1 % 2 ^ 46) = nearSet g then some (kv.1 % 2 ^ 46) else none

/-- The line that leaves a full set of a near cache for `g`: none while the set has room. Which of the eight is not stated: a free value
picks it (log 55). -/
def nearVictim (s : State) (p g : Nat) : Option Nat :=
  let used := nearUsed s p g
  if used.contains g || used.length < 8 then none else used[(peekFree 3 s).toNat]?

/-- A near cache can take a line: its set has room, its victim is clean, or one of its 16 writeback buffers is free (R229). -/
def nearRoom (s : State) (p g : Nat) : Bool :=
  match nearVictim s p g with
  | none => true
  | some v => (getNear s p v).st ≠ .m || (s.coh.wbs.filter fun w => w.1 = p).length < 16

/-- A near cache gives a line up: a clean one silently, an M line with WB, kept in a buffer with its context until WB_ACK (R229, R239). -/
def nearEvicts (p v : Nat) (s : State) : State :=
  if (getNear s p v).st = .m then sendMsg (.wb p v) { setNear p v ⟨.i, (getNear s p v).ctx⟩ s with coh.wbs := s.coh.wbs ++ [(p, v)] }
  else setNear p v {} s

/-- Make room for a line (R229). -/
def nearMakes (p g : Nat) (s : State) : State :=
  match nearVictim s p g with
  | none => s
  | some v => nearEvicts p v (takeFree s)

/-- DATA or DATA_FWD reaches its requester: a near cache takes the line and sends DONE, but for a dead one; a request that keeps no copy is
answered; the host proxy answers its host. -/
def dataArrives (agent g : Nat) (x : Grant) (line : Line) (poison fwd : Bool) (s : State) : State :=
  if isNear agent && (unchecked s (0x3000 + agent) g || (x ≠ .none && !(nearRoom s agent g))) then s
  else
  let s := takeMsg (.data agent g x line poison fwd) s
  if isNear agent && x ≠ .none && (getPort s agent).nearFenced then s
  else if isNear agent then
    match x with
    | .none => match homeOp s agent g true with
      | none => s
      | some o =>
        let s := if poison then
            finishOp agent o.id .poisonConsumed false 0 (raisePoisonConsumed (0x3000 + agent) (some (opCtx o)) 1 o.req.va.toNat 2 s)
          else noteSeen agent o (finishOp agent o.id .ok false (namedBytes o.req (overlayBuffer s agent o line)) (softAccess o.pa (opLen o) false s))
        owe (.pump agent) s
    | _ =>
      let c := match target (g * 64) with
        | .scratch => (tget none s.mem.tags g).getD 4096
        | _ => (getNear s agent g).ctx
      let s := setNear agent g ⟨nearOf x, c⟩ (nearMakes agent g s)
      owe (.pump agent) (lineSettled agent g (sendMsg (.done agent g) s))
  else if agent = hostProxy then
    memAnswer g (match x with | .none => "MemData,Cmp" | .s => "MemData,Cmp-S" | .f => "MemData,Cmp-S" | _ => "MemData,Cmp-E")
      (some line) poison s
  else s

/-- GNT_X: ownership without data. -/
def grantArrives (agent g : Nat) (s : State) : State :=
  if isNear agent && !(nearRoom s agent g) then s
  else
  let s := takeMsg (.gntX agent g) s
  if isNear agent && (getPort s agent).nearFenced then s
  else if isNear agent then
    let s := setNear agent g { getNear s agent g with st := .e } (nearMakes agent g s)
    owe (.pump agent) (lineSettled agent g (sendMsg (.done agent g) s))
  else if agent = hostProxy then memAnswer g "Cmp-E" none false s
  else s

/-- CMP: a write, an atomic or a zeroed line is complete. -/
def cmpArrives (agent g : Nat) (old : Line) (poison : Bool) (s : State) : State :=
  let s := takeMsg (.cmp agent g old poison) s
  if isNear agent then
    match homeOp s agent g false with
    | none => s
    | some o =>
      let s := if poison then
          finishOp agent o.id .poisonConsumed false 0 (raisePoisonConsumed (0x3000 + agent) (some (opCtx o)) 3 o.req.va.toNat 2 s)
        else finishOp agent o.id .ok false (if opCode o = opAtomic then namedBytes o.req old else 0) s
      owe (.pump agent) s
  else if agent = hostProxy then memAnswer g "Cmp" none false s
  else s

/-- WB_ACK frees the writeback buffer. -/
def wbAckArrives (agent g : Nat) (s : State) : State :=
  let s := takeMsg (.wbAck agent g) s
  let s := { s with coh.wbs := s.coh.wbs.erase (agent, g) }
  let s := if isNear agent && (getNear s agent g).st = .i then setNear agent g {} s else s
  if isNear agent then owe (.pump agent) s else s

/-- RETRY: the request is sent again with its count one higher, saturating at 15; an aged one keeps its count (R234). -/
def retryArrives (agent g n : Nat) (s : State) : State :=
  let s := takeMsg (.retry agent g n) s
  if isNear agent then
    match (opsOf s agent).find? fun o => o.sent && o.phase ≠ .finished && opGranule o = g with
    | none => s
    | some o =>
      let n' := if 9 ≤ n then n else n + 1
      let r : CohReq := { cohReqOf agent o (opCode o = opRload && agedStream s agent o) with retry := Fin.ofNat 16 n' }
      let own := opCode o ≠ opLoad
      let msg : Msg := match o.phase with
        | .home =>
          if opCode o = opStore then .request .wrNc r ⟨o.req.data, o.req.mask, false⟩ 0 0
          else if opCode o = opAtomic then .request .atomH r ⟨o.req.data, o.req.mask, false⟩ (atAop o.req.attr) (opLen o)
          else .request .rdNc r noData 0 0
        | _ =>
          let st := (getNear s agent g).st
          .request (if !own then .rdS else if st = .s || st = .f then .upg else .rdX) r noData 0 0
      sendMsg msg s
  else s

/-! ### Dead agents (R241, R242) -/

/-- A block on its way to a granule's home failed its check and has not been sent again: the home does not use it (R125). -/
def blockOut (s : State) (g : Nat) : Bool := s.xfers.any fun t => t.receiver = 0x6000 + homeOf s g && t.granule = g && t.write

/-- Every pending matter that waits on a dead agent for one granule: its answer counts as RSP_I, and a writeback that it
owed is lost. -/
def forgetAgent (agent : Nat) (s : State) (g : Nat) : State :=
  match getTxn s g with
  | none => s
  | some t =>
    if t.req.agent = agent && t.doneWait then serveQueued (endTxn g s)
    else if t.asked.contains agent then holderAnswered g agent false s
    else if t.wbWait = some agent then
      let t := { t with wbWait := none }
      if t.asked.isEmpty then serveQueued (if t.fwd.isSome then finishForwarded t s else finishTxn t s)
      else setTxn g (some t) s
    else s

/-- One directory entry under the reclaim scan (R242). -/
def reclaimEntry (agent cause : Nat) (s : State) (g : Nat) : State :=
  let e := getDir s g
  if !e.ptrs.contains agent then s
  else match e.st with
    | .shared =>
      let e' := { e with ptrs := e.ptrs.erase agent, f := if e.f = some agent then none else e.f }
      setDir g (if e'.ptrs.isEmpty then {} else e') s
    | .exclusive =>
      lostLine g agent cause (setDir g {} { s with mem.poison := tset false s.mem.poison g true })
    | _ => s

/-- The reclaim scan of every home slice, with its count and its one record. -/
def reclaim (agent cause : Nat) (s : State) : State :=
  let unit := if isNear agent then 0x3000 + agent else 0x1FFF
  let slot := s.coh.lostProduced % 4096
  let s := (s.coh.dir.map (·.1)).foldl (reclaimEntry agent cause) s
  let s := (s.coh.txns.map (·.1)).foldl (forgetAgent agent) s
  raise { cls := 8, unit := unit, op := 7, detail := slot } (count 0x3800 0x12 s)

/-- The near cache of a core port becomes a dead agent: it holds nothing, what it had sent is discarded, its port goes uncached (R241, R242,
R452). -/
def nearDies (p : Nat) (s : State) : State :=
  let fromDead (m : Msg) : Bool := match m with
    | .answer _ h _ _ _ _ => h = p
    | .wb a _ => a = p
    | .done a _ => a = p
    | .request k r _ _ _ => r.agent = p && (k = .rdS || k = .rdX || k = .upg)
    | _ => false
  let s := { s with coh.near := s.coh.near.filter fun kv => kv.1 / 2 ^ 46 ≠ p }
  let s := { s with coh.wbs := s.coh.wbs.filter fun w => w.1 ≠ p }
  let s := { s with
    coh.fabric := s.coh.fabric.filter fun m => !fromDead m
    coh.queued := s.coh.queued.filter fun q => !(q.req.agent = p && (q.kind = .rdS || q.kind = .rdX || q.kind = .upg)) }
  let again (o : PortOp) : PortOp := match o.phase with
    | .line => { o with sent := false }
    | .buffered => { o with sent := false }
    | _ => o
  let s := modPort p (fun x => { x with nearFenced := true, resv := [], hold := [], deferred := [], ops := x.ops.map again }) s
  owe (.pump p) (reclaim p 0 s)

/-- The host proxy is dead: the reclaim runs for 0xF0, and every host line of the device cache goes, its M shingles with a
lost-line record of CAUSE 3 (R249). -/
def hostLinesLost (s : State) : State :=
  let ls := s.coh.dev.filterMap fun kv => if target (kv.1 * 256) = .host then some kv.1 else none
  ls.foldl (fun st l =>
    let st := (rangeFrom (4 * l) 4).foldl (fun x g =>
      let x := if shingleOf x g = .m then lostLine g 0xFF 3 x else x
      let e := getDir x g
      let hs := match e.st with | .broadcast => List.range 192 | _ => e.ptrs.filter isNear
      setDir g {} (hs.foldl (fun y p => if (getNear y p g).st = .i then y else setNear p g {} y) x)) st
    setLine l none st) { s with coh.through := [] }

/-! ### The host's CXL.mem side (R247, R248) -/

/-- The committed decoder of a port that maps a host physical address. -/
def decoderOf (s : State) (p hpa : Nat) : Option (Nat × Decoder) :=
  (List.range 8).findSome? fun d =>
    let x := tget {} (getHost s p).decoders d
    if x.committed && x.base ≤ hpa && hpa < x.base + x.size then some (d, x) else none

/-- The stack offset of a host physical address: the interleave granules of the other way are taken out (PRESUMED: CXL
3.x, log 18). -/
def hdmOffset (d : Decoder) (hpa : Nat) : Nat :=
  let o := hpa - d.base
  d.dpa + o / (d.gran * d.ways) * d.gran + o % d.gran

/-- Context and key slot of a decoder (Table 9.14). -/
def decContext (s : State) (p d : Nat) : Nat := obj s (0x5001 + p) (1 + 2 * d) 0
def decSlot (s : State) (p d : Nat) : Nat := obj s (0x5001 + p) (2 + 2 * d) 0

/-- The stack granule, context and key slot of a host access, when a decoder maps it and the slot serves it. -/
def hdmTarget (s : State) (p hpa : Nat) : Option (Nat × Nat × Nat) :=
  match decoderOf s p hpa with
  | none => none
  | some (d, x) =>
    let c := decContext s p d
    let k := decSlot s p d
    let pa := hdmOffset x hpa
    if accessVerdict s c k (pa / 64 * 64) 64 = .ok then some (pa / 64, c, k) else none

/-- A host access that nothing serves is counted: no decoder maps it (R248), or its key slot refuses it (R159). -/
def hdmRefused (p hpa : Nat) (s : State) : State :=
  match decoderOf s p hpa with
  | none => count 0x5000 4 s
  | some (d, x) => countSlot s (decContext s p d) (decSlot s p d) (hdmOffset x hpa / 64 * 64) s

/-- The internal request of the host proxy. -/
def proxyReq (g c k : Nat) : CohReq :=
  ⟨hostProxy, g * 64, BitVec.toFin (BitVec.ofNat 12 c), BitVec.toFin (BitVec.ofNat 12 k), 0, 0, false⟩

/-- A host request enters its home's order. -/
def memRequest (k : CohKind) (p g c key : Nat) (d : CohData) (s : State) : State :=
  homeRequest k (proxyReq g c key) d 0 0 .plain (modHost p (fun h => { h with asked := h.asked ++ [g] }) s)

/-! ### The host's snoops of the device cache (R246, Table 9.10) -/

/-- A snoop that comes while the home itself waits for the host's answer is not ordered behind that: near caches act at once. The owner
gives its data back, and for SnpInv every copy leaves. -/
def snoopNow (inv : Bool) (g : Nat) (s : State) : State :=
  let e := getDir s g
  if inv then recallNear g s
  else
    match e.st with
    | .exclusive => e.ptrs.foldl (fun st p =>
        let l := getNear st p g
        let st := if l.st = .m && shingleOf st g ≠ .i then setShingle g .m st else st
        if l.st = .m || l.st = .e then setDir g ⟨.shared, [p], none⟩ (setNear p g { l with st := .s } st) else st) s
    | _ => s

/-- A host snoop takes its place in its home's order: near copies answer first (R246). -/
def snoopTaken (p g : Nat) (k : SnpKind) (s : State) : State :=
  match getTxn s g with
  | some t =>
    if t.memWait then snoopAnswer p g k (if k = .cur then s else snoopNow (k = .getI) g s)
    else homeRequest (if k = .getI then .wrNc else .rdNc) (proxyReq g 0 0) noData 0 0 (.snoop k p) s
  | none =>
    if (getDir s g).st = .invalid && s.coh.queued.all fun q => q.req.pa / 64 ≠ g then snoopAnswer p g k s
    else homeRequest (if k = .getI then .wrNc else .rdNc) (proxyReq g 0 0) noData 0 0 (.snoop k p) s

end Sys2Proof.Machine
end

