-- ==== Sys2Proof/Machine/Course.lean ====
section
/-! DEFINITION. Course and operand descriptors (04): their fields, the checks of Tables 4.5 and R105, the footprint, and the
values a course computes from the bytes it reads (02, 03). -/

namespace Sys2Proof.Machine

/-! ### The course descriptor (Table 4.1) -/

def cdOp (d : BitVec 1024) : Nat := fld d 0 4
def cdFlat (d : BitVec 1024) : Bool := flag d 4
def cdWindowed (d : BitVec 1024) : Bool := flag d 5
def cdChained (d : BitVec 1024) : Bool := flag d 6
def cdForward (d : BitVec 1024) : Bool := flag d 7
def cdAccumulate (d : BitVec 1024) : Bool := flag d 8
def cdFromImage (d : BitVec 1024) : Bool := flag d 9
def cdNeighbour (d : BitVec 1024) : Bool := flag d 10
def cdSubtract (d : BitVec 1024) : Bool := flag d 11
def cdDigest (d : BitVec 1024) : Bool := flag d 12
def cdRound (d : BitVec 1024) : Nat := fld d 13 3
def cdSat (d : BitVec 1024) : Nat := fld d 16 2
def cdStrict (d : BitVec 1024) : Nat := fld d 18 2
def cdHeld (d : BitVec 1024) : Nat := fld d 20 5
def cdRows (d : BitVec 1024) : Nat := fld d 32 32
def cdTaps (d : BitVec 1024) : Nat := fld d 64 8
def cdGroup (d : BitVec 1024) : Nat := fld d 72 8
def cdSignalCtr (d : BitVec 1024) : Nat := fld d 80 17
def cdSignal (d : BitVec 1024) : Bool := flag d 97
def cdSeqMode (d : BitVec 1024) : Nat := fld d 98 2
def cdDiagOp (d : BitVec 1024) : Nat := fld d 100 4
def cdSeed (d : BitVec 1024) : Nat := fld d 128 64
def cdOrigin (d : BitVec 1024) : Nat := fld d 192 64
def cdTensor (d : BitVec 1024) : Nat := fld d 256 32
def cdSeqRef (d : BitVec 1024) : Nat := fld d 288 32
def cdStreamOp (d : BitVec 1024) : Nat := fld d 320 56
def cdStatOp (d : BitVec 1024) : Nat := fld d 384 56
def cdOutOp (d : BitVec 1024) : Nat := fld d 448 56
def cdImage (d : BitVec 1024) : Nat := fld d 512 56
def cdTag (d : BitVec 1024) : Nat := fld d 576 64

/-- Every RSVD field of a course descriptor is zero (R5). -/
def cdRsvdZero (d : BitVec 1024) : Bool :=
  zeroFld d 25 7 && zeroFld d 104 24 && zeroFld d 376 8 && zeroFld d 440 8 && zeroFld d 504 8 && zeroFld d 568 8 && zeroFld d 640 384

/-! ### The operand descriptor (Table 4.2) -/

def odBase (o : BitVec 256) : Nat := fld o 0 56
def odRecord (o : BitVec 256) : Nat := fld o 56 53 * 8
def odScale (o : BitVec 256) : Nat := fld o 109 49 * 128
def odFmt (o : BitVec 256) : Nat := fld o 158 4
def odMx (o : BitVec 256) : Bool := flag o 162
def odOrient (o : BitVec 256) : Bool := flag o 163
def odRsrc (o : BitVec 256) : Nat := fld o 164 2
def odRec (o : BitVec 256) : Bool := flag o 164
def odRidge (o : BitVec 256) : Int := signOf 10 (fld o 166 10)
def odCols (o : BitVec 256) : Nat := fld o 176 16
def odRows (o : BitVec 256) : Nat := fld o 192 32
def odStride (o : BitVec 256) : Nat := fld o 224 32

/-- Bytes of a memory row of `cols` elements (R96). -/
def rowBytes (f cols : Nat) : Nat :=
  match fmtBits f with
  | 4 => (cols + 1) / 2
  | 6 => 3 * ((cols + 3) / 4)
  | n => cols * (n / 8)

/-- Alignment of BASE and ROW_STRIDE (R96). -/
def odAligned (o : BitVec 256) : Bool :=
  let k := match fmtBits (odFmt o) with | 16 => 2 | 32 => 4 | 64 => 8 | 256 => 32 | _ => 1
  odBase o % k = 0 && odStride o % k = 0 && (fmtBits (odFmt o) ≠ 6 || odStride o % 3 = 0)

/-- The row map lies at this scratch offset (R99). -/
def rowMapOffset (d : BitVec 1024) : Nat := cdSeqRef d * 64

/-! ### Tiles (Table 3.1, Table 3.3) -/

def isNarrow (f : Nat) : Bool := f = 2 || f = 3 || f = 4
def isSmall (f : Nat) : Bool := 2 ≤ f && f ≤ 6
def isWide (f : Nat) : Bool := f = 9 || f = 10

/-- The pair is one of R30. -/
def pairOk (a b : Nat) : Bool :=
  (a ≤ 1 && b ≤ 1) || (isSmall a && isSmall b) || ((a = 7 || a = 8) && (b = 7 || b = 8)) || (a = b && isWide a)

/-- The square tile: most K and most N. -/
def tileOf (a : Nat) (windowed : Bool) : Nat × Nat :=
  if a = 9 then (64, 64) else if a = 7 || a = 8 then (if windowed then (64, 128) else (64, 64)) else (128, 128)

/-- Most K in flat form. -/
def flatK (f : Nat) : Nat := if f = 7 || f = 8 then 4096 else 8192

/-- Weights per intake cycle in flat form. -/
def flatIntake (f : Nat) : Nat := if f = 7 || f = 8 then 256 else if f = 0 || f = 2 then 1024 else 512

/-- K and N of a course's stationary operand: square by ORIENT, flat by the held set's columns. -/
def kUsed (d : BitVec 1024) (t : BitVec 256) : Nat :=
  if cdFlat d then odCols t else if odOrient t then odCols t else odRows t
def nUsed (_d : BitVec 1024) (t : BitVec 256) : Nat := if odOrient t then odRows t else odCols t

/-- Output rows and columns of a course: row m and column n in square form, held row h and weight column n in flat form. -/
def outShape (d : BitVec 1024) (s t : BitVec 256) : Nat × Nat :=
  if cdOp d = 3 then (cdRows d, odCols s)
  else if cdFlat d then (cdHeld d, cdRows d)
  else (cdRows d, nUsed d t)

/-! ### Table 4.5 -/

/-- Operands present as Table 4.3 asks, aligned to 32 bytes. -/
def structureOk (d : BitVec 1024) : Bool :=
  let op := cdOp d
  let need (b : Bool) (a : Nat) : Bool := if b then a ≠ 0 else a = 0
  1 ≤ op && op ≤ 3 && cdRsvdZero d &&
  cdStreamOp d % 32 = 0 && cdStatOp d % 32 = 0 && cdOutOp d % 32 = 0 && cdImage d % 32 = 0 &&
  need true (cdStreamOp d) &&
  need (op = 1 || (op = 3 && cdDiagOp d ≤ 4)) (cdStatOp d) &&
  need (!(op = 1 && cdForward d)) (cdOutOp d) &&
  (op = 3 || cdDiagOp d = 0)

/-- The checks on one input operand: format, MX, scale, record and ridge source, alignment. `kAlong` says that K runs along
the memory row. -/
def inputOk (o : BitVec 256) (top : Nat) (kAlong : Bool) : Bool :=
  odRows o ≠ 0 && odCols o ≠ 0 && odFmt o ≤ top && odAligned o && odRsrc o ≠ 3 &&
  (if odMx o then 1 ≤ odFmt o && odFmt o ≤ 6 && (if kAlong then odCols o % 32 = 0 else odRows o % 32 = 0) else odScale o = 0) &&
  (odRsrc o = 1 || odRecord o = 0)

/-- The checks on an output operand. An FP64 course may have any of these formats: Table 4.5 refuses none, and where R61 rounds
once to FP32 the model rounds once to the output's own format (DESIGN CHOICE, log 162). -/
def outputOk (d : BitVec 1024) (o : BitVec 256) (cols : Nat) : Bool :=
  odRows o ≠ 0 && odCols o ≠ 0 && ((5 ≤ odFmt o && odFmt o ≤ 9) || (odFmt o = 11 && cdOp d = 1)) && odAligned o &&
  zeroFld o 165 11 && (odRec o || odRecord o = 0) &&
  (odRows o ≤ 1 || rowBytes (odFmt o) (odCols o) ≤ odStride o) &&
  (if odMx o then (odFmt o = 5 || odFmt o = 6) && !odOrient o && odCols o % 32 = 0 && cols % 32 = 0 else odScale o = 0) &&
  (cdOp d ≠ 3 || !odOrient o)

/-- The arithmetic controls (Table 4.5); `win` is 0x4000:09 at the course's issue (R63). -/
def controlsOk (win : Bool) (d : BitVec 1024) (fmt : Nat) : Bool :=
  cdRound d ≠ 5 && cdRound d ≠ 6 && cdSat d ≠ 2 && cdStrict d ≠ 2 &&
  (!cdWindowed d || ((fmt = 7 || fmt = 8) && win))

/-- NEIGHBOUR (R77). -/
def neighbourOk (d : BitVec 1024) (a t : BitVec 256) : Bool :=
  if cdNeighbour d then
    !cdFlat d && !odMx a && !odMx t && !isWide (odFmt a) && !odOrient t &&
    cdTaps d * cdGroup d ≤ (tileOf (odFmt a) (cdWindowed d)).1 && kUsed d t = cdTaps d * cdGroup d
  else cdTaps d = 0 && cdGroup d = 0

/-- A DECLARED ridge of an FP64 operand is from -256 to 255, or -512 (R40): the descriptor itself states it, so it is judged
before R38 clamps (DEDUCED, log 28). -/
def declaredOk (o : BitVec 256) : Bool :=
  odFmt o ≠ 10 || odRsrc o ≠ 0 || odRidge o = -512 || (-256 ≤ odRidge o && odRidge o ≤ 255)

/-- A COURSE is well formed, apart from what depends on its array's store and on ridges. -/
def courseFormed (win : Bool) (d : BitVec 1024) (a t o : BitVec 256) : Bool :=
  let flat := cdFlat d
  let f := odFmt a
  cdRows d ≠ 0 && (if flat then 1 ≤ cdHeld d && cdHeld d ≤ 16 else cdHeld d = 0) &&
  inputOk a 10 true && inputOk t 10 (flat || odOrient t) && declaredOk a && declaredOk t && pairOk f (odFmt t) &&
  controlsOk win d f && (odOrient a = flat) && (!flat || !odOrient t) &&
  (if flat then kUsed d t ≤ flatK f && !isWide f
   else kUsed d t ≤ (tileOf f (cdWindowed d)).1 && nUsed d t ≤ (tileOf f (cdWindowed d)).2) &&
  neighbourOk d a t &&
  (!(isWide f) || (!cdForward d && !cdAccumulate d)) &&
  (cdAccumulate d || !cdFromImage d) && (cdFromImage d || cdImage d = 0) &&
  (if cdForward d then !cdDigest d && cdRows d ≤ (if flat then 2048 else 256)
   else outputOk d o (outShape d a t).2) &&
  cdSeqMode d ≠ 3 && (cdSeqMode d ≠ 1 || cdSeqRef d < 2 ^ 18)

/-- FORM, FORWARD, ACCUMULATE, CONT_SOURCE, NEIGHBOUR and their fields are zero in a scan or diagonal course. -/
def plainForm (d : BitVec 1024) : Bool :=
  !cdFlat d && !cdForward d && !cdAccumulate d && !cdFromImage d && !cdNeighbour d && cdTaps d = 0 && cdGroup d = 0 &&
  cdHeld d = 0 && cdImage d = 0 && cdRows d ≠ 0

/-- A RIDGE_SCAN is well formed (R103). -/
def scanFormed (win : Bool) (d : BitVec 1024) (a o : BitVec 256) : Bool :=
  plainForm d && cdSeqMode d = 0 && !cdDigest d && inputOk a 10 (!odOrient a) && controlsOk win d (odFmt a) &&
  odRec o && odBase o = 0 && zeroFld o 109 55 && zeroFld o 165 91

/-- A DIAGONAL is well formed (R120, R121); `test` for the start-up sequencer and field test, `diag` is 0x4100:04 at its issue. -/
def diagFormed (win diag test : Bool) (d : BitVec 1024) (a t o : BitVec 256) : Bool :=
  let op := cdDiagOp d
  (test || diag) && (op ≤ 5 || (op = 15 && test)) && plainForm d &&
  inputOk a 8 true && !odMx a && !odOrient a && odCols a ≤ 128 && controlsOk win d (odFmt a) &&
  (5 ≤ op || (inputOk t 8 true && !odMx t && !odOrient t && odFmt t = odFmt a)) &&
  outputOk d o (odCols a) && odFmt o ≠ 11 && cdSeqMode d ≠ 3 && (cdSeqMode d ≠ 1 || cdSeqRef d < 2 ^ 18)

/-- Last byte of an operand's footprint (R105); b of R96 is the byte count of a whole memory row. -/
def lastByte (o : BitVec 256) (rows : Nat) : Nat := odBase o + (rows - 1) * odStride o + rowBytes (odFmt o) (odCols o) - 1

/-- Streamed memory rows that a course reads. -/
def streamRows (d : BitVec 1024) : Nat := if cdNeighbour d then cdRows d + cdTaps d - 1 else cdRows d
/-- Elements of each streamed memory row that it reads. -/
def streamCols (d : BitVec 1024) (a t : BitVec 256) : Nat :=
  if cdOp d ≠ 1 then odCols a else if cdNeighbour d then cdGroup d else kUsed d t
/-- Memory rows and columns of the stationary slot that it reads. -/
def statCols (d : BitVec 1024) (a t : BitVec 256) : Nat := if cdOp d = 3 then odCols a else odCols t
def statRows (d : BitVec 1024) (t : BitVec 256) : Nat := if cdOp d = 3 then cdRows d else if cdFlat d then cdHeld d else odRows t
/-- Memory rows and columns that the output takes. -/
def outRows (d : BitVec 1024) (a t o : BitVec 256) : Nat := if odOrient o then (outShape d a t).2 else (outShape d a t).1
def outCols (d : BitVec 1024) (a t o : BitVec 256) : Nat := if odOrient o then (outShape d a t).1 else (outShape d a t).2

def hasOut (d : BitVec 1024) : Bool := cdOp d ≠ 2 && !(cdOp d = 1 && cdForward d)
def hasStat (d : BitVec 1024) : Bool := cdOp d = 1 || (cdOp d = 3 && cdDiagOp d ≤ 4)

/-- R105: every footprint lies within its extent. -/
def boundsOk (s : State) (d : BitVec 1024) (a t o : BitVec 256) : Bool :=
  streamRows d ≤ odRows a && streamCols d a t ≤ odCols a &&
  lastByte a (streamRows d) < 2 ^ 56 &&
  (!hasStat d || (statRows d t ≤ odRows t && lastByte t (statRows d t) < 2 ^ 56)) &&
  (cdOp d ≠ 3 || ((!hasStat d || (odRows a ≤ odRows t && odCols a ≤ odCols t)) && odRows a ≤ odRows o && odCols a ≤ odCols o)) &&
  (!hasOut d || (outRows d a t o ≤ odRows o && outCols d a t o ≤ odCols o && lastByte o (outRows d a t o) < 2 ^ 56)) &&
  (!cdFromImage d || cdImage d + 32 * ((outShape d a t).1 * (outShape d a t).2) ≤ 2 ^ 56) &&
  (cdSeqMode d ≠ 2 || rowMapOffset d + 4 * (outShape d a t).1 ≤ scratchBytes s)

/-- The static verdict on a course (R104, R105): MALFORMED before BOUND_FAULT (R10). -/
def courseVerdict (s : State) (c : Course) (a t o : BitVec 256) : Status :=
  let d := c.raw
  let formed := structureOk d && (match cdOp d with
    | 1 => courseFormed c.windowOk d a t o
    | 2 => scanFormed c.windowOk d a o
    | _ => diagFormed c.windowOk c.diagOk (c.src = .test) d a t o)
  if !formed then .malformed else if boundsOk s d a t o then .ok else .boundFault

/-! ### The footprint (R107) -/

/-- The segments of an extent: one span where rows lie within a page of each other, else row by row. -/
def extentSegs (base stride rows bytes need : Nat) : List Segment :=
  if rows = 0 || bytes = 0 then []
  else if stride ≤ 4096 then [⟨base, (rows - 1) * stride + bytes, need⟩]
  else (List.range rows).map fun r => ⟨base + r * stride, bytes, need⟩

/-- Bytes of an operand's scale array for its first `rows` memory rows (R97). -/
def scaleBytes (o : BitVec 256) (along : Bool) (rows : Nat) : Nat :=
  if along then rows * odCols o / 32 else (rows + 31) / 32 * odCols o

def inputSegs (o : BitVec 256) (rows cols : Nat) (along : Bool) : List Segment :=
  extentSegs (odBase o) (odStride o) rows (rowBytes (odFmt o) cols) needR ++
  (if odMx o then [⟨odScale o, scaleBytes o along rows, needR⟩] else []) ++
  (if odRsrc o = 1 then [⟨odRecord o, 8, needR⟩] else [])

def outputSegs (d : BitVec 1024) (a t o : BitVec 256) : List Segment :=
  if cdOp d = 2 then [⟨odRecord o, 8, needRWA⟩]
  else if hasOut d then
    extentSegs (odBase o) (odStride o) (outRows d a t o) (rowBytes (odFmt o) (outCols d a t o)) needW ++
    (if odMx o then [⟨odScale o, outRows d a t o * odCols o / 32, needW⟩] else []) ++
    (if odRec o && odFmt o ≠ 11 then [⟨odRecord o, 8, needRWA⟩] else [])
  else []

/-- The whole footprint of a course. -/
def courseSegs (d : BitVec 1024) (a t o : BitVec 256) : List Segment :=
  inputSegs a (streamRows d) (streamCols d a t) (if cdOp d = 2 then !odOrient a else true) ++
  (if hasStat d then inputSegs t (statRows d t) (statCols d a t) (cdFlat d || odOrient t) else []) ++
  (if cdFromImage d then [⟨cdImage d, 32 * ((outShape d a t).1 * (outShape d a t).2), needR⟩] else []) ++
  outputSegs d a t o

/-! ### Reading through a footprint -/

/-- The extent that holds a virtual address. -/
def extentOf (foot : List Extent) (va : Nat) : Option Extent := foot.find? fun x => x.va ≤ va && va < x.va + x.len

/-- Where a virtual address of a footprint lies. -/
def footPa (foot : List Extent) (va : Nat) : Nat := match extentOf foot va with | some x => x.pa + (va - x.va) | none => 0

/-- The block holds the granule of host memory itself: in the device cache, or granted for the access that is under way. -/
def hostHeld (s : State) (pa : Nat) : Bool := shingleOf s (pa / 64) ≠ .i || s.coh.fresh.contains (pa / 64)

/-- The bytes that a host or a peer may deliver: those outside device memory that the block does not hold. -/
def outsideExt (s : State) (ext : Ext) : Ext :=
  ext.filter fun e => (target e.1 = .host && !(hostHeld s e.1)) || target e.1 = .peer

/-- A byte of host memory as the block reads it: one that waits in a host write queue, else the one that comes with a command, else as it
stands in the model's memory. -/
def extByte (s : State) (ext : Ext) (pa : Nat) : Byte :=
  (((queueExt s ++ outsideExt s ext).find? fun e => e.1 = pa).map (·.2)).getD (byteAt s pa)

/-- The byte that a context reads at a virtual address of its footprint: the one in `ext` (what a host or peer delivers, or
a kept copy), else memory. -/
def footByte (s : State) (ext : Ext) (c : Nat) (foot : List Extent) (va : Nat) : Byte :=
  match extentOf foot va with
  | none => 0
  | some x =>
    let pa := x.pa + (va - x.va)
    match ext.find? fun e => e.1 = pa with
    | some e => e.2
    | none => match target pa with
      | .stacks => lineByte (granuleData s c x.keySlot (pa / 64)) (pa % 64)
      | .scratch => lineByte (granuleData s c x.keySlot (pa / 64)) (pa % 64)
      | _ => byteAt s pa

/-- The bytes of a run. -/
def footBytes (s : State) (ext : Ext) (c : Nat) (foot : List Extent) (va n : Nat) : List Byte :=
  (List.range n).map fun i => footByte s ext c foot (va + i)

/-- The byte at a virtual address is poisoned. -/
def footPoison (s : State) (c : Nat) (foot : List Extent) (va : Nat) : Bool :=
  match extentOf foot va with
  | none => false
  | some x => granulePoison s c ((x.pa + (va - x.va)) / 64) || queuedBad s (x.pa + (va - x.va))

/-- First byte and number of bytes of element `c` of memory row `r`. -/
def elemBytes (o : BitVec 256) (r c : Nat) : Nat × Nat :=
  let row := odBase o + r * odStride o
  match fmtBits (odFmt o) with
  | 4 => (row + c / 2, 1)
  | 6 => (row + 3 * (c / 4), 3)
  | n => (row + c * (n / 8), n / 8)

/-- The code of element `c` of memory row `r` (R27). -/
def elemCode (view : Nat → Byte) (o : BitVec 256) (r c : Nat) : Nat :=
  let (va, n) := elemBytes o r c
  let v := ofLe ((List.range n).map fun i => view (va + i))
  match fmtBits (odFmt o) with
  | 4 => nbits v (4 * (c % 2)) 4
  | 6 => nbits v (6 * (c % 4)) 6
  | _ => v

/-- Address of the scale byte of element `c` of memory row `r` (R97). -/
def scaleAddr (o : BitVec 256) (along : Bool) (r c : Nat) : Nat :=
  odScale o + (if along then r * odCols o / 32 + c / 32 else r / 32 * odCols o + c)

/-- The value of element `c` of memory row `r`, with its scale. -/
def elemVal (view : Nat → Byte) (o : BitVec 256) (along : Bool) (r c : Nat) : Val :=
  let x := decodeElem (odFmt o) (odMx o) (elemCode view o r c)
  if odMx o then scaleVal (view (scaleAddr o along r c)).toNat x else x

/-! ### What a course computes -/

/-- A[m][k]: streamed row `m`, lane `k` of the reduction (R66, R77, R81). -/
def streamElem (view : Nat → Byte) (d : BitVec 1024) (a : BitVec 256) (m k : Nat) : Val :=
  if cdNeighbour d then
    let c := cdGroup d
    let tap := cdTaps d - 1 - k / c
    elemVal view a true (m + tap) (k % c)
  else elemVal view a true m k

/-- B[k][n] of the stationary tile. -/
def statElem (view : Nat → Byte) (_d : BitVec 1024) (t : BitVec 256) (k n : Nat) : Val :=
  if odOrient t then elemVal view t true n k else elemVal view t false k n

/-- The pair of elements that output (m, n) multiplies at `k`. In flat form row `m` is held row m and column `n` a weight
column. -/
def courseProduct (view : Nat → Byte) (d : BitVec 1024) (a t : BitVec 256) (m n k : Nat) : List Val :=
  let x := if cdFlat d then elemVal view t true m k else streamElem view d a m k
  let y := if cdFlat d then elemVal view a true n k else statElem view d t k n
  let ps := pairProducts (odFmt a) x y
  if cdSubtract d then ps.map negVal else ps

/-- The gutter of output (m, n), from `start`, over lanes `lo` to `hi` - 1 of K (R25): a square row joins it whole, a flat unit
by its intake cycles (R34, R82, R83). -/
def courseGutter (view : Nat → Byte) (d : BitVec 1024) (a t : BitVec 256) (r : Int) (start : Gutter) (lo hi m n : Nat) : Gutter :=
  let w := if cdFlat d then flatIntake (odFmt a) else hi - lo
  (List.range ((hi - lo + w - 1) / w)).foldl (fun g i =>
    let k := lo + i * w
    joinGutter g (rowPart r (cdWindowed d) ((rangeFrom k (min w (hi - k))).flatMap (courseProduct view d a t m n)))) start

/-- The exact result of a diagonal operation (R120). Of SCAN_TEST the spec says only that it is the array scan pattern; here it
gives back the streamed element (DESIGN CHOICE, log 162). -/
def diagVal (op : Nat) (x y : Val) : Val :=
  match op with
  | 0 => mulVal x y
  | 1 => addVal x y
  | 2 => addVal x (negVal y)
  | 3 => maxVal x y
  | 4 => negVal (maxVal (negVal x) (negVal y))
  | _ => x
where
  addVal : Val → Val → Val
    | .nan, _ => .nan
    | _, .nan => .nan
    | .inf s, .inf t => if s = t then .inf s else .nan
    | .inf s, .fin _ _ => .inf s
    | .fin _ _, .inf t => .inf t
    | .fin n e, .fin m f => let k := min e f; .fin (n * 2 ^ (e - k).toNat + m * 2 ^ (f - k).toNat) k
  maxVal : Val → Val → Val
    | .nan, _ => .nan
    | _, .nan => .nan
    | .inf s, y => if s then y else .inf false
    | x, .inf t => if t then x else .inf false
    | .fin n e, .fin m f =>
      let k := min e f
      if n * 2 ^ (e - k).toNat < m * 2 ^ (f - k).toNat then .fin m f else .fin n e

/-- The addresses whose poison output (m, n) consumes; of a scan, those of element (m, n) itself (R103, R466). -/
def rowAddrs (d : BitVec 1024) (a t : BitVec 256) (m n : Nat) : List Nat :=
  let k := if cdOp d = 3 then 1 else kUsed d t
  let sc (o : BitVec 256) (along : Bool) (r c : Nat) : List Nat := if odMx o then [scaleAddr o along r c] else []
  let el (o : BitVec 256) (along : Bool) (r c : Nat) : List Nat :=
    (let (va, len) := elemBytes o r c; (List.range len).map (va + ·)) ++ sc o along r c
  if cdOp d = 2 then el a (!odOrient a) m n
  else if cdOp d = 3 then el a true m n ++ (if hasStat d then el t true m n else [])
  else (List.range k).flatMap fun i =>
    if cdFlat d then el t true m i ++ el a true n i
    else (if cdNeighbour d then el a true (m + (cdTaps d - 1 - i / cdGroup d)) (i % cdGroup d) else el a true m i) ++
      (if odOrient t then el t true n i else el t false i n)

/-- Address of output element (m, n), and its memory row and column. -/
def outPlace (o : BitVec 256) (m n : Nat) : Nat × Nat := if odOrient o then (n, m) else (m, n)
def outAddr (o : BitVec 256) (m n : Nat) : Nat := (elemBytes o (outPlace o m n).1 (outPlace o m n).2).1

/-- The element index of R50 (R98). -/
def elemIndex (d : BitVec 1024) (o : BitVec 256) (m n : Nat) : Nat :=
  cdOrigin d + (outPlace o m n).1 * (odStride o / max 1 (fmtBits (odFmt o) / 8)) + (outPlace o m n).2

end Sys2Proof.Machine
end

