-- ==== Sys2Proof/Machine/Ports.lean ====
section
/-! DEFINITION. Writes of core ports at their end: performed, or declared lost with their target (08); hold windows; what
a storage check finds on a request. -/

namespace Sys2Proof.Machine

/-- The unit of a physical address: where a lost write was bound (R217). With no host port up, it is the one that carries the address while
both are (R271; log 112). -/
def targetUnit (s : State) (pa : Nat) : Nat :=
  match target pa with
  | .host => 0x1000 + (if proxyAlive s then hostPortOf s pa else nbits pa 12 1)
  | .peer => 0x2000 + peerLinkOf pa
  | .regs => 0xC000
  | _ => storageUnit s pa

/-- The request of an uncached write that is lost leaves the fabric and the home's queue, and a transaction that is open for it writes
nothing (R215). -/
def dropWrite (p : Nat) (o : PortOp) (s : State) : State :=
  let mine (r : CohReq) (d : CohData) : Bool := r.agent = p && r.pa = o.pa && d.data = o.req.data && d.mask = o.req.mask
  if o.phase ≠ .home then s
  else
    let s := { s with
      coh.fabric := s.coh.fabric.filter fun m => match m with | .request .wrNc r d _ _ => !(mine r d) | _ => true
      coh.queued := s.coh.queued.filter fun q => !(q.kind = .wrNc && mine q.req q.data) }
    match getTxn s (opGranule o) with
    | some t => if t.kind = .wrNc && mine t.req t.data then setTxn (opGranule o) (some { t with data := { t.data with mask := 0 } }) s else s
    | none => s

/-- A write is lost (R215, R217): one acknowledged EARLY is recorded, counted and left for its stream's next barrier that waits for it; one
not yet acknowledged carries the status itself. A peer write whose message has not left is waited for by a CLUSTER barrier too (Table 8.7). -/
def loseOp (p : Nat) (st : Status) (s : State) (o : PortOp) : State :=
  let s := dropWrite p o s
  if o.answer.isSome && countsStore o then
    let ev : Event := ⟨8, targetUnit s o.pa, some (opCtx o), o.req.va.toNat, 2, 2, st, 0⟩
    let s := raise ev (count 0x3880 4 s)
    modOp p o.id (fun x => { x with phase := .finished, need0 := 0, need1 := 0 })
      (modPort p (fun x => { x with lost := x.lost ++ [(o.id, opStream o, (match o.phase with | .peer _ => if unsentTo s p o then 1 else 2 | _ => 1), st)] }) s)
  else finishOp p o.id st false 0 s

/-- Declare lost every unfinished entry of every port that `hit` picks, and let the ports go on. -/
def loseWhere (hit : Nat → PortOp → Bool) (st : Status) (s : State) : State :=
  s.ports.foldl (fun acc kv =>
    let os := kv.2.ops.filter (hit kv.1)
    if os.isEmpty then acc else owe (.pump kv.1) (os.foldl (loseOp kv.1 st) acc)) s

/-- A write reaches its point of performance (Table 8.3): in an owned line, or in the host write queue. Another stream's
hold window on the line makes it wait (R211). -/
def performWrite (p id : Nat) (s : State) : State :=
  match findOp s p id with
  | none => s
  | some o =>
    if o.phase ≠ .buffered || opCode o ≠ opStore || heldByBarrier s p o || heldByOverlap s p o || heldBySnoop s p o then s
    else match pathOf s p o with
      | .io =>
        if hostUp s (hostPortOf s o.pa) then
          let k := hostPortOf s o.pa
          let bs := (List.range (opLen o)).map fun i => lineByte o.req.data (reqOff o.req + i)
          let s := hostPost o.pa bs false (softAccess o.pa (opLen o) true s)
          let w := (getHost s k).wseq
          let s := modOp p id (fun x => if k = 0 then { x with need0 := w } else { x with need1 := w }) s
          owe (.pump p) (finishOp p id .ok false 0 s)
        else owe (.pump p) (loseOp p .deadTarget s o)
      | .line => if lineReady s p o then owe (.pump p) (performLine p o s) else s
      | _ => s

/-- The oldest hold window of a port ends by time: its stream's reservation is cleared (R209), what it deferred proceeds
(R211). -/
def holdExpires (p : Nat) (s : State) : State :=
  match (getPort s p).hold with
  | [] => s
  | w :: rest => owe (.pump p) (serveDeferred p (count 0x3880 8 (modPort p (fun x => { x with hold := rest, resv := tset none x.resv w.2 none }) s)))

/-! ### What the checks of storage find (R149, R157, R228, R230, R345) -/

/-- What the codes found on an access to a granule, of operation `op` for a context, with its shingle as it stood. A shingle that the
device cache held is checked there: a clean one is fetched again, and a dirty one stays poisoned as a lost line (R228). Elsewhere the loft or the stack corrects the granule, or it becomes poison (R149, R157); so it does when a scratch
granule's tag entry is lost (R150; its event is MEM_POISONED as for lost data: DEDUCED, log 31). The event belongs to the context of the access (DEDUCED, log 30); one of
the device cache names the line's home slice (DESIGN CHOICE, log 148). -/
def applyEcc (e : Ecc) (g : Nat) (ctx : Option Nat) (op : Nat) (sh : Shingle) (s : State) : State :=
  let k := (stackOf s (offset (g * 64))).1
  let unit := if sh = .i then storageUnit s (g * 64) else 0x6000 + homeOf s g
  let ev (cls : Nat) : Event := { cls := cls, unit := unit, ctx := ctx, addr := g * 64, addrKind := 1, op := op }
  let poisoned (st : State) : State := { st with mem.poison := tset false st.mem.poison g true }
  let found (ix sub : Nat) (s : State) : State := match e with
    | .corrected => raise (ev 3) (count ix sub s)
    | .uncorrectable => raise (ev 4) (count ix (sub + 1) (poisoned s))
    | _ => s
  if sh = .i then match target (g * 64) with
    | .scratch => if e = .tagLost then raise (ev 4) { poisoned s with mem.tags := tset none s.mem.tags g (some lostTag) } else found 0x3000 8 s
    | .stacks => found (0x3101 + k) 5 s
    | _ => s
  else match e with
    | .clean => s
    | .corrected => raise (ev 3) (count 0x3000 8 s)
    | .uncorrectable =>
      if sh = .d || sh = .m then lostLine g 0xFF 2 (raise (ev 4) (count 0x3000 9 (poisoned s)))
      else count 0x3800 0x0E s
    | .tagParity => count 0x3800 0x0F s
    | .tagLost => raise (ev 0x10) s

/-- Errors that the storage has suffered: the next read of each granule finds them (R149, R157). -/
def storageErrors (errs : List (Nat × Ecc)) (s : State) : State :=
  { s with mem.flaws := errs.foldl (fun t e => tset .clean t e.1 e.2) s.mem.flaws }

/-- Parity fails on a line of a near cache (R230): a clean line is dropped, to be fetched again; an M line is written back
poisoned. -/
def nearParity (p g keySlot cache c : Nat) (s : State) : State :=
  if (getNear s p g).st = .m then
    wbArrives ⟨p, g * 64, BitVec.toFin (BitVec.ofNat 12 c), BitVec.toFin (BitVec.ofNat 12 keySlot), Fin.ofNat 3 cache, 0, false⟩ true s
  else setNear p g {} (count 0x3800 0x10 s)

/-- The granule that a request's address translates to now, in memory that the block caches or stores, with the key slot and
the CACHE attribute of its range. -/
def storageGranule (s : State) (r : CoreReq) : Option (Nat × Nat × Nat) :=
  let space := fld (getCtx s (atCtx r.attr)) 116 12
  match (lookup (tlbsOfPort r.port.val) space r.va.toNat s).1 with
  | .is (.found e) =>
    let pa := rePa e r.va.toNat
    if ((target pa = .stacks || target pa = .scratch) && inMap s pa (reqLen r)) || (target pa = .host && !reFlushed e) then
      some (pa / 64, reKeySlot e, reCache e)
    else none
  | _ => none

/-- What the checks find as a request reads its granule, in the port's near cache when it holds the line; else the storage has suffered the
error by then, and the request's own read meets it. A store of a whole granule reads nothing (R149), nor does a request that is malformed
(R194) or refused before any byte moves (R159). -/
def storageCheck (e : Ecc) (r : CoreReq) (s : State) : State :=
  let p := r.port.val
  if reqMalformed r || (atOp r.attr = opStore && r.mask = fullMask) then s
  else match storageGranule s r with
    | some (g, keySlot, cache) =>
      if cache ≠ 2 && !(getPort s p).nearFenced && (getNear s p g).st ≠ .i then
        if e = .uncorrectable then nearParity p g keySlot cache (atCtx r.attr) s else s
      else if e = .clean || accessVerdict s (atCtx r.attr) keySlot (64 * g) 64 ≠ .ok then s
      else storageErrors [(g, e)] s
    | none => s

/-- A request of the request channel, with what the storage finds. -/
def portRequest (r : CoreReq) (e : Ecc) (s : State) : State :=
  serveDeferred r.port.val (requestArrives r (storageCheck e r s))

end Sys2Proof.Machine
end

