-- ==== Sys2Proof/Machine/ArrayEng.lean ====
section
/-! DEFINITION. The arrays (03 to 05): courses from their issue to their result; the checks, the ready set, the continuation
store, verdicts, confirmation, re-runs, pre-emption. The values of a course are computed when its outputs become
indicative; software may not touch what it reads and writes before its result (R108), and where it has, the outputs are free
values. -/

namespace Sys2Proof.Machine

/-! ### Arrays and their courses -/

def getArr (s : State) (a : Nat) : ArrayU := tget {} s.arrays.arr a
def modArr (a : Nat) (f : ArrayU → ArrayU) (s : State) : State := { s with arrays.arr := tmod {} s.arrays.arr a f }
def findCourse (s : State) (a id : Nat) : Option Course := (getArr s a).courses.find? fun c => c.id = id
def modCourse (a id : Nat) (f : Course → Course) (s : State) : State :=
  modArr a (fun x => { x with courses := x.courses.map fun c => if c.id = id then f c else c }) s
def runningCourse (s : State) (a : Nat) : Option Course :=
  match (getArr s a).run with | some id => findCourse s a id | none => none

/-- Every course of the block. -/
def allCourses (s : State) : List Course := s.arrays.arr.flatMap fun kv => kv.2.courses

/-- The substitute of a fenced array: the lowest unfenced array of its cluster (R118). -/
def substitute (s : State) (a : Nat) : Option Nat := (rangeFrom (a / 4 * 4) 4).find? fun k => !(getArr s k).fenced

/-- Rows queued on an array (R332). -/
def rowsQueued (s : State) (a : Nat) : Nat :=
  ((getArr s a).courses.map fun c => match c.stage with | .writing _ _ => 0 | _ => cdRows c.raw).foldl (· + ·) 0

/-- The unfenced array with the fewest rows queued, the lowest number first on a tie (R332). -/
def leastArray (s : State) : Option Nat :=
  (List.range 192).foldl (fun best a =>
    if (getArr s a).fenced then best
    else match best with
      | none => some a
      | some b => if rowsQueued s a < rowsQueued s b then some a else best) none

/-! ### The course result (R100) -/

/-- The image of Table 4.4. -/
def courseResult (c : Course) (unit : Nat) (st : Status) (obs : Int) : BitVec 128 :=
  BitVec.ofNat 128 (pack [(8, st.code), (8, 0), (1, b2n c.strictRun), (1, b2n c.faultRun), (1, b2n c.reissued), (13, 0),
    (10, (obs % 1024).toNat), (6, 0), (16, unit), (64, cdTag c.raw)])

/-- A pre-empted course whose save area is written, or one that waits on a page fault as it resumes from it. -/
def isSaved (c : Course) : Bool := match c.stage with | .saved => true | .fault _ saved => saved | _ => false

/-- A course whose outputs are on their way. -/
def isWriting (c : Course) : Bool := match c.stage with | .writing _ _ => true | _ => false

/-- UNIT of a course that ends: the array that ran it, or 0 if none did (Table 4.4). -/
def ranUnit (s : State) (a : Nat) (c : Course) : Nat := if (getArr s a).run = some c.id || isSaved c then 0x4000 + a else 0

/-- Tell a course's issuer. -/
def tellIssuer (c : Course) (st : Status) (res : BitVec 128) (s : State) : State :=
  match c.src with
  | .core p id => owe (.pump p) (modOp p id (fun o => { o with phase := .finished, answer := some ⟨st, false, res.setWidth 512⟩ }) s)
  | .queue q idx =>
    let f (x : Cmd) : Cmd := if x.idx = idx then { x with fin := some (x.fin.getD st), detail := res, reissued := c.reissued } else x
    (modQueue q (fun x => { x with cmds := x.cmds.map f }) s)
  | .ds k =>
    if statusClass st = 0 then s
    else
      let ev : Event := ⟨0x0C, 0xA000, some k, 0, 0, 4, st, 0⟩
      raise ev (setCtxFld k 44 8 st.code s)
  | .test => s

/-- The peer data that an operation has taken is gone, with its remote-wait records (R334). -/
def dropLanded (w : Waiter) (s : State) : State :=
  let mine (r : PeerReq) : Bool := r.waiter = w && r.landed
  let n := (s.peers.map fun kv => (kv.2.out.filter fun r => mine r && r.remote).length).foldl (· + ·) 0
  { s with peers := s.peers.map fun kv => (kv.1, { kv.2 with out := kv.2.out.filter fun r => !mine r }), sched.remoteFree := s.sched.remoteFree + n }

/-- An array issues rows: its cluster's idle delay begins again (R20). -/
def rowsIssued (a : Nat) (s : State) : State := modCluster (a / 4) (fun x => { x with rowDue := s.aoncnt + obj s 0x2000 8 256 }) s

/-- The store holds what the course's context keeps there for courses issued to the same array. -/
def ownStore (st : Store) (c : Course) : Bool := st.ctx = some c.ctx && st.home = c.home

/-- The course has done with the array: the array is free, and the course's strict hold or partial sums are gone (R113). -/
def leaveArray (a : Nat) (c : Course) (s : State) : State :=
  let s := if (getArr s a).run = some c.id then rowsIssued a s else s
  modArr a (fun x => { x with run := if x.run = some c.id then none else x.run,
                              ask := if x.run = some c.id then false else x.ask,
                              store := if (x.run = some c.id || isSaved c) && ownStore x.store c && !x.store.chain then {} else x.store }) s

/-- End a course with a result: counted, told, signalled, gone from its array. -/
def endCourse (a unit : Nat) (c : Course) (st : Status) (obs : Int) (s : State) : State :=
  let res := courseResult c unit st obs
  let s := count 0x4100 5 s
  let s := if st = .malformed || st = .boundFault then count 0x4100 6 s else s
  let s := if st = .inexact then count 0x4000 6 s else s
  let s := modArr a (fun x => { x with courses := x.courses.filter (fun k => k.id ≠ c.id) }) (leaveArray a c s)
  let s := tellIssuer c st res (dropLanded (.array a c.id) s)
  if cdSignal c.raw then (signalFor c.ctx (cdSignalCtr c.raw) 1 s).1 else s

/-! ### Issue -/

/-- The bound step and the verdict as known at issue of sequence `q` (R126). -/
def bindSeq (s : State) (q : Nat) : Nat × Nat × Nat :=
  let e := tget 0 s.sched.seqs q
  let st := fld e 28 3
  let b := fld e 224 32
  (q, b, if st = 0 || 3 ≤ st then 2 else if fld e 192 32 + 1 < b then 0 else 1)

/-- The row map of a course: for each output row, the sequence it serves (R99). -/
def readRowMap (s : State) (ctx : Nat) (d : BitVec 1024) : List (Option Nat) :=
  let n := if cdFlat d then cdHeld d else cdRows d
  match cdSeqMode d with
  | 1 => List.replicate n (some (cdSeqRef d % 2 ^ 18))
  | 2 => (List.range n).map fun r =>
      let pa := 2 ^ 48 + rowMapOffset d + 4 * r
      let v := granuleData s ctx blockSlot (pa / 64)
      let e := nbits v.toNat (8 * (pa % 64)) 32
      if nbit e 31 && nbits e 18 13 = 0 then some (nbits e 0 18) else none
  | _ => []

/-- The part of the row-map memory that a course reads. -/
def rowMapExtent (d : BitVec 1024) : List Extent :=
  if cdSeqMode d = 2 then [⟨0, 2 ^ 48 + rowMapOffset d, 4 * (if cdFlat d then cdHeld d else cdRows d), blockSlot, 2, false, false⟩] else []

/-- Continuation speculation is on for a context (R139). -/
def specCont (s : State) (c : Nat) : Bool := flag (getCtx s c) 111 && obj s 0x4800 2 1 = 1

/-- A fresh course. It is bound to the current step of each sequence that it serves (R126). -/
def newCourse (id : Nat) (raw : BitVec 1024) (ctx : Nat) (src : CourseSrc) (stream : Nat) (reissued : Bool) (s : State) : Course :=
  let r := if cdRound raw = 7 then obj s 0x4000 1 0 else cdRound raw
  let sat := if cdSat raw = 3 then obj s 0x4000 2 1 = 1 else cdSat raw = 1
  let strict := if cdStrict raw = 3 then obj s 0x4000 3 1 = 1 else cdStrict raw = 1
  let spec := flag (getCtx s ctx) 112 && obj s 0x4800 1 1 = 1
  { id := id, raw := raw, ctx := ctx, src := src, stream := stream, stage := .issued, opS := 0, opT := 0, opO := 0, foot := [],
    ridge := 0, round := r, sat := sat, strict := strict, specData := spec, specCont := specCont s ctx, windowOk := obj s 0x4000 9 1 = 1,
    diagOk := obj s 0x4100 4 0 = 1, digests := !(flag (getCtx s ctx) 110) || cdDigest raw, notStrict := false, clamps := 0, strictRun := false, faultRun := false,
    reissued := reissued, resume := 0, pass := 0, intake := 0, part := [], obsSoFar := -512, breachSoFar := false, rowSeq := [],
    touched := [], kept := [],
    bound := ((readRowMap s ctx raw).filterMap fun x => x).eraseDups.map (bindSeq s),
    stale := false, heldKept := false, home := 0, work := ⟨0, 0, 0, 0, 0, 0⟩, seen := [], blocked := false, result := 0, started := s.aoncnt, savedOn := 0,
    wrote := (0, 0) }

/-- Hand a course to an array, whose cluster leaves power gating (R19, R20), or to its substitute (R119); with no unfenced array in the cluster it completes
FENCED_UNIT (R118). -/
def handCourse (a : Nat) (raw : BitVec 1024) (ctx : Nat) (src : CourseSrc) (stream : Nat) (s : State) : State :=
  let id := s.arrays.nextId
  let s := { s with arrays.nextId := id + 1 }
  match substitute s a with
  | none => endCourse a 0 (newCourse id raw ctx src stream false s) .fencedUnit (-512) s
  | some k =>
    let k := if (getArr s a).fenced then k else a
    modArr k (fun x => { x with courses := x.courses ++ [{ newCourse id raw ctx src stream (k ≠ a) s with home := a }] })
      (modCluster (k / 4) (fun x => { x with gated := false }) s)

/-- A core port issues the course of an entry to its array (R448). -/
def issueCoreCourse (p id : Nat) (s : State) : State :=
  match findOp s p id with
  | none => s
  | some o => match o.what with
    | .course raw => handCourse p raw (opCtx o) (.core p id) p s
    | _ => s

/-! ### What peers deliver, and what a course waits for -/

/-- The bytes that peers have delivered for a waiting operation. -/
def landedExt (s : State) (w : Waiter) : Ext :=
  s.peers.flatMap fun kv => (kv.2.out.filter fun r => r.waiter = w && r.landed && r.op = 0).flatMap fun r =>
    (List.range r.data.length).map fun i => (r.pa + i, r.data.getD i 0)

/-- A peer response that the operation needs is still out. -/
def peerWaits (s : State) (w : Waiter) : Bool := s.peers.any fun kv => kv.2.out.any fun r => r.waiter = w && !r.landed

/-- A peer delivered the byte at `pa` as poisoned. -/
def landedBad (s : State) (w : Waiter) (pa : Nat) : Bool :=
  s.peers.any fun kv => kv.2.out.any fun r => r.waiter = w && r.landed && r.bad && r.pa ≤ pa && pa < r.pa + r.len

/-- The part of an extent inside a run of virtual addresses. -/
def clipExtent (lo n : Nat) (x : Extent) : Option Extent :=
  let a := max lo x.va
  let b := min (lo + n) (x.va + x.len)
  if a < b then some { x with va := a, pa := x.pa + (a - x.va), len := b - a } else none

/-- Ask the peers for what the operation reads in their windows. -/
def askPeers (w : Waiter) (foot : List Extent) (s : State) : State :=
  if s.peers.any fun kv => kv.2.out.any fun r => r.waiter = w && r.op = 0 then s
  else foot.foldl (fun st x => if target x.pa = .peer then owe (.peerRead w x.pa x.len) st else st) s

/-- An earlier course of the same stream has not completed, or an earlier command of its journaled queue has outputs that are
staged and not yet written (R71, R101). -/
def chainedWait (s : State) (c : Course) : Bool :=
  cdChained c.raw &&
  ((allCourses s).any (fun k => k.stream = c.stream && k.id < c.id) ||
   (match c.src with
    | .queue q idx =>
      let cmds := (getQueue s q).cmds
      (match cmds.find? fun k => k.idx = idx with
       | some me => cmds.any fun k => fld k.slot 88 8 = 2 && k.ext < me.ext && k.committed * 2 ^ 20 < k.staged.length
       | none => false)
    | _ => false))

/-! ### Examination (R104 to R107) -/

/-- Read an operand descriptor through its extents; `ext` brings what lies in host and peer memory. -/
def readOd (s : State) (ext : Ext) (c : Course) (foot : List Extent) (va : Nat) : BitVec 256 :=
  if va = 0 then 0 else ofBytes 256 (footBytes s ext c.ctx foot va 32)

/-- The operand descriptors that a course names (Table 4.3). -/
def descHeads (d : BitVec 1024) : List Segment :=
  ([cdStreamOp d, cdStatOp d, cdOutOp d].filter (· ≠ 0)).map fun va => ⟨va, 32, needR⟩

/-- The ridge of an input operand (R38), and whether it was clamped; `ext` is the IN_PLACE copy of a re-run (R291). -/
def operandRidge (s : State) (ext : Ext) (c : Course) (foot : List Extent) (o : BitVec 256) : Int × Bool :=
  match odRsrc o with
  | 0 => clampRidge (odFmt o) (odMx o) (odRidge o)
  | 1 =>
    let rb := nbits (ofLe (footBytes s ext c.ctx foot (odRecord o) 8)) 0 10
    clampRidge (odFmt o) (odMx o) (if rb = 0 then -512 else (rb : Int) - 512)
  | _ => clampRidge (odFmt o) (odMx o) (fmtEmax (odFmt o) (odMx o) + (if odMx o then 127 else 0))

/-- Host writes and peer writes of the outputs are all performed at SYSTEM scope (R202). -/
def outputsPerformed (s : State) (a : Nat) (c : Course) (need0 need1 : Nat) : Bool :=
  need0 ≤ (getHost s 0).confirmed && need1 ≤ (getHost s 1).confirmed &&
  s.peers.all fun kv => kv.2.out.all fun r => r.waiter ≠ Waiter.array a c.id || r.op ≠ 1

/-- The last host writes that a course may have made, by port; none where it writes none. What a course of a journaled queue has for
the host is staged, and its command writes it (R289). -/
def writesNeed (s : State) (c : Course) : Nat × Nat :=
  let staged := match c.src with | .queue q _ => flag (getQueue s q).cfg 192 | _ => false
  if !staged && (outputSegs c.raw c.opS c.opT c.opO).any fun g => c.foot.any fun x =>
      target x.pa = .host && x.flushed && x.va < g.va + g.len && g.va < x.va + x.len
  then ((getHost s 0).wseq, (getHost s 1).wseq) else (0, 0)

/-- What a course has staged stands in frames; until then its array waits (R288). -/
def unitsFramed (s : State) (c : Course) : Bool :=
  match c.src with
  | .queue q idx => (getQueue s q).cmds.all fun k => k.idx ≠ idx || k.staged.length ≤ (k.committed + k.frames.length) * 2 ^ 20
  | _ => true

/-- A course ends, as a fault or a kill makes it end, once what it has written before is performed at SYSTEM scope (R202). Its result
shows no observed ridge, whatever its rows observed (DESIGN CHOICE, log 166). -/
def endAfterWrites (a unit : Nat) (c : Course) (st : Status) (s : State) : State :=
  let (n0, n1) := writesNeed s c
  let wrote := match c.stage with
    | .running => true | .draining _ _ _ => true | .writing _ _ => true
    | _ => c.resume ≠ 0
  if !wrote || outputsPerformed s a c n0 n1 then endCourse a unit c st (-512) s
  else owe (.arrayDone a) (leaveArray a c (modCourse a c.id (fun x => { x with stage := .writing n0 n1, result := courseResult c unit st (-512) }) s))

/-- Host memory is out of a course's reach (R215, R276, R294). -/
def courseHostLost (s : State) (c : Course) : Bool := match c.src with | .queue q _ => hostLost s q | _ => !(proxyAlive s)

/-- A refused footprint: the course ends, or waits on a page-fault record, a walk or a free record. -/
def refuseCourse (a : Nat) (c : Course) (r : FootResult) (segs : List Segment) (s : State) : State :=
  match r with
  | .good _ => s
  | .off => endAfterWrites a (ranUnit s a c) c .xlateFault s
  | r =>
    let (k, s) := waitsPage (.array a c.id) (a / 4) (0x4000 + a) c.ctx (fld (getCtx s c.ctx) 116 12) segs r s
    modCourse a c.id (fun x => { x with stage := if k ≠ noRecord then .fault k (isSaved c) else if isSaved c then .saved else .issued }) s

/-! ### IN_PLACE copies (R291) -/

/-- The staging region of a queue (Table 11.5): its base and its number of frames. -/
def stageBase (x : Queue) : Nat := fld x.jrn.stage 32 32 * 2 ^ 20
def stageFrames (x : Queue) : Nat := fld x.jrn.stage 20 12
def frameAddr (x : Queue) (f : Nat) : Nat := stageBase x + (f + 1) * 2 ^ 20
def freeFrames (x : Queue) : List Nat := (List.range (stageFrames x)).filter fun f => !x.jrn.frames.contains f

/-- The input bytes of a course that its outputs overlap, by virtual address. -/
def overlapVas (d : BitVec 1024) (oS oT oO : BitVec 256) : List Nat :=
  let outs := outputSegs d oS oT oO
  let all := courseSegs d oS oT oO
  let ins := all.take (all.length - outs.length)
  (ins.flatMap fun i => outs.flatMap fun o =>
    let lo := max i.va o.va
    let hi := min (i.va + i.len) (o.va + o.len)
    rangeFrom lo (hi - lo)).eraseDups

/-- What taking the IN_PLACE copy comes to. -/
inductive Kept where
  | copy (ext : Ext) (frames : List Nat)
  | wait
  | tooBig
  deriving DecidableEq, Repr

/-- The copied bytes. -/
def copyBytes (k : Kept) : Ext := match k with | .copy ext _ => ext | _ => []

/-- The queue command of a course that carries IN_PLACE on a journaled queue (R291). -/
def inPlaceCmd (s : State) (c : Course) : Option (Nat × Cmd) :=
  match c.src with
  | .queue q idx =>
    if flag (getQueue s q).cfg 192 then
      ((getQueue s q).cmds.find? fun k => k.idx = idx && flag k.slot 65).map fun k => (q, k)
    else none
  | _ => none

/-- The address lies in device memory. -/
def inDevice (pa : Nat) : Bool := match target pa with | .stacks => true | .scratch => true | _ => false

/-- The IN_PLACE copy of a course of a journaled queue: the one of its first run, or a new one in free frames. What lies in host or
peer memory joins it once the array has read it. -/
def inPlaceCopy (s : State) (c : Course) (foot : List Extent) (oS oT oO : BitVec 256) : Kept :=
  match inPlaceCmd s c with
  | none => .copy [] []
  | some (q, k) =>
    if !k.keptFrames.isEmpty then .copy k.kept k.keptFrames
    else
      let x := getQueue s q
      let vas := overlapVas c.raw oS oT oO
      let n := (vas.length + 2 ^ 20 - 1) / 2 ^ 20
      if stageFrames x < n + 1 then .tooBig
      else if (freeFrames x).length < n then .wait
      else .copy ((vas.filter fun va => inDevice (footPa foot va)).map fun va => (footPa foot va, footByte s [] c.ctx foot va)) ((freeFrames x).take n)

/-- Write the overlapped input bytes into the frames of their copy, in the order of their addresses. -/
def writeCopy (q : Nat) (c : Course) (frames : List Nat) (bs : List Byte) (s : State) : State :=
  (List.range frames.length).foldl (fun st i =>
    let pa := frameAddr (getQueue s q) (frames.getD i 0)
    let part := (bs.drop (i * 2 ^ 20)).take (2 ^ 20)
    dropRun pa part.length (writeRun c.ctx 0 pa part false st)) s

/-- Keep the copy with its command and in its frames. -/
def keepCopy (c : Course) (vas : List Nat) (foot : List Extent) (ext : Ext) (frames : List Nat) (s : State) : State :=
  match inPlaceCmd s c with
  | none => s
  | some (q, k) =>
    if frames.isEmpty || !k.keptFrames.isEmpty then s
    else
      let f (x : Cmd) : Cmd := if x.idx = k.idx then { x with kept := ext, keptFrames := frames } else x
      modQueue q (fun y => { y with cmds := y.cmds.map f, jrn.frames := y.jrn.frames ++ frames })
        (writeCopy q c frames (vas.map (footByte s [] c.ctx foot)) s)

/-- What the copy of a running course still lacks, the bytes of host and peer memory, joins it before the first write. -/
def keepOutside (a : Nat) (ext : Ext) (c : Course) (s : State) : State :=
  match inPlaceCmd s c with
  | none => s
  | some (q, k) =>
    let vas := overlapVas c.raw c.opS c.opT c.opO
    let more := (vas.filter fun va => !(inDevice (footPa c.foot va)) && k.kept.all fun e => e.1 ≠ footPa c.foot va).map fun va =>
      (footPa c.foot va, footByte s ext c.ctx c.foot va)
    if k.keptFrames.isEmpty || more.isEmpty then s
    else
      let f (x : Cmd) : Cmd := if x.idx = k.idx then { x with kept := x.kept ++ more } else x
      modCourse a c.id (fun x => { x with kept := x.kept ++ more })
        (modQueue q (fun y => { y with cmds := y.cmds.map f }) (writeCopy q c k.keptFrames (vas.map (footByte s ext c.ctx c.foot)) s))

/-- Send the probes of a footprint (R188): for each peer window that it touches, from its first byte there to its last, with
the rights that it needs there. `need` gives the rights of an extent. -/
def sendProbes (w : Waiter) (need : Extent → Nat) (foot : List Extent) (s : State) : State :=
  let xs := foot.filter fun x => target x.pa = .peer
  ((xs.map fun x => x.pa / 2 ^ 40).eraseDups).foldl (fun st k =>
    let ys := xs.filter fun x => x.pa / 2 ^ 40 = k
    let lo := ys.foldl (fun m x => min m x.pa) ((k + 1) * 2 ^ 40)
    let hi := ys.foldl (fun m x => max m (x.pa + x.len)) 0
    owe (.peerSend w 4 lo (toLe 8 (hi - lo) ++ [BitVec.ofNat 8 (ys.foldl (fun m x => m ||| need x) 0)]) false) st) s

/-- The rights that a list of segments needs on an extent. -/
def segNeed (segs : List Segment) (x : Extent) : Nat :=
  segs.foldl (fun m g => if g.va < x.va + x.len && x.va < g.va + g.len then m ||| g.need else m) 0

/-- The verdict of a row: 1 when it serves no sequence. -/
def rowVerdict (c : Course) (m : Nat) : Nat :=
  match c.rowSeq.getD m none with
  | none => 1
  | some q => match c.bound.find? fun b => b.1 = q with | some b => b.2.2 | none => 1

/-- The outputs, output rows or held-row outputs, of a course that a verdict END squashes: those of the rows for which `now`
holds (R135). A forwarded sum is no output (R73). -/
def endedOutputs (c : Course) (now : Nat → Bool) : Nat :=
  if cdForward c.raw then 0
  else
    let n := ((List.range c.rowSeq.length).filter fun m => rowVerdict c m = 2 && now m).length
    n * (if cdFlat c.raw then cdRows c.raw - c.resume else 1)

/-- Count outputs that verdicts END squash, for the context and the block (R138, R142). -/
def countEnded (c outs : Nat) (s : State) : State := if outs = 0 then s else countN 0x4800 9 outs (chargeSquash c outs noWork s)

/-- Some operand descriptor of a course lies in host memory and none of its bytes has come with the command, or lies in a peer
window and has not landed: the course stays issued, and its peer reads are asked for. -/
def headsAway (s : State) (a : Nat) (c : Course) (ext : Ext) (hx : List Extent) : Bool :=
  hx.any fun x => match target x.pa with
    | .host => ext.all fun e => !(decide (x.pa ≤ e.1) && decide (e.1 < x.pa + x.len))
    | .peer => peerWaits s (.array a c.id) || !(landedExt s (.array a c.id)).any fun e => x.pa = e.1
    | _ => false

/-- An access of software, `(pa, bytes, write)`, breaks R108 on a footprint: it writes any of it, or reads what the course writes. -/
def touchedFoot (foot : List Extent) (outs : List Segment) (t : Nat × Nat × Bool) : Bool :=
  foot.any fun x =>
    let lo := max t.1 x.pa
    let hi := min (t.1 + t.2.1) (x.pa + x.len)
    decide (lo < hi) && (t.2.2 || outs.any fun g => g.va < x.va + (hi - x.pa) && x.va + (lo - x.pa) < g.va + g.len)

/-- Software broke R108 on the course's footprint, or on an earlier translation of it. -/
def broken (c : Course) : Bool := c.stale || c.touched.any (touchedFoot c.foot (outputSegs c.raw c.opS c.opT c.opO))

/-- Examine a course: its operand descriptors, the checks, the footprint, record targets, ridges, bindings. It becomes
ready, waits on a record, or ends. `ext` brings the host bytes of its descriptors. -/
def examineCourse (a : Nat) (ext : Ext) (c : Course) (s : State) : State :=
  let space := fld (getCtx s c.ctx) 116 12
  let ts := tlbsOfArray a
  let d := c.raw
  let w : Waiter := .array a c.id
  if !(structureOk d) then endCourse a 0 c .malformed (-512) s
  else
    match checkFootprint ts true space (descHeads d) s with
    | (.good hx, s) =>
      let dead := courseHostLost s c && hx.any fun x => target x.pa = .host
      let bad := (if dead then [Status.deadTarget] else []) ++ hx.map fun x => accessVerdict s c.ctx x.keySlot x.pa x.len
      let poison := hx.any fun x => runPoison s c.ctx x.pa x.len || (List.range x.len).any fun i => landedBad s w (x.pa + i)
      let st := worstOf (bad ++ (if poison then [Status.poisonConsumed] else []))
      if st ≠ .ok then
        endCourse a 0 c st (-512) (if st = .poisonConsumed then raisePoisonConsumed (0x4000 + a) (some c.ctx) 4 (cdStreamOp d) 2 s else countSlots c.ctx hx s)
      else if headsAway s a c (queueExt s ++ outsideExt s ext) hx then askPeers w hx (modCourse a c.id (fun x => { x with stage := .issued }) s)
      else
        let ext := queueExt s ++ outsideExt s ext ++ landedExt s w
        let s := dropLanded w (noteExtents c.ctx 4 hx s)
        let oS := readOd s ext c hx (cdStreamOp d)
        let oT := readOd s ext c hx (cdStatOp d)
        let oO := readOd s ext c hx (cdOutOp d)
        let v := courseVerdict s c oS oT oO
        if v ≠ .ok then endCourse a 0 c v (-512) s
        else
          match checkFootprint ts true space (courseSegs d oS oT oO) s with
          | (.good foot, s) =>
            let recs := (if odRsrc oS = 1 then [odRecord oS] else []) ++ (if hasStat d && odRsrc oT = 1 then [odRecord oT] else [])
            let folds := if cdOp d = 2 || (hasOut d && odRec oO && odFmt oO ≠ 11) then [odRecord oO] else []
            let away := (recs ++ folds).any fun va => match target (footPa foot va) with | .stacks => false | .scratch => false | _ => true
            let st := worstOf ((foot.map fun x => accessVerdict s c.ctx x.keySlot x.pa x.len) ++ (if away then [Status.malformed] else []))
            if st ≠ .ok then endCourse a 0 c st (-512) (countSlots c.ctx foot s)
            else if (!recs.isEmpty || ((inPlaceCmd s c).isSome && !(overlapVas d oS oT oO).isEmpty)) && chainedWait s c then modCourse a c.id (fun x => { x with stage := .issued }) s
            else if recs.any fun va => footPoison s c.ctx foot va then
              endCourse a 0 c .poisonConsumed (-512) (raisePoisonConsumed (0x4000 + a) (some c.ctx) 4 (recs.headD 0) 2 s)
            else
              let copy := inPlaceCopy s c foot oS oT oO
              let (ra, ca) := operandRidge s (copyBytes copy) c foot oS
              let (rb, cb) := if hasStat d then operandRidge s (copyBytes copy) c foot oT else (0, false)
              let badFp64 := odFmt oS = 10 && cdOp d = 1 && [ra, rb].any fun r => r ≠ -512 && (r < -256 || 255 < r)
              if badFp64 then endCourse a 0 c .malformed (-512) s
              else match copy with
              | .tooBig => endCourse a 0 c .boundFault (-512) s
              | .wait => s
              | .copy kept frames =>
                let s := keepCopy c (overlapVas d oS oT oO) foot kept frames s
                let rows := readRowMap s c.ctx d
                let s := noteExtents c.ctx 4 (rowMapExtent d) s
                let s := sendProbes (.array a c.id) (segNeed (courseSegs d oS oT oO)) foot s
                let x : Course := { c with opS := oS, opT := oT, opO := oO, rowSeq := rows }
                let s := if c.rowSeq.isEmpty then countEnded c.ctx (endedOutputs x fun _ => true) s else s
                modCourse a c.id (fun x => { x with
                  stage := .ready, opS := oS, opT := oT, opO := oO, foot := foot, kept := kept, ridge := courseRidge ra rb, rowSeq := rows,
                  clamps := b2n ca + b2n cb }) s
          | (r, s) => refuseCourse a c r (courseSegs d oS oT oO) s
    | (r, s) => refuseCourse a c r (descHeads d) s

/-- A course that is issued and not yet examined; a course of a context that admits no work ends RIGHTS_FAULT, or MALFORMED
where its descriptor shows that (R10), one of a suspended context waits (R320). -/
def takeIssued (a op : Nat) (ext : Ext) (s : State) : State :=
  match (getArr s a).courses.find? fun c => c.stage = .issued && (cdOp c.raw = op || (op = 1 && (cdOp c.raw = 0 || 4 ≤ cdOp c.raw))) with
  | none => s
  | some c =>
    if c.src = .test then examineCourse a ext c s
    else match ctxState s c.ctx with
      | 1 => examineCourse a ext c s
      | 2 => s
      | _ => endCourse a 0 c (if structureOk c.raw then .rightsFault else .malformed) (-512) s

/-- A resolved page fault, a walk that has returned, a record that is free: the course's footprint is checked again. -/
def retryCourse (a id : Nat) (s : State) : State :=
  match findCourse s a id with
  | none => s
  | some c => match c.stage with
    | .fault _ saved => if saved then modCourse a id (fun x => { x with stage := .saved }) s else examineCourse a [] c s
    | .issued => if c.src = .test || ctxState s c.ctx = 1 then examineCourse a [] c s else s
    | _ => s

/-! ### The continuation store (R72 to R76, R112) -/

/-- A course of several passes (R102). -/
def multiPass (c : Course) : Bool := cdOp c.raw = 1 && isWide (odFmt c.opS)

/-- The course continues a chain of the store. -/
def continues (c : Course) : Bool := cdOp c.raw = 1 && cdAccumulate c.raw && !cdFromImage c.raw

/-- The key of a spilled store: the context, and the array that its chain was issued to. -/
def spillKey (c home : Nat) : Nat := c + 4096 * home

/-- The store that a course of this context, issued to the same array, finds: the array's own, or its spilled one, which is reloaded
before its first row (R112). -/
def storeOf (s : State) (a : Nat) (c : Course) : Store :=
  let x := getArr s a
  if ownStore x.store c then x.store else (tget none x.spills (spillKey c.ctx c.home)).getD {}

/-- STRICT_RIDGE may be in effect (R109): the outputs fit the store, which holds no open chain of the course's context. -/
def strictFits (s : State) (a : Nat) (c : Course) : Bool :=
  cdRows c.raw ≤ (if cdFlat c.raw then 2048 else 256) && !(storeOf s a c).chain

/-- The course uses the array's continuation store. -/
def usesStore (s : State) (a : Nat) (c : Course) : Bool :=
  cdOp c.raw = 1 && (cdForward c.raw || continues c || (c.strict && strictFits s a c) || multiPass c)

/-- Write bytes through a footprint for a context: device and HOST_COHERENT memory through the home, TASK_FLUSHED host
memory through its port, peer memory as a peer write. -/
def writeFoot (w : Waiter) (c : Nat) (foot : List Extent) (va : Nat) (bs : List Byte) (poison : Bool) (s : State) : State :=
  match extentOf foot va with
  | none => s
  | some x =>
    let pa := x.pa + (va - x.va)
    let s := match w with
      | .array _ _ => s
      | .queueCmd q idx => if (getQueue s q).cmds.any fun k => k.idx = idx && fld k.slot 88 8 = 2 then s else softAccess pa bs.length true s
      | _ => softAccess pa bs.length true s
    match target pa with
    | .host => if x.flushed then hostPost pa bs poison s else homeWrite c x.keySlot pa bs poison x.cache s
    | .peer => owe (.peerSend w 1 pa bs poison) s
    | .stacks => homeWrite c x.keySlot pa bs poison x.cache s
    | .scratch => homeWrite c x.keySlot pa bs poison x.cache s
    | _ => s

/-- Free values for the chain spill area of context `c`, whose layout the spec does not state (R112). -/
def spillBytes (c : Nat) (foot : List Extent) (s : State) : State :=
  foot.foldl (fun st x => (granulesOf x.pa x.len).foldl (fun st g =>
    let lo := max x.pa (g * 64)
    let hi := min (x.pa + x.len) (g * 64 + 64)
    writeFoot (.array 192 0) c foot (x.va + (lo - x.pa)) (bytesOf (hi - lo) (Config.freeBits 512 st.free)) false (takeFree st)) st) s

/-- The chain spill area of a context for an array, translated with the rights `need`: its extents where every page is present and
every access is allowed (R159, R161), else none; a key slot that refuses is counted. -/
def spillArea (a c home need : Nat) (s : State) : Option (List Extent) × State :=
  match (checkFootprint (tlbsOfArray a) false (fld (getCtx s c) 116 12) [⟨fld (getCtx s c) 448 56 + 819200 * home, 819200, need⟩] s).1 with
  | .good foot =>
    if foot.all fun x => accessVerdict s c x.keySlot x.pa x.len = .ok then (some foot, s) else (none, countSlots c foot s)
  | _ => (none, s)

/-- Write the store and its chain copies to the chain spill area of its context (R112). Where that cannot be written nothing is, and
the entries are lost: they take any values (DESIGN CHOICE, log 167). -/
def spillStore (a : Nat) (s : State) : State × Store :=
  let st := (getArr s a).store
  match st.ctx with
  | none => (s, st)
  | some o =>
    -- what waits for a verdict is not spilled: the chain runs again from its first course (R137)
    if st.unsure then (s, { st with entries := [], rebuild := true, unsure := false })
    else match spillArea a o st.home needW s with
    | (some foot, s) => (count 0x4100 0x0B (spillBytes o foot s), st)
    | (none, s) => (s, { st with entries := [] })

/-- Spill the store of another context, and reload the spilled store of the context of course `c` (R112); an area that cannot be read
gives any values. -/
def spillFor (a : Nat) (c : Course) (s : State) : State :=
  let x := getArr s a
  let s := match x.store.ctx with
    | some o =>
      if ownStore x.store c then s
      else
        let (s, st) := spillStore a s
        modArr a (fun y => { y with store := {}, spills := tset none y.spills (spillKey o st.home) (some st) }) s
    | none => s
  let k := spillKey c.ctx c.home
  match tget none (getArr s a).spills k with
  | some st =>
    if (getArr s a).store.ctx.isNone then
      let (area, s) := if st.rebuild then (some [], s) else spillArea a c.ctx c.home needR s
      modArr a (fun y => { y with store := if area.isNone then { st with entries := [] } else st, spills := tset none y.spills k none }) s
    else s
  | none => s

/-- A course that the array can start needs the store that another context holds; or its context has a spilled store there,
which its next course reloads (R112). -/
def needsSpill (s : State) (a : Nat) (c : Course) : Bool :=
  (usesStore s a c && (getArr s a).store.ctx.isSome && !(ownStore (getArr s a).store c)) ||
  (tget none (getArr s a).spills (spillKey c.ctx c.home)).isSome

/-- What course `c` spills can be written now; else the home slices have begun to clear its way (R232). -/
def spillReady (a : Nat) (c : Course) (s : State) : Bool × State :=
  let st := (getArr s a).store
  match st.ctx with
  | some o =>
    if !(needsSpill s a c) || ownStore st c || st.unsure then (true, s)
    else match (spillArea a o st.home needW s).1 with
      | some foot => bulkReady o [] foot s
      | none => (true, s)
  | none => (true, s)

/-- The continuation checks of Table 4.5, which the store decides as the course starts. -/
def storeVerdict (s : State) (a : Nat) (c : Course) : Bool :=
  let st := storeOf s a c
  if cdOp c.raw ≠ 1 then true
  else if isWide (odFmt c.opS) then !st.chain
  else if cdAccumulate c.raw && !cdFromImage c.raw then
    st.chain && st.form = b2n (cdFlat c.raw) && st.rows = cdRows c.raw && st.held = cdHeld c.raw && st.ridge = c.ridge && st.members.length < 256
  else true

/-- What a course reads at a virtual address is poisoned: in memory, or as a peer delivered it (R466). -/
def consumed (s : State) (a : Nat) (c : Course) (va : Nat) : Bool :=
  footPoison s c.ctx c.foot va || landedBad s (.array a c.id) (footPa c.foot va)

/-- Image `i` of a preload is poisoned. -/
def imagePoison (s : State) (a : Nat) (c : Course) (i : Nat) : Bool :=
  cdFromImage c.raw && (consumed s a c (cdImage c.raw + 32 * i) || consumed s a c (cdImage c.raw + 32 * i + 31))

/-- Every image of a preload was made under the course's ridge (R59); a poisoned one tells nothing. -/
def imagesAgree (s : State) (a : Nat) (ext : Ext) (c : Course) : Bool :=
  !cdFromImage c.raw ||
  (List.range ((outShape c.raw c.opS c.opT).1 * (outShape c.raw c.opS c.opT).2)).all fun i =>
    imagePoison s a c i || (ofImage (ofLe (footBytes s ext c.ctx c.foot (cdImage c.raw + 32 * i) 32))).2 = c.ridge

/-! ### Start -/

/-- The course may start now. Without continuation speculation it presents nothing while a verdict is pending (R141). -/
def startable (s : State) (c : Course) : Bool :=
  (c.specCont || c.bound.all fun b => b.2.2 ≠ 0) && (c.stage = .ready || c.stage = .saved) && (c.src = .test || ctxState s c.ctx = 1 || ctxState s c.ctx = 3) && !chainedWait s c &&
  !(s.peers.any fun kv => kv.2.out.any fun r => (match r.waiter with | .array _ i => i = c.id | _ => false) && !r.landed)

/-- The part of a course's footprint that it reads, its output array apart. -/
def courseReads (c : Course) : List Extent :=
  c.foot.filter fun x => !(hasOut c.raw) ||
    !(odBase c.opO ≤ x.va && x.va ≤ lastByte c.opO (outRows c.raw c.opS c.opT c.opO))

/-- What a run reads: its footprint's inputs, and those of the chain before it where that runs again (R114). -/
def runReads (s : State) (a : Nat) (c : Course) : List Extent :=
  courseReads c ++ (if continues c && (getArr s a).store.rebuild then (getArr s a).store.members.flatMap courseReads else [])

/-- The bytes of the held set that a flat course names, held row by held row: its elements, and the scales of an MX set (R84). -/
def heldBytes (s : State) (ext : Ext) (c : Course) : List Byte :=
  (List.range (cdHeld c.raw)).flatMap fun h =>
    footBytes s ext c.ctx c.foot (odBase c.opT + h * odStride c.opT) (rowBytes (odFmt c.opT) (odCols c.opT)) ++
    (if odMx c.opT then footBytes s ext c.ctx c.foot (scaleAddr c.opT true h 0) (odCols c.opT / 32) else [])

/-- The flat course keeps the held set of the flat course before it (R84). -/
def keepsHeld (s : State) (a : Nat) (c : Course) : Bool :=
  match (getArr s a).heldSet with
  | some h => cdOp c.raw = 1 && cdFlat c.raw && h.ctx = c.ctx && h.va = cdStatOp c.raw && h.desc = c.opT
  | none => false

/-- The held set that was kept is not what memory holds, in the held rows that it has: the outputs take any values (R84, R108). Held
rows beyond those, which a larger HELD asks for, are read from memory (DESIGN CHOICE, log 166). -/
def heldStale (s : State) (ext : Ext) (a : Nat) (c : Course) : Bool :=
  c.heldKept && (match (getArr s a).heldSet with
    | some h => ((h.bytes.zip (heldBytes s ext c)).any fun p => p.1 ≠ p.2)
    | none => false)

/-- A course runs on the array: its held set is loaded, unless it is kept; a course of square form leaves none (R84). -/
def loadHeld (a : Nat) (keep : Bool) (c : Course) (s : State) : State :=
  if keep && keepsHeld s a c then s
  else
    let h : Option HeldSet := if cdOp c.raw = 1 && cdFlat c.raw then some ⟨c.ctx, cdStatOp c.raw, c.opT, []⟩ else none
    modArr a (fun x => { x with heldSet := h }) s

/-- The held set as the flat course that ends has used it: the bytes that it loaded, after those that it kept. -/
def noteHeld (a : Nat) (ext : Ext) (c : Course) (s : State) : State :=
  let bs := heldBytes s ext c
  modArr a (fun x => { x with heldSet := x.heldSet.map fun h => { h with bytes := h.bytes ++ bs.drop h.bytes.length } }) s

/-- Start a ready course on its array. -/
def startCourse (a : Nat) (c : Course) (s : State) : State :=
  if !(storeVerdict s a c) then endCourse a 0 c .malformed (-512) s
  else
    let s := if needsSpill s a c then spillFor a c s else s
    let fits := strictFits s a c
    let holds := !cdForward c.raw && !(cdAccumulate c.raw)
    let missed := c.strict && cdOp c.raw = 1 && !fits
    let strict := c.strict && cdOp c.raw = 1 && fits && holds
    let s := if strict then modArr a (fun x => { x with store := { ctx := some c.ctx, home := c.home } }) s else s
    let keep := keepsHeld s a c
    let s := modCluster (a / 4) (fun x => { x with gated := false }) s
    let s := askPeers (.array a c.id) (runReads s a c) s
    noteExtents c.ctx 4 (runReads s a c) (modArr a (fun x => { x with run := some c.id, ask := false, current := true })
      (modCourse a c.id (fun x => { x with stage := .running, strict := strict, notStrict := missed, heldKept := keep })
        (loadHeld a true c s)))

/-! ### Verdicts -/

/-- The verdict that a sequence entry holds for rows bound to step `b` (R126, R323, R325): 0 pending, 1 CONTINUE, 2 END. A
token record that ends the sequence at DONE_STEP squashes the rows bound beyond it; an END command, the step after. -/
def verdictOf (e : BitVec 512) (b : Nat) : Nat :=
  let st := fld e 28 3
  let d := fld e 192 32
  let cause := fld e 21 3
  if st = 1 || st = 2 then (if b ≤ d + 1 then 1 else 0)
  else if st = 3 || st = 4 then (if b ≤ (if 1 ≤ cause && cause ≤ 3 then d else d + 1) then 1 else 2)
  else 2

/-- A verdict reaches the array: CONTINUE confirms the sequence's rows bound to the step, END squashes them (R135). -/
def verdictArrives (a q step : Nat) (s : State) : State :=
  let v := verdictOf (tget 0 s.sched.seqs q) step
  let f (b : Nat × Nat × Nat) : Nat × Nat × Nat := if b.1 = q && b.2.1 = step && b.2.2 = 0 then (q, step, v) else b
  let upd (c : Course) : Course := { c with bound := c.bound.map f }
  let s := (getArr s a).courses.foldl (fun st c => countEnded c.ctx (endedOutputs (upd c) fun m => rowVerdict c m = 0) st) s
  modArr a (fun x => { x with courses := x.courses.map upd }) s

/-! ### The outputs of a course -/

/-- Index of output (m, n) in the continuation store (R72). -/
def storeIndex (d : BitVec 1024) (m n : Nat) : Nat := if cdFlat d then n * 16 + m else m * 128 + n

/-- What a store entry holds that no course of the chain has written: free values. -/
def staleEntry (s : State) (i : Nat) : Gutter :=
  let v := (Config.freeBits 192 (s.free + i)).toNat
  ⟨signOf 176 (nbits v 0 176), signOf 10 (nbits v 176 10), nbit v 186, nbit v 187, nbit v 188, nbit v 189, false⟩

/-- The starting gutter of output (m, n) of a course, over the store's entries: zero, the image, or the entry (R74). -/
def gutterFrom (s : State) (ext : Ext) (entries : Table (Option Gutter)) (c : Course) (m n : Nat) : Gutter :=
  let cols := (outShape c.raw c.opS c.opT).2
  if !(cdAccumulate c.raw) then {}
  else if cdFromImage c.raw then (ofImage (ofLe (footBytes s ext c.ctx c.foot (cdImage c.raw + 32 * (m * cols + n)) 32))).1
  else (tget none entries (storeIndex c.raw m n)).getD (staleEntry s (storeIndex c.raw m n))

/-- The entries after a course of the chain has run over them (R73, R74). -/
def runMember (s : State) (ext : Ext) (entries : Table (Option Gutter)) (c : Course) : Table (Option Gutter) :=
  let (rows, cols) := outShape c.raw c.opS c.opT
  (List.range rows).foldl (fun t m => (List.range cols).foldl (fun t n =>
    tset none t (storeIndex c.raw m n)
      (some (courseGutter (footByte s (c.kept ++ ext) c.ctx c.foot) c.raw c.opS c.opT c.ridge (gutterFrom s ext entries c m n) 0 (kUsed c.raw c.opT) m n))) t) entries

/-- The entries of an array's store: as they stand, or of the chain run again from its first course (R114, R136). -/
def storeEntries (s : State) (ext : Ext) (a : Nat) (c : Course) : Table (Option Gutter) :=
  let st := (getArr s a).store
  if !(ownStore st c) then [] else if st.rebuild then st.members.foldl (runMember s ext) [] else st.entries

/-- The starting gutter of output (m, n): zero, the store's entry, or the image (R74). -/
def startGutter (s : State) (ext : Ext) (a : Nat) (c : Course) (m n : Nat) : Gutter := gutterFrom s ext (storeEntries s ext a c) c m n

/-- Lanes of K that a resumed flat course has already taken into the gutters of weight column `n` (R111). -/
def lanesDone (c : Course) (n : Nat) : Nat :=
  if cdFlat c.raw && n = c.resume then min (c.intake * flatIntake (odFmt c.opS)) (kUsed c.raw c.opT) else 0

/-- The gutter of output (m, n) over the first `hi` lanes of K: from its start, or from what the save area held (R111). -/
def gutterTo (s : State) (ext : Ext) (a : Nat) (c : Course) (hi m n : Nat) : Gutter :=
  let lo := lanesDone c n
  courseGutter (footByte s ext c.ctx c.foot) c.raw c.opS c.opT c.ridge (if lo = 0 then startGutter s ext a c m n else c.part.getD m {}) lo hi m n

/-- The gutter of output (m, n). -/
def outGutter (s : State) (ext : Ext) (a : Nat) (c : Course) (m n : Nat) : Gutter := gutterTo s ext a c (kUsed c.raw c.opT) m n

/-- Output (m, n) of a course consumes poison: in an element or a scale, or in its image (R346, R466). -/
def outPoison (s : State) (a : Nat) (c : Course) (m n : Nat) : Bool :=
  (rowAddrs c.raw c.opS c.opT m n).any (consumed s a c) ||
    (cdAccumulate c.raw && imagePoison s a c (m * (outShape c.raw c.opS c.opT).2 + n))

/-- The row-map entry of row `m` is poisoned (R466). -/
def mapPoison (s : State) (c : Course) (m : Nat) : Bool :=
  cdSeqMode c.raw = 2 && granulePoison s c.ctx ((2 ^ 48 + rowMapOffset c.raw + 4 * m) / 64)

/-- Row `m` of a course consumes poison in one of its first `hi` columns, or in its row-map entry. -/
def rowBad (s : State) (a : Nat) (c : Course) (lo hi m : Nat) : Bool :=
  ((rangeFrom lo (hi - lo)).any (outPoison s a c m)) || mapPoison s c m

/-- Row `m` consumes poison in the chain that runs again before the course. -/
def chainPoison (s : State) (a : Nat) (c : Course) (m : Nat) : Bool :=
  continues c && ownStore (getArr s a).store c && (getArr s a).store.rebuild &&
  (getArr s a).store.members.any fun k => rowBad s a { k with id := c.id } 0 (outShape k.raw k.opS k.opT).2 m

/-- Row `m` consumes poison, in the course itself or in the chain that runs again before it. -/
def rowPoison (s : State) (a : Nat) (c : Course) (m : Nat) : Bool :=
  rowBad s a c 0 (outShape c.raw c.opS c.opT).2 m || chainPoison s a c m

/-- The exact value of output (m, n), its r of R50, and its gutter. SUBTRACT, which negates the products of a reduction (R33),
does not reach a diagonal MUL (DESIGN CHOICE, log 162); a DIAGONAL course observes nothing, whatever products a MUL forms (DESIGN CHOICE,
log 166). -/
def outExact (s : State) (ext : Ext) (a : Nat) (c : Course) (m n : Nat) : Val × Nat × Gutter :=
  let r32 := srValue (cdSeed c.raw) (cdTensor c.raw) (elemIndex c.raw c.opO m n)
  if cdOp c.raw = 3 then
    let view := footByte s ext c.ctx c.foot
    (diagVal (cdDiagOp c.raw) (elemVal view c.opS true m n) (elemVal view c.opT true m n), r32, {})
  else
    let g := outGutter s ext a c m n
    (gutterVal c.ridge g, r32, g)

/-- The rows of a course that no verdict END squashes. -/
def liveRows (c : Course) (rows : Nat) : List Nat := (List.range rows).filter fun m => rowVerdict c m ≠ 2

/-- The journaled queue command that a course belongs to. -/
def journaledCmd (s : State) (c : Course) : Option (Nat × Nat) :=
  match c.src with
  | .queue q idx => if flag (getQueue s q).cfg 192 then some (q, idx) else none
  | _ => none

/-- An address of an output of which some page maps to host or peer memory (R288): the output array as a whole, a scale
array or record by its own page. -/
def outsideOut (c : Course) (va : Nat) : Bool :=
  let out (x : Extent) : Bool := target x.pa = .host || target x.pa = .peer
  let last := lastByte c.opO (outRows c.raw c.opS c.opT c.opO)
  if hasOut c.raw && odBase c.opO ≤ va && va ≤ last then c.foot.any fun x => out x && x.va ≤ last && odBase c.opO < x.va + x.len
  else match extentOf c.foot va with | some x => out x | none => false

/-- Stage bytes of a journaled command at their destination addresses (R289). -/
def stageBytes (q idx va : Nat) (bs : List Byte) (poison : Bool) (s : State) : State :=
  let f (c : Cmd) : Cmd :=
    if c.idx = idx then
      { c with staged := (bs.foldl (fun (acc : Table (Option Byte) × Nat) b => (tset none acc.1 acc.2 (some b), acc.2 + 1)) (c.staged, va)).1
               stagedBad := if poison then c.stagedBad ++ granulesOf va bs.length else c.stagedBad }
    else c
  modQueue q (fun x => { x with cmds := x.cmds.map f }) s

/-- The bytes of unit `u` of a command, by destination address (R288). -/
def unitBytes (c : Cmd) (u : Nat) : List (Nat × Byte) :=
  ((c.staged.drop (u * 2 ^ 20)).take (2 ^ 20)).filterMap fun kv => kv.2.map fun b => (kv.1, b)

/-- Unit `u` is staged whole. -/
def unitStaged (c : Cmd) (u : Nat) : Bool := u * 2 ^ 20 < c.staged.length && ((u + 1) * 2 ^ 20 ≤ c.staged.length || c.whole)

/-- Put the next staged unit of a command into a free frame of its queue (R289). -/
def frameUnit (q idx : Nat) (s : State) : State :=
  let x := getQueue s q
  match x.cmds.find? fun c => c.idx = idx with
  | none => s
  | some c =>
    let u := c.committed + c.frames.length
    if !(unitStaged c u) then s
    else match freeFrames x with
      | [] => s
      | f :: _ =>
        let us := unitBytes c u
        let pa := frameAddr x f
        let s := (List.range us.length).foldl (fun st i =>
          let b := us.getD i (0, 0)
          writeRun (fld x.cfg 52 12) 0 (pa + i) [b.2] (c.stagedBad.contains (b.1 / 64)) st) s
        let put (k : Cmd) : Cmd := if k.idx = idx then { k with frames := k.frames ++ [f] } else k
        dropRun pa us.length (modQueue q (fun y => { y with cmds := y.cmds.map put, jrn.frames := y.jrn.frames ++ [f] }) s)

/-- Put the staged units of a command into frames, as far as frames are free. -/
def frameUnits (q idx : Nat) (s : State) : State :=
  (freeFrames (getQueue s q)).foldl (fun st _ => frameUnit q idx st) s

/-- The outputs of a course of a journaled queue are staged whole. -/
def stagedWhole (c : Course) (s : State) : State :=
  match journaledCmd s c with
  | some (q, idx) =>
    let f (k : Cmd) : Cmd := if k.idx = idx then { k with whole := true } else k
    frameUnits q idx (modQueue q (fun x => { x with cmds := x.cmds.map f }) s)
  | none => s

/-- Write output bytes of a course, or stage them for the journal of its queue. -/
def writeOut (w : Waiter) (c : Course) (va : Nat) (bs : List Byte) (poison : Bool) (s : State) : State :=
  match journaledCmd s c with
  | some (q, idx) => if outsideOut c va then stageBytes q idx va bs poison s else writeFoot w c.ctx c.foot va bs poison s
  | none => writeFoot w c.ctx c.foot va bs poison s

/-- Fold a tile digest into its accumulator; for a course of a journaled queue it waits for the DONE mark (R290). -/
def foldFor (c : Course) (d : BitVec 64) (s : State) : State :=
  match journaledCmd s c with
  | some (q, idx) =>
    let f (k : Cmd) : Cmd := if k.idx = idx then { k with folds := k.folds ++ [(cdTensor c.raw, d)] } else k
    modQueue q (fun x => { x with cmds := x.cmds.map f }) s
  | none => foldDigest c.ctx (cdTensor c.raw) d s

/-- What a course reads beside memory: its IN_PLACE copy first, bytes that wait in a host write queue (R195), host bytes of the
command, landed peer bytes. -/
def viewExt (s : State) (a : Nat) (c : Course) (ext : Ext) : Ext :=
  c.kept ++ queueExt s ++ outsideExt s ext ++ landedExt s (.array a c.id)

/-- Software has touched what the course reads or writes, or its held set (R84, R108). -/
def outputsFree (s : State) (ext : Ext) (a : Nat) (c : Course) : Bool := broken c || heldStale s ext a c

/-- A block that the array waits for is to be sent again (R343). -/
def blocksOut (s : State) (a : Nat) : Bool := s.xfers.any fun t => t.receiver = 0x4000 + a && !t.write

/-- Rows of a square course that are done when `row` is the next row to present in pass `pass`: of a multi-pass course, the
row blocks before its own, and in the last pass the rows before it (R102). -/
def writtenOf (c : Course) (row pass : Nat) : Nat :=
  if multiPass c && pass ≠ (if odFmt c.opS = 9 then 5 else 27) then row / 256 * 256 else row

/-- Rows that earlier runs of the course have done. -/
def writtenRows (c : Course) : Nat := writtenOf c c.resume c.pass

/-- The codes of one output row: rounded elements and, for MX, scale bytes (R48 to R52, R58). -/
def rowCodes (f : Nat) (mx : Bool) (mode : Nat) (sat : Bool) (ridge : Int) (xs : List (Val × Nat × Gutter)) : List Nat × List Nat :=
  if f = 11 then (xs.map fun x => gutterImage ridge x.2.2, [])
  else if mx then
    let blocks := (List.range ((xs.length + 31) / 32)).map fun b => mxBlock f mode (((xs.drop (32 * b)).take 32).map fun x => (x.1, x.2.1))
    (blocks.flatMap (·.2), blocks.map (·.1))
  else (xs.map fun x => roundVal f mode sat x.2.1 x.1, [])

/-- Bytes at rising addresses, in the runs of each granule that they cover. -/
def byteRuns (xs : List (Nat × Byte)) : List (Nat × List Byte) :=
  xs.foldr (fun x acc => match acc with
    | (va, bs) :: rest => if x.1 + 1 = va && va % 64 ≠ 0 then (x.1, x.2 :: bs) :: rest else (x.1, [x.2]) :: acc
    | [] => [(x.1, [x.2])]) []

/-- Write columns `lo .. hi - 1` of one output row and fold its ridge record: the answer is the state and the whole row's
bytes for the digest. An MX row is written whole (R52); bytes of one granule are written together. Where software broke R108 every byte
written is a free value. -/
def writeRow (a : Nat) (ext : Ext) (c : Course) (base : State) (lo hi : Nat) (acc : State × List Byte × List Byte) (m : Nat) :
    State × List Byte × List Byte :=
  let cols := (outShape c.raw c.opS c.opT).2
  let f := odFmt c.opO
  let nb := fmtBits f / 8
  let xs := (List.range cols).map fun n => outExact base ext a c m n
  let changed := outputsFree base ext a c
  let free := acc.1.free
  let (codes, scales) := rowCodes f (odMx c.opO) c.round c.sat c.ridge xs
  let codes := if changed then (List.range codes.length).map fun i => (Config.freeBits (8 * nb) (free + i)).toNat else codes
  let scales := if changed then (List.range scales.length).map fun i => (Config.freeBits 8 (free + codes.length + i)).toNat else scales
  let s := if changed then { acc.1 with free := free + codes.length + scales.length } else acc.1
  let w : Waiter := .array a c.id
  let mx := odMx c.opO
  let part := if mx then (if hi < cols then [] else List.range cols) else rangeFrom lo (hi - lo)
  let bytes := part.flatMap fun n => (List.range nb).map fun i => (outAddr c.opO m n + i, (toLe nb (codes.getD n 0)).getD i 0)
  let scs := (if part.isEmpty then [] else List.range scales.length).map fun b =>
    (odScale c.opO + m * odCols c.opO / 32 + b, BitVec.ofNat 8 (scales.getD b 0))
  let s := (byteRuns (bytes ++ scs)).foldl (fun st r => writeOut w c r.1 r.2 false st) s
  let s := if odRec c.opO && f ≠ 11 then
      let va := odRecord c.opO
      let old := ofLe (footBytes s [] c.ctx c.foot va 8)
      let vals := part.map fun n =>
        let v := outVal f (codes.getD n 0)
        if odMx c.opO then scaleVal (scales.getD (n / 32) 127) v else v
      if changed then writeOut w c va (bytesOf 8 (peekFree 64 s)) false (takeFree s) else writeOut w c va (toLe 8 (vals.foldl foldRidge old)) false s
    else s
  (s, acc.2.1 ++ codes.flatMap (toLe nb), acc.2.2 ++ scales.map (BitVec.ofNat 8))

/-! ### What a course costs (R138, R335) -/

/-- The bytes of some segments of a footprint, by class. -/
def segWork (foot : List Extent) (segs : List Segment) : Work :=
  segs.foldl (fun acc g => (List.range g.len).foldl (fun w i => addWork w (paWork (footPa foot (g.va + i)) 1)) acc) noWork

/-- What only output row, or held row, `m` reads: its streamed or held elements with their scales, and its images. -/
def ownReads (c : Course) (m : Nat) : List Segment :=
  let d := c.raw
  let row (o : BitVec 256) (cols : Nat) : List Segment :=
    ⟨odBase o + m * odStride o, rowBytes (odFmt o) cols, needR⟩ :: (if odMx o then [⟨scaleAddr o true m 0, cols / 32, needR⟩] else [])
  (if cdOp d = 3 then row c.opS (odCols c.opS) ++ (if hasStat d then row c.opT (odCols c.opS) else [])
   else if cdFlat d then row c.opT (odCols c.opT)
   else if cdNeighbour d then []
   else row c.opS (streamCols d c.opS c.opT)) ++
  (if cdFromImage d then (let cols := (outShape d c.opS c.opT).2; [⟨cdImage d + 32 * (m * cols), 32 * cols, needR⟩]) else [])

/-- What several rows of a course share: the stationary tile, the weights, the rows of NEIGHBOUR, the ridge records. -/
def sharedReads (c : Course) : List Segment :=
  let d := c.raw
  let record (o : BitVec 256) : List Segment := if odRsrc o = 1 then [⟨odRecord o, 8, needR⟩] else []
  let stream := inputSegs c.opS (streamRows d) (streamCols d c.opS c.opT) true
  let stat := inputSegs c.opT (statRows d c.opT) (statCols d c.opS c.opT) (cdFlat d || odOrient c.opT)
  if cdOp d ≠ 1 then []
  else if cdFlat d then stream ++ record c.opT
  else stat ++ (if cdNeighbour d then stream else record c.opS)

/-- The bytes that output row `m` writes. -/
def outWork (c : Course) (m : Nat) : Work :=
  if cdForward c.raw then noWork
  else
    let n := fmtBits (odFmt c.opO) / 8
    let w := (List.range (outShape c.raw c.opS c.opT).2).foldl (fun acc k => addWork acc (paWork (footPa c.foot (outAddr c.opO m k)) n)) noWork
    if odMx c.opO then addWork w (segWork c.foot [⟨odScale c.opO + m * odCols c.opO / 32, odCols c.opO / 32, needW⟩]) else w

/-- The indicative and the squashed part of a course's run, of which the rows `live` became indicative: what serves one row goes
with the row, what serves several in proportion; a squashed row writes nothing (R138). -/
def splitWork (c : Course) (rows : Nat) (live : List Nat) (w : Work) : Work × Work :=
  let own (ms : List Nat) : Work := ms.foldl (fun acc m => addWork acc (segWork c.foot (ownReads c m))) noWork
  let shared := addWork w (segWork c.foot (sharedReads c))
  let share := shareOf shared live.length rows
  let outs := live.foldl (fun acc m => addWork acc (outWork c m)) noWork
  let fold := if hasOut c.raw && odRec c.opO && odFmt c.opO ≠ 11 && !live.isEmpty then segWork c.foot [⟨odRecord c.opO, 8, needRWA⟩] else noWork
  (addWork (addWork share (own live)) (addWork outs fold),
   addWork (minusWork shared share) (own ((List.range rows).filter fun m => !(live.contains m))))

/-- What a course writes itself: its outputs, but for those that the journal of its queue stages. -/
def courseWrites (s : State) (c : Course) : List Extent :=
  let staged := (journaledCmd s c).isSome
  ((outputSegs c.raw c.opS c.opT c.opO).flatMap fun g => c.foot.filterMap (clipExtent g.va g.len)).filter fun x => !(staged && outsideOut c x.va)

/-- The verdict on a footprint as it stands now: a stack channel fenced, a key slot emptied or unbound since the check (R159, R161). -/
def footVerdict (s : State) (c : Nat) (foot : List Extent) : Status := worstOf (foot.map fun x => accessVerdict s c x.keySlot x.pa x.len)

/-- Discard a run's work: it is all squash (R138). -/
def squashRun (c : Course) (w : Work) (s : State) : State := chargeSquash c.ctx 0 w s

/-- What a run's log counts as its rows become indicative (R115, R122, R132, R142). -/
def countRun (r : RunLog) (s : State) : State :=
  let s := if r.idle = 0 then s else countN 0x4100 0x0D r.idle s
  let s := if r.stalls = 0 then s else countN 0x4800 0x0B r.stalls s
  if r.late then count 0x4800 0x0A s else s

/-- A run with no row, no cost. -/
def emptyRun : RunLog := ⟨noWork, 0, 0, 0, false, []⟩

/-! ### Re-runs (R113, R114, R134, R136) -/

/-- The course starts over: nothing of a run stays with it. -/
def fromStart (c : Course) : Course :=
  { c with resume := 0, pass := 0, intake := 0, part := [], obsSoFar := -512, breachSoFar := false, heldKept := false, work := noWork }

/-- What the saved runs of a course have cost is squash (R138). -/
def squashSaved (c : Course) (s : State) : State := if c.work = noWork then s else chargeSquash c.ctx 0 c.work s

/-- A run is discarded: its work is squash, and the cycles that it waited for staging are counted (R132, R138). -/
def discardRun (c : Course) (r : RunLog) (s : State) : State :=
  squashRun c r.work (if r.stalls = 0 then s else countN 0x4800 0x0B r.stalls s)

/-- The chain that a course continues is discarded, and runs again from its first course: what its members cost is squash. -/
def squashChain (a : Nat) (c : Course) (s : State) : State :=
  let st := (getArr s a).store
  if continues c && st.chain && ownStore st c && !st.rebuild then
    let w := st.members.foldl (fun acc k => (courseReads k).foldl (fun acc x => addWork acc (paWork x.pa x.len)) acc) st.work
    modArr a (fun x => { x with store := { st with rebuild := true, work := noWork } }) (chargeSquash c.ctx 0 w s)
  else s

/-- The array presents rows again: its cluster leaves power-gating, and it holds its current (R20, R90). -/
def presents (a : Nat) (s : State) : State :=
  modArr a (fun x => { x with current := true }) (modCluster (a / 4) (fun x => { x with gated := false }) s)

/-- Re-run a course from its first row (R114, R134): nothing of the run stays, and its inputs are read again, the held set and the
chain before it too. -/
def rerun (a : Nat) (c : Course) (f : Course → Course) (s : State) : State :=
  let s := presents a (squashChain a c (squashSaved c s))
  noteExtents c.ctx 4 (runReads s a c) (askPeers (.array a c.id) (runReads s a c) (dropLanded (.array a c.id)
    (modCourse a c.id (fun x => f (fromStart { x with stage := .running })) (loadHeld a false c s))))

/-- A verdict END has squashed row `m` in an earlier course of the chain that the course continues (R136). -/
def chainDead (s : State) (a : Nat) (c : Course) (m : Nat) : Bool :=
  continues c && ownStore (getArr s a).store c && (getArr s a).store.dead.contains m

/-- Count the saturated gutters of indicative rows (R37). -/
def countSaturations (gs : List Gutter) (s : State) : State := countN 0x4000 8 (gs.filter (·.sat)).length s

/-- What the counters of Tables 2.15 and 4.11 owe a course whose first rows become indicative: clamped ridges, a strict re-run,
strict ridges not applied (R63, R109, R122). -/
def countControls (clamps loose : Nat) (c : Course) (s : State) : State :=
  let s := if clamps = 0 then s else countN 0x4000 7 clamps s
  let s := if c.strictRun then count 0x4000 5 s else s
  if loose = 0 then s else countN 0x4100 0x0C loose s

/-- Outputs of row `m` that the counters have counted. -/
def seenTo (c : Course) (m : Nat) : Nat := match c.seen.find? fun p => p.1 = m with | some p => p.2 | none => 0

/-- Columns `lo .. hi - 1` of the rows `ms` become indicative: saturated gutters and rows presented are counted, once for each output
(R37, R122), of `runs` courses of a chain. `base` is the state before the outputs are written. -/
def countOutputs (a : Nat) (ext : Ext) (c : Course) (base : State) (ms : List Nat) (lo hi runs : Nat) (s : State) : State :=
  let new := ms.flatMap fun m => rangeFrom (max lo (seenTo c m)) (hi - max lo (seenTo c m)) |>.map fun n => (outExact base ext a c m n).2.2
  let units := if cdFlat c.raw then (if ms.isEmpty then 0 else hi - ms.foldl (fun k m => max k (seenTo c m)) lo)
    else (ms.filter fun m => seenTo c m = 0).length
  countN (0x4101 + a) 5 (units * runs) (countSaturations new s)

/-- The same, of a run that does not end its course: the course remembers what has been counted. -/
def countKept (a : Nat) (ext : Ext) (c : Course) (base : State) (ms : List Nat) (lo hi : Nat) (s : State) : State :=
  let st := (getArr s a).store
  let chain := continues c && ownStore st c
  let s := countOutputs a ext c base ms lo hi (if chain then st.members.length + 1 else 1)
    (countControls (c.clamps + (if chain then st.clamps else 0)) (b2n c.notStrict + (if chain then st.loose else 0)) c s)
  let s := if chain then modArr a (fun x => { x with store := { x.store with clamps := 0, loose := 0 } }) s else s
  modCourse a c.id (fun x => { x with
    seen := (x.seen.filter fun p => !(ms.contains p.1)) ++ ms.map fun m => (m, max hi (seenTo x m)), clamps := 0, notStrict := false }) s

/-- The course writes outputs row by row as they become indicative: a strict hold, a forwarding course and a scan do not. -/
def writesRows (c : Course) : Bool := !(c.strict || cdForward c.raw || cdOp c.raw = 2)

/-- Rows, or weight columns, before `upto` of a run that is discarded were indicative: they stay written (R113, R134). Rows joined
with an image of another ridge are not among them (R59), nor those for which the home slices have not granted the writes. -/
def keepRows (a : Nat) (ext : Ext) (c : Course) (upto : Nat) (s : State) : State :=
  let (rows, cols) := outShape c.raw c.opS c.opT
  let sure := (List.range rows).filter fun m => rowVerdict c m = 1 && !(chainDead s a c m)
  let ms := if cdFlat c.raw then sure else sure.filter fun m => writtenRows c ≤ m && m < upto
  let (lo, hi) := if cdFlat c.raw then (c.resume, min upto cols) else (0, cols)
  if !(writesRows c) || ms.isEmpty || hi ≤ lo || !(imagesAgree s a ext c) then s
  else
    let (ready, s) := bulkReady c.ctx [] (courseWrites s c) s
    if !ready then s else
    let s := keepOutside a ext c s
    countKept a ext c s ms lo hi (ms.foldl (writeRow a ext c s lo hi) (s, [], [])).1

/-- The stationary slice of pass `p` of an FP32 or FP64 course: passes are grouped by it (R102). -/
def statSlice (fmt p : Nat) : Nat :=
  let top := if fmt = 9 then 2 else 6
  ((List.range (top + 1)).flatMap fun j => List.replicate (top + 1 - j) j).getD p 0

/-- A course waits behind the running one whose stationary load a pre-emption discards (R117). -/
def loadDiscarded (s : State) (a : Nat) (c : Course) : Bool := (getArr s a).courses.any fun k => k.id ≠ c.id && k.stage = .ready && startable s k

/-- The course presents its rows in pairs: square form with both operands FP4 or FP6 (Table 3.1, R66). -/
def rowPairs (c : Course) : Bool := cdOp c.raw = 1 && !(cdFlat c.raw) && isNarrow (odFmt c.opS) && isNarrow (odFmt c.opT)

/-- The first row of the row pair of `row`. -/
def pairStart (c : Course) (row : Nat) : Nat := if rowPairs c then row / 2 * 2 else row

/-- The image of the save area (Table 4.7). In the batten state the descriptor's address comes first, then the slice index, then
the byte with bit 0 (DESIGN CHOICE, log 163). -/
def saveImage (s : State) (a : Nat) (c : Course) (row intake pass : Nat) (obs : Int) (breach : Bool) (gs : List Gutter) : List Byte :=
  let flags := (c.ridge % 1024).toNat + 2 ^ 10 * b2n c.strictRun + 2 ^ 11 * b2n c.faultRun + 2 ^ 12 * b2n c.reissued +
    2 ^ 13 * b2n (ownStore (getArr s a).store c && (getArr s a).store.chain)
  let side (g : Gutter) : Nat := pack [(1, b2n g.nan), (1, b2n g.pinf), (1, b2n g.ninf), (1, b2n g.breach), (10, (g.obs % 1024).toNat), (2, 0)]
  let g128 := (List.range 128).map fun i => gs.getD i {}
  let empty := gs.isEmpty
  let slice := if multiPass c then statSlice (odFmt c.opS) pass else 0
  let body := bytesOf 128 c.raw ++ toLe 4 (if rowPairs c then (row + 1) / 2 else row) ++ toLe 1 intake ++ toLe 1 pass ++ toLe 2 flags ++
    toLe 2 ((obs % 1024).toNat + 2 ^ 10 * b2n breach) ++ toLe 2 (0x4000 + a) ++ toLe 2 c.ctx ++ toLe 2 0 ++ toLe 8 s.aoncnt ++
    toLe 40 0 ++ toLe 8 (cdStatOp c.raw) ++ toLe 1 slice ++ toLe 1 (b2n (loadDiscarded s a c)) ++ toLe 54 0 ++ toLe 256 0 ++
    (if empty then toLe 256 0 else g128.flatMap fun g => toLe 2 (side g)) ++
    (if empty then toLe 2816 0 else g128.flatMap fun g => toLe 22 (g.sum % 2 ^ 176).toNat) ++ toLe 508 0
  body ++ toLe 4 (crc32c body)

/-- Gutter `h` of a save area (Table 4.7). -/
def savedGutter (bs : List Byte) (h : Nat) : Gutter :=
  let v := ofLe ((bs.drop (0x200 + 2 * h)).take 2)
  ⟨signOf 176 (ofLe ((bs.drop (0x300 + 22 * h)).take 22)), signOf 10 (nbits v 4 10), nbit v 3, nbit v 2, nbit v 1, nbit v 0, false⟩

/-- The save area of a context for an array. -/
def saveAddr (s : State) (c a : Nat) : Nat := fld (getCtx s c) 280 40 * 4096 + 4096 * a

/-- The save area as an extent. -/
def saveExtent (s : State) (c a : Nat) : List Extent := [⟨0, saveAddr s c a, 4096, blockSlot, 2, false, false⟩]

/-- Write a course's save area and free the array (R110). Where the area refuses the access, as on a fenced channel (R161), the course
ends with that status (DESIGN CHOICE, log 167). -/
def writeSave (a : Nat) (c : Course) (img : List Byte) (f : Course → Course) (s : State) : State :=
  let pa := saveAddr s c.ctx a
  let st := accessVerdict s c.ctx blockSlot pa 4096
  if st ≠ .ok then endAfterWrites a (0x4000 + a) c st s
  else
  let s := homeWrite c.ctx blockSlot pa img false 2 s
  let s := count 0x4100 0x0A (countPreemption c.ctx s)
  let (n0, n1) := writesNeed s c
  let s := issueReadbacks n0 n1 (rowsIssued a s)
  modArr a (fun x => { x with run := none, ask := false }) (modCourse a c.id (fun x => f { x with stage := .saved, savedOn := a, blocked := false, wrote := (n0, n1) }) s)

/-- A drain whose rows are discarded, by a fault or a failed check: the save area records row 0 and cleared gutters (R110,
R117). -/
def saveDiscarded (a : Nat) (faulted : Bool) (c : Course) (s : State) : State :=
  let c := { c with faultRun := c.faultRun || faulted }
  let s := squashChain a c (squashSaved c (dropLanded (.array a c.id) s))
  writeSave a c (saveImage s a c 0 0 0 (-512) false []) (fun x => fromStart { x with faultRun := c.faultRun })
    (chargeInd c.ctx (paWork (saveAddr s c.ctx a) 4096) s)

/-- A fault of the running course: the first re-runs it, the second ends it with the fault's status (R113, R114). In a
pre-emption drain the fault wins: the course is saved for a run from its first row (R117). What the run `r` had made indicative
stays. A course whose outputs are on their way has left its array, and nothing of it runs again. -/
def courseFault (a : Nat) (st : Status) (ext : Ext) (r : RunLog) (c : Course) (s : State) : State :=
  if isWriting c then s
  else
  let s := discardRun c r (keepRows a ext c r.rows s)
  if c.faultRun then
    let s := if st = .poisonConsumed then raisePoisonConsumed (0x4000 + a) (some c.ctx) 4 (odBase c.opS) 2 s else s
    endAfterWrites a (0x4000 + a) c st s
  else
    let s := count 0x4100 9 (count (0x4101 + a) 6 s)
    match c.stage with
    | .draining _ _ _ => saveDiscarded a true c s
    | _ => rerun a c (fun x => { x with faultRun := true, blocked := false }) s

/-- A course whose outputs are on their way delivers its result once they are performed. -/
def arrayDone (a : Nat) (s : State) : State :=
  (getArr s a).courses.foldl (fun st c =>
    match c.stage with
    | .writing n0 n1 =>
      let res := statusOfCode (fld c.result 0 8)
      if statusClass res = 0 && !(unitsFramed st c) then st
      else if outputsPerformed st a c n0 n1 then endCourse a (fld c.result 48 16) c res (signOf 10 (fld c.result 32 10)) st
      else issueReadbacks n0 n1 (leaveArray a c st)
    | _ => st) s

/-- The course's sums go into the store (R72, R73), and what it cost waits there for the end of its chain (R127, R138). One that
starts from zero or from images opens a chain, which replaces the one that was open; an IMAGE course that does not forward
leaves an open chain as it is (DESIGN CHOICE, log 162). -/
def keepSums (a : Nat) (ext : Ext) (w : Work) (c : Course) (s : State) : State :=
  let (rows, cols) := outShape c.raw c.opS c.opT
  let old := (getArr s a).store
  let opens := !(continues c)
  let free := outputsFree s ext a c
  let base := if opens then [] else storeEntries s ext a c
  let entries := (List.range rows).foldl (fun t m => (List.range cols).foldl (fun t n =>
    let i := storeIndex c.raw m n
    tset none t i (some (if free then staleEntry s i else outGutter s ext a c m n))) t) base
  let dead := (List.range rows).filter fun m => rowVerdict c m = 2
  let st : Store :=
    { ctx := some c.ctx, home := c.home, chain := true, form := b2n (cdFlat c.raw), rows := cdRows c.raw, held := cdHeld c.raw, ridge := c.ridge,
      entries := entries, dead := (if opens then [] else old.dead) ++ dead, members := (if opens then [] else old.members) ++ [c],
      work := if opens then w else addWork old.work w, clamps := (if opens then 0 else old.clamps) + c.clamps,
      loose := (if opens then 0 else old.loose) + b2n c.notStrict }
  modArr a (fun x => { x with store := st }) (if opens && old.chain then chargeSquash c.ctx 0 old.work s else s)

/-- The course reads host memory, and that is out of its reach. -/
def hostInputsDead (s : State) (c : Course) : Bool := courseHostLost s c && c.foot.any fun x => target x.pa = .host && !(outsideOut c x.va)

/-- The first row, or weight column, of a run that consumes poison, when the rows `ms` become indicative (R129, R466). -/
def firstPoison (s : State) (a : Nat) (c : Course) (ms : List Nat) : Option Nat :=
  let cols := (outShape c.raw c.opS c.opT).2
  if cdOp c.raw = 2 then
    if consumed s a c (odRecord c.opO) || (List.range (cdRows c.raw)).any fun m => rowBad s a c 0 (odCols c.opS) m then some 0 else none
  else if cdFlat c.raw then
    if ms.any fun m => mapPoison s c m || chainPoison s a c m then some c.resume
    else (rangeFrom c.resume (cols - c.resume)).find? fun n => ms.any fun m => outPoison s a c m n
  else ms.find? (rowPoison s a c)

/-- The rows of a course that a verdict END squashes in no course of its chain (R136). -/
def chainLive (s : State) (a : Nat) (c : Course) : List Nat :=
  (liveRows c (outShape c.raw c.opS c.opT).1).filter fun m => !(chainDead s a c m)

/-- What a run ends with, as its outputs become indicative, beside poison: host inputs out of reach, a target that refuses now
(R159, R161), images of another ridge (R59). -/
def runVerdict (s : State) (a : Nat) (ext : Ext) (c : Course) : Status :=
  worst (if hostInputsDead s c then .deadTarget else .ok)
    (worst (footVerdict s c.ctx c.foot) (if imagesAgree s a ext c then .ok else .malformed))

/-- The indicative and squashed work of a course that ends, with that of the chain it ends (R114, R138). -/
def endWork (s : State) (a : Nat) (c : Course) (rows : Nat) (live : List Nat) (w : Work) : Work × Work :=
  let st := (getArr s a).store
  if !(continues c) then splitWork c rows live w
  else
    let own := if st.rebuild then shareOf w 1 (st.members.length + 1) else w
    let time := shareOf st.work live.length rows
    let all := st.members.foldl (fun (acc : Work × Work) k =>
      let x := splitWork k rows live noWork
      (addWork acc.1 x.1, addWork acc.2 x.2)) (splitWork c rows live own)
    (addWork all.1 time, addWork all.2 (addWork (minusWork st.work time) (minusWork w own)))

/-- Every output of the running course is indicative or squashed (R130, R133): its outputs are written, its record and
digest folded, its work charged. Of a forwarding course every entry is confirmed. The home slices have granted what it reads and
writes (R231). -/
def completeCourse (a : Nat) (r : RunLog) (s : State) : State :=
  match runningCourse s a with
  | none => s
  | some c =>
    if peerWaits s (.array a c.id) || c.stage ≠ .running || c.blocked || blocksOut s a || c.bound.any (fun b => b.2.2 = 0) then s
    else
      let (ready, s) := bulkReady c.ctx (runReads s a c) (courseWrites s c) s
      if !ready then s
      else
      let w := r.work
      let ext := viewExt s a c r.ext
      let d := c.raw
      let (rows, cols) := outShape d c.opS c.opT
      let live := chainLive s a c
      let fresh := live.filter fun m => c.strict || cdFlat d || writtenRows c ≤ m
      match firstPoison s a c (if continues c then live else fresh) with
      | some upto => courseFault a .poisonConsumed ext { r with rows := upto } c s
      | none =>
        let bad := runVerdict s a ext c
        if bad ≠ .ok then endAfterWrites a (0x4000 + a) c bad (discardRun c r (countSlots c.ctx c.foot s))
        else
        let s := noteHeld a ext c (keepOutside a ext c s)
        let w := addWork w c.work
        let changed := outputsFree s ext a c
        let c : Course := { c with work := noWork }
        if cdOp d = 2 then
          -- a ridge scan folds its elements into the record
          let along := !(odOrient c.opS)
          let view := footByte s ext c.ctx c.foot
          let old := ofLe (footBytes s [] c.ctx c.foot (odRecord c.opO) 8)
          let vals := (List.range (cdRows d)).flatMap fun m => (List.range (odCols c.opS)).map fun n => elemVal view c.opS along m n
          let v := if changed then bytesOf 8 (peekFree 64 s) else toLe 8 (vals.foldl foldRidge old)
          let s := writeOut (.array a c.id) c (odRecord c.opO) v false (if changed then takeFree s else s)
          let s := countN (0x4101 + a) 5 (cdRows d) (countRun r (countControls c.clamps 0 c s))
          endCourse a (0x4000 + a) c .ok (-512) (stagedWhole c (chargeInd c.ctx (addWork w (segWork c.foot (courseSegs d c.opS c.opT c.opO))) s))
        else
          let gs := live.flatMap fun m => (List.range cols).map fun n => (outExact s ext a c m n).2.2
          let obs := gs.foldl (fun o g => max o g.obs) c.obsSoFar
          let breach := c.breachSoFar || gs.any (·.breach)
          let s1 := if continues c || changed then { s with free := s.free + 32768 } else s
          let obs : Int := if changed then signOf 10 (peekFree 10 s1).toNat else obs
          let s1 := if changed then takeFree s1 else s1
          if cdForward d then endCourse a (0x4000 + a) c .ok obs (countRun r { keepSums a ext w c s with free := s1.free })
          else if c.strict && breach && !c.strictRun then s
          else
            let s0 := s
            let s := s1
            let lo := if cdFlat d && !c.strict then c.resume else 0
            let (s, stream, scales) := fresh.foldl (writeRow a ext c s0 lo cols) (s, [], [])
            let whole := (live.foldl (writeRow a ext c s0 lo cols) (s0, [], [])).2
            let stream := if fresh.length = live.length then stream ++ scales else whole.1 ++ whole.2
            let digest := if changed then peekFree 64 s else tileDigest (cdOrigin d) stream
            let s := if live.isEmpty || !c.digests || c.src = .test then s else foldFor c digest (if changed then takeFree s else s)
            let x := endWork s0 a c rows live w
            let s := chargeInd c.ctx x.1 s
            let late := ((List.range rows).filter fun m => rowVerdict c m ≠ 2 && !(live.contains m)).length * (if cdFlat d then cols else 1)
            let s := countEnded c.ctx late (if x.2 = noWork then s else chargeSquash c.ctx 0 x.2 s)
            let st := (getArr s a).store
            let chain := continues c
            let s := if live.isEmpty then s else
              countControls (c.clamps + (if chain then st.clamps else 0)) (b2n c.notStrict + (if chain then st.loose else 0)) c s
            let s := countOutputs a ext c s0 fresh lo cols (if chain then st.members.length + 1 else 1) s
            let s := countRun r s
            let s := if chain || c.strict || multiPass c then modArr a (fun x => { x with store := {} }) s else s
            let st : Status := if breach then .inexact else .ok
            let (n0, n1) := writesNeed s c
            let s := stagedWhole c (modCourse a c.id (fun x => { x with
              stage := .writing n0 n1, work := noWork, result := courseResult c (0x4000 + a) st obs }) s)
            owe (.arrayDone a) (if unitsFramed s c then leaveArray a c s else s)

/-- The re-run of R43: the course breached under a strict ridge, and runs again with the observed ridge. -/
def strictRerun (a : Nat) (r : RunLog) (s : State) : State :=
  match runningCourse s a with
  | none => s
  | some c =>
    let (ready, s) := if c.stage = .running then bulkReady c.ctx (runReads s a c) [] s else (false, s)
    if !ready || !c.strict || c.strictRun || cdOp c.raw ≠ 1 then s
    else
      let ext := viewExt s a c r.ext
      let (rows, cols) := outShape c.raw c.opS c.opT
      let gs := (liveRows c rows).flatMap fun m => (List.range cols).map fun n => outGutter s ext a c m n
      if gs.any (·.breach) then
        let obs := gs.foldl (fun o g => max o g.obs) (-512)
        rerun a c (fun x => { x with strictRun := true, ridge := obs }) (discardRun c r s)
      else s

/-! ### Pre-emption (R110 to R112, R137) -/

/-- Context `c` outranks context `d` (R330). -/
def outranks (s : State) (c d : Nat) : Bool := fld (getCtx s d) 113 3 < fld (getCtx s c) 113 3

/-- The array must pre-empt its course: it was asked to, or work of a context of higher priority waits (R331). -/
def mustYield (s : State) (a : Nat) (c : Course) : Bool :=
  (getArr s a).ask || (getArr s a).courses.any fun k => k.id ≠ c.id && startable s k && outranks s k.ctx c.ctx

/-- Bytes of outputs that wait in the downpipe's staging for a verdict once every row, or weight column, before `row` has been
presented (R132). -/
def stagedBytes (c : Course) (row : Nat) : Nat :=
  let (rows, cols) := outShape c.raw c.opS c.opT
  let waiting := (List.range rows).filter fun m => rowVerdict c m = 0
  (if cdFlat c.raw then waiting.length * (row - c.resume)
   else (waiting.filter fun m => writtenRows c ≤ m && m < row).length * cols) * (fmtBits (odFmt c.opO) / 8)

/-- `row` is no further than the array can have presented: behind a full staging of 64 KiB it presents nothing (R132). -/
def mayPresent (c : Course) (row : Nat) : Bool := !(writesRows c) || stagedBytes c (row - 1) < 65536

/-- A pre-emption request is accepted: `row` is the next row or weight column, `intake` the next intake cycle of that unit and
`pass` the next pass (R110, R102). -/
def acceptPreemption (a row intake pass : Nat) (s : State) : State :=
  match runningCourse s a with
  | none => s
  | some c =>
    if c.stage = .running && mustYield s a c && c.resume ≤ row && row ≤ cdRows c.raw && mayPresent c row && (pairStart c row = row || row = cdRows c.raw) then
      modCourse a c.id (fun x => { x with stage := .draining row (if cdFlat c.raw then intake else 0) (if multiPass c then pass else 0) }) s
    else s

/-- What the continuation store keeps of a course that a pre-emption saves, tagged with its context (R112): the partial sums of a
multi-pass course, the entries that a course that opens a chain has forwarded. -/
def holdStore (a : Nat) (c : Course) (row pass : Nat) (s : State) : State :=
  if !(getArr s a).store.ctx.isNone then s
  else if multiPass c && (pass ≠ 0 || row % 256 ≠ 0) then modArr a (fun x => { x with store := { ctx := some c.ctx, home := c.home } }) s
  else if cdForward c.raw && !(continues c) && row ≠ 0 then
    modArr a (fun x => { x with store := { ctx := some c.ctx, home := c.home, chain := true, form := b2n (cdFlat c.raw), rows := cdRows c.raw, held := cdHeld c.raw, ridge := c.ridge } }) s
  else s

/-- Outputs of the chain that the course forwards or continues wait for a verdict: its entries are not all confirmed (R137). -/
def unsureStore (a : Nat) (c : Course) (s : State) : State :=
  if ownStore (getArr s a).store c && (getArr s a).store.chain then modArr a (fun x => { x with store := { x.store with unsure := true } }) s else s

/-- The drain of a pre-empted course ends: the rows presented are written, the save area too, and the array is free (R110, R137).
The work of rows that are forwarded or held waits for the end of the chain or hold (R127). -/
def saveDrain (a : Nat) (r : RunLog) (s : State) : State :=
  match runningCourse s a with
  | none => s
  | some c => match c.stage with
    | .draining row intake pass =>
      if c.blocked then saveDiscarded a false c s
      else
        let flat := cdFlat c.raw
        -- nothing is presented ahead of what the peers have not delivered
        let (row, intake, pass) := if peerWaits s (.array a c.id) then (c.resume, c.intake, c.pass) else (row, intake, pass)
        let (rows, cols) := outShape c.raw c.opS c.opT
        let upto := if flat then rows else min rows (writtenOf c row pass)
        let drained := (List.range upto).filter fun m => flat || writtenRows c ≤ m
        let idle := if flat then row ≤ c.resume && intake = c.intake else drained.isEmpty
        let (ready, s) := if idle then (true, s) else bulkReady c.ctx (runReads s a c) (courseWrites s c ++ saveExtent s c.ctx a) s
        if !ready then s
        else
        let w := r.work
        let ext := viewExt s a c r.ext
        -- what still waits for a verdict counts as squashed, and the course resumes at the first of it (R137)
        let waits := drained.filter fun m => rowVerdict c m = 0 && !(chainDead s a c m)
        let (resume, intake, pass) := if waits.isEmpty then (row, intake, pass)
          else if flat then (c.resume, 0, 0)
          else (pairStart c (waits.headD 0), 0, if waits.headD 0 / 256 = row / 256 then pass else 0)
        let rowsNow := drained.filter fun m => rowVerdict c m ≠ 2 && !(waits.contains m) && !(chainDead s a c m)
        let (lo, hi) := if flat then (c.resume, min row cols) else (0, cols)
        let bad : Status := if rowsNow.isEmpty then .ok else runVerdict s a ext c
        match rowsNow.find? fun m => rowBad s a c lo hi m || chainPoison s a c m with
        | some m => courseFault a .poisonConsumed ext { r with rows := if flat then c.resume else m } c s
        | none =>
          if bad ≠ .ok then endAfterWrites a (0x4000 + a) c bad (discardRun c r (countSlots c.ctx c.foot s))
          else
          let s := keepOutside a ext c s
          let gs := rowsNow.flatMap fun m => (rangeFrom lo (hi - lo)).map fun n => (outExact s ext a c m n).2.2
          let obs := gs.foldl (fun o g => max o g.obs) c.obsSoFar
          let breach := c.breachSoFar || gs.any (·.breach)
          let part := if flat && resume < cols && intake ≠ 0 then (List.range rows).map fun h =>
              if rowVerdict c h = 2 || chainDead s a c h then {}
              else gutterTo s ext a c (min (intake * flatIntake (odFmt c.opS)) (kUsed c.raw c.opT)) h resume
            else []
          let writes := writesRows c && !rowsNow.isEmpty && lo < hi
          let s := if writes then countKept a ext c s rowsNow lo hi (rowsNow.foldl (writeRow a ext c s lo hi) (s, [], [])).1 else s
          let per := if flat then min row cols - c.resume else 1
          let ind := if drained.length * per = 0 then w else shareOf w (rowsNow.length * per) (drained.length * per)
          let s := countEnded c.ctx (if cdForward c.raw then 0 else waits.length * per) (if ind = w then s else chargeSquash c.ctx 0 (minusWork w ind) s)
          let s := holdStore a c resume pass (countRun r s)
          let s := if waits.isEmpty then s else unsureStore a c s
          let img := saveImage s a c resume intake pass obs breach part
          let s := if writesRows c then chargeInd c.ctx ind s else modCourse a c.id (fun x => { x with work := addWork x.work ind }) s
          writeSave a c img (fun x => { x with resume := resume, pass := pass, intake := intake, part := part, obsSoFar := obs, breachSoFar := breach })
            (chargeInd c.ctx (paWork (saveAddr s c.ctx a) 4096) s)
    | _ => s

/-- The array writes the save area once every drained row is indicative or squashed; a block that waits for its re-send is
neither (R110, R130). -/
def savePreempted (a : Nat) (r : RunLog) (s : State) : State :=
  match runningCourse s a with
  | none => s
  | some c => if !c.blocked && blocksOut s a then s else saveDrain a r s

/-- What a resumed course takes from its save area (Table 4.7): the next row, or row pair, the next intake cycle and pass, the ridge in
use, what the rows so far observed, and in the middle of a flat unit the gutters (R111). That a gutter has saturated, which the save area
has no place for, the course keeps itself (DESIGN CHOICE, log 163). -/
def restoreFrom (bs : List Byte) (x : Course) : Course :=
  let ob := ofLe ((bs.drop 0x88).take 2)
  let intake := if cdFlat x.raw then ofLe ((bs.drop 0x84).take 1) else 0
  { x with
    resume := if rowPairs x then min (cdRows x.raw) (2 * ofLe ((bs.drop 0x80).take 4)) else ofLe ((bs.drop 0x80).take 4), intake := intake, pass := ofLe ((bs.drop 0x85).take 1),
    part := if intake = 0 then [] else (List.range (cdHeld x.raw)).map fun h => { savedGutter bs h with sat := (x.part.getD h {}).sat },
    ridge := signOf 10 (nbits (ofLe ((bs.drop 0x86).take 2)) 0 10), obsSoFar := signOf 10 (nbits ob 0 10), breachSoFar := nbit ob 10 }

/-- A saved course resumes: the save area's CRC decides between going on and a re-run (R111). One that reads as poison has no
right CRC either (DESIGN CHOICE, log 163). -/
def resumeCourse (a : Nat) (c : Course) (s : State) : State :=
  if s.tu.invals.any (fun i => i.holders.contains (.array a c.id)) && !(outputsPerformed s a c c.wrote.1 c.wrote.2) then
    issueReadbacks c.wrote.1 c.wrote.2 s
  else
  let pa := saveAddr s c.ctx c.savedOn
  let st := accessVerdict s c.ctx blockSlot pa 4096
  if st ≠ .ok then endAfterWrites a (0x4000 + a) c st s
  else
  let (bs, s) := homeRead c.ctx blockSlot pa 4096 2 s
  let bad := ofLe (bs.drop 0xFFC) ≠ crc32c (bs.take 0xFFC) || runPoison s c.ctx pa 4096
  match checkFootprint (tlbsOfArray a) true (fld (getCtx s c.ctx) 116 12) (courseSegs c.raw c.opS c.opT c.opO) s with
  | (.good foot, s) =>
    let s := dropHolder (.array a c.id) s
    let s := if needsSpill s a c then spillFor a c s else s
    let s := modCluster (a / 4) (fun x => { x with gated := false }) s
    let c : Course := { c with foot := foot }
    let s := loadHeld a false c s
    let s := modArr a (fun x => { x with run := some c.id, ask := false, current := true })
      (modCourse a c.id (fun x => { x with stage := .running, foot := foot, stale := broken x, heldKept := false }) s)
    if bad then courseFault a .crcExhausted [] emptyRun { c with stage := .running } s
    else
      let s := modCourse a c.id (restoreFrom bs) s
      noteExtents c.ctx 4 (runReads s a c) (askPeers (.array a c.id) (runReads s a c) s)
  | (r, s) => refuseCourse a c r (courseSegs c.raw c.opS c.opT c.opO) s

/-! ### Choice (R330) -/

/-- The next context among those with work, by priority and then in rotation after the one served last. -/
def chooseCtx (s : State) (last : Nat) (cs : List Nat) : Option Nat :=
  let prio (c : Nat) : Nat := fld (getCtx s c) 113 3
  let top := (cs.map prio).foldl max 0
  let best := (cs.filter fun c => prio c = top).eraseDups
  let dist (c : Nat) : Nat := (c + 4096 - (last + 1) % 4096) % 4096
  best.foldl (fun b c => match b with | none => some c | some x => if dist c < dist x then some c else b) none

def getSlice (s : State) (e : Nat) : Slice := tget {} s.sched.slices e
def modSlice (e : Nat) (f : Slice → Slice) (s : State) : State := { s with sched.slices := tmod {} s.sched.slices e f }

/-- A context's slice on an engine begins after a switch; within the same context it goes on (R331, R333). -/
def beginSlice (e c : Nat) (s : State) : State :=
  if (getSlice s e).ctx = some c then s
  else modSlice e (fun x => { x with ctx := some c, last := c, start := s.aoncnt, short := tget 0 x.carried c, endedAt := none,
                                     carried := tset 0 x.carried c 0 }) s

/-- Length of the running slice: SLICE less the overrun carried to it. -/
def sliceLength (s : State) (e c : Nat) : Nat := fld (getCtx s c) 224 32 - (getSlice s e).short

/-- An idle unfenced array chooses its next course (R330). A fenced array runs nothing, and one whose clock is stopped starts
nothing (R116). -/
def pickCourse (s : State) (a : Nat) : Option Course :=
  let x := getArr s a
  if x.run.isSome || x.fenced || (getCluster s (a / 4)).stopped then none
  else
    let cs := x.courses.filter (startable s)
    match chooseCtx s (getSlice s a).last (cs.map (·.ctx)) with
    | none => none
    | some k => cs.find? fun c => c.ctx = k

/-- A free array starts the course that it picks, or resumes it, once what it spills for it can be written. -/
def chooseCourse (a : Nat) (s : State) : State :=
  match pickCourse s a with
  | none => s
  | some c =>
    let (ready, s) := spillReady a c (beginSlice a c.ctx s)
    if !ready then s else if c.stage = .saved then resumeCourse a c s else startCourse a c s

/-! ### Fencing (R118, R119, R123, R124) -/

/-- Courses that move from array `a` to array `k` keep their place in the records, invalidations and peer requests that name
them. -/
def renameArray (a k : Nat) (s : State) : State :=
  let f (w : Waiter) : Waiter := match w with | .array b id => if b = a then .array k id else w | _ => w
  { s with
    tu.recs := s.tu.recs.map fun kv => (kv.1, kv.2.map fun r => { r with waiters := r.waiters.map f, drain := r.drain.map f })
    tu.invals := s.tu.invals.map fun i => { i with holders := i.holders.map f }
    tu.walks := s.tu.walks.map fun kv => (kv.1, kv.2.map fun j => { j with misses := j.misses.map f })
    peers := s.peers.map fun kv => (kv.1, { kv.2 with out := kv.2.out.map fun r => { r with waiter := f r.waiter } }) }

/-- The stores of a fenced array, its own and the spilled ones, that the substitute holds from then on as spilled ones. After a
sequencer mismatch their chains run again there from their first course (R76). -/
def movedSpills (faulted : Bool) (x y : ArrayU) : Table (Option Store) :=
  let all := (match x.store.ctx with | some c => [(spillKey c x.store.home, x.store)] | none => []) ++
    x.spills.filterMap fun kv => kv.2.map fun st => (kv.1, st)
  all.foldl (fun t p => tset none t p.1 (some (if faulted && p.2.chain then { p.2 with rebuild := true } else p.2))) y.spills

/-- Every course of a fenced array goes to the substitute; with none the courses end FENCED_UNIT. One whose outputs are on their
way stays until they are performed. -/
def moveCourses (a : Nat) (faulted : Bool) (s : State) : State :=
  let (out, cs) := (getArr s a).courses.partition isWriting
  let running := (getArr s a).run
  match substitute s a with
  | none => cs.foldl (fun st c => endAfterWrites a (ranUnit st a c) c .fencedUnit st) s
  | some k =>
    let f (c : Course) : Course :=
      let c := { c with reissued := true }
      if running = some c.id then
        fromStart { c with stage := .ready, faultRun := c.faultRun || faulted, blocked := false }
      else c
    let sp := movedSpills faulted (getArr s a) (getArr s k)
    let s := cs.foldl (fun st c => if running = some c.id then squashSaved c st else st) s
    let s := modArr a (fun x => { x with courses := out, run := none, ask := false, store := {}, spills := [], heldSet := none }) (renameArray a k s)
    modArr k (fun x => { x with courses := x.courses ++ cs.map f, spills := sp }) s

/-- The running course of an array that is about to be fenced is pre-empted (R124): a drain that has begun ends at its row, where
the block has the bytes and the grants for it (R117); else the course is saved at the row at which it last resumed. -/
def preemptForFence (a : Nat) (s : State) : State :=
  match runningCourse s a with
  | none => s
  | some c =>
    let again (s : State) : State := saveDrain a emptyRun (modCourse a c.id (fun x => { x with stage := .draining c.resume c.intake c.pass }) s)
    match c.stage with
    | .running => again s
    | .draining _ _ _ =>
      if c.foot.any fun x => target x.pa = .host then again s
      else
        let s := saveDrain a emptyRun s
        if (getArr s a).run = some c.id then again s else s
    | _ => s

/-- The sequencers of an array differ while a course runs on it (R118): its run is discarded, and it re-runs where its cluster has
another unfenced array; its second fault ends it. -/
def mismatchedCourse (a : Nat) (r : RunLog) (s : State) : State :=
  match runningCourse s a with
  | none => s
  | some c =>
    if isWriting c then s
    else
      let s := discardRun c r (keepRows a (viewExt s a c r.ext) c r.rows s)
      if c.faultRun then endAfterWrites a (0x4000 + a) c .fencedUnit s
      else
        let s := squashChain a c (dropLanded (.array a c.id) s)
        let s := if (rangeFrom (a / 4 * 4) 4).any fun k => k ≠ a && !(getArr s k).fenced then count 0x4100 9 (count (0x4101 + a) 6 s) else s
        match c.stage with
        | .draining _ _ _ => saveDiscarded a true c s
        | _ => s

/-- Fence an array: its courses move, the capacity record is raised. `faulted` gives the run that a sequencer mismatch discards
(R118); else the running course is pre-empted, the store is spilled, and it resumes on the substitute without a fault (R124),
once a stopped clock runs again (R117). -/
def fenceArray (a cause fenceCause : Nat) (faulted : Option RunLog) (s : State) : State :=
  if (getArr s a).fenced then s
  else match faulted with
    | some r =>
      let s := modArr a (fun x => { x with fenced := true, cause := fenceCause, fencing := none }) (mismatchedCourse a r s)
      capacityChanged true (0x4000 + a) cause (moveCourses a true s)
    | none =>
      if (getCluster s (a / 4)).stopped then modArr a (fun x => { x with fencing := some (fenceCause + 16 * cause) }) s
      else
        let (s, st) := spillStore a (preemptForFence a s)
        let s := modArr a (fun x => { x with fenced := true, cause := fenceCause, fencing := none, store := st }) s
        capacityChanged true (0x4000 + a) cause (moveCourses a false s)

/-- The clock of a cluster runs again: the fences that waited for it are taken (R116, R117). -/
def fencesWaiting (cl : Nat) (s : State) : State :=
  (rangeFrom (4 * cl) 4).foldl (fun st a => match (getArr st a).fencing with
    | some f => fenceArray a (f / 16) (f % 16) none st
    | none => st) s

/-- Take an array back into use: a fenced array runs nothing, so it is idle. A fence that waits for the clock is not taken. -/
def unfenceArray (a : Nat) (s : State) : State :=
  let s := modArr a (fun x => { x with fencing := none }) s
  if (getArr s a).fenced then
    capacityChanged false (0x4000 + a) 0 (modArr a (fun x => { x with fenced := false, cause := 0 }) s)
  else s

/-! ### The end of a context -/

/-- A killed context's courses end CONTEXT_KILLED; its store contents go (R320). -/
def killCourses (c : Nat) (s : State) : State :=
  s.arrays.arr.foldl (fun st kv =>
    let st := kv.2.courses.foldl (fun x k => if k.ctx = c then endAfterWrites kv.1 (ranUnit x kv.1 k) k .contextKilled x else x) st
    st) s

def dropStores (c : Nat) (s : State) : State :=
  s.arrays.arr.foldl (fun st kv =>
    let st := if kv.2.store.ctx = some c then chargeSquash c 0 kv.2.store.work st else st
    modArr kv.1 (fun x => { x with store := if x.store.ctx = some c then {} else x.store, spills := x.spills.filter fun kv => kv.1 % 4096 ≠ c }) st) s

end Sys2Proof.Machine
end

