-- ==== Sys2Proof/Machine/Queue.lean ====
section
/-! DEFINITION. Command queues (10): configuration, doorbells, slots, the start of commands, copy engines, completion
records. What a journaled queue adds stands in `Journal`. -/

namespace Sys2Proof.Machine

/-! ### Configuration (Table 10.2, Table 11.2) -/

def qEnable (c : BitVec 256) : Bool := flag c 0
def qKey (c : BitVec 256) : Nat := fld c 12 12
def qCqCtr (c : BitVec 256) : Nat := fld c 24 17
def qCqSignal (c : BitVec 256) : Bool := flag c 41
def qCqLog2 (c : BitVec 256) : Nat := fld c 42 5
def qRingLog2 (c : BitVec 256) : Nat := fld c 47 5
def qCtx (c : BitVec 256) : Nat := fld c 52 12
def qRing (c : BitVec 256) : Nat := fld c 64 64
def qCq (c : BitVec 256) : Nat := fld c 128 64
def qJournaled (c : BitVec 256) : Bool := flag c 192
def qJLog2 (c : BitVec 256) : Nat := fld c 203 5
def qJBase (c : BitVec 256) : Nat := fld c 208 40 * 4096

/-- A ring lies wholly within the present size of one target, in the stacks, loft scratch or host memory. -/
def ringFits (s : State) (base bytes : Nat) : Bool :=
  base < 2 ^ 52 && base % 4096 = 0 &&
  match target base with
  | .stacks => offset base + bytes ≤ stackBytes s
  | .scratch => offset base + bytes ≤ scratchBytes s
  | .host => base + bytes ≤ 2 ^ 51
  | _ => false

/-- JSTAGE is valid (R283). -/
def stageValid (s : State) (w : Word) : Bool :=
  let base := fld w 32 32 * 2 ^ 20
  let frames := fld w 20 12
  zeroFld w 0 20 && target base = .scratch && 2 ≤ frames && frames ≤ 4095 && offset base + (frames + 1) * 2 ^ 20 ≤ scratchBytes s

/-- The configuration may be enabled (R253, R281). -/
def configOk (s : State) (q : Queue) : Bool :=
  let c := q.cfg
  ringFits s (qRing c) (256 * 2 ^ qRingLog2 c) && ringFits s (qCq c) (32 * 2 ^ qCqLog2 c) &&
  4 ≤ qRingLog2 c && qRingLog2 c ≤ 16 && 4 ≤ qCqLog2 c && qCqLog2 c ≤ 16 && ctxState s (qCtx c) ≠ 0 && zeroFld c 1 11 &&
  (!qJournaled c ||
    (target (qJBase c) = .host && 10 ≤ qJLog2 c && qJLog2 c ≤ 20 && zeroFld c 193 10 && zeroFld c 248 8 && stageValid s q.jrn.stage))

/-! ### Slots (Table 10.4) -/

def slOp (v : BitVec 2048) : Nat := fld v 88 8
def slLen (v : BitVec 2048) : Nat := fld v 80 8
def slTag (v : BitVec 2048) : Nat := fld v 0 64
def slAfter (v : BitVec 2048) : Bool := flag v 64
def slInPlace (v : BitVec 2048) : Bool := flag v 65
def slBody (v : BitVec 2048) (lo n : Nat) : Nat := fld v (128 + lo) n
def slArg (v : BitVec 2048) : Nat := fld v 1664 128

/-- The expected PHASE of slot index `i` (R255). -/
def slotPhase (log2 i : Nat) : Nat := (i / 2 ^ log2 + 1) % 2

/-- The slot is visible: its SEQ, its PHASE and its CRC are right (R261). -/
def slotVisible (log2 i : Nat) (v : BitVec 2048) : Bool :=
  fld v 96 32 = i && fld v 66 1 = slotPhase log2 i && fld v 2016 32 = crc32c (bytesOf 252 v)

/-- A malformed command (R257, R262). -/
def slotMalformed (conf : Bool) (v : BitVec 2048) : Bool :=
  let op := slOp v
  let n := slLen v
  let lenOk := match op with
    | 1 => n = 0 | 2 => n = 128 | 3 => n = 40 | 4 => n = 40 | 5 => 1 ≤ n && n ≤ 192 | 6 => n = 0
    | 7 => n = 16 | 8 => n = 16 | 9 => n = 32 | _ => false
  let argOk := match op with | 2 => slArg v < 256 | 5 => slArg v < 2 ^ 56 | _ => slArg v = 0
  !lenOk || !argOk || fld v (128 + 8 * n) (1536 - 8 * n) ≠ 0 || !zeroFld v 67 13 || !zeroFld v 1920 96 || (!conf && !zeroFld v 1792 128)

/-- A fresh command of a slot. -/
def newCmd (idx ext : Nat) (v : BitVec 2048) (started : Bool) : Cmd :=
  { idx := idx, ext := ext, slot := v, started := started, footOk := false, waitRec := none, engine := none, burst := 0, reruns := 0,
    poison := false, reissued := false, fin := none, detail := 0, need0 := 0, need1 := 0, intent := none, performed := false,
    unconfirmed := false, commitNum := none, frames := [], committed := 0, doneMark := false, doneNum := none, doneRec := false, cqAt := none,
    foot := [], probing := false, acceptNum := none, accepted := false, again := false, avoid := none, recheck := false, oldPart := false,
    intentNum := 0, staged := [], stagedBad := [], whole := false, folds := [], kept := [], keptFrames := [] }

def findCmd (s : State) (q idx : Nat) : Option Cmd := (getQueue s q).cmds.find? fun c => c.idx = idx
def modCmd (q idx : Nat) (f : Cmd → Cmd) (s : State) : State :=
  modQueue q (fun x => { x with cmds := x.cmds.map fun c => if c.idx = idx then f c else c }) s
def finCmd (q idx : Nat) (st : Status) (s : State) : State := modCmd q idx (fun c => { c with fin := some (c.fin.getD st) }) s
def queueCtx (s : State) (q : Nat) : Nat := qCtx (getQueue s q).cfg
def isJournaled (s : State) (q : Nat) : Bool := qJournaled (getQueue s q).cfg

/-- A wait begins: it is counted once, at dictionary entry `i : e` (R274, R286). -/
def beginWait (q kind who i e : Nat) (s : State) : State :=
  if (getQueue s q).waits.contains (kind, who) then s
  else count i e (modQueue q (fun x => { x with waits := x.waits ++ [(kind, who)] }) s)

/-- A wait is over. -/
def endWait (q kind who : Nat) (s : State) : State := modQueue q (fun x => { x with waits := x.waits.filter fun w => w ≠ (kind, who) }) s

/-- Stop a queue with a status (R254). -/
def stopQueue (q : Nat) (st : Status) (s : State) : State :=
  modQueue q (fun x => { x with state := 2, stop := st.code, reading := false, rereadDue := none, head := none }) s

/-- Stop a queue that runs; a DRAINING one goes on to DISABLED (R254; DEDUCED, log 168). -/
def stopRunning (q : Nat) (st : Status) (s : State) : State := if (getQueue s q).state = 3 then s else stopQueue q st s

/-- CONS passes a slot; the epoch rises as it wraps (R255). The read of the next slot begins. -/
def passSlot (q : Nat) (s : State) : State :=
  modQueue q (fun x =>
    let cons := (x.cons + 1) % 2 ^ 32
    { x with cons := cons, epoch := if cons = 0 then x.epoch + 1 else x.epoch, head := none, rereads := 0, rereadDue := none,
             waits := x.waits.filter fun w => w.1 = 2, reading := decide (x.state = 1) && decide (cons ≠ x.prod) }) s

/-! ### Completion records (Table 10.12) -/

/-- The number of the next completion record: behind those that wait for their read-back. -/
def cqNext (x : Queue) : Nat := (x.cqProd + (x.cmds.filter (·.cqAt.isSome)).length) % 2 ^ 32

/-- Its place in the ring (R273). -/
def cqPlace (x : Queue) : Nat := qCq x.cfg + 32 * (cqNext x % 2 ^ qCqLog2 x.cfg)

/-- Its image. -/
def cqImage (q : Nat) (x : Queue) (idx op tag : Nat) (st : Status) (detail : BitVec 128) : List Byte :=
  toLe 32 (pack [(8, st.code), (8, op), (1, slotPhase (qCqLog2 x.cfg) (cqNext x)), (1, 0), (14, q), (32, idx), (64, tag), (128, detail.toNat)])

/-- A completion record stands at its point of coherence: CQ_PROD, then the signal (R275). -/
def cqCounts (q : Nat) (s : State) : State :=
  let c := (getQueue s q).cfg
  let s := count 0x6000 0x0B (modQueue q (fun y => { y with cqProd := (y.cqProd + 1) % 2 ^ 32 }) s)
  if qCqSignal c then (signalBlock (qCqCtr c) 1 s).1 else s

/-- How the write of a completion record goes. -/
inductive CqWrite where
  | written                  -- into device memory, where it is coherent at once
  | posted (port n : Nat)    -- to the host, and its read-back is on its way (R265)
  | waits                    -- its home slice has not granted the place (R231)
  | lost                     -- no host port is up (R465)
  | refused (st : Status)    -- the stacks refuse the access (R159, R161)
  deriving DecidableEq, Repr

/-- Write a completion record (R273, R275), on host port `port` where one is given. -/
def writeCq (q : Nat) (img : List Byte) (port : Option Nat) (s : State) : CqWrite × State :=
  let x := getQueue s q
  let c := x.cfg
  let pa := cqPlace x
  let st : Status := if target pa = .stacks then accessVerdict s (qCtx c) (qKey c) pa 32 else .ok
  if target pa = .host then
    if proxyAlive s then
      let p := match port with | some p => if hostUp s p then p else hostPortOf s pa | none => hostPortOf s pa
      let s := hostPostOn p pa img false (chargeBytes (qCtx c) pa 32 s)
      let n := (getHost s p).wseq
      (.posted p n, awaitPort p n s)
    else (.lost, s)
  else if st ≠ .ok then (.refused st, countSlot s (qCtx c) (qKey c) pa s)
  else
    let (ready, s) := bulkReady (qCtx c) [] [⟨0, pa, 32, qKey c, 2, false, false⟩] s
    if ready then (.written, homeWrite (qCtx c) (qKey c) pa img false 2 (chargeBytes (qCtx c) pa 32 s)) else (.waits, s)

/-- A completion record can be reserved (R274). -/
def cqRoom (x : Queue) : Bool := subMod 32 (x.cqProd + x.cmds.length) x.cqCons < 2 ^ qCqLog2 x.cfg

/-- A draining queue is DISABLED once its last command has its record (R254). -/
def drained (q : Nat) (s : State) : State :=
  modQueue q (fun x => if x.state = 3 && x.cmds.isEmpty then { x with state := 0, head := none, reading := false, rereadDue := none, jrn.state := 0 } else x) s

/-! ### Doorbells (R258, R259) -/

/-- The doorbell is accepted. -/
def doorbellOk (q : Nat) (x : Queue) (w : Word) : Bool :=
  let p := fld w 0 32
  let d := subMod 32 p x.prod
  zeroFld w 62 2 && zeroFld w 32 16 && fld w 48 14 = q && (x.state = 1 || x.state = 2) &&
  1 ≤ d && d < 2 ^ 31 && subMod 32 p x.cons ≤ 2 ^ qRingLog2 x.cfg

/-- A doorbell: accepted, without effect, or rejected. The status is what a core's write receives. While the links are held for a
freeze no doorbell is admitted (R428): it is rejected (DESIGN CHOICE, log 25). -/
def doorbell (q : Nat) (w : Word) (s : State) : State × Status :=
  let x := getQueue s q
  let formed := zeroFld w 62 2 && zeroFld w 32 16 && fld w 48 14 = q && (x.state = 1 || x.state = 2)
  if doorbellOk q x w && s.freeze.hold = 0 then
    let f (y : Queue) : Queue :=
      { y with prod := fld w 0 32, reading := y.reading || (decide (y.state = 1) && y.head.isNone && y.rereadDue.isNone) }
    (count 0x6000 6 (modQueue q f s), .ok)
  else if formed && subMod 32 (fld w 0 32) x.prod = 0 then (s, .ok)
  else (count 0x6000 7 s, .malformed)

/-! ### Slot reads (R261, R262) -/

/-- The bytes of slot CONS, as the block reads them; a host ring's bytes come with the command. -/
def slotBytes (s : State) (q : Nat) (ext : Ext) : List Byte × Bool × State :=
  let x := getQueue s q
  let pa := qRing x.cfg + 256 * (x.cons % 2 ^ qRingLog2 x.cfg)
  if target pa = .host then
    ((List.range 256).map (fun i => extByte s ext (pa + i)), poisonAt s (pa / 64), s)
  else
    let p := runPoison s (qCtx x.cfg) pa 256
    let (bs, s) := homeRead (qCtx x.cfg) (qKey x.cfg) pa 256 2 s
    (bs, p, s)

/-- The nonce of R262. -/
def slotNonce (q : Nat) (x : Queue) : BitVec 96 := BitVec.ofNat 96 (q + (x.epoch * 2 ^ 32 + x.cons) * 2 ^ 32)

/-- The number under which the record of a slot that stopped its queue stands among the commands until its read-back returns. -/
def stopIdx (cons : Nat) : Nat := 2 ^ 32 + cons

/-- A slot that stops its queue: its record with OPCODE 0x00, then the stop. The record is written although the completion ring may be
full, of which the spec says nothing (DESIGN CHOICE, log 168). A record that its home slice does not grant at once keeps the slot as it
is. -/
def stopAtSlot (q : Nat) (st : Status) (tag : Nat) (s : State) : State :=
  let x := getQueue s q
  match writeCq q (cqImage q x x.cons 0 tag st 0) none s with
  | (.written, s) => stopQueue q st (cqCounts q s)
  | (.posted p n, s) =>
    let c := { newCmd (stopIdx x.cons) (x.epoch * 2 ^ 32 + x.cons) 0 true with fin := some st, cqAt := some (cqNext x, p, n) }
    stopQueue q st (modQueue q (fun y => { y with cmds := y.cmds ++ [c] }) s)
  | (.waits, s) => s
  | (_, s) => stopQueue q st s

/-- The identity of the queue key of a confidential context (R262, R425). -/
def queueKeyOf (s : State) (c : Nat) : Nat := match tget none s.sec.conf c with | some x => x.queueKey | none => 0

/-- A read of slot CONS returns: when its blocks have passed their checks (R125) and the home slice has granted them (R231). -/
def slotReturned (q : Nat) (ext : Ext) (failed : Option Status) (s : State) : State :=
  let x := getQueue s q
  if !x.reading || (x.state ≠ 1 && x.state ≠ 3) then s
  else if x.state = 3 then modQueue q (fun y => { y with reading := false }) s
  else match failed with
  | some st => stopAtSlot q st 0 s
  | none =>
    let ring := qRing x.cfg + 256 * (x.cons % 2 ^ qRingLog2 x.cfg)
    match accessVerdict s (qCtx x.cfg) (qKey x.cfg) ring 256 with
    | .ok =>
    let cq := cqPlace x
    let ready := bulkReady (qCtx x.cfg) (if target ring = .host then [] else [⟨0, ring, 256, qKey x.cfg, 2, false, false⟩])
      (if target cq = .host then [] else [⟨0, cq, 32, qKey x.cfg, 2, false, false⟩]) s
    let s := ready.2
    if !ready.1 || (granulesOf ring 256).any (unchecked s 0xA000) then s
    else
    let (bs, poison, s) := slotBytes s q ext
    let s := chargeBytes (qCtx x.cfg) (qRing x.cfg) 256 s
    let v := ofBytes 2048 bs
    if poison then stopAtSlot q .poisonConsumed 0 (raisePoisonConsumed 0xA000 (some (qCtx x.cfg)) 9 ring 1 s)
    else if slotVisible (qRingLog2 x.cfg) x.cons v then
      if confidential s (qCtx x.cfg) then
        match Config.slotOpen (queueKeyOf s (qCtx x.cfg)) (slotNonce q x) v with
        | none =>
          let ev : Event := ⟨0x0D, 0xA000, some (qCtx x.cfg), 0, 0, 9, .rightsFault, 0⟩
          stopAtSlot q .rightsFault (slTag v) (raise ev (count 0x6000 0x0A s))
        | some plain =>
          let v' := BitVec.ofNat 2048 (putBits v.toNat 128 1664 plain.toNat)
          modQueue q (fun y => { y with reading := false, rereads := 0, rereadDue := none, head := some v' }) s
      else modQueue q (fun y => { y with reading := false, rereads := 0, rereadDue := none, head := some v }) s
    else if x.rereads = 8 then stopAtSlot q .staleSlot 0 (count 0x6000 9 s)
    else modQueue q (fun y => { y with reading := false, rereadDue := some (s.aoncnt + 50 * 2 ^ y.rereads) }) s
    | st => stopAtSlot q st 0 (countSlot s (qCtx x.cfg) (qKey x.cfg) ring s)

/-- A re-read falls due and is issued (R261). -/
def slotReread (q : Nat) (s : State) : State :=
  let x := getQueue s q
  match x.rereadDue with
  | none => s
  | some t =>
    if t ≤ s.aoncnt && x.state = 1 then
      count 0x6000 8 (modQueue q (fun y => { y with rereadDue := none, reading := true, rereads := y.rereads + 1 }) s)
    else s

/-! ### Malformed bodies -/

/-- Destination, source and length of a copy, fill or inline write, in this order. -/
def copyTerms (v : BitVec 2048) : Nat × Nat × Nat :=
  if slOp v = 5 then (slArg v % 2 ^ 56, 0, slLen v)
  else (slBody v 64 56, slBody v 0 56, slBody v 256 32)

/-- The checks of R269 and the footprint bounds of an inline write. -/
def copyVerdict (v : BitVec 2048) : Status :=
  let (dst, src, n) := copyTerms v
  let srcX := slBody v 128 56
  let dstX := slBody v 192 56
  if slOp v = 5 then (if dst + n ≤ 2 ^ 56 then .ok else .boundFault)
  else
    let rsvd := slBody v 56 8 ≠ 0 || slBody v 120 8 ≠ 0 || slBody v 184 8 ≠ 0 || slBody v 248 8 ≠ 0
    let fill := slOp v = 4
    if rsvd || n = 0 || 0x10000000 < n || dstX = 0 || (!fill && srcX = 0) || (fill && (src ≠ 0 || srcX ≠ 0)) ||
        (!fill && slBody v 288 32 ≠ 0) || (!fill && src < dst + n && dst < src + n) then .malformed
    else if dstX < n || (!fill && srcX < n) || 2 ^ 56 < dst + n || (!fill && 2 ^ 56 < src + n) then .boundFault
    else .ok

/-- The sync body is malformed (Table 10.6). -/
def syncBodyBad (v : BitVec 2048) : Bool :=
  slBody v 18 46 ≠ 0 || (slOp v = 7 && (slBody v 96 32 ≠ 0 || slBody v 17 1 ≠ 0))

/-- The DIGEST body breaks Table 14.10. -/
def digestBad (v : BitVec 2048) : Bool :=
  let op := slBody v 0 4
  let addr := slBody v 200 56
  let len := slBody v 152 40
  let tl := slBody v 146 6
  slBody v 4 28 ≠ 0 || slBody v 128 18 ≠ 0 || slBody v 192 8 ≠ 0 ||
  (match op with
   | 1 => addr ≠ 0 || len ≠ 0 || tl ≠ 0 || slBody v 64 64 ≠ 0
   | 2 => len = 0 || tl < 12 || 30 < tl
   | 3 => addr % 32 ≠ 0 || len ≠ 0 || tl ≠ 0 || slBody v 64 64 ≠ 0
   | 4 => addr ≠ 0 || len ≠ 0 || tl ≠ 0 || slBody v 64 64 ≠ 0
   | _ => true)

/-- The array of a COURSE slot cannot take it (R257). -/
def courseSlotBad (v : BitVec 2048) : Bool :=
  let raw : BitVec 1024 := BitVec.ofNat 1024 (slBody v 0 1024)
  let a := slArg v % 256
  (a ≠ 0xFF && 192 ≤ a) || (a = 0xFF && (cdForward raw || (cdAccumulate raw && !(cdFromImage raw))))

/-- A command whose body alone shows that it is malformed. -/
def bodyMalformed (v : BitVec 2048) : Bool :=
  match slOp v with
  | 2 => courseSlotBad v || !(structureOk (BitVec.ofNat 1024 (slBody v 0 1024)))
  | 3 => copyVerdict v = .malformed | 4 => copyVerdict v = .malformed
  | 7 => syncBodyBad v | 8 => syncBodyBad v
  | 9 => digestBad v
  | _ => false

/-! ### The start of commands (R263, R274) -/

/-- A WAIT or FLASHING that has not completed holds back every later command. -/
def holdsLater (c : Cmd) : Bool := (slOp c.slot = 8 || slOp c.slot = 6) && c.started

/-- Every unit of a journaled command has been committed; a command that failed leaves the rest of its units (R289). -/
def unitsDone (c : Cmd) : Bool :=
  c.intent.isNone && (match c.fin with | some st => statusClass st ≠ 0 || c.staged.length ≤ c.committed * 2 ^ 20 | none => false)

/-- A command has ended its accesses, and every write of it has been performed (R195, R263). -/
def accessesDone (s : State) (q : Nat) (c : Cmd) : Bool :=
  c.fin.isSome && !(peerWaits s (.queueCmd q c.idx)) && (!(isJournaled s q) || unitsDone c)

/-- The next command may start: the queue runs, fewer than 64 are started, a record can be reserved, and the order of R263
allows it. -/
def mayStart (s : State) (q : Nat) (v : BitVec 2048) (earlier : List Cmd) (journaled : Bool) : Bool :=
  let x := getQueue s q
  earlier.length < 64 && !(earlier.any holdsLater) &&
  (!slAfter v || earlier.all (accessesDone s q)) &&
  (!(slOp v = 6 || slOp v = 7) || earlier.isEmpty) && (journaled || cqRoom x)

/-- What starts next on a queue: the checked slot at its head, or on a journaled queue the first accepted command not yet
started. A queue that is STOPPED starts nothing; a DRAINING one goes on with what it has accepted (R254). In a recovery one command
after the other goes on, each when the one before it is DONE (R295). -/
def nextCmd (s : State) (q : Nat) : Option (Cmd × Bool) :=
  let x := getQueue s q
  if qJournaled x.cfg then
    if (x.jrn.state = 1 && (x.state = 1 || x.state = 3)) || x.jrn.state = 3 then
      match x.cmds.find? fun c => !c.started && c.fin.isNone with
      | some c =>
        let earlier := x.cmds.filter fun k => k.ext < c.ext && !(x.jrn.state = 3 && k.doneRec)
        if c.accepted && (x.jrn.state = 1 || (earlier.isEmpty && !x.jrn.owes && x.jrn.recs.all (·.confirmed))) && mayStart s q c.slot earlier true then some (c, true) else none
      | none => none
    else none
  else if x.state ≠ 1 then none
  else match x.head with
    | some v => if mayStart s q v x.cmds false then some (newCmd x.cons (x.epoch * 2 ^ 32 + x.cons) v true, false) else none
    | none => none

/-- Shadow-tail entries in use: records, unit marks and DONE marks (R292). -/
def shadowUsed (s : State) : Nat :=
  (s.queues.map fun kv => kv.2.jrn.recs.length + (kv.2.cmds.filter fun c => c.intent.isSome).length +
    (kv.2.cmds.filter (·.doneMark)).length).foldl (· + ·) 0

def shadowFree (s : State) : Nat := 98304 - shadowUsed s

/-- A wait of queue `q` for journal or shadow-tail space: of a slot to accept (1), of an accepted command for its next record (2) or
its start (3). -/
def journalWaits (q kind who : Nat) (s : State) : State := beginWait q kind who 0x6400 0x0A s

/-- Put a starting command among the started ones; one that a warm reset makes run again is counted (R298). -/
def enterCmd (q : Nat) (c : Cmd) (accepted : Bool) (s : State) : State :=
  if accepted then
    let s := if c.again then count 0x6400 8 s else s
    endWait q 3 c.idx (modCmd q c.idx (fun k => { k with started := true, again := false }) s)
  else passSlot q (modQueue q (fun x => { x with cmds := x.cmds ++ [{ c with started := true }] }) s)

/-- A SIGNAL or WAIT with n = 0 (R301). -/
def syncZero (v : BitVec 2048) : Bool := (slOp v = 7 || slOp v = 8) && !(syncBodyBad v) && slBody v 64 32 = 0

/-- Start the next command of a queue when its opcode is `op` and, for DIGEST, its kind is `kind` (1 takes the reserved kinds
too, which are malformed): a malformed one completes
MALFORMED, another one of a context that admits nothing RIGHTS_FAULT (R10); one of a suspended context waits (R257, R320). On a journaled
queue it waits for shadow-tail entries too (R292). -/
def startNext (q op : Nat) (kind : Option Nat) (f : Nat → Cmd → State → State) (s : State) : State :=
  match nextCmd s q with
  | none =>
    if (getQueue s q).head.isSome && !(cqRoom (getQueue s q)) then beginWait q 0 (getQueue s q).cons 0x6000 0x0F s else s
  | some (c, accepted) =>
    let ctx := queueCtx s q
    if slotMalformed (confidential s ctx) c.slot then finCmd q c.idx .malformed (enterCmd q c accepted s)
    else if slOp c.slot ≠ op || (match kind with
        | some 1 => 2 ≤ slBody c.slot 0 4 && slBody c.slot 0 4 ≤ 4
        | some k => slBody c.slot 0 4 ≠ k
        | none => false) then s
    else if accepted && shadowFree s < 256 then journalWaits q 3 c.idx s
    else match ctxState s ctx with
      | 1 => let s := enterCmd q c accepted s
             match findCmd s q c.idx with
             | some c => f q c s
             | none => s
      | 2 => s
      | _ =>
        let s := if syncZero c.slot then syncError (slBody c.slot 0 17) ctx .malformed s else s
        finCmd q c.idx (if bodyMalformed c.slot || syncZero c.slot then .malformed else .rightsFault) (enterCmd q c accepted s)

/-! ### Copies, fills, inline writes (R268 to R272) -/

/-- The engine class of a command (Table 10.11): first engine and number of engines. A destination that lies only partly in host memory
goes by its first byte, of which the table says nothing (DESIGN CHOICE, log 169). -/
def engineClass (v : BitVec 2048) (foot : List Extent) : Nat × Nat :=
  let dst := (copyTerms v).1
  if foot.any fun x => target x.pa = .peer then (32, 8)
  else match target (footPa foot dst) with
    | .host => (16, 16)
    | _ => (0, 16)

def engineIdle (s : State) (e : Nat) : Bool :=
  let x := getEngine s e
  !x.fenced && !x.fencing && x.job.isNone && x.migrate.isNone

/-- Ask the peers for the source bytes of a command's next burst. -/
def askBurst (q : Nat) (c : Cmd) (s : State) : State :=
  let (_, src, n) := copyTerms c.slot
  let lo := c.burst * 2 ^ 20
  if slOp c.slot = 3 then askPeers (.queueCmd q c.idx) (c.foot.filterMap (clipExtent (src + lo) (min (2 ^ 20) (n - lo)))) s else s

/-- Give a command to an engine. The reads of its next burst in peer windows are sent. -/
def assignEngine (e q : Nat) (c : Cmd) (s : State) : State :=
  let s := modEngine e (fun x => { x with job := some (q, c.idx), yields := false }) s
  let s := modCmd q c.idx (fun k => { k with engine := some e }) s
  askBurst q c (beginSlice (192 + e) (queueCtx s q) s)

/-- The engines that may run a command: those of its class, but the one that has faulted on it (R272). -/
def enginesFor (c : Cmd) : List Nat :=
  let (lo, n) := engineClass c.slot c.foot
  (rangeFrom lo n).filter fun e => c.avoid ≠ some e

/-- Commands that wait for engine `e`. -/
def readyCmds (s : State) (e : Nat) : List (Nat × Cmd) :=
  s.queues.flatMap fun kv => (kv.2.cmds.filter fun c =>
    c.started && c.footOk && !c.probing && !(peerWaits s (.queueCmd kv.1 c.idx)) && c.engine.isNone && c.fin.isNone && (slOp c.slot = 3 || slOp c.slot = 4 || slOp c.slot = 5) &&
    (enginesFor c).contains e &&
    (ctxState s (qCtx kv.2.cfg) = 1 || ctxState s (qCtx kv.2.cfg) = 3)).map fun c => (kv.1, c)

/-- Work of a context of higher priority waits for the engine (R331). -/
def engineOutranked (s : State) (e ctx : Nat) : Bool := (readyCmds s e).any fun r => outranks s (queueCtx s r.1) ctx

/-- A command whose footprint is ready goes to the lowest idle unfenced engine of its class for which no work of higher priority waits,
or joins the ready sets (R332); with no unfenced engine in the class it completes FENCED_UNIT (R272). -/
def placeCmd (q idx : Nat) (s : State) : State :=
  match findCmd s q idx with
  | none => s
  | some c =>
    let es := enginesFor c
    if es.all fun e => (getEngine s e).fenced then finCmd q idx .fencedUnit s
    else match es.find? fun e => engineIdle s e && !(engineOutranked s e (queueCtx s q)) with
      | some e => assignEngine e q c s
      | none => s

/-- The command has external effects that a journal must order: some page of its destination lies in host or peer memory, and it is
staged whole (R288). -/
def hasExternal (s : State) (q : Nat) (c : Cmd) : Bool :=
  let (dst, _, n) := copyTerms c.slot
  isJournaled s q && c.foot.any fun x => (target x.pa = .host || target x.pa = .peer) && x.va < dst + n && dst < x.va + x.len

/-- The translated bytes of `[lo, hi)`. -/
def footIn (lo hi : Nat) (foot : List Extent) : List Extent := foot.filterMap (clipExtent lo (hi - lo))

/-- What a copy still reads and writes (R187): its source from the next burst on, its destination from there too, or from the
first unit that a journal has not committed. Beside it, the translation of what it has done. -/
def copyRemaining (s : State) (q : Nat) (c : Cmd) : List Segment × List Extent :=
  let (dst, src, n) := copyTerms c.slot
  let r := c.burst * 2 ^ 20
  let w := if hasExternal s q c then c.committed * 2 ^ 20 else r
  let copy := slOp c.slot = 3
  ((if copy then [⟨src + r, n - r, needR⟩] else []) ++ [⟨dst + w, n - w, needW⟩],
   (if copy then footIn src (src + r) c.foot else []) ++ footIn dst (dst + w) c.foot)

/-- Check a copy's remaining footprint (R176, R187); peer windows are probed (R188). `by'` is the engine that checks again before its next
burst; before a command's first burst its engine is not yet chosen (log 110). -/
def checkCopy (by' : Option Nat) (q idx : Nat) (s : State) : State :=
  match findCmd s q idx with
  | none => s
  | some c =>
    let ctx := queueCtx s q
    let space := fld (getCtx s ctx) 116 12
    let (segs, past) := copyRemaining s q c
    let s := dropHolder (.queueCmd q idx) s
    match checkFootprint tlbsOfService false space segs s with
    | (.good foot, s) =>
      let st := worstOf (foot.map fun x => if target x.pa = .regs then Status.boundFault else accessVerdict s ctx x.keySlot x.pa x.len)
      if st ≠ .ok then finCmd q idx st (countSlots ctx foot s)
      else
        let peers := foot.filter fun x => target x.pa = .peer
        let s := modCmd q idx (fun k => { k with
          foot := past ++ foot, footOk := true, waitRec := none, probing := !peers.isEmpty, recheck := false, oldPart := !past.isEmpty }) s
        if peers.isEmpty then placeCmd q idx s
        else sendProbes (.queueCmd q idx) (segNeed segs) foot s
    | (.off, s) => finCmd q idx .xlateFault s
    | (r, s) =>
      let e := by'.getD 0
      let (k, s) := waitsPage (.queueCmd q idx) (48 + e / 5) (0x8000 + e) ctx space segs r s
      modCmd q idx (fun x => { x with waitRec := some k, recheck := false }) s

/-- Start a COPY, FILL or INLINE_WRITE. -/
def startCopy (q : Nat) (c : Cmd) (s : State) : State :=
  match copyVerdict c.slot with
  | .ok => checkCopy none q c.idx s
  | st => finCmd q c.idx st s

/-- The destination bytes of burst `k`, and for each whether its source is poisoned. -/
def burstBytes (s : State) (ext : Ext) (w : Waiter) (ctx : Nat) (c : Cmd) (k : Nat) : List (Byte × Bool) :=
  let (_, src, n) := copyTerms c.slot
  let lo := k * 2 ^ 20
  (List.range (min (2 ^ 20) (n - lo))).map fun i =>
    let j := lo + i
    match slOp c.slot with
    | 3 => (footByte s ext ctx c.foot (src + j), footPoison s ctx c.foot (src + j) || landedBad s w (footPa c.foot (src + j)))
    | 4 => (BitVec.ofNat 8 (slBody c.slot (288 + 8 * (j % 4)) 8), false)
    | _ => (BitVec.ofNat 8 (slBody c.slot (8 * j) 8), false)

/-- Write a run of bytes with their poison, in pieces that end at the destination's granules. -/
def writeBurst (w : Waiter) (ctx : Nat) (foot : List Extent) (dst : Nat) (bs : List (Byte × Bool)) (s : State) : State :=
  let n := bs.length
  let gs := granulesOf dst n
  gs.foldl (fun st g =>
    let lo := max dst (g * 64)
    let hi := min (dst + n) (g * 64 + 64)
    let part := (bs.drop (lo - dst)).take (hi - lo)
    writeFoot w ctx foot lo (part.map (·.1)) (part.any (·.2)) st) s

/-- The bursts of a command. -/
def burstCount (c : Cmd) : Nat := ((copyTerms c.slot).2.2 + 2 ^ 20 - 1) / 2 ^ 20

/-- The DETAIL of a copy (R273). -/
def copyDetail (e : Nat) (c : Cmd) : BitVec 128 := BitVec.ofNat 128 (pack [(16, 0x8000 + e), (1, b2n c.poison), (1, b2n c.reissued)])

/-- The commands that wait for an engine and whose class has none left complete FENCED_UNIT (R272). -/
def strandCmds (s : State) : State :=
  s.queues.foldl (fun st kv => kv.2.cmds.foldl (fun a c =>
    if c.started && c.footOk && c.engine.isNone && c.fin.isNone && (slOp c.slot = 3 || slOp c.slot = 4 || slOp c.slot = 5) &&
        (enginesFor c).all (fun e => (getEngine s e).fenced)
    then finCmd kv.1 c.idx .fencedUnit a else a) st) s

/-- An engine that has reached a burst boundary takes the fence that waited for it. -/
def fenceBoundary (e : Nat) (s : State) : State :=
  let x := getEngine s e
  if x.fencing && x.job.isNone && x.migrate.isNone then
    strandCmds (capacityChanged true (0x8000 + e) x.fenceCause (modEngine e (fun y => { y with fenced := true, fencing := false }) s))
  else s

/-- An engine is free of its command, and takes a fence that waited for that. -/
def releaseEngine (e : Nat) (s : State) : State := fenceBoundary e (modEngine e (fun x => { x with job := none, yields := false }) s)

/-- A command leaves the engine that runs it. Where it `ends` there, the engine has completed it, and its record names the engine (R273,
R277). -/
def leaveEngine (ends : Bool) (q : Nat) (c : Cmd) (s : State) : State :=
  match c.engine with
  | none => s
  | some e =>
    let s := modCmd q c.idx (fun k => { k with engine := none, detail := if ends then copyDetail e k else k.detail }) s
    releaseEngine e (if ends then count (0x6001 + e) 3 s else s)

/-- A copy engine gives up its context at a burst's end (R331, R333): the pre-emption, and the overrun past the slice's end. -/
def engineYields (e c : Nat) (s : State) : State :=
  let s := countPreemption c s
  match (getSlice s e).endedAt with
  | some t =>
    let o := min 1000 (s.aoncnt - t)
    modSlice e (fun x => { x with ctx := none, endedAt := none, carried := tset 0 x.carried c o }) (if o = 0 then s else countOverrun c o s)
  | none => modSlice e (fun x => { x with ctx := none }) s

/-- A part of a footprint in `[va, va + n)` lies in host memory, and that is out of the queue's reach. -/
def hostDeadIn (s : State) (q : Nat) (foot : List Extent) (va n : Nat) : Bool :=
  hostLost s q && foot.any fun x => target x.pa = .host && x.va < va + n && va < x.va + x.len

/-- A copy that must reach host memory while no host port is up: its source, or a destination that it does not stage (R215,
R294). -/
def copyHostDead (s : State) (q : Nat) (c : Cmd) : Bool :=
  let (dst, src, n) := copyTerms c.slot
  (slOp c.slot = 3 && hostDeadIn s q c.foot src n) || (!hasExternal s q c && hostDeadIn s q c.foot dst n)

/-- A burst of an engine's command ends (R270): its bytes are written, or staged on a journaled queue (R289); the engine
moves on, yields, or is done. It ends when its blocks have passed their checks (R125) and the home slices have granted them (R231). -/
def burstEnds (e : Nat) (ext : Ext) (s : State) : State :=
  match (getEngine s e).job with
  | none => s
  | some (q, idx) => match findCmd s q idx with
    | none => releaseEngine e s
    | some c =>
      let w : Waiter := .queueCmd q idx
      let (dst, src, n) := copyTerms c.slot
      let len := min (2 ^ 20) (n - c.burst * 2 ^ 20)
      let reads := if slOp c.slot = 3 then c.foot.filterMap (clipExtent (src + c.burst * 2 ^ 20) len) else []
      let staged := hasExternal s q c
      let writes := if staged then [] else c.foot.filterMap (clipExtent (dst + c.burst * 2 ^ 20) len)
      let ctx := queueCtx s q
      if c.recheck && !c.footOk then
        -- the next burst waits for a check, and that for what the last one has written (R186, R187)
        if peerWaits s w || !(readBack s 0 c.need0) || !(readBack s 1 c.need1) then issueReadbacks c.need0 c.need1 s
        else
          let gives := (getEngine s e).yields || engineOutranked s e ctx
          let s := modCmd q idx (fun k => { k with reissued := k.reissued || (getEngine s e).fencing }) s
          checkCopy (some e) q idx (if gives then engineYields (192 + e) ctx (leaveEngine false q c s) else leaveEngine false q c s)
      else
      let (ready, s) := bulkReady ctx reads writes s
      let bad := worst (footVerdict s ctx (reads ++ writes)) (if copyHostDead s q c then .deadTarget else .ok)
      if peerWaits s w || !ready || s.xfers.any (fun t => t.receiver = 0x8000 + e && !t.write) || (staged && (freeFrames (getQueue s q)).isEmpty) then s
      else if bad ≠ .ok then finCmd q idx bad (leaveEngine true q c (dropLanded w (countSlots ctx (reads ++ writes) s)))
      else
        let ext := queueExt s ++ outsideExt s ext ++ landedExt s w
        let bs := burstBytes s ext w ctx c c.burst
        let at_ := dst + c.burst * 2 ^ 20
        let s := noteExtents ctx 5 reads (reads.foldl (fun st x => softAccess x.pa x.len false st) s)
        let poison := bs.any (·.2)
        let (m0, m1) := ((getHost s 0).wseq, (getHost s 1).wseq)
        let s := if staged then (List.range bs.length).foldl (fun st i =>
            let b := bs.getD i (0, false)
            stageBytes q idx (at_ + i) [b.1] b.2 st) s
          else writeBurst w ctx c.foot at_ bs s
        let work := addWork (paWork (footPa c.foot at_) bs.length) (if slOp c.slot = 3 then paWork (footPa c.foot (src + c.burst * 2 ^ 20)) bs.length else noWork)
        let s := chargeInd ctx work s
        let s := dropLanded w (countN (0x6001 + e) 4 bs.length s)
        let last := burstCount c ≤ c.burst + 1
        let n0 := (getHost s 0).wseq
        let n1 := (getHost s 1).wseq
        let c' := { c with poison := c.poison || poison, burst := c.burst + 1 }
        let s := modCmd q idx (fun k => { k with
          burst := c.burst + 1, poison := c'.poison, need0 := if m0 < n0 then n0 else k.need0, need1 := if m1 < n1 then n1 else k.need1,
          detail := copyDetail e c', fin := if last then some (k.fin.getD .ok) else k.fin, whole := last,
          footOk := k.footOk && !(c.recheck && !last) }) s
        let s := if staged then frameUnits q idx s else s
        if last then leaveEngine true q c s
        else if c.recheck then s
        else if (getEngine s e).fencing then
          let s := leaveEngine false q c (modCmd q idx (fun k => { k with reissued := true }) s)
          if (findCmd s q idx).any fun k => k.fin.isNone then placeCmd q idx s else s
        else if (getEngine s e).yields || engineOutranked s e ctx then engineYields (192 + e) ctx (leaveEngine false q c s)
        else askBurst q c' s

/-- An engine faults during a copy (R272): the first time the command runs again on another engine of the class, the second
time it completes with the status. What it has done under an older translation than a FORCE invalidation it checks again (R187). -/
def engineFaults (e : Nat) (st : Status) (s : State) : State :=
  match (getEngine s e).job with
  | none => s
  | some (q, idx) => match findCmd s q idx with
    | none => releaseEngine e s
    | some c =>
      if c.reruns = 0 then
        let s := count (0x6001 + e) 5 (modCmd q idx (fun k => { k with
          reruns := 1, burst := k.committed, avoid := some e, reissued := true, detail := copyDetail e { k with reissued := true } }) s)
        let s := dropLanded (.queueCmd q idx) (leaveEngine false q c s)
        if c.oldPart || c.recheck then checkCopy none q idx s
        else if (findCmd s q idx).any fun k => k.fin.isNone then placeCmd q idx s else s
      else finCmd q idx st (leaveEngine true q c s)

/-- A free copy engine chooses its next command (R330, R332). -/
def chooseCopy (e : Nat) (s : State) : State :=
  if engineIdle s e then
    let rs := readyCmds s e
    match chooseCtx s (getSlice s (192 + e)).last (rs.map fun r => queueCtx s r.1) with
    | none => s
    | some k => match rs.find? fun r => queueCtx s r.1 = k with
      | some r => assignEngine e r.1 r.2 s
      | none => s
  else s

/-! ### The other commands -/

/-- Hand a COURSE slot to its array (R257). -/
def startCourseSlot (q : Nat) (c : Cmd) (s : State) : State :=
  let raw : BitVec 1024 := BitVec.ofNat 1024 (slBody c.slot 0 1024)
  let a := slArg c.slot % 256
  let any := a = 0xFF
  if courseSlotBad c.slot then finCmd q c.idx .malformed s
  else
    let a := if any then (leastArray s).getD 0 else a
    handCourse a raw (queueCtx s q) (.queue q c.idx) (1000 + q) s

/-- FLASHING: every earlier command has its record; the read-backs of their ports follow (R264). -/
def startFlashing (q : Nat) (c : Cmd) (s : State) : State :=
  let n0 := (getHost s 0).wseq
  let n1 := (getHost s 1).wseq
  issueReadbacks n0 n1 (modCmd q c.idx (fun k => { k with need0 := n0, need1 := n1, fin := some .ok }) s)

/-- SIGNAL: every earlier command has completed (R257). On a journaled queue its effect and its DONE mark come together. -/
def startSignal (q : Nat) (c : Cmd) (s : State) : State :=
  if syncBodyBad c.slot then finCmd q c.idx .malformed s
  else
    let (s, st) := signalFor (queueCtx s q) (slBody c.slot 0 17) (slBody c.slot 64 32) s
    modCmd q c.idx (fun k => { k with fin := some st, doneMark := true }) s

/-- WAIT: satisfied at once, or a watch in the queue's own slot (Table 12.7). -/
def startWait (q : Nat) (c : Cmd) (s : State) : State :=
  if syncBodyBad c.slot then finCmd q c.idx .malformed s
  else
    let (s, r) := waitFor (queueCtx s q) (slBody c.slot 0 17) (slBody c.slot 64 32) (slBody c.slot 17 1 = 1) (slBody c.slot 96 32) 0 0
      (.queue q) (some (229376 + q)) s
    match r with
    | .satisfied => modCmd q c.idx (fun k => { k with fin := some .ok, doneMark := true }) s
    | .registered _ => s
    | .refused st => finCmd q c.idx st s

/-- The watch of a queue's WAIT has left: SATISFIED, TIMED_OUT or ABORTED. -/
def waitReleased (q : Nat) (outcome : Nat) (st : Status) (s : State) : State :=
  match (getQueue s q).cmds.find? fun c => slOp c.slot = 8 && c.started && c.fin.isNone with
  | none => s
  | some c => modCmd q c.idx (fun k => { k with fin := some (if outcome = 0 then .ok else if outcome = 1 then .timeout else if st = .ok then .aborted else st), doneMark := true }) s

/-! ### DIGEST (R364 to R366) -/

/-- An operation on the accumulators has taken effect: on a journaled queue the DONE mark comes with it (R290). -/
def digestEnds (q idx : Nat) (s : State) : State := modCmd q idx (fun k => { k with fin := some .ok, doneMark := true }) s

/-- OPEN: an accumulator is opened, or an open one cleared. -/
def digestOpen (q : Nat) (c : Cmd) (s : State) : State :=
  let ctx := queueCtx s q
  let t := slBody c.slot 32 32
  if digestBad c.slot then finCmd q c.idx .malformed s
  else if (findAccum s ctx t).isSome then
    digestEnds q c.idx { s with accums := s.accums.map fun a => if a.ctx = ctx && a.tensor = t then ⟨ctx, t, 0, 0⟩ else a }
  else if 8192 ≤ s.accums.length then finCmd q c.idx .boundFault s
  else digestEnds q c.idx { s with accums := s.accums ++ [⟨ctx, t, 0, 0⟩] }

/-- The digests of a region's tiles (R366). -/
def regionDigests (view : Nat → Byte) (base len log2 index : Nat) : List (BitVec 64) :=
  (List.range ((len + 2 ^ log2 - 1) / 2 ^ log2)).map fun k =>
    tileDigest ((index + k) % 2 ^ 64) ((List.range (min (2 ^ log2) (len - k * 2 ^ log2))).map fun i => view (base + k * 2 ^ log2 + i))

/-- Bytes of a footprint that its host has not delivered: not held, not waiting in a host write queue, not in `ext`. -/
def hostMissing (s : State) (ext : Ext) (foot : List Extent) : Bool :=
  let have_ := queueExt s ++ ext
  foot.any fun x => target x.pa = .host && (List.range x.len).any fun i =>
    !(hostHeld s (x.pa + i)) && !(have_.any fun e => e.1 = x.pa + i)

/-- The tiles of a region whose footprint has passed its check are digested and folded, once their bytes are there and have passed their
own checks (R125, R231). Poison is told before memory out of reach (R10). -/
def regionRun (ext : Ext) (q : Nat) (c : Cmd) (foot : List Extent) (s : State) : State :=
  let ctx := queueCtx s q
  let t := slBody c.slot 32 32
  let base := slBody c.slot 200 56
  let len := slBody c.slot 152 40
  let st := footVerdict s ctx foot
  let lost := hostDeadIn s q foot base len
  let there := if lost then foot.filter fun x => target x.pa ≠ .host else foot
  if st ≠ .ok then finCmd q c.idx st (countSlots ctx foot s)
  else
    let (ready, s) := bulkReady ctx there [] s
    if !ready || hostMissing s ext there || there.any (fun x => (granulesOf x.pa x.len).any (unchecked s 0xA000)) then s
    else if there.any fun x => runPoison s ctx x.pa x.len then
      finCmd q c.idx .poisonConsumed (raisePoisonConsumed 0xA000 (some ctx) 1 base 2 s)
    else if lost then finCmd q c.idx .deadTarget s
    else
      let ds := regionDigests (footByte s (queueExt s ++ outsideExt s ext) ctx foot) base len (slBody c.slot 146 6) (slBody c.slot 64 64)
      let s := noteExtents ctx 1 foot s
      let s := if isJournaled s q then modCmd q c.idx (fun k => { k with folds := ds.map fun d => (t, d) }) s
        else ds.foldl (fun st d => foldDigest ctx t d st) s
      let s := foot.foldl (fun st x => chargeBytes ctx x.pa x.len st) (countN 0x8400 5 len s)
      modCmd q c.idx (fun k => { k with fin := some .ok }) s

/-- Check the footprint of a DIGEST command, once: it keeps the translation until it ends (R185). -/
def digestCheck (q : Nat) (c : Cmd) (segs : List Segment) (run : List Extent → State → State) (s : State) : State :=
  let ctx := queueCtx s q
  let space := fld (getCtx s ctx) 116 12
  if c.footOk then run c.foot s
  else match checkFootprint tlbsOfService false space segs s with
    | (.good foot, s) => run foot (modCmd q c.idx (fun k => { k with foot := foot, footOk := true }) s)
    | (.off, s) => finCmd q c.idx .xlateFault s
    | (r, s) =>
      let (k, s) := waitsPage (.queueCmd q c.idx) 56 0xA000 ctx space segs r s
      modCmd q c.idx (fun x => { x with waitRec := some k }) s

/-- REGION: its footprint is checked, its tiles digested and folded. Until its bytes are there the command stays started, and a
DIGEST_REGION takes it up again. -/
def digestRegion (ext : Ext) (q : Nat) (c : Cmd) (s : State) : State :=
  let ctx := queueCtx s q
  let t := slBody c.slot 32 32
  let base := slBody c.slot 200 56
  let len := slBody c.slot 152 40
  if digestBad c.slot || (findAccum s ctx t).isNone then finCmd q c.idx .malformed s
  else if 2 ^ 56 < base + len then finCmd q c.idx .boundFault s
  else digestCheck q c [⟨base, len, needR⟩] (regionRun ext q c) s

/-- The accumulator's record is written through a footprint that has passed its check; on a journaled queue it is staged where some page
of it lies in host or peer memory (R288). -/
def accumRead (q : Nat) (c : Cmd) (a : Accum) (foot : List Extent) (s : State) : State :=
  let ctx := queueCtx s q
  let addr := slBody c.slot 200 56
  let st := footVerdict s ctx foot
  let staged := isJournaled s q && foot.any fun x => target x.pa = .host || target x.pa = .peer
  if st ≠ .ok then finCmd q c.idx st (countSlots ctx foot s)
  else if !staged && hostDeadIn s q foot addr 32 then finCmd q c.idx .deadTarget s
  else
    let (ready, s) := bulkReady ctx [] (if staged then [] else foot) s
    if !ready then s
    else
      let s := foot.foldl (fun st x => chargeBytes ctx x.pa x.len st) s
      let img := bytesOf 32 (accumRecord a)
      if staged then
        let tbl := (List.range 32).foldl (fun m i => tset none m (addr + i) (some (img.getD i 0))) []
        frameUnits q c.idx (modCmd q c.idx (fun k => { k with fin := some .ok, staged := tbl, whole := true }) s)
      else
        let (m0, m1) := ((getHost s 0).wseq, (getHost s 1).wseq)
        let s := writeFoot (.queueCmd q c.idx) ctx foot addr img false s
        let (n0, n1) := ((getHost s 0).wseq, (getHost s 1).wseq)
        modCmd q c.idx (fun k => { k with fin := some .ok, need0 := if m0 < n0 then n0 else 0, need1 := if m1 < n1 then n1 else 0 }) s

/-- READ: the accumulator's record is written to ADDR, once its home slice grants it (R231); a DIGEST_READ takes up a command that
waits for that. -/
def digestRead (q : Nat) (c : Cmd) (s : State) : State :=
  let ctx := queueCtx s q
  let t := slBody c.slot 32 32
  let addr := slBody c.slot 200 56
  if digestBad c.slot then finCmd q c.idx .malformed s
  else match findAccum s ctx t with
  | none => finCmd q c.idx .malformed s
  | some a => digestCheck q c [⟨addr, 32, needW⟩] (accumRead q c a) s

/-- CLOSE: the accumulator is free. -/
def digestClose (q : Nat) (c : Cmd) (s : State) : State :=
  let ctx := queueCtx s q
  let t := slBody c.slot 32 32
  if digestBad c.slot || (findAccum s ctx t).isNone then finCmd q c.idx .malformed s
  else digestEnds q c.idx { s with accums := s.accums.filter fun a => !(a.ctx = ctx && a.tensor = t) }

/-- A started DIGEST command of operation `op` that waits for its bytes. -/
def digestWaits (s : State) (q op : Nat) : Option Cmd :=
  (getQueue s q).cmds.find? fun c => slOp c.slot = 9 && slBody c.slot 0 4 = op && c.started && c.fin.isNone && c.waitRec.isNone

/-- A page fault of a queue command is resolved: its footprint is checked again. -/
def retryCmd (q idx : Nat) (s : State) : State :=
  match findCmd s q idx with
  | none => s
  | some c =>
    if c.waitRec.isNone || (c.fin.isSome && c.intent.isNone) then s
    else
      let s := modCmd q idx (fun k => { k with waitRec := none }) s
      if c.intent.isSome then s
      else match slOp c.slot with
      | 9 => if slBody c.slot 0 4 = 2 then digestRegion [] q c s else digestRead q c s
      | _ => checkCopy none q idx s

/-! ### Completion (R275) -/

/-- Everything before a command's record holds: its outcome is known, its writes are performed and read back, its peer
writes acknowledged, and on a journaled queue its DONE record is written. -/
def recordReady (s : State) (q : Nat) (c : Cmd) : Bool :=
  c.fin.isSome && readBack s 0 c.need0 && readBack s 1 c.need1 && !(peerWaits s (.queueCmd q c.idx)) &&
  (c.acceptNum.isNone || c.doneNum.isSome)

/-- The last act of a recovery (R295): the indices, and the queue runs. -/
def endRecovery (q : Nat) (s : State) : State :=
  let x := getQueue s q
  if !x.jrn.closing || !x.cmds.isEmpty then s
  else count 0x6400 6 (modQueue q (fun y =>
      { y with waits := [], cons := y.jrn.nextAcc, prod := y.jrn.nextAcc, head := none, reading := false, rereads := 0, rereadDue := none,
               state := 1, stop := 0, jrn.resume := y.jrn.nextAcc, jrn.recStatus := 0, jrn.state := 1, jrn.limit := none,
               jrn.cause := 0, jrn.closing := false }) s)

/-- A command whose completion record is written leaves its queue; a WAIT that timed out stops it. -/
def leaveQueue (q : Nat) (c : Cmd) (s : State) : State :=
  let st := c.fin.getD .ok
  let s := if slOp c.slot = 6 && st = .ok then count 0x6000 0x0D s else s
  let s := modQueue q (fun x => { x with cmds := x.cmds.filter fun k => k.idx ≠ c.idx }) s
  let s := if slOp c.slot = 8 && st = .timeout then stopRunning q .timeout s else s
  endRecovery q (drained q s)

/-- Write the completion record of a finished command; in device memory it counts at once, a host record when its read-back has returned.
Beside it a journaled command's DONE record must be confirmed: both go out on one host port (R290). With no host port up a journaled queue
keeps the record, another one stops without it (R465). -/
def putRecord (q : Nat) (c : Cmd) (s : State) : State :=
  let x := getQueue s q
  let place (k : Cmd) (p n : Nat) : Cmd := { k with cqAt := some (cqNext x, p, n) }
  let port := c.doneNum.bind fun d => (x.jrn.recs.find? fun r => r.num = d).map (·.port)
  if target (cqPlace x) ≠ .host && c.doneNum.isSome && !c.doneRec then s
  else match writeCq q (cqImage q x (c.idx % 2 ^ 32) (slOp c.slot) (slTag c.slot) (c.fin.getD .ok) c.detail) port s with
    | (.written, s) => leaveQueue q c (cqCounts q s)
    | (.posted p n, s) => modCmd q c.idx (fun k => place k p n) s
    | (.waits, s) => s
    | (.lost, s) => if isJournaled s q then s else leaveQueue q c (stopRunning q .deadTarget s)
    | (.refused st, s) => leaveQueue q c (stopRunning q st s)

/-- COMPLETION_RECORD: the record is written once everything before it holds (R275), and counted once it stands at its point of
coherence, in the order of the ring. A HELD queue writes none; a recovery writes them at its end, in slot order (R295). -/
def completionRecord (q idx : Nat) (s : State) : State :=
  match findCmd s q idx with
  | none => s
  | some c =>
    let x := getQueue s q
    match c.cqAt with
    | some (k, p, n) =>
      if !(readBack s p n) then awaitPort p n s
      else if k = x.cqProd && (c.doneNum.isNone || c.doneRec) then leaveQueue q c (cqCounts q s) else s
    | none =>
      if !(recordReady s q c) then (if c.fin.isSome then issueReadbacks c.need0 c.need1 s else s)
      else if x.jrn.state = 2 || (x.jrn.state = 3 && !(x.jrn.closing && (x.cmds.find? fun y => y.cqAt.isNone).map (·.idx) = some idx)) then s
      else putRecord q c s

/-- The started commands of a killed context complete CONTEXT_KILLED, and its queues stop (R276). -/
def killQueues (ctx : Nat) (s : State) : State :=
  s.queues.foldl (fun st kv =>
    if qCtx kv.2.cfg = ctx && kv.2.state ≠ 0 then
      let st := kv.2.cmds.foldl (fun x c => leaveEngine true kv.1 c x) st
      let st := modQueue kv.1 (fun x => { x with cmds := x.cmds.map fun c => { c with fin := some (c.fin.getD .contextKilled), started := true, engine := none, probing := false, waitRec := none } }) st
      stopRunning kv.1 .contextKilled st
    else st) s

/-- RESUME (R254): a stopped queue reads slot CONS afresh, but not one stopped with CONTEXT_KILLED. -/
def queueResume (q : Nat) (data : Word) (s : State) : State :=
  if fld data 0 2 = 1 then
    modQueue q (fun x =>
      if x.state = 2 && x.stop ≠ Status.contextKilled.code && x.jrn.state ≠ 2 then
        { x with state := 1, stop := 0, rereads := 0, rereadDue := none, head := none, reading := decide (x.cons ≠ x.prod) }
      else x) s
  else s

/-- A write of CQ_CONS (R274): it frees ring space, or passes CQ_PROD and is MALFORMED. -/
def writeCqCons (q : Nat) (data : Word) (s : State) : State × Status :=
  let x := getQueue s q
  let v := fld data 0 32
  if subMod 32 v x.cqCons ≤ subMod 32 x.cqProd x.cqCons then
    (modQueue q (fun y => { y with cqCons := v }) s, .ok)
  else (s, .malformed)

end Sys2Proof.Machine
end

