-- ==== Sys2Proof/Machine/Journal.lean ====
section
/-! DEFINITION. The journal of accepted work (11): records, acceptance, units from intent to commit, DONE, the end of the host
proxy, registration and recovery, discard, and what a warm reset leaves. A record is confirmed by a read-back that returns after it
(R286), so what waits for a confirmation takes two commands: one writes the record, a later one goes on (log 20). -/

namespace Sys2Proof.Machine

/-! ### Records (R284 to R286) -/

def modJrn (q : Nat) (f : Journal → Journal) (s : State) : State := modQueue q (fun x => { x with jrn := f x.jrn }) s

/-- A record stays needed (R286). -/
def recNeeded (x : Queue) (r : JRecord) : Bool :=
  !r.confirmed ||
  (fld r.raw 8 4 = 1 && x.cmds.any fun c => c.acceptNum = some r.num && !c.doneRec) ||
  (fld r.raw 8 4 = 2 && x.cmds.any fun c => c.intent.isSome && c.intentNum = r.num)

/-- Free what is no longer needed, and set JHEAD to the oldest record that is. -/
def pruneJournal (q : Nat) (s : State) : State :=
  modQueue q (fun x =>
    let recs := x.jrn.recs.filter (recNeeded x)
    { x with jrn.recs := recs, jrn.jhead := match recs.head? with | some r => r.num | none => x.jrn.jprod }) s

/-- Record `n` has been confirmed: it has left the shadow tail, or stands there confirmed. -/
def recConfirmed (x : Queue) (n : Nat) : Bool := x.jrn.recs.all fun r => r.num ≠ n || r.confirmed

/-- Records that can still be written. -/
def journalFree (x : Queue) : Nat := 2 ^ qJLog2 x.cfg - subMod 32 x.jrn.jprod x.jrn.jhead

/-- PHASE of record number `n` (R284). -/
def recordPhase (log2 n : Nat) : Nat := (n / 2 ^ log2 + 1) % 2

/-- The image of a journal record (Table 11.6). -/
def journalImage (q log2 n type cseq argA argB : Nat) (st : Status) : BitVec 256 :=
  BitVec.ofNat 256 (sealCrc 32 (pack [(8, st.code), (4, type), (5, 0), (1, recordPhase log2 n), (14, q), (32, n), (64, cseq), (64, argA), (32, argB)]))

def recordAddr (x : Queue) (n : Nat) : Nat := qJBase x.cfg + 32 * (n % 2 ^ qJLog2 x.cfg)

/-- Send a record to the journal ring, and the read-back that is to confirm it after it (R286). The answer is the port and the number of
its write. -/
def sendRecord (q n : Nat) (raw : BitVec 256) (s : State) : (Nat × Nat) × State :=
  let pa := recordAddr (getQueue s q) n
  let p := hostPortOf s pa
  let s := hostPost pa (bytesOf 32 raw) false s
  ((p, (getHost s p).wseq), awaitPort p (getHost s p).wseq s)

/-- Write the next record; on a HELD queue it waits in the shadow tail. The answer is its number. -/
def writeJournal (q type cseq argA argB : Nat) (st : Status) (s : State) : Nat × State :=
  let x := getQueue s q
  let n := x.jrn.jprod
  let img := journalImage q (qJLog2 x.cfg) n type cseq argA argB st
  let (at_, s) := if x.jrn.state ≠ 2 && proxyAlive s then sendRecord q n img s else ((0, 0), s)
  (n, modJrn q (fun j => { j with jprod := (n + 1) % 2 ^ 32, recs := j.recs ++ [⟨n, img, false, at_.1, at_.2⟩] }) s)

/-- While few records are free, an ACCEPT at JHEAD is written again for its command (R286). -/
def restate (q : Nat) : Nat → State → State
  | 0, s => s
  | k + 1, s =>
    let x := getQueue s q
    if 160 ≤ journalFree x then s
    else match x.jrn.recs.head? with
      | none => s
      | some r =>
        if fld r.raw 8 4 ≠ 1 || journalFree x = 0 then s
        else match x.cmds.find? fun c => c.acceptNum = some r.num && !c.doneRec with
          | none => s
          | some c =>
            let (n, s) := writeJournal q 1 c.ext 0 (1 + 128) .ok s
            restate q k (pruneJournal q (modCmd q c.idx (fun y => { y with acceptNum := some n }) s))

/-- An ordinary record can be written now. -/
def recordRoom (s : State) (q : Nat) : Bool := 160 ≤ journalFree (getQueue s q)

/-- The RECOVER record that a recovery still owes (R295). -/
def oweRecover (q : Nat) (s : State) : State :=
  let x := getQueue s q
  if x.jrn.state = 3 && x.jrn.owes && recordRoom s q then
    let (_, s) := writeJournal q 5 0 (s.aoncnt % 2 ^ 64) x.jrn.cause .ok s
    pruneJournal q (modJrn q (fun j => { j with owes := false }) s)
  else s

/-- Make room and write what is owed before a record of queue `q`. -/
def beforeRecord (q : Nat) (s : State) : State := oweRecover q (restate q 64 (pruneJournal q s))

/-- Run `f` on the queue's commands. -/
def modCmds (q : Nat) (f : Cmd → Cmd) (s : State) : State := modQueue q (fun x => { x with cmds := x.cmds.map f }) s

/-- A recovery has every command DONE and every record confirmed: it resets the completion ring, and the completion records follow. -/
def closeRecovery (q : Nat) (s : State) : State :=
  let x := getQueue s q
  if x.jrn.state ≠ 3 || x.jrn.closing || x.jrn.owes || x.cmds.any (fun c => !c.doneRec) || x.jrn.recs.any (fun r => !r.confirmed) then s
  else endRecovery q (modQueue q (fun y => { y with cqProd := 0, cqCons := 0, jrn.closing := true }) s)

/-- Read-backs have returned: the records that they cover are confirmed, with what each of them confirms (R286, R287, R290). -/
def confirmQueue (q : Nat) (s : State) : State :=
  let x := getQueue s q
  if x.jrn.recs.all (·.confirmed) then s
  else
    let s := modJrn q (fun j => { j with recs := j.recs.map fun r => { r with confirmed := r.confirmed || (r.seq ≠ 0 && readBack s r.port r.seq) } }) s
    let y := getQueue s q
    let done (c : Cmd) : Bool := match c.doneNum with | some n => recConfirmed y n | none => false
    closeRecovery q (pruneJournal q (modCmds q (fun c => { c with doneRec := c.doneRec || done c }) s))

/-- The same for every queue. -/
def confirmRecords (s : State) : State := s.queues.foldl (fun st kv => confirmQueue kv.1 st) s

/-! ### Acceptance (R287) -/

/-- Commands whose ACCEPT record has been confirmed are accepted. -/
def takeAccepted (q : Nat) (s : State) : State :=
  let x := getQueue s q
  let now (c : Cmd) : Bool := !c.accepted && (match c.acceptNum with | some n => recConfirmed x n | none => false)
  if x.jrn.state = 2 then s
  else countN 0x6400 4 (x.cmds.filter now).length (modCmds q (fun c => { c with accepted := c.accepted || now c }) s)

/-- Copy the checked slot at the head to the slot area and write its ACCEPT record. A malformed slot is not accepted; it completes
MALFORMED. -/
def offerHead (q : Nat) (s : State) : State :=
  let x := getQueue s q
  match x.head with
  | none => s
  | some v =>
    if !(qJournaled x.cfg) || x.state ≠ 1 || x.jrn.state ≠ 1 || 64 ≤ (x.cmds.filter fun c => !c.doneRec).length then s
    else if !(cqRoom x) then beginWait q 0 x.cons 0x6000 0x0F s
    else if slotMalformed (confidential s (qCtx x.cfg)) v then
      let c := { newCmd x.cons (x.epoch * 2 ^ 32 + x.cons) v true with fin := some .malformed }
      passSlot q (modQueue q (fun y => { y with cmds := y.cmds ++ [c] }) s)
    else if shadowFree s < 256 then journalWaits q 1 x.cons s
    else
      let s := beforeRecord q s
      if !(recordRoom s q) then journalWaits q 1 x.cons s
      else
        let at_ := stageBase x + 256 * (x.cons % 64)
        let s := dropRun at_ 256 (writeRun (qCtx x.cfg) 0 at_ (bytesOf 256 v) false s)
        let ext := x.epoch * 2 ^ 32 + x.cons
        let (n, s) := writeJournal q 1 ext 0 1 .ok s
        let c := { newCmd x.cons ext v false with acceptNum := some n }
        passSlot q (modQueue q (fun y => { y with cmds := y.cmds ++ [c], jrn.nextAcc := (x.cons + 1) % 2 ^ 32 }) s)

/-- ACCEPT: what has been confirmed is accepted, and the slot at the head is offered. -/
def acceptHead (q : Nat) (s : State) : State := offerHead q (takeAccepted q s)

/-! ### Units (R288, R289) -/

/-- Runs of rising destination addresses, each byte with its poison. -/
def unitRuns : List (Nat × Byte × Bool) → List (Nat × List (Byte × Bool))
  | [] => []
  | (a, b) :: rest => match unitRuns rest with
    | (x, bs) :: rs => if a + 1 = x then (a, b :: bs) :: rs else (a, [b]) :: (x, bs) :: rs
    | [] => [(a, [b])]

/-- A command has failed: the units that it has staged and not committed go, with their frames. -/
def dropUnits (q idx : Nat) (s : State) : State :=
  match findCmd s q idx with
  | none => s
  | some c =>
    modJrn q (fun j => { j with frames := j.frames.filter fun f => !(c.frames.contains f) })
      (modCmd q idx (fun k => { k with intent := none, performed := false, commitNum := none, unconfirmed := false, frames := [],
                                       staged := k.staged.take (k.committed * 2 ^ 20) }) s)

/-- The unit's command fails with its unit. -/
def unitFails (q idx : Nat) (st : Status) (s : State) : State :=
  dropUnits q idx (modCmd q idx (fun k => { k with fin := some st, whole := true }) s)

/-- Perform the open unit: its destination is checked again (R176), then, once the home slices grant it (R231), its bytes go from the
frame to it. -/
def performUnit (q idx : Nat) (s : State) : State :=
  match findCmd s q idx with
  | none => s
  | some c => match c.intent with
    | none => s
    | some f =>
      let x := getQueue s q
      let ctx := qCtx x.cfg
      let us := unitBytes c c.committed
      let pa := frameAddr x f
      let bytes := (List.range us.length).map fun i =>
        ((us.getD i (0, 0)).1, lineByte (granuleData s ctx 0 ((pa + i) / 64)) ((pa + i) % 64), granulePoison s ctx ((pa + i) / 64))
      let runs := unitRuns bytes
      let segs := runs.map fun r => (⟨r.1, r.2.length, needW⟩ : Segment)
      match checkFootprint tlbsOfService false (fld (getCtx s ctx) 116 12) segs s with
      | (.good foot, s) =>
        let st := footVerdict s ctx foot
        if st ≠ .ok then unitFails q idx st (countSlots ctx foot s)
        else
          let (ready, s) := bulkReady ctx [] foot s
          if !ready then s
          else
            let (m0, m1) := ((getHost s 0).wseq, (getHost s 1).wseq)
            let s := runs.foldl (fun acc r => writeBurst (.queueCmd q idx) ctx foot r.1 r.2 acc) s
            let (n0, n1) := ((getHost s 0).wseq, (getHost s 1).wseq)
            let s := if c.unconfirmed then count 0x6400 7 s else s
            modCmd q idx (fun k => { k with performed := true, unconfirmed := false,
                                            need0 := if m0 < n0 then n0 else k.need0, need1 := if m1 < n1 then n1 else k.need1 }) s
      | (.off, s) => unitFails q idx .xlateFault s
      | (r, s) =>
        let (k, s) := waitsPage (.queueCmd q idx) 56 0xA000 ctx (fld (getCtx s ctx) 116 12) segs r s
        modCmd q idx (fun y => { y with waitRec := some k }) s

/-- In a recovery one command goes on at a time, in slot order, and each record is confirmed before the next step (R295). -/
def inTurn (x : Queue) (c : Cmd) : Bool :=
  x.jrn.state = 1 ||
  (x.jrn.state = 3 && !x.jrn.owes && x.jrn.recs.all (·.confirmed) && (x.cmds.find? fun k => !k.doneRec).map (·.idx) = some c.idx)

/-- INTENT: the record of the next unit that stands in a frame is written; once it is confirmed the unit is performed. An UNCONFIRMED
unit of a recovery is performed again from its frame. -/
def intentUnit (q idx : Nat) (s : State) : State :=
  match findCmd s q idx with
  | none => s
  | some c =>
    let x := getQueue s q
    if !(inTurn x c) || !c.started || c.doneMark then s
    else match c.intent with
      | some _ => if c.performed || c.waitRec.isSome || !(recConfirmed x c.intentNum) then s else performUnit q idx s
      | none => match c.frames with
        | [] => s
        | f :: _ =>
          if c.fin.any fun st => statusClass st ≠ 0 then s
          else
            let s := beforeRecord q s
            if !(recordRoom s q) then journalWaits q 2 c.ext s
            else
              let (n, s) := writeJournal q 2 c.ext c.committed ((unitBytes c c.committed).length - 1 + f * 2 ^ 20) .ok (endWait q 2 c.ext s)
              modCmd q idx (fun k => { k with intent := some f, intentNum := n, performed := false, unconfirmed := false }) s

/-- A freed frame is taken by what waits for one: the staged units of the queue's commands, and the courses behind them (R288). -/
def framesFreed (q : Nat) (s : State) : State :=
  let s := (getQueue s q).cmds.foldl (fun st c => frameUnits q c.idx st) s
  s.arrays.arr.foldl (fun st kv => owe (.arrayDone kv.1) st) s

/-- COMMIT: once the performed unit is confirmed at its destination its record is written; once that is confirmed its frame is free. -/
def commitUnit (q idx : Nat) (s : State) : State :=
  match findCmd s q idx with
  | none => s
  | some c =>
    let x := getQueue s q
    if !(inTurn x c) || !c.performed || peerWaits s (.queueCmd q idx) then s
    else match c.intent, c.commitNum with
      | some f, some n =>
        if recConfirmed x n then
          let s := modCmd q idx (fun k => { k with intent := none, performed := false, commitNum := none, frames := k.frames.erase f,
                                                   committed := k.committed + 1 }) s
          framesFreed q (pruneJournal q (count 0x6400 5 (modJrn q (fun j => { j with frames := j.frames.erase f }) s)))
        else s
      | some f, none =>
        if readBack s 0 c.need0 && readBack s 1 c.need1 then
          let s := beforeRecord q s
          if journalFree (getQueue s q) = 0 then journalWaits q 2 c.ext s
          else
            let (n, s) := writeJournal q 3 c.ext c.committed (f * 2 ^ 20) .ok (endWait q 2 c.ext s)
            modCmd q idx (fun k => { k with commitNum := some n }) s
        else issueReadbacks c.need0 c.need1 s
      | none, _ => s

/-! ### DONE (R290) -/

/-- DONE: the internal effects not yet applied and the DONE mark come together, and the DONE record is written, on a HELD queue
into the shadow tail. -/
def doneCmd (q idx : Nat) (s : State) : State :=
  match findCmd s q idx with
  | none => s
  | some c =>
    let x := getQueue s q
    let held := x.jrn.state = 2
    if !(qJournaled x.cfg) || !c.started || c.doneNum.isSome || c.acceptNum.isNone || !(unitsDone c) || peerWaits s (.queueCmd q idx) ||
        !(held || inTurn x c) || (held && (fld x.cfg 192 64 ≠ x.jrn.keptField.toNat || qCtx x.cfg ≠ x.jrn.keptCtx)) then s
    else
      let s := beforeRecord q s
      if journalFree (getQueue s q) = 0 then journalWaits q 2 c.ext s
      else
        let s := c.folds.foldl (fun st d => foldDigest (qCtx x.cfg) d.1 d.2 st) s
        let (n, s) := writeJournal q 4 c.ext (slTag c.slot) (c.committed % 2 ^ 32) (c.fin.getD .ok) (endWait q 2 c.ext s)
        let s := modCmd q idx (fun k => { k with doneMark := true, folds := [], doneNum := some n, kept := [], keptFrames := [] }) (dropUnits q idx s)
        framesFreed q (pruneJournal q (modJrn q (fun j => { j with frames := j.frames.filter fun f => !c.keptFrames.contains f }) s))

/-! ### The host proxy dies (R294) -/

/-- What stands of a queue's commands when its host proxy dies or the block is warm-reset: those that its ACCEPT records name, and the
malformed ones before them, whose records are still to come. -/
def heldCmds (x : Queue) : List Cmd :=
  x.cmds.filter fun c => c.acceptNum.isSome || (c.idx < 2 ^ 32 && x.cmds.any fun k => k.acceptNum.isSome && c.ext < k.ext)

/-- A journaled queue is HELD: what it has sent and not had confirmed is lost, records wait in the shadow tail, and its open units are
UNCONFIRMED (R294). A recovery that ends so keeps its cause. -/
def holdJournal (q : Nat) (s : State) : State :=
  let x := getQueue s q
  if x.jrn.state = 1 || x.jrn.state = 3 then
    let f (c : Cmd) : Cmd := { c with
      unconfirmed := c.intent.isSome, performed := false, commitNum := none, cqAt := none, doneRec := c.doneRec || c.acceptNum.isNone
      need0 := 0, need1 := 0, waitRec := if c.intent.isSome then none else c.waitRec }
    modQueue q (fun y => { y with
      cmds := (heldCmds y).map f
      head := none, reading := false, rereadDue := none, jrn.state := 2, jrn.limit := none, jrn.closing := false
      jrn.recs := y.jrn.recs.map fun r => if r.confirmed then r else { r with port := 0, seq := 0 }
      jrn.cause := if x.jrn.state = 3 then y.jrn.cause else 1, jrn.owes := true
      jrn.keptField := BitVec.ofNat 64 (fld y.cfg 192 64), jrn.keptCtx := qCtx y.cfg, jrn.keptStage := y.jrn.stage }) s
  else s

/-- Every journaled queue is HELD. -/
def holdJournals (s : State) : State := s.queues.foldl (fun st kv => holdJournal kv.1 st) s

/-! ### Registration (R281, R295) -/

/-- The journal check: every record from JHEAD to the last confirmed one reads back with its CRC, queue, number and phase. -/
def journalKept (s : State) (q : Nat) (x : Queue) (ext : Ext) : Bool :=
  let last := match x.jrn.recs.find? fun r => !r.confirmed with | some r => r.num | none => x.jrn.jprod
  (List.range (subMod 32 last x.jrn.jhead)).all fun i =>
    let n := (x.jrn.jhead + i) % 2 ^ 32
    let v := ofBytes 256 ((List.range 32).map fun k => extByte s ext (recordAddr x n + k))
    fld v 224 32 = crc32c (bytesOf 28 v) && fld v 18 14 = q && fld v 32 32 = n && fld v 17 1 = recordPhase (qJLog2 x.cfg) n

/-- Write the records that wait in the shadow tail again, in order (R295). -/
def flushJournal (q : Nat) (late : List JRecord) (s : State) : State :=
  late.foldl (fun st r =>
    let ((p, n), st) := sendRecord q r.num r.raw st
    modJrn q (fun j => { j with recs := j.recs.map fun k => if k.num = r.num then { k with port := p, seq := n } else k }) st) s

/-- Whether the retained values of a HELD queue are met (R295). -/
def sameJournal (x : Queue) (cfg : BitVec 256) : Bool :=
  x.jrn.stage = x.jrn.keptStage && BitVec.ofNat 64 (fld cfg 192 64) = x.jrn.keptField && qCtx cfg = x.jrn.keptCtx

/-- A HELD queue is registered again: the journal is checked, and the recovery begins. With no host port up the region cannot be read, and
the recovery ends as one that fails the check, but is not counted as one (DEDUCED, log 168). -/
def registerJournal (q : Nat) (cfg : BitVec 256) (ext : Ext) (s : State) : State :=
  let s := modQueue q (fun x => { x with cfg := cfg }) s
  let x := getQueue s q
  if !(proxyAlive s) || !(journalKept s q x ext) then
    let s := stopQueue q .deadTarget (modJrn q (fun j => { j with state := 2, recStatus := Status.deadTarget.code }) s)
    if proxyAlive s then count 0x6400 9 s else s
  else
    let late := x.jrn.recs.filter fun r => !r.confirmed
    let s := modJrn q (fun j => { j with state := 3, owes := true, closing := false, limit := some (s.aoncnt + obj s 0x6400 3 50000000) }) s
    closeRecovery q (flushJournal q late (oweRecover q (restate q 64 (pruneJournal q s))))

/-! ### What meets a recovery (R296) -/

/-- RECOVER_LIMIT has passed. -/
def recoveryExpires (q : Nat) (s : State) : State :=
  let x := getQueue s q
  match x.jrn.limit with
  | none => s
  | some t =>
    if x.jrn.state = 3 && t ≤ s.aoncnt then
      modJrn q (fun j => { j with recStatus := Status.timeout.code }) (stopQueue q .timeout (holdJournal q s))
    else s

/-- The courses of a queue end ABORTED. -/
def abortCourses (q : Nat) (s : State) : State :=
  s.arrays.arr.foldl (fun st kv => kv.2.courses.foldl (fun acc c =>
    match c.src with
    | .queue k _ => if k = q then endCourse kv.1 (ranUnit acc kv.1 c) c .aborted (-512) acc else acc
    | _ => acc) st) s

/-- DISCARD: the accepted commands of a HELD or stopped journaled queue end ABORTED without records, a registered WAIT among them. -/
def discardJournal (q : Nat) (s : State) : State :=
  let x := getQueue s q
  if x.jrn.state = 2 || (x.jrn.state ≠ 0 && x.state = 2) then
    let s := abortCourses q s
    let s := x.cmds.foldl (fun st c => leaveEngine false q c st) s
    let s := endWatches 2 .aborted true (fun w => w.dest = .queue q) s
    count 0x6400 0x0B (modQueue q (fun y =>
      { y with cmds := [], waits := [], state := 0, head := none, reading := false, rereadDue := none, cfg := BitVec.ofNat 256 (putBits y.cfg.toNat 0 1 0),
               jrn := { stage := y.jrn.stage, jprod := y.jrn.jprod, jhead := y.jrn.jprod, resume := y.jrn.resume, recStatus := y.jrn.recStatus } }) s)
  else s

/-! ### Warm reset (R297, R408) -/

/-- What a warm reset leaves of a command: one without its DONE mark runs again from its slot copy, an open unit from its
frame. -/
def warmCmd (c : Cmd) : Cmd :=
  let c := { c with engine := none, waitRec := none, probing := false, cqAt := none, need0 := 0, need1 := 0, performed := false, commitNum := none,
                    unconfirmed := c.intent.isSome, frames := c.intent.toList, recheck := false, oldPart := false, doneRec := c.doneRec || c.acceptNum.isNone }
  if c.doneMark || c.acceptNum.isNone then c
  else
    let n := c.committed + c.frames.length
    { c with again := c.started, started := false, footOk := false, burst := n, reruns := 0, avoid := none, fin := none,
             detail := 0, foot := [], folds := [], whole := false, staged := c.staged.take (n * 2 ^ 20) }

/-- What a warm reset leaves of a queue: its journal when it was journaled, HELD; everything else is cleared. -/
def warmQueue (x : Queue) : Queue :=
  if x.jrn.state = 0 then {}
  else
    let kept := x.jrn.state = 2
    let cmds := (heldCmds x).map warmCmd
    { cmds := cmds
      epoch := x.epoch
      jrn := { x.jrn with frames := cmds.flatMap fun c => c.frames ++ c.keptFrames
                          state := 2, stage := 0, limit := none, cause := 2, owes := true, closing := false
                          recs := x.jrn.recs.map fun r => if r.confirmed then r else { r with port := 0, seq := 0 }
                          resume := 0, recStatus := 0
                          keptField := if kept then x.jrn.keptField else BitVec.ofNat 64 (fld x.cfg 192 64)
                          keptCtx := if kept then x.jrn.keptCtx else qCtx x.cfg
                          keptStage := if kept then x.jrn.keptStage else x.jrn.stage } }

end Sys2Proof.Machine
end

