-- ==== Sys2Proof/Machine/Sched.lean ====
section
/-! DEFINITION. The dispatcher (13): contexts, the sequence table, step lists, slices, remote waits, accounting snapshots. -/

namespace Sys2Proof.Machine

/-! ### Context state (R319) -/

/-- Count a context write or command without effect (0x6C00:10). -/
def badCommand (s : State) : State := count 0x6C00 0x10 s

/-- Store a word of a context's state under the field rules of R319. Words 0 and 2 hold no writable field. -/
def ctxWrite (c k : Nat) (w : Word) (s : State) : State :=
  let x := getCtx s c
  let put (fs : List (Nat × Nat)) (st : State) : State :=
    fs.foldl (fun a f => setCtxFld c (64 * k + f.1) f.2 (fld w f.1 f.2) a) st
  let free := ctxState s c = 0
  match k with
  | 1 =>
    let s := put [(49, 3), (48, 1), (47, 1), (46, 1)] s
    if free then put [(52, 12)] s else if fld w 52 12 ≠ fld x 116 12 then badCommand s else s
  | 3 => put [(32, 32), (0, 32)] s
  | 4 => if free then put [(6, 58)] s else badCommand s
  | 5 => if free then put [(0, 64)] s else badCommand s
  | 6 => if free then put [(0, 56)] s else badCommand s
  | 7 => if free then put [(0, 56)] s else badCommand s
  | _ => s

/-- The conditions of CREATE (R320). -/
def createOk (s : State) (c : Nat) : Bool :=
  let x := getCtx s c
  let save := fld x 280 40 * 4096
  let n := fld x 368 16
  let bm := fld x 352 16
  spaceOn (getSpace s (fld x 116 12)) &&
  (match target save with
    | .stacks => offset save + 786432 ≤ stackBytes s
    | .scratch => offset save + 786432 ≤ scratchBytes s
    | _ => false) &&
  2000 ≤ fld x 224 32 && n ≤ 4096 &&
  (n = 0 || (1 ≤ bm && bm ≤ 4096 && fld x 320 32 * 64 + 163840 ≤ scratchBytes s))

/-- STATE of a context. -/
def setCtxState (c v : Nat) (s : State) : State := setCtxFld c 52 4 v s

/-- A course of the context that waits on a record leaves it: nothing is saved, and it is issued again when the context resumes
(R117, R179). -/
def leaveWaits (c : Nat) (s : State) : State :=
  s.arrays.arr.foldl (fun st kv => kv.2.courses.foldl (fun acc k =>
    match k.stage with
    | .fault _ saved => if k.ctx = c then
        leaveRecs (.array kv.1 k.id) (modCourse kv.1 k.id (fun x => { x with stage := if saved then .saved else .issued }) acc) else acc
    | _ => acc) st) s

/-- Every engine that runs the context pre-empts it (R331). -/
def preemptAll (c : Nat) (s : State) : State :=
  let s := leaveWaits c s
  let s := s.arrays.arr.foldl (fun st kv =>
    match runningCourse st kv.1 with
    | some k => if k.ctx = c then modArr kv.1 (fun x => { x with ask := true }) st else st
    | none => st) s
  s.engines.foldl (fun st kv =>
    match kv.2.job with
    | some (q, _) => if queueCtx st q = c then modEngine kv.1 (fun x => { x with yields := true }) st else st
    | none => st) s

/-- Core-port requests that waited for a suspended context look again. -/
def pumpAll (s : State) : State := s.ports.foldl (fun st kv => owe (.pump kv.1) st) s

/-! ### Sequences (R321 to R325) -/

def getSeq (s : State) (q : Nat) : BitVec 512 := tget 0 s.sched.seqs q
def setSeq (q : Nat) (e : BitVec 512) (s : State) : State := { s with sched.seqs := tset 0 s.sched.seqs q e }
def sqState (e : BitVec 512) : Nat := fld e 28 3
def sqCtx (e : BitVec 512) : Nat := fld e 34 12
def sqDone (e : BitVec 512) : Nat := fld e 192 32
def sqBound (e : BitVec 512) : Nat := fld e 224 32

/-- Change fields of an entry: (low bit, width, value). -/
def putSeq (fs : List (Nat × Nat × Nat)) (e : BitVec 512) : BitVec 512 :=
  BitVec.ofNat 512 (fs.foldl (fun v f => putBits v f.1 f.2.1 f.2.2) e.toNat)

/-- A token is due: a step is bound whose token is not recorded. -/
def tokenDue (e : BitVec 512) : Bool := sqDone e < sqBound e

/-- The fields of an image that CREATE does not take are zero (Table 13.4). -/
def imageZero (e : BitVec 512) : Bool :=
  zeroFld e 504 8 && zeroFld e 402 10 && zeroFld e 224 32 && zeroFld e 192 32 && zeroFld e 96 32 && zeroFld e 80 16 && zeroFld e 64 16 &&
  zeroFld e 28 3 && zeroFld e 21 3 && zeroFld e 20 1 && zeroFld e 0 20

/-- The verdict on a block structure at a physical address for which the spec names no key slot: it lies in the stacks, loft scratch or
host memory, and in no fenced channel (R161). -/
def structVerdict (s : State) (pa n : Nat) : Status :=
  match target pa with
  | .stacks => if !inMap s pa n then .boundFault else if rangeFenced s pa n then .deadTarget else .ok
  | .scratch => if inMap s pa n then .ok else .boundFault
  | .host => .ok
  | _ => .boundFault

/-- Read such a structure for a context; host bytes come with the command. -/
def structRead (s : State) (ext : Ext) (c pa n : Nat) : List Byte × State :=
  if target pa = .host then ((List.range n).map fun i => extByte s ext (pa + i), s) else homeRead c blockSlot pa n 2 s

/-- Write such a structure; a host one is followed by its read-back (R265). -/
def structWrite (c pa : Nat) (bs : List Byte) (s : State) : State :=
  if target pa = .host then count 0x6000 0x0C (hostPost pa bs false s) else homeWrite c blockSlot pa bs false 2 s

/-- CREATE of a sequence from its image. -/
def seqCreate (q ctx pa : Nat) (ext : Ext) (s : State) : State × Status :=
  let free := sqState (getSeq s q) = 0
  let v := structVerdict s pa 64
  if v ≠ .ok then (s, worst (if free then .ok else .malformed) v)
  else
    let (bs, s) := structRead s ext ctx pa 64
    let e := ofBytes 512 bs
    if !free || fld e 46 18 ≠ q || !(imageZero e) || fld e 160 32 ≤ fld e 128 32 then (s, .malformed)
    else if sqCtx e ≠ ctx || ctxState s ctx ≠ 1 then (s, .rightsFault)
    else (chargeBytes ctx pa 64 (setSeq q (putSeq [(28, 3, 1), (80, 16, 0xFFFF)] e) s), .ok)

/-- A verdict is counted (0x6C00:09, :0A). -/
def countVerdict (stop : Bool) (s : State) : State := count 0x6C00 (if stop then 0x0A else 0x09) s

/-- One sequence command (R322, R323): the answer is the state and SEQ_STATUS's status. A READ of a FREE entry is malformed, and writes
nothing: Table 13.5 has READ in no such state (DESIGN CHOICE, log 172). -/
def seqCommand (op q ctx pa : Nat) (ext : Ext) (s : State) : State × Status :=
  let e := getSeq s q
  let st := sqState e
  let owns := sqCtx e = ctx
  match op with
  | 1 => seqCreate q ctx pa ext s
  | 2 =>
    let r := worst (if st = 0 then .malformed else if !owns then .rightsFault else .ok) (structVerdict s pa 64)
    if r ≠ .ok then (s, r)
    else (chargeBytes ctx pa 64 (structWrite ctx pa (bytesOf 64 e) s), .ok)
  | 3 =>
    if st ≠ 1 then (s, .malformed)
    else if !owns then (s, .rightsFault)
    else if tokenDue e then (setSeq q (putSeq [(20, 1, 1)] e) s, .ok)
    else (setSeq q (putSeq [(28, 3, 2), (20, 1, 0)] e) s, .ok)
  | 4 =>
    if st ≠ 2 then (s, .malformed)
    else if !owns then (s, .rightsFault)
    else (setSeq q (putSeq [(28, 3, 1)] e) s, .ok)
  | 5 =>
    if st ≠ 1 && st ≠ 2 then (s, .malformed)
    else if !owns then (s, .rightsFault)
    else (setSeq q (putSeq [(28, 3, 3), (21, 3, 4), (20, 1, 0)] e) (if tokenDue e then countVerdict true s else s), .ok)
  | 6 =>
    if st ≠ 4 then (s, .malformed)
    else if !owns then (s, .rightsFault)
    else (setSeq q 0 s, .ok)
  | _ => (s, .malformed)

/-- SEQ_CMD: the command, then SEQ_STATUS. -/
def seqCmd (raw : BitVec 128) (ext : Ext) (s : State) : State :=
  let (s, st) := seqCommand (fld raw 0 4) (fld raw 46 18) (fld raw 34 12) (fld raw 82 46 * 64) ext s
  { s with sched.seqDone := (s.sched.seqDone + 1) % 2 ^ 32, sched.seqLast := st.code }

/-- A token record is accepted (R324). `ctx` is the writing core's context. -/
def tokenOk (e : BitVec 512) (w : Word) (ctx : Option Nat) : Bool :=
  sqState e = 1 && tokenDue e && fld w 30 2 = (sqDone e + 1) % 4 && (match ctx with | some c => sqCtx e = c | none => true)

/-- The cause that a token gives: 3 forced, 1 a stop token, 2 MAX_LENGTH, 0 none. -/
def tokenCause (e : BitVec 512) (w : Word) : Nat :=
  let tok := fld w 32 32
  let stop (i lo : Nat) : Bool := flag e (24 + i) && fld e lo 32 = tok
  if flag w 29 then 3
  else if stop 0 320 || stop 1 352 || stop 2 256 || stop 3 288 then 1
  else if (fld e 128 32 + 1) % 2 ^ 32 = fld e 160 32 then 2
  else 0

/-- An accepted token record, in one step (R325); PARK_REQ parks the sequence once no token is due (R322). -/
def tokenEntry (e : BitVec 512) (w : Word) : BitVec 512 :=
  let d := sqDone e + 1
  let e' := putSeq [(192, 32, d), (96, 32, fld w 32 32), (128, 32, fld e 128 32 + 1)] e
  let cause := tokenCause e w
  if cause ≠ 0 then putSeq [(28, 3, 3), (21, 3, cause), (20, 1, 0)] e'
  else if flag e 20 && d = sqBound e then putSeq [(28, 3, 2), (20, 1, 0)] e'
  else e'

/-- SEQ_TOKEN (R324, R325): an accepted record gives a verdict, which reaches the arrays with SEQ_VERDICT. -/
def seqToken (w : Word) (ctx : Option Nat) (s : State) : State × Status :=
  let q := fld w 0 18
  let e := getSeq s q
  if tokenOk e w ctx then
    let stop := tokenCause e w ≠ 0
    let s := setSeq q (tokenEntry e w) s
    (countVerdict stop s, .ok)
  else (count 0x6C00 0x0B s, .malformed)

/-- A course with rows bound to sequence `q` has not completed. -/
def seqBusy (s : State) (q : Nat) : Bool := (allCourses s).any fun c => c.bound.any fun b => b.1 = q

/-- ENDING becomes DONE once every course with bound rows has completed; END_CTR is signalled for the entry's context, and a
refused signal is counted (R322). -/
def seqFinish (q : Nat) (s : State) : State :=
  let e := getSeq s q
  if sqState e = 3 && !(seqBusy s q) then
    let s := setSeq q (putSeq [(28, 3, 4)] e) s
    if flag e 401 then
      match signalFor (sqCtx e) (fld e 384 17) 1 s with
      | (s, .rightsFault) => count 0x6800 0x0B s
      | (s, _) => s
    else s
  else s

/-- The sequences of a context that enters RELEASING become FREE, END_CTR unsignalled (R322). -/
def freeSequences (c : Nat) (s : State) : State :=
  { s with sched.seqs := s.sched.seqs.filter fun kv => !(sqState kv.2 ≠ 0 && sqCtx kv.2 = c) }

/-! ### Step lists (R326 to R329) -/

def getRun (s : State) (c : Nat) : StepRun := tget {} s.sched.steps c
def modRun (c : Nat) (f : StepRun → StepRun) (s : State) : State := { s with sched.steps := tmod {} s.sched.steps c f }
def progCourses (s : State) (c : Nat) : Nat := fld (getCtx s c) 368 16
def stepStatus (s : State) (c : Nat) : Nat := fld (getCtx s c) 44 8

/-- A build is due for a context: it takes steps, none has failed, and every course of its last list is issued. -/
def buildDue (s : State) (c : Nat) : Bool :=
  ctxState s c = 1 && progCourses s c ≠ 0 && stepStatus s c = 0 && (getRun s c).issuing.isNone

/-- A sequence is eligible for the next list of its context. -/
def eligible (s : State) (c : Nat) (e : BitVec 512) : Bool :=
  sqState e = 1 && !flag e 20 && sqCtx e = c && sqBound e - sqDone e ≤ (if specCont s c then 1 else 0)

/-- The eligible sequences by PRIORITY, highest first, then SEQ, lowest first. -/
def ranked (s : State) (c : Nat) : List Nat :=
  let es := s.sched.seqs.filter fun kv => eligible s c kv.2
  (List.range 8).reverse.flatMap fun p => (es.filter fun kv => fld kv.2 31 3 = p).map (·.1)

/-- Address of row-map bank `b` of a context. -/
def bankAddr (s : State) (c b : Nat) : Nat := 2 ^ 48 + fld (getCtx s c) 320 32 * 64 + 81920 * b

/-- The image of a bank (R326). -/
def bankImage (s : State) (qs : List Nat) : List Byte :=
  (List.range 4096).flatMap (fun r => match qs[r]? with | some q => toLe 4 (q + 2 ^ 31) | none => toLe 4 0) ++
  (List.range 4096).flatMap (fun r => match qs[r]? with
    | some q => let e := getSeq s q; toLe 8 (fld e 448 56) ++ toLe 4 (fld e 128 32) ++ toLe 4 q
    | none => toLe 16 0)

/-- Bind the chosen sequences of a context to its next step. -/
def bindRows (c : Nat) (qs : List Nat) (s : State) : State :=
  { s with sched.seqs := s.sched.seqs.map fun kv =>
      if sqState kv.2 ≠ 0 && sqCtx kv.2 = c then
        (kv.1, match qs.idxOf? kv.1 with
          | some r => putSeq [(80, 16, r), (224, 32, sqBound kv.2 + 1)] kv.2
          | none => putSeq [(80, 16, 0xFFFF)] kv.2)
      else kv }

/-- Build the list of a context's next step; with no eligible sequence nothing is written (R327). -/
def buildList (c : Nat) (s : State) : State :=
  let qs := (ranked s c).take (fld (getCtx s c) 352 16)
  if qs.isEmpty then s
  else
    let t := (getRun s c).built + 1
    let pa := bankAddr s c (t % 2)
    let s := homeWrite c blockSlot pa (bankImage s qs) false 2 s
    modRun c (fun r => { r with built := t, issuing := some t, gate := 0 }) (bindRows c qs (count 0x6C00 8 (chargeBytes c pa 81920 s)))

/-- One scan builds every list that is due at its start (R329). -/
def listScan (s : State) : State := ((List.range 4096).filter (buildDue s)).foldl (fun st c => buildList c st) s

/-- A step fails: STEP_STATUS, a NOTE record, and no further list (R328). -/
def stepFails (c : Nat) (st : Status) (s : State) : State :=
  raise ⟨0x0C, 0xA000, some c, 0, 0, 4, st, 0⟩ (modRun c (fun r => { r with issuing := none, gate := 0, waitRec := none }) (setCtxFld c 44 8 st.code s))

/-- SEQ_REF of a course of step `t` with SEQ_MODE 2 (R328). -/
def stepCourse (s : State) (c t : Nat) (raw : BitVec 1024) : BitVec 1024 :=
  if cdSeqMode raw = 2 then
    BitVec.ofNat 1024 (putBits raw.toNat 288 32 (fld (getCtx s c) 320 32 + 1280 * (t % 2) + cdSeqRef raw))
  else raw

/-- The array of a step's course: the one with the fewest rows queued; a course that continues the stream's chain stays on
its array (DESIGN CHOICE, log 22). -/
def stepArray (s : State) (last : Nat) (raw : BitVec 1024) : Nat :=
  if cdAccumulate raw && !(cdFromImage raw) then last else (leastArray s).getD 0

/-- Issue the courses of a step in program order. -/
def issueProgram (c t : Nat) (bs : List Byte) (s : State) : State :=
  ((List.range (progCourses s c)).foldl (fun (acc : Nat × State) k =>
    let raw : BitVec 1024 := stepCourse acc.2 c t (ofBytes 1024 ((bs.drop (128 * k)).take 128))
    let a := stepArray acc.2 acc.1 raw
    (a, handCourse a raw c (.ds c) (20000 + c) acc.2)) (0, s)).2

/-- DS reads the step program and issues it, once the gate has passed (R328). -/
def issueStep (c t : Nat) (s : State) : State :=
  let base := fld (getCtx s c) 384 56
  let n := progCourses s c
  let space := fld (getCtx s c) 116 12
  let segs : List Segment := [⟨base, 128 * n, needR⟩]
  match checkFootprint tlbsOfService false space segs s with
  | (.good foot, s) =>
    let st := worstOf (foot.map fun x => accessVerdict s c x.keySlot x.pa x.len)
    if st ≠ .ok then stepFails c st (countSlots c foot s)
    else if foot.any fun x => runPoison s c x.pa x.len then stepFails c .poisonConsumed (raisePoisonConsumed 0xA000 (some c) 4 base 2 s)
    else
      let bs := footBytes s [] c foot base (128 * n)
      let s := noteExtents c 4 foot (foot.foldl (fun acc x => chargeBytes c x.pa x.len acc) s)
      modRun c (fun r => { r with issuing := none, gate := 0, waitRec := none }) (issueProgram c t bs s)
  | (.off, s) => stepFails c .xlateFault s
  | (r, s) =>
    let (k, s) := waitsPage (.ds c) 56 0xA000 c space segs r s
    modRun c (fun r => { r with waitRec := some k }) s

/-- STEP_ISSUE: the gate is asked, or has passed and the courses go out. A suspended context's step waits. -/
def stepIssue (c : Nat) (s : State) : State :=
  let r := getRun s c
  match r.issuing with
  | none => s
  | some t =>
    if ctxState s c ≠ 1 || r.waitRec.isSome then s
    else if !flag (getCtx s c) 262 || r.gate = 2 then issueStep c t s
    else if r.gate = 1 then s
    else
      let (s, w) := waitFor c (fld (getCtx s c) 263 17) 1 false 0 0 0 (.ds c) (some (245760 + 4 * c)) s
      match w with
      | .satisfied => issueStep c t s
      | .registered _ => modRun c (fun x => { x with gate := 1 }) s
      | .refused st => stepFails c st s

/-- The gate watch of a step has left. -/
def gateReleased (c outcome : Nat) (s : State) : State :=
  modRun c (fun r => if r.gate = 1 then { r with gate := if outcome = 0 then 2 else 0 } else r) s

/-- A page fault of a step program is resolved. -/
def retryStep (c : Nat) (s : State) : State := modRun c (fun r => { r with waitRec := none }) s

/-! ### The end of a context (R315, R320) -/

/-- Every watch of the context is released as ABORTED (R315). -/
def abortWatches (c : Nat) (st : Status) (s : State) : State := endWatches 2 st false (fun w => w.ctx = c) s

/-- The scan of the counters (R315). -/
def scanCounters (c : Nat) (s : State) : State :=
  s.sync.ctrl.foldl (fun acc kv =>
    let w := ctrlOf acc.sync kv.1
    if flag w 0 && fld w 20 12 = c then
      let d := subMod 32 (valueOf acc.sync kv.1) (fld w 32 32)
      let acc := if flag w 1 && d ≠ 0 then
          raise ⟨0x0C, 0x9000, some c, 0, 0, 0x0E, .ok, kv.1⟩
            (count 0x6800 0x0D { acc with sync.lastImbalance := BitVec.ofNat 64 (c + kv.1 * 2 ^ 12 + d * 2 ^ 32) })
        else acc
      { acc with sync.ctrl := tset 0 acc.sync.ctrl kv.1 (BitVec.ofNat 64 (putBits w.toNat 0 1 0)) }
    else acc) s

/-- R153: every scratch granule of the context becomes VOID. Its near-cache copies go with it. -/
def releaseLoft (c : Nat) (s : State) : State :=
  let s := { s with coh.near := s.coh.near.filter fun kv => !(kv.2.ctx = c && target (kv.1 % 2 ^ 46 * 64) = Target.scratch) }
  count 0x3000 0x0C { s with mem.tags := s.mem.tags.filter fun kv => kv.2 ≠ some c }

/-- Write back and drop every device-cache line filled under a key slot, and the near copies of its stack lines. -/
def flushSlot (k : Nat) (s : State) : State :=
  let ls := s.coh.dev.filterMap fun kv => match kv.2 with
    | some d => if d.keySlot = k && target (kv.1 * 256) = .stacks then some kv.1 else none
    | none => none
  let s := ls.foldl (fun st l => evictLine l st) s
  let key := (getSlot s k).key
  let gs := s.coh.dir.filterMap fun kv => if target (kv.1 * 64) = .stacks && tget none s.mem.keyOf kv.1 = key && key.isSome then some kv.1 else none
  gs.foldl (fun st g => dropCopies g st) s

/-- A write that was still on its way to a granule of a destroyed key slot is lost (R215). -/
def loseSlot (k : Nat) (s : State) : State :=
  loseWhere (fun _ o => (o.phase = .buffered || (o.phase = .home && opCode o = opStore)) && o.keySlot = k && target o.pa = .stacks) .deadTarget s

/-- Destroy the key of a slot (steps 1 to 4 of "When a context ends"). -/
def destroySlot (k : Nat) (s : State) : State :=
  let s := flushSlot k s
  loseSlot k { s with mem.slots := tset {} s.mem.slots k {} }

/-- A context is still running: not FREE and not RELEASING. -/
def ctxRunning (s : State) (c : Nat) : Bool := ctxState s c ≠ 0 && ctxState s c ≠ 4

/-- The key slots that only the ending context keeps alive are destroyed; from the others its binding goes. -/
def endKeySlots (c : Nat) (s : State) : State :=
  s.mem.slots.foldl (fun st kv =>
    let sl := getSlot st kv.1
    if sl.bound.contains c then
      if !sl.driver && !(sl.bound.any fun d => d ≠ c && ctxRunning st d) then count 0x3100 7 (destroySlot kv.1 st)
      else { st with mem.slots := tset {} st.mem.slots kv.1 { sl with bound := sl.bound.erase c } }
    else st) s

/-- The remote-wait records of a context are free; responses that come later are discarded (R334). -/
def endRemote (c : Nat) (s : State) : State :=
  let mine (r : PeerReq) : Bool := match r.waiter with
    | .portOp _ _ => false
    | .array a id => match findCourse s a id with | some k => k.ctx = c | none => true
    | .queueCmd q _ => queueCtx s q = c
    | .ds d => d = c
  let n := (s.peers.map fun kv => (kv.2.out.filter fun r => mine r && r.remote).length).foldl (· + ·) 0
  { s with peers := s.peers.map fun kv => (kv.1, { kv.2 with out := kv.2.out.filter fun r => !mine r }), sched.remoteFree := s.sched.remoteFree + n }

/-- The core-port requests of a context that it had started end with a status. -/
def endPortOps (c : Nat) (st : Status) (s : State) : State :=
  s.ports.foldl (fun acc kv =>
    let os := kv.2.ops.filter fun o => o.what = .mem && !(isBarrier o) && opCtx o = c && o.phase ≠ .finished
    if os.isEmpty then acc else owe (.pump kv.1) (os.foldl (fun a o => finishOp kv.1 o.id st false 0 a) acc)) s

/-- A context enters RELEASING (R320, R322): END_STATUS 0x00 or CONTEXT_KILLED. -/
def enterReleasing (c : Nat) (st : Status) (s : State) : State :=
  freeSequences c (modRun c (fun _ => {}) (setCtxFld c 56 8 st.code (setCtxState c 4 s)))

/-- A kill (R320, R276): the context is RELEASING at once, and its started work completes CONTEXT_KILLED. -/
def killContext (c : Nat) (s : State) : State :=
  match ctxState s c with
  | 0 => s
  | 4 => s
  | _ => endPortOps c .contextKilled (killQueues c (killCourses c (enterReleasing c .contextKilled s)))

/-- A context command (R320). -/
def ctxCommand (cmd c : Nat) (s : State) : State :=
  match cmd, ctxState s c with
  | 1, 0 =>
    if createOk s c then
      setCtxFld c 109 1 0 (setCtxState c 1 (modAcct c (fun _ => {}) (modRun c (fun _ => {}) s)))
    else badCommand s
  | 2, 1 => preemptAll c (setCtxState c 2 s)
  | 3, 2 => pumpAll (setCtxState c 1 s)
  | 4, 1 => pumpAll (setCtxState c 3 s)
  | 4, 2 => pumpAll (setCtxState c 3 s)
  | 5, 1 => pumpAll (killContext c s)
  | 5, 2 => pumpAll (killContext c s)
  | 5, 3 => pumpAll (killContext c s)
  | 6, 1 => setCtxFld c 44 8 0 s
  | 6, 2 => setCtxFld c 44 8 0 s
  | _, _ => badCommand s

/-- Something that an ENDING context started has not completed. -/
def ctxBusy (s : State) (c : Nat) : Bool :=
  ((allCourses s).any fun k => k.ctx = c) ||
  (s.queues.any fun kv => qCtx kv.2.cfg = c && !kv.2.cmds.isEmpty) ||
  (s.ports.any fun kv => kv.2.ops.any fun o => o.what = .mem && opCtx o = c && o.phase ≠ .finished)

/-- The last started item of an ENDING context has completed. -/
def endingDrained (c : Nat) (s : State) : State :=
  if ctxState s c = 3 && !(ctxBusy s c) then enterReleasing c .ok s else s

/-- What RELEASING does, then FREE (R320, R363). -/
def releaseContext (c : Nat) (s : State) : State :=
  if ctxState s c ≠ 4 then s
  else
    let st : Status := if fld (getCtx s c) 56 8 = 0 then .ok else .contextKilled
    let s := scanCounters c (abortWatches c st s)
    let s := endKeySlots c (releaseLoft c s)
    let s := closeAccums c (dropStores c (endRemote c s))
    setCtxState c 0 s

/-! ### Slices (R331, R333) -/

/-- The context that an engine works for: an array's running course, a copy engine's command. -/
def engineCtx (s : State) (e : Nat) : Option Nat :=
  if e < 192 then (runningCourse s e).map (·.ctx)
  else match (getEngine s (e - 192)).job with | some (q, _) => some (queueCtx s q) | none => none

/-- The contexts with other work in an engine's ready set. -/
def waitingCtxs (s : State) (e : Nat) : List Nat :=
  if e < 192 then ((getArr s e).courses.filter fun c => startable s c && (getArr s e).run ≠ some c.id).map (·.ctx)
  else (readyCmds s (e - 192)).map fun r => queueCtx s r.1

/-- A slice's time has passed: work of equal or higher priority of another context makes the engine pre-empt; otherwise a new
slice begins (R331). -/
def sliceEnds (e : Nat) (s : State) : State :=
  match engineCtx s e with
  | none => s
  | some c =>
    let x := getSlice s e
    if x.ctx ≠ some c || s.aoncnt < x.start + sliceLength s e c || x.endedAt.isSome then s
    else if (waitingCtxs s e).any fun d => d ≠ c && !(outranks s c d) then
      let s := modSlice e (fun y => { y with endedAt := some (y.start + sliceLength s e c) }) s
      if e < 192 then modArr e (fun y => { y with ask := true }) s else modEngine (e - 192) (fun y => { y with yields := true }) s
    else modSlice e (fun y => { y with start := s.aoncnt, short := 0 }) s

/-- A free engine chooses (R330, R332). -/
def engineChooses (e : Nat) (s : State) : State := if e < 192 then chooseCourse e s else chooseCopy (e - 192) s

/-! ### Remote waits (R334) -/

/-- The requests of an operation that wait for a peer's response. -/
def waitsOn (s : State) (w : Waiter) : Nat :=
  (s.peers.map fun kv => (kv.2.out.filter fun r => r.waiter = w && !r.landed && (r.op = 0 || r.op = 1)).length).foldl (· + ·) 0

/-- What an engine runs, as a waiter. -/
def engineWaiter (s : State) (e : Nat) : Option Waiter :=
  if e < 192 then (runningCourse s e).map fun c => .array e c.id
  else match (getEngine s (e - 192)).job with | some (q, idx) => some (.queueCmd q idx) | none => none

/-- An engine whose work waits on peers alone, while another context has work: the requests move into remote-wait records and
the engine pre-empts. With too few records it waits as for any input. -/
def remoteWait (e : Nat) (s : State) : State :=
  match engineWaiter s e, engineCtx s e with
  | some w, some c =>
    let n := waitsOn s w
    let fresh := (s.peers.map fun kv => (kv.2.out.filter fun r => r.waiter = w && !r.remote).length).foldl (· + ·) 0
    if n = 0 || s.sched.remoteFree < fresh || !((waitingCtxs s e).any fun d => d ≠ c) then s
    else
      let mark (r : PeerReq) : PeerReq := if r.waiter = w then { r with remote := true } else r
      let s := { s with peers := s.peers.map fun kv => (kv.1, { kv.2 with out := kv.2.out.map mark }), sched.remoteFree := s.sched.remoteFree - fresh }
      let s := count 0x6C00 0x0D s
      if e < 192 then modArr e (fun x => { x with ask := true }) s
      else match w with
        | .queueCmd q idx => engineYields e c (modCmd q idx (fun k => { k with engine := none }) (releaseEngine (e - 192) s))
        | _ => s
  | _, _ => s

/-! ### Accounting snapshots (R337) -/

/-- The snapshot record (Table 13.11). -/
def snapImage (s : State) (block : Bool) (c : Nat) : List Byte :=
  let l := if block then
      let a := acctList s.sched.total
      a.set 5 ((s.sched.total.energyFj + s.sched.tickNj * 1000000) / 1000000)
    else acctList (getAcct s c)
  let body := l.flatMap (toLe 8) ++ toLe 8 s.aoncnt ++ toLe 2 (wrappedBits l) ++ toLe 2 (if block then 0xFFFF else c) ++ toLe 16 0
  body ++ toLe 4 (crc32c body)

/-- ACCT_SNAP: the record is written, then the counter signalled. -/
def acctSnap (raw : BitVec 128) (s : State) : State × Status :=
  let c := fld raw 34 12
  let pa := fld raw 64 45 * 128
  if structVerdict s pa 128 ≠ .ok then (s, structVerdict s pa 128)
  else
    let s := structWrite c pa (snapImage s (flag raw 0) c) s
    (if flag raw 46 then (signalFor c (fld raw 47 17) 1 s).1 else s, .ok)

end Sys2Proof.Machine
end

