-- ==== Sys2Proof/Machine/Control.lean ====
section
/-! DEFINITION. Control actions (14): fencing each kind of unit (Table 14.7), kills, freezes. -/

namespace Sys2Proof.Machine

/-! ### Stack channels (R161) -/

/-- The stack granules whose unit lies in channel `c` of stack `k`. -/
def inChannel (s : State) (k c pa : Nat) : Bool := target pa = .stacks && stackOf s (offset pa) = (k, c)

/-- Fence a channel: its bit is set, pending accesses end DEAD_TARGET, the device-cache lines backed there are lost lines. -/
def fenceChannel (k c cause : Nat) (s : State) : State :=
  if (getStack s k).fenced.contains c || !(getStack s k).active then s
  else
    let s := modStack k (fun x => { x with fenced := x.fenced ++ [c] }) s
    let s := s.coh.dev.foldl (fun st kv =>
      if inChannel s k c (kv.1 * 256) then
        let st := (rangeFrom (4 * kv.1) 4).foldl (fun a g =>
          if shingleOf a g = .i then a else lostLine g 0xFF 2 { a with mem.poison := tset false a.mem.poison g true }) st
        setLine kv.1 none st
      else st) s
    let s := loseWhere (fun _ o => o.what = .mem && o.phase ≠ .start && o.phase ≠ .finished && (match o.phase with | .fault _ => false | _ => true) &&
      inChannel s k c o.pa) .deadTarget s
    capacityChanged true (0x5200 + 0x20 * k + c) cause s

/-! ### Near caches (R241, R316, R358) -/

/-- Fence the near cache of a core port: the agent is dead, its watches are released without a message. -/
def fenceNear (p cause : Nat) (s : State) : State :=
  if (getPort s p).nearFenced then s
  else
    let s := nearDies p s
    let s := endWatches 2 .deadTarget true (fun w => w.dest = .core p) s
    capacityChanged true (0x3000 + p) cause s

/-! ### Home slices (R244) -/

/-- The home slice that a granule has by its address alone. -/
def ownHome (g : Nat) : Nat := g / 4 % 48

/-- Fence a home slice: it takes no new request, and its copies are recalled (steps 1 and 2). A fence of the last unfenced home slice,
which has no substitute, is ignored (DESIGN CHOICE, log 164). -/
def fenceHome (h cause : Nat) (s : State) : State :=
  if tget 0 s.coh.homeState h ≠ 0 || ((List.range 48).filter fun k => tget 0 s.coh.homeState k = 0).length ≤ 1 then s
  else owe .homesMove { s with coh.homeState := tset 0 s.coh.homeState h 1, coh.homeCause := tset 0 s.coh.homeCause h cause }

/-- The granules that slice `h` homes and that its directory, or an open transaction, names. -/
def homeWork (s : State) (h : Nat) : List Nat :=
  (((s.coh.dir.filter fun kv => kv.2.st ≠ .invalid).map (·.1)) ++ (s.coh.txns.filterMap fun kv => kv.2.map fun _ => kv.1)).filter fun g => homeOf s g = h

/-- Steps 2 to 5 of R244 for a slice that is being fenced: every copy is recalled under its granule's transaction; once none is named and
none is open, the near caches drop its lines, its device-cache lines are released, and the substitute serves its granules with an empty
directory. No entry is unreadable (log 177). -/
def homeMoves (s : State) (h : Nat) : State :=
  if tget 0 s.coh.homeState h ≠ 1 then s
  else
    let s := (homeWork s h).foldl (recallCopies .wrNc) s
    if !(homeWork s h).isEmpty || (s.coh.wbs.any fun w => homeOf s w.2 = h) then s
    else
      let mine (g : Nat) : Bool := homeOf s g = h
      let s := ((s.coh.near.map (·.1)).filter fun k => mine (k % 2 ^ 46)).foldl (fun st k => setNear (k / 2 ^ 46) (k % 2 ^ 46) {} st) s
      let s := ((s.coh.dev.map (·.1)).filter fun l => mine (4 * l)).foldl (fun st l => evictLine l st) s
      serveQueued (capacityChanged true (0x6000 + h) (tget 0 s.coh.homeCause h) { s with coh.homeState := tset 0 s.coh.homeState h 2 })

/-- Every slice that is being fenced moves its work as far as it can. -/
def homesMove (s : State) : State := (List.range 48).foldl homeMoves s

/-! ### Walkers (R175, R360) -/

/-- The walker that takes a new or moved walk: the lowest unfenced one without a walk. -/
def freeWalker (s : State) : Option Nat :=
  (List.range 64).find? fun w => !(tget false s.tu.walkerFenced w) && (tget none s.tu.walks w).isNone

/-- The lowest free walker, or the next place in the line of walks that wait for one. -/
def walkPlace (s : State) : Nat := (freeWalker s).getD (s.tu.walks.foldl (fun m kv => max m (kv.1 + 1)) 64)

/-- Fence a walker; its walk restarts on another, with the misses merged on it (R175). -/
def fenceWalker (w cause : Nat) (s : State) : State :=
  if tget false s.tu.walkerFenced w then s
  else
    let job := tget none s.tu.walks w
    let s := { s with tu.walkerFenced := tset false s.tu.walkerFenced w true, tu.walks := tset none s.tu.walks w none }
    let s := match job with
      | some j => { s with tu.walks := tset none s.tu.walks (walkPlace s) (some j) }
      | none => s
    capacityChanged true (0x7000 + w) cause s

/-! ### Copy engines (R272, R277) -/

/-- Ask for an engine's fence at its next burst boundary; an idle engine is fenced at once. -/
def fenceEngine (e cause : Nat) (s : State) : State :=
  if (getEngine s e).fenced || (getEngine s e).fencing then s
  else fenceBoundary e (modEngine e (fun x => { x with fencing := true, fenceCause := cause }) s)

/-- Take an engine back into use. -/
def unfenceEngine (e : Nat) (s : State) : State :=
  let x := getEngine s e
  if x.fenced && x.job.isNone then capacityChanged false (0x8000 + e) 0 (modEngine e (fun y => { y with fenced := false, fencing := false }) s)
  else if x.fencing then modEngine e (fun y => { y with fencing := false }) s
  else s

/-! ### Actions (R355) -/

/-- Fence a unit under its own rule (Table 14.7). A unit that cannot be fenced, or is fenced, is left as it is. -/
def fenceUnit (unit cause : Nat) (s : State) : State :=
  let i := unit % 4096
  match unit / 4096 with
  | 3 => if i < 192 then fenceNear i cause s else s
  | 4 => if i < 192 then fenceArray i cause (if cause = 1 then 3 else if cause = 4 then 4 else if cause = 2 then 2 else 1) (if cause = 2 then some emptyRun else none) s else s
  | 5 => if 0x200 ≤ i && i < 0x2C0 then fenceChannel ((i - 0x200) / 32) (i % 32) cause s else s
  | 6 => if i < 48 then fenceHome i cause s else s
  | 7 => if i < 64 then fenceWalker i cause s else s
  | 8 => if i < 40 then fenceEngine i cause s else s
  | _ => s

/-- Kill a context for a control action: cause 1 raises its record; a kill for a line lost under R230 raises none. -/
def killAction (c cause : Nat) (s : State) : State :=
  if ctxState s c = 0 || ctxState s c = 4 then s
  else
    let s := pumpAll (killContext c s)
    if cause = 1 then raiseControl 2 1 0xA000 (some c) s else s

/-- The clocks stop (R426): 1 by FREEZE_N, 2 by a grace action. -/
def freezeNow (by' : Nat) (s : State) : State :=
  if s.freeze.state ≠ 0 then s else { s with freeze.state := by', freeze.aoncnt := s.aoncnt }

/-- A grace action of FREEZE: its record, which names the MP as its unit (DESIGN CHOICE, log 172), then the stop. -/
def freezeAction (s : State) : State :=
  if s.freeze.state ≠ 0 then s else freezeNow 2 (raiseControl 3 1 0xC000 none s)

end Sys2Proof.Machine
end

