-- ==== Sys2Proof/Machine/Peer.lean ====
section
/-! DEFINITION. Peer links (17): flits, credits and replay (R443, R444, R446); messages and their responses (R445); the
window table (R188, R189); requests of this block to its peers, their timeouts and their link's end (R215, R334). -/

namespace Sys2Proof.Machine

/-! ### Messages (Table 17.11) -/

def pmOp (m : BitVec 256) : Nat := fld m 80 8
def pmStatus (m : BitVec 256) : Nat := fld m 88 8
def pmTag (m : BitVec 256) : Nat := fld m 96 16
def pmSize (m : BitVec 256) : Nat := fld m 112 10
def pmBlocks (m : BitVec 256) : Nat := fld m 122 3
def pmPoison (m : BitVec 256) : Nat := fld m 125 4
def pmAop (m : BitVec 256) : Nat := fld m 129 4
def pmWindow (m : BitVec 256) : Nat := fld m 146 6
def pmOffset (m : BitVec 256) : Nat := fld m 152 40
def pmOperand (m : BitVec 256) : Nat := fld m 192 64

/-- A request of the wire: the other operations are responses. -/
def pmIsRequest (m : BitVec 256) : Bool := pmOp m < 0x80

/-- A message slot without SPDM bytes. -/
def pmMake (op st tag size blocks poison aop window offset operand : Nat) : BitVec 256 :=
  BitVec.ofNat 256 (pack [(80, 0), (8, op), (8, st), (16, tag), (10, size), (3, blocks), (4, poison), (4, aop), (13, 0),
    (6, window), (40, offset), (64, operand)])

/-- The 64 B blocks that `n` bytes take. -/
def blocksOf (n : Nat) : Nat := (n + 63) / 64

/-! ### Sending (R443, R444) -/

/-- The slots of a message: itself, then its data slots. -/
def slotsOf (m : BitVec 256) (data : List Byte) : List (Nat × Nat) :=
  (1, m.toNat) :: (List.range (2 * pmBlocks m)).map fun i => (2, ofLe ((data.drop (32 * i)).take 32))

/-- The last SEQ received intact. -/
def ackNow (p : PeerLink) : Nat := (p.recvSeq + 65535) % 65536

/-- A flit with these slots. It returns the credits that are owed, as far as its fields hold them. -/
def makeFlit (p : PeerLink) (seq : Nat) (ss : List (Nat × Nat)) : PeerFlit :=
  ⟨BitVec.ofNat 16 seq, BitVec.ofNat 16 (ackNow p), Fin.ofNat 64 (min 63 p.owedReq), Fin.ofNat 256 (min 255 p.owedData),
   BitVec.ofNat 14 (pack (ss.map fun x => (2, x.1))), BitVec.ofNat 1792 (pack (ss.map fun x => (256, x.2))), true, true⟩

/-- Send a flit of a kind that carries no slots (1 is NORMAL). -/
def sendControl (l kind : Nat) (s : State) : State :=
  let p := getPeer s l
  emit (.peerFlit l kind (makeFlit p p.sendSeq []))
    (modPeer l (fun x => { x with owedReq := x.owedReq - min 63 x.owedReq, owedData := x.owedData - min 255 x.owedData }) s)

/-- Send one NORMAL flit and keep it for replay. -/
def sendNormal (l : Nat) (ss : List (Nat × Nat)) (s : State) : State :=
  let p := getPeer s l
  let f := makeFlit p p.sendSeq ss
  emit (.peerFlit l 1 f) (modPeer l (fun x => { x with
    owedReq := x.owedReq - min 63 x.owedReq, owedData := x.owedData - min 255 x.owedData
    sendSeq := (x.sendSeq + 1) % 65536, flits := x.flits + 1, replay := x.replay ++ [(s.aoncnt, f)] }) s)

/-- The link lets a message go now: its credits, the replay buffer and the link's state (R444, R446). -/
def canSend (p : PeerLink) (x : BitVec 256 × List Byte) : Bool :=
  (p.state = 3 || (p.state = 2 && (pmOp x.1 = 0x06 || pmOp x.1 = 0x86))) &&
  p.replay.length + (1 + 2 * pmBlocks x.1 + 6) / 7 ≤ 512 &&
  (!(pmIsRequest x.1) || (1 ≤ p.reqCredits && 2 * pmBlocks x.1 ≤ p.dataCredits))

/-- The next message to send: requests and responses each go in order, and a response passes a request that has no credit. -/
def nextOut (p : PeerLink) : Option (BitVec 256 × List Byte) :=
  let r := (p.outq.find? fun x => pmIsRequest x.1).filter (canSend p)
  let a := (p.outq.find? fun x => !(pmIsRequest x.1)).filter (canSend p)
  match p.outq with
  | [] => none
  | x :: _ => if pmIsRequest x.1 then (match r with | some y => some y | none => a) else (match a with | some y => some y | none => r)

/-- Send what the link lets go, one message per group of flits. -/
def drainOut (l : Nat) : Nat → State → State
  | 0, s => s
  | n + 1, s =>
    match nextOut (getPeer s l) with
    | none => s
    | some x =>
      let ss := slotsOf x.1 x.2
      let s := modPeer l (fun p => { p with
        outq := p.outq.erase x
        reqCredits := if pmIsRequest x.1 then p.reqCredits - 1 else p.reqCredits
        dataCredits := if pmIsRequest x.1 then p.dataCredits - 2 * pmBlocks x.1 else p.dataCredits }) s
      let s := sendNormal l (ss.take 7) s
      drainOut l n (if 7 < ss.length then sendNormal l (ss.drop 7) s else s)

/-- Send all that the link lets go. -/
def drainPeer (l : Nat) (s : State) : State := drainOut l (getPeer s l).outq.length s

/-- Hand a message to the link. -/
def sendPeer (l : Nat) (m : BitVec 256) (data : List Byte) (s : State) : State :=
  drainPeer l (modPeer l (fun p => { p with outq := p.outq ++ [(m, data)] }) s)

/-! ### Requests of this block -/

/-- The peer timeout of a context (Table 13.1). -/
def peerLimit (s : State) (c : Nat) : Nat :=
  let t := fld (getCtx s c) 192 32
  if t = 0 then obj s 0x6C00 6 500000 else t

/-- The context of a waiting operation. -/
def waiterCtx (s : State) (w : Waiter) : Nat :=
  match w with
  | .portOp p id => match findOp s p id with | some o => opCtx o | none => 0
  | .array a id => match findCourse s a id with | some c => c.ctx | none => 0
  | .queueCmd q _ => queueCtx s q
  | .ds c => c

/-- The lowest tag that no request of the link holds. -/
def freeTag (out : List PeerReq) (n : Nat) : Nat :=
  ((List.range (n + 1)).find? fun k => !(out.any fun r => r.slot = k)).getD n

/-- The peer requests of an operation are gone, and responses to them will be discarded. -/
def dropRequests (w : Waiter) (s : State) : State :=
  let n := (s.peers.map fun kv => (kv.2.out.filter fun r => r.waiter = w && r.remote).length).foldl (· + ·) 0
  { s with peers := s.peers.map fun kv => (kv.1, { kv.2 with out := kv.2.out.filter fun r => r.waiter ≠ w }), sched.remoteFree := s.sched.remoteFree + n }

/-- Send one request of at most 256 bytes: op 0 READ, 1 WRITE, 2 ATOMIC, 4 PROBE. With the link down its operation ends
DEAD_TARGET (R188). -/
def sendRequest (w : Waiter) (op pa len : Nat) (m : Nat → BitVec 256) (data : List Byte) (s : State) : State :=
  let l := peerLinkOf pa
  let p := getPeer s l
  if p.state < 3 then owe (.failOp w .deadTarget) s
  else
    let k := freeTag p.out p.out.length
    let r : PeerReq := ⟨k, w, op, pa, len, s.aoncnt, peerLimit s (waiterCtx s w), false, false, [], false⟩
    sendPeer l (m k) data (modPeer l (fun x => { x with out := x.out ++ [r] }) s)

/-- Split a run of bytes into peerPieces of at most 256 bytes: offset and length of each. -/
def peerPieces (n : Nat) : List (Nat × Nat) := (List.range ((n + 255) / 256)).map fun i => (256 * i, min 256 (n - 256 * i))

/-- READ requests for a run of bytes. -/
def readPeer (w : Waiter) (pa n : Nat) (s : State) : State :=
  (peerPieces n).foldl (fun st x =>
    let a := pa + x.1
    sendRequest w 0 a x.2 (fun k => pmMake 1 0 k (x.2 - 1) 0 0 0 (peerWindowOf a) (peerOffsetOf a) 0) [] st) s

/-- WRITE requests for a run of bytes; poison goes with every block (R345). -/
def writePeer (w : Waiter) (pa : Nat) (bs : List Byte) (poison : Bool) (s : State) : State :=
  (peerPieces bs.length).foldl (fun st x =>
    let a := pa + x.1
    let b := blocksOf x.2
    sendRequest w 1 a x.2 (fun k => pmMake 2 0 k (x.2 - 1) b (if poison then 2 ^ b - 1 else 0) 0 (peerWindowOf a) (peerOffsetOf a) 0)
      ((bs.drop x.1).take x.2) st) s

/-- The PROBE of a window (R188): footprint and rights. -/
def probePeer (w : Waiter) (pa : Nat) (bs : List Byte) (s : State) : State :=
  sendRequest w 4 pa (ofLe (bs.take 8)) (fun k => pmMake 4 0 k 0 0 0 (ofLe (bs.drop 8)) (peerWindowOf pa) (peerOffsetOf pa) (ofLe (bs.take 8) - 1)) [] s

/-- What an operation sends to a peer: a WRITE, or with `op` 4 a PROBE. -/
def peerSend (w : Waiter) (op pa : Nat) (bs : List Byte) (poison : Bool) (s : State) : State :=
  if op = 4 then probePeer w pa bs s else writePeer w pa bs poison s

/-- The runs of bytes that a mask names: offset and length of each. -/
def maskRuns (m : Word) : List (Nat × Nat) :=
  (List.range 64).filterMap fun i =>
    if maskBit m i && (i = 0 || !(maskBit m (i - 1))) then
      some (i, ((List.range (64 - i)).takeWhile fun k => maskBit m (i + k)).length)
    else none

/-- A core-port request goes to its peer (Table 9.1). The operand of an ATOMIC travels in its data block. -/
def sendPortOp (p id : Nat) (s : State) : State :=
  match findOp s p id with
  | none => s
  | some o =>
    let w : Waiter := .portOp p id
    let here := s.peers.any fun kv => kv.2.out.any fun r => r.waiter = w
    if here then s
    else
      let s := modOp p id (fun x => { x with phase := .peer 0, sent := true }) s
      if opCode o = opStore || opCode o = opCstore then
        let rs := maskRuns o.req.mask
        if rs.isEmpty then owe (.pump p) (finishOp p id .ok false 0 s)
        else rs.foldl (fun st x => writePeer w (o.pa / 64 * 64 + x.1) ((List.range x.2).map fun i => lineByte o.req.data (x.1 + i)) false st) s
      else if opCode o = opAtomic then
        let n := opLen o
        let at_ (k : Nat) := nbits o.req.data.toNat (8 * k) (8 * n)
        sendRequest w 2 o.pa n (fun k => pmMake 3 0 k (n - 1) 1 0 (atAop o.req.attr) (peerWindowOf o.pa) (peerOffsetOf o.pa)
          (at_ (reqOff o.req ^^^ 32))) (toLe 64 (at_ (reqOff o.req))) s
      else readPeer w o.pa (opLen o) s

/-! ### The window table (R189) -/

def winIdx (l w : Nat) : Nat := 0x5410 + 64 * l + w
def winControl (s : State) (l w : Nat) : Nat := obj s (winIdx l w) 1 0
def winPresent (s : State) (l w : Nat) : Bool := nbit (winControl s l w) 0
def winBase (s : State) (l w : Nat) : Nat := obj s (winIdx l w) 2 0
def winPages (s : State) (l w : Nat) : Nat := obj s (winIdx l w) 3 0
def winCtx (s : State) (l w : Nat) : Nat := obj s (winIdx l w) 4 0
def winSlot (s : State) (l w : Nat) : Nat := obj s (winIdx l w) 5 0

/-- What the window table says of an access (Table 7.10): `probe` for one of a PROBE. -/
def windowVerdict (s : State) (l w off len need : Nat) (probe : Bool) : Status :=
  if !(winPresent s l w) then (if !probe && (getPeer s l).grants.contains w then .deadTarget else .xlateFault)
  else worst (if winPages s l w * 4096 < off + len then .boundFault else .ok) (if need &&& (winControl s l w / 2 % 8) ≠ need then .rightsFault else .ok)

/-- A refused probe or request is counted (Tables 7.11, 7.13). -/
def countRefusal (l w : Nat) (s : State) : State := count (winIdx l w) 6 (count 0x5400 2 s)

/-! ### Receiving messages -/

/-- The local address of a message's access through its window (R189). -/
def messagePa (s : State) (l : Nat) (m : BitVec 256) : Nat := winBase s l (pmWindow m) + pmOffset m

/-- Two reads, writes or atomics of a link overlap, at the addresses that their windows give. -/
def messagesOverlap (s : State) (l : Nat) (a b : BitVec 256) : Bool :=
  messagePa s l a < messagePa s l b + (pmSize b + 1) && messagePa s l b < messagePa s l a + (pmSize a + 1)

/-- The peer proxy of a link (Table 0.8). -/
def peerProxy (l : Nat) : Nat := 0xF1 + l

/-- The message of an operation that is served next: the oldest one that the link has received, but for reads, writes and
atomics behind an older one that they overlap (Table 8.1, R192). -/
def inboxMsg (s : State) (l op : Nat) : Option (BitVec 256 × List Byte) :=
  let box := (getPeer s l).inbox
  let memory (m : BitVec 256) : Bool := 1 ≤ pmOp m && pmOp m ≤ 3
  ((List.range box.length).find? fun i => match box[i]? with
    | some x => pmOp x.1 = op && (!(memory x.1) || !((box.take i).any fun y => memory y.1 && messagesOverlap s l y.1 x.1))
    | none => false).bind fun i => box[i]?

/-- Take a message off the link. A request's credits go back with the next flit, an IDLE one sent at once. -/
def takeInbox (l : Nat) (x : BitVec 256 × List Byte) (s : State) : State :=
  let s := modPeer l (fun p => { p with
    inbox := p.inbox.erase x
    owedReq := if pmIsRequest x.1 then p.owedReq + 1 else p.owedReq
    owedData := if pmIsRequest x.1 then p.owedData + 2 * pmBlocks x.1 else p.owedData }) s
  if pmIsRequest x.1 then sendControl l 0 s else s

/-- Answer a request of a peer. -/
def respond (l op : Nat) (m : BitVec 256) (st : Status) (poison : Nat) (data : List Byte) (s : State) : State :=
  sendPeer l (pmMake op st.code (pmTag m) 0 (blocksOf data.length) poison 0 0 0 0) data s

/-- Serve a READ, WRITE or ATOMIC at the window's local address, as its context and with its key slot. The message is taken off the
link once its blocks have passed their checks (R125) and the home slices have granted them (R231). -/
def peerAccess (l op need : Nat) (x : BitVec 256 × List Byte) (s0 : State) (good : Nat → State → State) : State :=
  let m := x.1
  let w := pmWindow m
  let n := pmSize m + 1
  let s := takeInbox l x s0
  if 256 < n then respond l op m .malformed 0 [] s
  else match windowVerdict s l w (pmOffset m) n need false with
    | .ok =>
      let pa := messagePa s l m
      (match accessVerdict s (winCtx s l w) (winSlot s l w) pa n with
       | .ok =>
         let at_ : List Extent := [⟨0, pa, n, winSlot s l w, 0, false, false⟩]
         let ready := accessReady (peerProxy l) (winCtx s l w) at_ (if need = needR then [] else at_) s0
         if !ready.1 || (granulesOf pa n).any (unchecked s0 (0x2000 + l)) then ready.2
         else good pa (softAccess pa n (need ≠ needR) (takeInbox l x ready.2))
       | st => respond l op m st 0 [] (countSlot s (winCtx s l w) (winSlot s l w) pa s))
    | st => respond l op m st 0 [] (countRefusal l w s)

/-- A READ message (R445). -/
def servePeerRead (l : Nat) (s : State) : State :=
  match inboxMsg s l 1 with
  | none => s
  | some x =>
    let m := x.1
    peerAccess l 0x81 needR x s fun pa s =>
      let c := winCtx s l (pmWindow m)
      let n := pmSize m + 1
      let bad := pack ((List.range (blocksOf n)).map fun j => (1, b2n (runPoison s c (pa + 64 * j) (min 64 (n - 64 * j)))))
      let (bs, s) := homeRead c (winSlot s l (pmWindow m)) pa n 0 s
      respond l 0x81 m .ok bad bs s

/-- A WRITE message (R445). -/
def servePeerWrite (l : Nat) (s : State) : State :=
  match inboxMsg s l 2 with
  | none => s
  | some x =>
    let m := x.1
    if pmBlocks m ≠ blocksOf (pmSize m + 1) then respond l 0x82 m .malformed 0 [] (takeInbox l x s)
    else peerAccess l 0x82 needW x s fun pa s =>
      let n := pmSize m + 1
      let s := (List.range (blocksOf n)).foldl (fun st j =>
        let st := if nbit (pmPoison m) j then poisonCreated (0x2000 + l) (some (winCtx st l (pmWindow m))) 2 ((pa + 64 * j) / 64) st else st
        homeWrite (winCtx st l (pmWindow m)) (winSlot st l (pmWindow m)) (pa + 64 * j) ((x.2.drop (64 * j)).take (min 64 (n - 64 * j)))
          (nbit (pmPoison m) j) 0 st) s
      respond l 0x82 m .ok 0 [] s

/-- An ATOMIC message of 4 or 8 bytes (Table 8.8). A poisoned granule makes it change nothing (R346). -/
def servePeerAtomic (l : Nat) (s : State) : State :=
  match inboxMsg s l 3 with
  | none => s
  | some x =>
    let m := x.1
    let n := pmSize m + 1
    if !((n = 4 || n = 8) && pmOffset m % n = 0 && pmAop m < 10 && pmBlocks m = 1) then respond l 0x83 m .malformed 0 [] (takeInbox l x s)
    else peerAccess l 0x83 needRWA x s fun pa s =>
      let c := winCtx s l (pmWindow m)
      let k := winSlot s l (pmWindow m)
      if runPoison s c pa n then respond l 0x83 m .poisonConsumed 0 [] (raisePoisonConsumed (0x2000 + l) (some c) 3 pa 1 s)
      else
        let (bs, s) := homeRead c k pa n 0 s
        let new := atomicNew (pmAop m) (8 * n) (ofLe bs) (ofLe (x.2.take n)) (pmOperand m % 2 ^ (8 * n))
        respond l 0x83 m .ok 0 bs (homeWrite c k pa (toLe n new) false 0 s)

/-- A PROBE message (R188). -/
def servePeerProbe (l : Nat) (s : State) : State :=
  match inboxMsg s l 4 with
  | none => s
  | some x =>
    let m := x.1
    let w := pmWindow m
    let s := takeInbox l x s
    match windowVerdict s l w (pmOffset m) (pmOperand m % 2 ^ 40 + 1) (pmAop m % 8) true with
    | .ok => respond l 0x84 m .ok 0 [] (modPeer l (fun p => { p with grants := p.grants.erase w ++ [w] }) s)
    | st => respond l 0x84 m st 0 [] (countRefusal l w s)

/-- A SYNC message signals a counter whose PEER_ALLOW names the link, for the counter's context (R303). -/
def servePeerSync (l : Nat) (s : State) : State :=
  match inboxMsg s l 5 with
  | none => s
  | some x =>
    let c := nbits (pmOperand x.1) 32 17
    let w := ctrlOf s.sync c
    let s := takeInbox l x s
    if flag w 0 && flag w (8 + l) && c < 131072 then
      let (s, st) := signalFor (fld w 20 12) c (pmOperand x.1 % 2 ^ 32) s
      respond l 0x85 x.1 st 0 [] s
    else respond l 0x85 x.1 .rightsFault 0 [] s

/-! ### Responses -/

/-- The request that a response answers. -/
def answered (s : State) (l op tag : Nat) : Option PeerReq := (getPeer s l).out.find? fun r => r.slot = tag && r.op = op && !r.landed

/-- Take one request off the link, freeing its remote-wait record. -/
def dropRequest (l : Nat) (r : PeerReq) (s : State) : State :=
  let s := modPeer l (fun p => { p with out := p.out.filter fun x => x.slot ≠ r.slot }) s
  if r.remote then { s with sched.remoteFree := s.sched.remoteFree + 1 } else s

/-- A request fails: its operation ends with the status, and its other requests are forgotten (R188, R215, R334). -/
def requestFails (r : PeerReq) (st : Status) (s : State) : State :=
  match r.waiter with
  | .portOp _ _ => owe (.failOp r.waiter st) (dropRequests r.waiter s)
  | _ => owe (.failOp r.waiter st) (dropRequests r.waiter s)

/-- Requests of an operation that await their responses. -/
def requestsLeft (s : State) (w : Waiter) : Bool := s.peers.any fun kv => kv.2.out.any fun r => r.waiter = w && !r.landed

/-- READ_RSP: the data goes to a core port's request at once, and is held for an array or a copy (R334). -/
def takeReadRsp (l : Nat) (s : State) : State :=
  match inboxMsg s l 0x81 with
  | none => s
  | some x =>
    let s := takeInbox l x s
    match answered s l 0 (pmTag x.1) with
    | none => s
    | some r =>
      match statusOfCode (pmStatus x.1) with
      | .ok =>
        let bad := pmPoison x.1 ≠ 0
        let s := if bad then poisonCreated (0x2000 + l) none 1 (r.pa / 64) s else s
        (match r.waiter with
         | .portOp p id =>
           let s := dropRequest l r s
           (match findOp s p id with
            | none => s
            | some o =>
              if bad then owe (.pump p) (finishOp p id .poisonConsumed false 0 (raisePoisonConsumed (0x3000 + p) (some (opCtx o)) 1 o.req.va.toNat 2 s))
              else owe (.pump p) (finishOp p id .ok false (BitVec.ofNat 512 (ofLe (x.2.take r.len) * 2 ^ (8 * reqOff o.req))) s))
         | _ =>
           let f (y : PeerReq) : PeerReq := if y.slot = r.slot then { y with landed := true, data := x.2.take r.len, bad := bad } else y
           modPeer l (fun p => { p with out := p.out.map f }) s)
      | st => requestFails r st s

/-- WRITE_ACK: the write is performed (Table 8.3). -/
def takeWriteAck (l : Nat) (s : State) : State :=
  match inboxMsg s l 0x82 with
  | none => s
  | some x =>
    let s := takeInbox l x s
    match answered s l 1 (pmTag x.1) with
    | none => s
    | some r =>
      match statusOfCode (pmStatus x.1) with
      | .ok =>
        let s := dropRequest l r s
        (match r.waiter with
         | .portOp p id => if requestsLeft s r.waiter then s else owe (.pump p) (finishOp p id .ok false 0 s)
         | .array a _ => owe (.arrayDone a) s
         | _ => s)
      | st => requestFails r st s

/-- ATOMIC_RSP: the old value goes to the core port's request. -/
def takeAtomicRsp (l : Nat) (s : State) : State :=
  match inboxMsg s l 0x83 with
  | none => s
  | some x =>
    let s := takeInbox l x s
    match answered s l 2 (pmTag x.1) with
    | none => s
    | some r =>
      match statusOfCode (pmStatus x.1), r.waiter with
      | .ok, .portOp p id =>
        let s := dropRequest l r s
        (match findOp s p id with
         | none => s
         | some o => owe (.pump p) (finishOp p id .ok false (BitVec.ofNat 512 (ofLe (x.2.take r.len) * 2 ^ (8 * reqOff o.req))) s))
      | .ok, _ => dropRequest l r s
      | st, _ => requestFails r st s

/-- Every probe of an operation is granted: a copy goes to its engine; a course may start (R188). -/
def probesGranted (w : Waiter) (s : State) : State :=
  match w with
  | .queueCmd q idx => placeCmd q idx (modCmd q idx (fun c => { c with probing := false }) s)
  | _ => s

/-- PROBE_RSP: a grant, or the operation ends with the refusal. -/
def takeProbeRsp (l : Nat) (s : State) : State :=
  match inboxMsg s l 0x84 with
  | none => s
  | some x =>
    let s := takeInbox l x s
    match answered s l 4 (pmTag x.1) with
    | none => s
    | some r =>
      match statusOfCode (pmStatus x.1) with
      | .ok => let s := dropRequest l r s; if requestsLeft s r.waiter then s else probesGranted r.waiter s
      | st => requestFails r st s

/-- SYNC_RSP: this block sends no SYNC (no operation of the spec makes one), so the response has no request and is dropped. -/
def takeSyncRsp (l : Nat) (s : State) : State :=
  match inboxMsg s l 0x85 with
  | none => s
  | some x => takeInbox l x s

/-! ### Session set-up (R423) -/

/-- SPDM bytes over the link: the responder's answer, and the session that set-up ends with. -/
def takePeerSpdm (l op : Nat) (answer : List Byte) (session : Option Nat) (s : State) : State :=
  match inboxMsg s l op with
  | none => s
  | some x =>
    let s := takeInbox l x s
    let s := match session with
      | some k => if (getPeer s l).state = 2 then modPeer l (fun p => { p with state := 3, session := some k, flits := 0, tagRun := 0 }) s else s
      | none => s
    let reply := if op = 6 then 0x86 else 0x06
    let s := (List.range ((answer.length + 9) / 10)).foldl (fun st i =>
      sendPeer l (BitVec.ofNat 256 (ofLe ((answer.drop (10 * i)).take 10) + reply * 2 ^ 80)) [] st) s
    drainPeer l s

/-! ### The link (R444, R446) -/

/-- Take acknowledged flits out of the replay buffer, and the returned credits in. -/
def takeAck (l : Nat) (f : PeerFlit) (s : State) : State :=
  let keep := (getPeer s l).replay.filter fun r => !(serialGe 16 f.ack.toNat r.2.seq.toNat)
  let moved := keep.length < (getPeer s l).replay.length
  drainPeer l (modPeer l (fun p => { p with
    replay := keep, rounds := if moved then 0 else p.rounds
    reqCredits := p.reqCredits + f.reqCredits.val, dataCredits := p.dataCredits + f.dataCredits.val }) s)

/-- The link goes down (R444): its unperformed writes are lost, the requests that wait on it end DEAD_TARGET (R215). -/
def peerDown (l : Nat) (s : State) : State :=
  let p := getPeer s l
  if p.state = 0 then s
  else
    let s := raise ⟨0x0A, 0x2000 + l, none, 0, 0, 0, .deadTarget, 0⟩ (count (0x5401 + l) 6 (setLinkState (l + 2) 0 s))
    let lost := p.out.filter fun r => !r.landed
    let kept := p.out.filter fun r => r.landed
    let n := (lost.filter fun r => r.remote).length
    let s := countN 0x6C00 0x0F n s
    let s := modPeer l (fun _ => { out := kept }) { s with sched.remoteFree := s.sched.remoteFree + n }
    let s := (lost.map (·.waiter)).eraseDups.foldl (fun st w => owe (.failOp w .deadTarget) (dropRequests w st)) s
    loseWhere (fun _ o => o.phase = .buffered && target o.pa = .peer && peerLinkOf o.pa = l) .deadTarget s

/-- Discard a bad flit: NAK names the last good one. -/
def discardFlit (l : Nat) (again : Bool) (s : State) : State :=
  if again && (getPeer s l).nakSent then s
  else sendControl l 2 (modPeer l (fun p => { p with nakSent := true, part := none }) s)

/-- Put the slots of a flit together to messages. -/
def takeSlots (f : PeerFlit) (p : PeerLink) : PeerLink :=
  (List.range 7).foldl (fun p i =>
    let v := f.body.extractLsb' (256 * i) 256
    match fld f.slots (2 * i) 2 with
    | 1 => if pmBlocks v = 0 then { p with inbox := p.inbox ++ [(v, [])] } else { p with part := some (v, []) }
    | 2 =>
      match p.part with
      | none => p
      | some (m, bs) =>
        let bs := bs ++ toLe 32 v.toNat
        if 64 * pmBlocks m ≤ bs.length then { p with inbox := p.inbox ++ [(m, bs)], part := none } else { p with part := some (m, bs) }
    | _ => p) p

/-- A NORMAL flit (R444). Without a session, the tag is zero and only session set-up travels (R443). -/
def flitNormal (l : Nat) (f : PeerFlit) (s : State) : State :=
  let p := getPeer s l
  if p.state ≠ 2 && p.state ≠ 3 then s
  else if !f.crcOk then discardFlit l false (count (0x5401 + l) 4 s)
  else if p.session.isSome && !f.tagOk then
    let s := count (0x5401 + l) 5 (modPeer l (fun x => { x with tagRun := x.tagRun + 1 }) s)
    if 3 ≤ p.tagRun + 1 then peerDown l s else discardFlit l false s
  else if f.seq.toNat ≠ p.recvSeq then discardFlit l true s
  else
    let keep (x : PeerLink) : PeerLink :=
      if x.session.isSome then x else { x with inbox := x.inbox.filter fun m => pmOp m.1 = 0x06 || pmOp m.1 = 0x86 }
    let s := modPeer l (fun x => keep (takeSlots f { x with recvSeq := (x.recvSeq + 1) % 65536, tagRun := 0, nakSent := false })) s
    sendControl l 0 (takeAck l f s)

/-- An IDLE flit: acknowledgement and credits. -/
def flitIdle (l : Nat) (f : PeerFlit) (s : State) : State :=
  if (getPeer s l).state < 2 || !f.crcOk then s else takeAck l f s

/-- A NAK: every unacknowledged flit goes again, in order; the eighth round without progress takes the link down (R444). -/
def flitNak (l : Nat) (f : PeerFlit) (s : State) : State :=
  if (getPeer s l).state < 2 || !f.crcOk then s
  else
    let s := takeAck l f s
    let p := getPeer s l
    if p.replay.isEmpty then s
    else if 8 ≤ p.rounds then peerDown l s
    else
      p.replay.foldl (fun st r => raise ⟨9, 0x2000 + l, none, 0, 0, 0x0B, .ok, 0⟩ (count (0x5401 + l) 3 (emit (.peerFlit l 1 r.2) st)))
        (modPeer l (fun x => { x with rounds := x.rounds + 1 }) s)

/-- A HOLD flit: the link is held (R446). -/
def flitHold (l : Nat) (f : PeerFlit) (s : State) : State :=
  if (getPeer s l).state ≠ 3 || !f.crcOk then s
  else sendControl l 0 (modPeer l (fun p => { p with state := 4, heldSince := s.aoncnt }) s)

/-- A HOLD_EXIT flit ends the hold; timeouts run on from where they stood. -/
def flitHoldExit (l : Nat) (f : PeerFlit) (s : State) : State :=
  if (getPeer s l).state ≠ 4 || !f.crcOk then s
  else drainPeer l (modPeer l (fun p => { p with state := 3, out := p.out.map fun r => { r with issued := r.issued + (s.aoncnt - p.heldSince) } }) s)

/-- No ACK within 100 µs (5,000 ticks) of a NORMAL flit. -/
def ackTimedOut (l : Nat) (s : State) : State :=
  let p := getPeer s l
  match p.replay with
  | r :: _ => if (p.state = 2 || p.state = 3) && r.1 + 5000 ≤ s.aoncnt then peerDown l s else s
  | [] => s

/-- The flits of a replay buffer without a WRITE message: its flits keep their numbers and carry empty slots. `more` says that the
message goes on in the first of them. -/
def withoutWrite (tag : Nat) : Bool → List (Nat × PeerFlit) → List (Nat × PeerFlit)
  | _, [] => []
  | more, x :: rest =>
    let m := x.2.body.extractLsb' 0 256
    let starts := fld x.2.slots 0 2 = 1 && pmOp m = 2 && pmTag m = tag
    if more || starts then (x.1, { x.2 with slots := 0, body := 0 }) :: withoutWrite tag (starts && 3 < pmBlocks m) rest
    else x :: withoutWrite tag false rest

/-- The writes of an operation that are declared lost leave the queues of their links (R215). -/
def dropWrites (w : Waiter) (s : State) : State :=
  s.peers.foldl (fun st kv => kv.2.out.foldl (fun st r =>
    if r.waiter = w && r.op = 1 && !r.landed then
      modPeer kv.1 (fun p => { p with outq := p.outq.filter fun x => !(pmOp x.1 = 2 && pmTag x.1 = r.slot)
                                      replay := withoutWrite r.slot false p.replay }) st
    else st) st) s

/-- A request has had no response within its peer timeout (R188, R215, R334). -/
def requestTimedOut (l slot : Nat) (s : State) : State :=
  let p := getPeer s l
  match p.out.find? fun r => r.slot = slot && !r.landed with
  | none => s
  | some r =>
    if p.state ≠ 4 && r.issued + r.limit ≤ s.aoncnt then
      requestFails r .timeout (dropWrites r.waiter (if r.remote then count 0x6C00 0x0F s else s))
    else s

/-- The link has trained: its session is set up before it carries anything else (R446). -/
def peerTrained (l lanes : Nat) (s : State) : State :=
  if (getPeer s l).state ≤ 1 then setLinkState (l + 2) 1 (modPeer l (fun p => { out := p.out, state := 2, lanes := lanes }) s) else s

end Sys2Proof.Machine
end

