-- ==== Sys2Proof/Machine/Inval.lean ====
section
/-! DEFINITION. The translation unit at work: walks (R174, R175), invalidations (R185 to R187), migration copies (R184). -/

namespace Sys2Proof.Machine

/-! ### Walks -/

/-- The TLBs in which an operation looks (R173). -/
def waiterTlbs (w : Waiter) : List Nat :=
  match w with
  | .portOp p _ => tlbsOfPort p
  | .array a _ => tlbsOfArray a
  | _ => tlbsOfService

/-- A TLB miss starts a walk on the lowest free walker, or in the line for one, or joins the walk of its space and top slot in flight. -/
def walkStarts (w : Waiter) (space va : Nat) (s : State) : State :=
  if !(spaceOn (getSpace s space)) || (tlbFind s (waiterTlbs w) space va).isSome then s
  else match walkOf s space va with
    | some k => joinWalk k w s
    | none => count 0x5800 0x06 { s with tu.walks := tset none s.tu.walks (walkPlace s) (some ⟨space, va, [w], false⟩) }

/-- A walk returns: its entry fills the TLBs of every miss that it serves; a miss that it does not map, and every miss of a
failed walk, goes on with its own check, which raises the record or starts its own walk. -/
def walkReturns (k : Nat) (s : State) : State :=
  match tget none s.tu.walks k with
  | none => s
  | some j =>
    let r := walk s j.space j.va
    let s := noteWalk j.space j.va s
    let s := match r with
      | .found e => (j.misses.map waiterTlbs).eraseDups.foldl (fun st ts => tlbFill ts j.space j.va e st) s
      | _ => s
    let s := { s with tu.walks := tset none s.tu.walks k (some { j with back := true }) }
    owe (.walkDone k) (j.misses.foldl (fun st w => owe (.retryOp w) st) (takeFree s))

/-! ### Address spaces (R166) -/

/-- The TLB entries of a space go. -/
def dropTlbs (a : Nat) (s : State) : State := { s with tu.tlb := s.tu.tlb.filter fun x => x.space ≠ a }

/-- A walk of the space is in flight. -/
def spaceWalks (s : State) (a : Nat) : Bool := s.tu.walks.any fun kv => match kv.2 with | some j => j.space = a | none => false

/-- A space whose ENABLE = 0 waited for its walks is switched off once none is in flight (R166). -/
def closeSpace (a : Nat) (s : State) : State :=
  if s.tu.closing.contains a && !(spaceWalks s a) then
    dropTlbs a { s with tu.closing := s.tu.closing.filter fun x => x ≠ a
                        tu.spaces := tset 0 s.tu.spaces a (BitVec.ofNat 128 (putBits (getSpace s a).toNat 0 1 0)) }
  else s

/-- A walker is free again: the walk first in line takes it, unless it is fenced. -/
def walkDone (k : Nat) (s : State) : State :=
  let space := match tget none s.tu.walks k with | some j => j.space | none => 4096
  let s := { s with tu.walks := tset none s.tu.walks k none }
  let s := match s.tu.walks.find? (fun kv => 64 ≤ kv.1), freeWalker s with
    | some (n, j), some m => { s with tu.walks := tset none (tset none s.tu.walks n none) m j }
    | _, _ => s
  closeSpace space s

/-- Write the entry of a space. ENABLE = 0 takes effect once the walks of the space in flight have returned (R166; log 161). -/
def writeSpace (a : Nat) (raw : BitVec 128) (s : State) : State :=
  let new : BitVec 128 := BitVec.ofNat 128 (pack [(1, fld raw 0 1), (1, 0), (2, fld raw 2 2), (16, 0), (12, fld raw 20 12), (32, fld raw 32 32)])
  let old := getSpace s a
  if flag old 0 && fld old 2 62 ≠ fld new 2 62 then count 0x5800 0x0C s
  else
    let s := { s with tu.closing := s.tu.closing.filter fun x => x ≠ a }
    if flag new 0 then { s with tu.spaces := tset 0 s.tu.spaces a new }
    else
      let s := dropTlbs a s
      if flag old 0 && spaceWalks s a then { s with tu.closing := s.tu.closing ++ [a] }
      else { s with tu.spaces := tset 0 s.tu.spaces a new }

/-! ### Invalidations -/

/-- Some run of translated bytes lies in pages that the command covers. -/
def footCovered (c : BitVec 128) (space : Nat) (foot : List Extent) : Bool :=
  foot.any fun x => invCovers c space (x.va / 4096) ((x.va % 4096 + x.len + 4095) / 4096)

/-- A course holds its footprint's translation from its check until its result; a saved one checks again. -/
def courseHolds (c : Course) : Bool :=
  match c.stage with
  | .ready => true
  | .running => true
  | .draining _ _ _ => true
  | .writing _ _ => true
  | _ => false

/-- The operations that hold a translation that the command covers (R186). -/
def invHolders (raw : BitVec 128) (s : State) : List Waiter :=
  let spaceOf (c : Nat) : Nat := fld (getCtx s c) 116 12
  (s.arrays.arr.flatMap fun kv => (kv.2.courses.filter fun c => courseHolds c && footCovered raw (spaceOf c.ctx) c.foot).map fun c => .array kv.1 c.id) ++
  (s.queues.flatMap fun kv => (kv.2.cmds.filter fun c => c.footOk && footCovered raw (spaceOf (queueCtx s kv.1)) c.foot).map fun c => .queueCmd kv.1 c.idx) ++
  (s.ports.flatMap fun kv => (kv.2.ops.filter fun o =>
    o.what = .mem && !(isBarrier o) && o.phase ≠ .start && o.phase ≠ .finished && (match o.phase with | .fault _ => false | _ => true) &&
    invCovers raw (spaceOf (opCtx o)) (o.req.va.toNat / 4096) 1).map fun o => .portOp kv.1 o.id)

/-- An operation has ended all its accesses. -/
def holderEnded (s : State) (w : Waiter) : Bool :=
  match w with
  | .portOp p id => match findOp s p id with | some o => o.phase = .finished | none => true
  | .array _ id => s.arrays.arr.all fun kv => kv.2.courses.all fun c =>
      c.id ≠ id || (isSaved c && outputsPerformed s kv.1 c c.wrote.1 c.wrote.2)
  | .queueCmd q idx => (findCmd s q idx).isNone
  | .ds _ => true

/-- FORCE (R187): a course is pre-empted and checks again as it resumes; one that has not started is checked again at once; a
copy checks again at its next burst boundary. -/
def forceHolder (s : State) (w : Waiter) : State :=
  match w with
  | .array a id =>
    (match findCourse s a id with
     | none => s
     | some c => match c.stage with
       | .ready => dropHolder w (modCourse a id (fun x => { x with stage := .issued, foot := [] }) (dropRequests w s))
       | .running => modArr a (fun x => { x with ask := true }) s
       | _ => s)
  | .queueCmd q idx =>
    (match findCmd s q idx with
     | none => s
     | some c => match c.engine with
       | some _ => modCmd q idx (fun k => { k with recheck := true }) s
       | none =>
         if c.fin.isNone && c.footOk && slOp c.slot ≠ 9 then checkCopy none q idx (modCmd q idx (fun k => { k with footOk := false }) s) else s)
  | _ => s

/-- The completion of a malformed command at the front comes at once. -/
def passMalformed : List InvalCmd → Nat → List InvalCmd × Nat × Nat
  | [], d => ([], d, 0)
  | i :: is, d => if invMalformed i.raw then (let (l, e, n) := passMalformed is i.seq; (l, e, n + 1)) else (i :: is, d, 0)

/-- INVAL_DONE advances over malformed commands, in sequence order. -/
def advanceInvals (s : State) : State :=
  let (l, d, n) := passMalformed s.tu.invals s.tu.invDone
  countN 0x5800 0x0A n { s with tu.invals := l, tu.invDone := d }

/-- An invalidation command (R186). -/
def invalidate (raw : BitVec 128) (s : State) : State :=
  let seq := (s.tu.issued + 1) % 2 ^ 32
  if invMalformed raw then
    advanceInvals (count 0x5800 0x0C { s with tu.issued := seq, tu.invals := s.tu.invals ++ [⟨seq, raw, []⟩] })
  else
    let hs := invHolders raw s
    let s := invApply raw { s with tu.issued := seq, tu.invals := s.tu.invals ++ [⟨seq, raw, hs⟩] }
    if invForce raw then hs.foldl forceHolder s else s

/-- The oldest invalidation completes once every holder has ended (R186). -/
def invalCompletes (s : State) : State :=
  match s.tu.invals with
  | [] => s
  | i :: is =>
    if i.holders.all (holderEnded s) then
      advanceInvals (count 0x5800 0x0A { s with tu.invals := is, tu.invDone := i.seq })
    else s

/-! ### Migration on fault (R184) -/

/-- The invalidation command that a migration's grain amounts to. -/
def grainInval (r : PfRec) : BitVec 128 := BitVec.ofNat 128 (pack [(1, 1), (35, 0), (12, r.space), (36, r.grainPages), (44, r.grainLo)])

/-- An idle migration takes the lowest idle host-to-device engine. -/
def placeMigration (id : Nat) (s : State) : State :=
  if s.engines.any fun kv => kv.2.migrate = some id then s
  else match (List.range 16).find? (engineIdle s) with
    | some e => modEngine e (fun x => { x with migrate := some id }) s
    | none => s

/-- MIGRATE_COPY of a RESOLVE (R182, R184). The destination is a grain of the stacks, aligned to the grain size; a command with another
DEST, one outside the stacks or beyond their present size is no valid one: ignored and counted, as R182 has it for any other that
is not valid (DESIGN CHOICE, log 160), and so is a second MIGRATE_COPY while the first one's copy has not been made (DESIGN CHOICE,
log 174). -/
def startMigration (raw : BitVec 128) (s : State) : State :=
  match resolvable s raw with
  | none => count 0x5800 0x0C s
  | some (id, r) =>
    let dest := fld raw 88 40 * 4096
    let grain := grainPages (getSpace s r.space) * 4096
    if r.kind ≠ 2 || r.copied || r.moving.isSome || target dest ≠ .stacks || dest % grain ≠ 0 || stackBytes s < offset dest + r.grainPages * 4096 then
      count 0x5800 0x0C s
    else
      let hs := invHolders (grainInval r) s
      let s := setRec id (some { r with moving := some dest, drain := hs }) s
      placeMigration id (hs.foldl forceHolder s)

/-- A migration copy ends (R184): the bytes, once its blocks have passed their checks (R125, R341) and the home slices grant them (R231),
or the status of its failure; the record is written again. -/
def migrationDone (e : Nat) (st : Status) (ext : Ext) (s : State) : State :=
  match (getEngine s e).migrate with
  | none => s
  | some id =>
    match getRec s id with
    | none => fenceBoundary e (modEngine e (fun x => { x with migrate := none }) s)
    | some r =>
      match r.moving with
      | none => fenceBoundary e (modEngine e (fun x => { x with migrate := none }) s)
      | some dest =>
        if !(r.drain.all (holderEnded s)) || (st = .ok && s.xfers.any fun t => t.receiver = 0x8000 + e && !t.write) then s
        else
          let n := r.grainPages * 4096
          let old : List Extent := [⟨0, r.paOld, n, 0, 0, false, true⟩]
          let ready := bulkReady r.ctx (if st = .ok then old else []) (if st = .ok then [⟨0, dest, n, blockSlot, 0, false, false⟩] else []) s
          let s := ready.2
          if !ready.1 then s
          else
          let st := if proxyAlive s || st ≠ .ok then st else .deadTarget
          let s := if st = .ok then
              (List.range (n / 64)).foldl (fun acc i =>
                homeWrite r.ctx blockSlot (dest + 64 * i) ((List.range 64).map fun b => extByte s ext (r.paOld + 64 * i + b)) (poisonAt s (r.paOld / 64 + i)) 0 acc) s
            else s
          let s := setRec id (some { r with copied := true, copyStatus := st.code }) s
          let s := { s with tu.copies := dueCopy id s.aoncnt s.tu.copies }
          fenceBoundary e (modEngine e (fun x => { x with migrate := none }) (count 0x5800 9 s))

/-- A copy engine faults (R272): a migration copy ends with the status as its COPY_STATUS (R184). -/
def engineFault (e : Nat) (st : Status) (s : State) : State :=
  if (getEngine s e).migrate.isSome then migrationDone e st [] s else engineFaults e st s

end Sys2Proof.Machine
end

