-- ==== Sys2Proof/Machine/Keys.lean ====
section
/-! DEFINITION. Key slots of the stacks: KEY_CMD (R424), and the keys of a confidential context (R425). -/

namespace Sys2Proof.Machine

/-- Fill a slot with a fresh key: a new identity, of which no path tells the value. -/
def fillSlot (k : Nat) (bound : List Nat) (driver conf : Bool) (s : State) : State :=
  { s with mem.keySerial := s.mem.keySerial + 1
           mem.slots := tset {} s.mem.slots k ⟨some (s.mem.keySerial + 1), bound, driver, conf⟩ }

/-- The slot is bound to a confidential context. -/
def slotConf (s : State) (k : Nat) : Bool :=
  (getSlot s k).conf || (getSlot s k).bound.any fun c => confidential s c

/-- R424: the status of a key command. -/
def keyVerdict (s : State) (op k c : Nat) : Status :=
  let sl := getSlot s k
  let names := confidential s c && (op = 1 || op = 2 || op = 3)
  let conf : List Status := if slotConf s k || names then [.rightsFault] else []
  match op with
  | 1 => worstOf (conf ++ if sl.key.isSome then [Status.boundFault] else [])
  | 2 =>
    worstOf (conf ++ if sl.key.isNone then [Status.deadTarget]
      else if !(sl.bound.contains c) && 16 ≤ sl.bound.length then [Status.boundFault] else [])
  | 3 => worstOf conf
  | 4 => worstOf (conf ++ if sl.key.isSome then [Status.boundFault] else [])
  | 5 => worstOf (conf ++ if sl.key.isSome && !sl.driver && sl.bound.any (ctxRunning s) then [Status.rightsFault] else [])
  | _ => .malformed

/-- The effect of a key command that is not refused. -/
def keyEffect (op k c : Nat) (s : State) : State :=
  let sl := getSlot s k
  match op with
  | 1 => fillSlot k [c] false false s
  | 2 => if sl.bound.contains c then s else { s with mem.slots := tset {} s.mem.slots k { sl with bound := sl.bound ++ [c] } }
  | 3 => if sl.bound.contains c then { s with mem.slots := tset {} s.mem.slots k { sl with bound := sl.bound.erase c } } else s
  | 4 => fillSlot k [] true false s
  | 5 => if sl.key.isSome then destroySlot k s else s
  | _ => s

/-- KEY_CMD: the command, KEY_STAT, and the count of a refusal. -/
def keyCommand (raw : BitVec 128) (s : State) : State × Status :=
  let op := fld raw 0 4
  let k := fld raw 88 12
  let c := fld raw 76 12
  let st := keyVerdict s op k c
  let s := if st = .ok then keyEffect op k c s else count 0x9400 0x0E s
  ({ s with sec.keyDone := (s.sec.keyDone + 1) % 2 ^ 32, sec.keyLast := st.code }, st)

end Sys2Proof.Machine
end

