-- ==== Sys2Proof/Machine/Registers.lean ====
section
/-! DEFINITION. The block-register target (Table 10.1 and the register tables of the other chapters): which register an
offset names, what a read returns, what a write does, and when access is served (R251, R252, R410, R464). -/

namespace Sys2Proof.Machine

/-! ### The map -/

/-- A register, or one 8-byte word of a wider one. -/
inductive Reg where
  | doorbell (q : Nat) | cqCons (q : Nat) | qcfg (q w : Nat) | qstat (q w : Nat) | qctl (q : Nat)
  | space (a w : Nat)
  | fringBase | fringLog2 | fringCtr | fringProd | fringCons | resolve (w : Nat) | inval (w : Nat) | invalIssued | invalDone
  | ctx (c k : Nat) | ctxCmd | seqCmd (w : Nat) | seqStatus | seqToken | acctSnap (w : Nat)
  | fltBase | fltLog2 | fltVec | fltProd | fltCons | fltAck
  | keyCmd (w : Nat) | keyStat
  | value (c : Nat) | ctrl (c : Nat) | syncReq (w : Nat)
  | nringBase | nringLog2 | nringCtr | nringVec | nringProd | nringCons
  | jstage (q : Nat) | jctl (q : Nat) | jstat (q w : Nat)
  deriving DecidableEq, Repr

/-- The register at an 8-byte-aligned offset; none where no chapter lists one. -/
def regAt (o : Nat) : Option Reg :=
  if o < 0x04000000 then
    (match o % 0x1000 with | 0 => some (.doorbell (o / 0x1000)) | 8 => some (.cqCons (o / 0x1000)) | _ => none)
  else if o < 0x04100000 then
    let q := (o - 0x04000000) / 0x40
    (match o % 0x40 with
     | 0x00 => some (.qcfg q 0) | 0x08 => some (.qcfg q 1) | 0x10 => some (.qcfg q 2) | 0x18 => some (.qcfg q 3)
     | 0x20 => some (.qstat q 0) | 0x28 => some (.qstat q 1) | 0x30 => some (.qctl q) | _ => none)
  else if o < 0x04110000 then some (.space ((o - 0x04100000) / 0x10) (o / 8 % 2))
  else if 0x04120000 ≤ o && o < 0x04160000 then some (.ctx ((o - 0x04120000) / 0x40) (o / 8 % 8))
  else if 0x04200000 ≤ o && o < 0x04300000 then some (.value ((o - 0x04200000) / 8))
  else if 0x04300000 ≤ o && o < 0x04400000 then some (.ctrl ((o - 0x04300000) / 8))
  else if 0x06000000 ≤ o && o < 0x06080000 then
    let q := (o - 0x06000000) / 0x20
    (match o % 0x20 with | 0x00 => some (.jstage q) | 0x08 => some (.jctl q) | 0x10 => some (.jstat q 0) | _ => some (.jstat q 1))
  else match o with
    | 0x04110000 => some .fringBase | 0x04110008 => some .fringLog2 | 0x04110010 => some .fringCtr
    | 0x04110018 => some .fringProd | 0x04110020 => some .fringCons
    | 0x04110030 => some (.resolve 0) | 0x04110038 => some (.resolve 1)
    | 0x04110040 => some (.inval 0) | 0x04110048 => some (.inval 1) | 0x04110050 => some .invalIssued | 0x04110058 => some .invalDone
    | 0x041A0000 => some .ctxCmd | 0x041A0010 => some (.seqCmd 0) | 0x041A0018 => some (.seqCmd 1) | 0x041A0020 => some .seqStatus
    | 0x041A0028 => some .seqToken | 0x041A0030 => some (.acctSnap 0) | 0x041A0038 => some (.acctSnap 1)
    | 0x041C0000 => some .fltBase | 0x041C0008 => some .fltLog2 | 0x041C0010 => some .fltVec | 0x041C0018 => some .fltProd
    | 0x041C0020 => some .fltCons | 0x041C0028 => some .fltAck
    | 0x041E0000 => some (.keyCmd 0) | 0x041E0008 => some (.keyCmd 1) | 0x041E0010 => some .keyStat
    | 0x04400000 => some (.syncReq 0) | 0x04400008 => some (.syncReq 1) | 0x04400010 => some .nringBase
    | 0x04400018 => some .nringLog2 | 0x04400020 => some .nringCtr | 0x04400028 => some .nringVec
    | 0x04400030 => some .nringProd | 0x04400038 => some .nringCons
    | _ => none

/-! ### Values -/

/-- QSTAT (Table 10.3). -/
def qstatWord (x : Queue) (w : Nat) : Nat :=
  if w = 0 then pack [(22, 0), (2, x.state), (8, x.stop), (32, x.cqProd)] else pack [(32, x.prod), (32, x.cons)]

/-- JSTAT (Table 11.4). -/
def jstatWord (x : Queue) (w : Nat) : Nat :=
  if w = 0 then pack [(2, x.jrn.state), (6, 0), (8, x.jrn.recStatus), (16, (x.cmds.filter fun c => c.unconfirmed).length), (32, x.jrn.resume)]
  else pack [(32, x.jrn.jhead), (32, x.jrn.jprod)]

/-- What a read returns; none for a register that is only written. -/
def regValue (s : State) (r : Reg) : Option Nat :=
  match r with
  | .doorbell _ => none
  | .cqCons q => some (getQueue s q).cqCons
  | .qcfg q w => some (fld (getQueue s q).cfg (64 * w) 64)
  | .qstat q w => some (qstatWord (getQueue s q) w)
  | .qctl _ => none
  | .space a w => some (fld (getSpace s a) (64 * w) 64)
  | .fringBase => some s.tu.fring.base
  | .fringLog2 => some s.tu.fring.log2
  | .fringCtr => some s.tu.fring.ctr
  | .fringProd => some s.tu.fring.prod
  | .fringCons => some s.tu.fring.cons
  | .resolve _ => none
  | .inval _ => none
  | .invalIssued => some s.tu.issued
  | .invalDone => some s.tu.invDone
  | .ctx c k => some (fld (getCtx s c) (64 * k) 64)
  | .ctxCmd => none
  | .seqCmd _ => none
  | .seqStatus => some (pack [(8, s.sched.seqLast), (24, 0), (32, s.sched.seqDone)])
  | .seqToken => none
  | .acctSnap _ => none
  | .fltBase => some s.flt.ring.base
  | .fltLog2 => some s.flt.ring.log2
  | .fltVec => some s.flt.ring.vec
  | .fltProd => some s.flt.ring.prod
  | .fltCons => some s.flt.ring.cons
  | .fltAck => none
  | .keyCmd _ => none
  | .keyStat => some (pack [(8, s.sec.keyLast), (24, 0), (32, s.sec.keyDone)])
  | .value c => some (valueOf s.sync c)
  | .ctrl c => some (ctrlOf s.sync c).toNat
  | .syncReq _ => none
  | .nringBase => some s.sync.nring.base
  | .nringLog2 => some s.sync.nring.log2
  | .nringCtr => some s.sync.nring.ctr
  | .nringVec => some s.sync.nring.vec
  | .nringProd => some s.sync.nring.prod
  | .nringCons => some s.sync.nring.cons
  | .jstage q => some (getQueue s q).jrn.stage.toNat
  | .jctl _ => none
  | .jstat q w => some (jstatWord (getQueue s q) w)

/-! ### Writes -/

/-- A base that R464 lets a ring have. -/
def ringBaseOk (allowed : List Target) (v : Nat) : Bool := v % 4096 = 0 && allowed.contains (target v)

/-- Configure a ring's base or size: its indices start anew. -/
def setBase (v : Nat) (r : Ring) : Ring := { r with base := v, baseSet := true, prod := 0, cons := 0 }
def setLog2 (v : Nat) (r : Ring) : Ring := { r with log2 := v, logSet := true, prod := 0, cons := 0 }

/-- The page-fault ring (R178, R464). -/
def writeFring (isBase : Bool) (v : Nat) (s : State) : State × Status :=
  if isBase then
    let v := v % 2 ^ 52
    if ringBaseOk [.stacks, .host] v then ({ s with tu.fring := setBase v s.tu.fring }, .ok) else (count 0x5800 0x0C s, .malformed)
  else
    let v := v % 256
    if 6 ≤ v && v ≤ 16 then ({ s with tu.fring := setLog2 v s.tu.fring }, .ok) else (count 0x5800 0x0C s, .malformed)

/-- The notification ring (R312, R464): a valid write also lets the records go that the host's end had parked (R316). -/
def writeNring (isBase : Bool) (v : Nat) (s : State) : State × Status :=
  let free (s : State) : State := if proxyAlive s then { s with sync.held := s.sync.parked ++ s.sync.held, sync.parked := [] } else s
  if isBase then
    let v := v % 2 ^ 52
    if ringBaseOk [.host] v then (free { s with sync.nring := setBase v s.sync.nring }, .ok) else (count 0x6800 0x0B s, .malformed)
  else if 6 ≤ v && v ≤ 16 then (free { s with sync.nring := setLog2 v s.sync.nring }, .ok) else (count 0x6800 0x0B s, .malformed)

/-- The fault ring (R352, R464). -/
def writeFlt (isBase : Bool) (v : Nat) (s : State) : State × Status :=
  if isBase then
    let v := v % 2 ^ 52
    if ringBaseOk [.stacks, .scratch, .host] v then ({ s with flt.ring := setBase v s.flt.ring }, .ok) else (count 0x8000 0x19 s, .malformed)
  else if v = 0 || (6 ≤ v && v ≤ 16) then ({ s with flt.ring := setLog2 v s.flt.ring }, .ok) else (count 0x8000 0x19 s, .malformed)

/-- A watch is registered on a counter (R302). -/
def watched (s : State) (c : Nat) : Bool := s.sync.watches.any fun w => w.counter = c

/-- VALUE[c] (R302). -/
def writeValue (c : Nat) (d : Word) (s : State) : State :=
  if watched s c then count 0x6800 0x0B s else { s with sync := setValue c (fld d 0 32) s.sync }

/-- CTRL[c] (R302): BASELINE is taken as BOUND goes from 0 to 1. -/
def writeCtrl (c : Nat) (d : Word) (s : State) : State :=
  if watched s c then count 0x6800 0x0B s
  else
    let old := ctrlOf s.sync c
    let base := if flag d 0 && !(flag old 0) then valueOf s.sync c else fld old 32 32
    let v := pack [(2, fld d 0 2), (6, 0), (12, fld d 8 12), (12, fld d 20 12), (32, base)]
    { s with sync.ctrl := tset 0 s.sync.ctrl c (BitVec.ofNat 64 v) }

/-- SYNC_REQ (R304, R312): a host request and its notification records. A SUSPENDED context is none of those whose requests R320 refuses.
A request with a reserved OP, a READ, or an RSVD bit writes a RESULT record with MALFORMED, which R312 does not list (DESIGN CHOICE,
log 172). -/
def hostSync (raw : BitVec 128) (s : State) : State :=
  if 64 ≤ heldResults s then count 0x6800 0x0B s
  else
    let cookie := fld raw 38 26
    let op := fld raw 17 3
    let c := fld raw 20 12
    if syncMalformed raw true then resultRecord cookie .malformed s
    else if ctxState s c ≠ 1 && ctxState s c ≠ 2 && !syncOfZero raw then resultRecord cookie .rightsFault s
    else
      let (r, s) := performSync raw .host s
      let st := r.2.2.2
      let outcome := r.2.2.1
      match op with
      | 0 => if st = .ok then s else resultRecord cookie st s
      | 1 => resultRecord cookie st s
      | 5 => if outcome = 2 then s else resultRecord cookie st s
      | _ => if outcome = 1 then s else resultRecord cookie st s

/-- The bits of a QCFG word that are not RSVD (Tables 10.2, 11.2). -/
def qcfgMask (w v : Nat) : Nat :=
  match w with
  | 0 => putBits v 1 11 0
  | 3 => putBits (putBits v 1 10 0) 56 8 0
  | _ => v

/-- A queue starts afresh (R253): its indices and its epoch are 0. Its journal goes on from the record numbers it had. -/
def startQueue (q : Nat) (cfg : BitVec 256) (s : State) : State :=
  modQueue q (fun x => { x with
    cfg := cfg, state := 1, stop := 0, cons := 0, prod := 0, cqProd := 0, cqCons := 0, epoch := 0, rereads := 0, rereadDue := none
    reading := false, head := none, cmds := [], waits := []
    jrn := if qJournaled cfg then
        { x.jrn with state := 1, jhead := x.jrn.jprod, recs := [], frames := [], nextAcc := 0, limit := none, cause := 0, owes := false, closing := false }
      else { x.jrn with state := 0 } }) s

/-- A word of QCFG (R253, R281, R295). -/
def writeQcfg (q w : Nat) (d : Word) (ext : Ext) (s : State) : State :=
  let x := getQueue s q
  let held := x.jrn.state = 2
  let old := fld x.cfg (64 * w) 64
  let new := qcfgMask w d.toNat
  let cfg' : BitVec 256 := BitVec.ofNat 256 (putBits x.cfg.toNat (64 * w) 64 new)
  let bad := count 0x6000 0x0E s
  if qEnable x.cfg && !held then
    if w ≠ 0 then (if old = new then s else bad)
    else
      let s := if old / 2 = new / 2 then s else bad
      if nbit new 0 then s
      else drained q (modQueue q (fun y => { y with
        cfg := BitVec.ofNat 256 (putBits y.cfg.toNat 0 1 0), state := if y.state = 0 then 0 else 3, stop := 0, head := none, reading := false, rereadDue := none }) s)
  else if w ≠ 0 || !(nbit new 0) then modQueue q (fun y => { y with cfg := cfg' }) s
  else if held then
    if sameJournal x cfg' && configOk s { x with cfg := cfg' } then registerJournal q cfg' ext s else bad
  else if x.state = 0 && configOk s { x with cfg := cfg' } && !(s.start.state = 0 && s.start.step = 22) then startQueue q cfg' s
  else bad

/-- JSTAGE[q] (R283): no effect while ENABLE is 1. A HELD queue takes the retained value alone, with which it is registered again
(R295). -/
def writeJstage (q : Nat) (d : Word) (s : State) : State :=
  let x := getQueue s q
  let new : Word := BitVec.ofNat 64 (putBits d.toNat 0 20 0)
  let refused := if x.jrn.state = 2 then decide (new ≠ x.jrn.keptStage) else qEnable x.cfg
  if refused then count 0x6000 0x0E s else modJrn q (fun j => { j with stage := new }) s

/-- A RESOLVE command (R182). -/
def resolve (raw : BitVec 128) (s : State) : State :=
  match fld raw 0 4 with
  | 1 => resolveRetry raw s
  | 2 => resolveFail raw s
  | 3 => startMigration raw s
  | _ => count 0x5800 0x0C s

/-- The offset of the low word of a 16-byte register keeps what was last written there (R252). -/
def latchWord (o : Nat) (d : Word) (s : State) : State := { s with latch := tset 0 s.latch o d }

/-- A write of one register with its whole data. `o` is its offset, `core` the writing core's context. FRING_CTR takes the bits that
name a sync counter (R12), the others being read as reserved (DESIGN CHOICE, log 162). -/
def writeReg (o : Nat) (r : Reg) (d : Word) (ext : Ext) (core : Option Nat) (s : State) : State × Status :=
  let pair : BitVec 128 := BitVec.ofNat 128 ((tget 0 s.latch (o - 8)).toNat + d.toNat * 2 ^ 64)
  match r with
  | .doorbell q => doorbell q d s
  | .cqCons q => writeCqCons q d s
  | .qcfg q w => (writeQcfg q w d ext s, .ok)
  | .qstat _ _ => (s, .malformed)
  | .qctl q => (queueResume q d s, .ok)
  | .space _ 0 => (latchWord o d s, .ok)
  | .space a _ => (writeSpace a pair s, .ok)
  | .fringBase => writeFring true d.toNat s
  | .fringLog2 => writeFring false d.toNat s
  | .fringCtr => ({ s with tu.fring.ctr := fld d 0 17 }, .ok)
  | .fringProd => (s, .malformed)
  | .fringCons => ({ s with tu.fring.cons := fld d 0 32 }, .ok)
  | .resolve 0 => (latchWord o d s, .ok)
  | .resolve _ => (resolve pair s, .ok)
  | .inval 0 => (latchWord o d s, .ok)
  | .inval _ => (invalidate pair s, .ok)
  | .invalIssued => (s, .malformed)
  | .invalDone => (s, .malformed)
  | .ctx c k => (ctxWrite c k d s, .ok)
  | .ctxCmd => (ctxCommand (fld d 0 4) (fld d 36 12) s, .ok)
  | .seqCmd 0 => (latchWord o d s, .ok)
  | .seqCmd _ => (seqCmd pair ext s, .ok)
  | .seqStatus => (s, .malformed)
  | .seqToken => seqToken d core s
  | .acctSnap 0 => (latchWord o d s, .ok)
  | .acctSnap _ => acctSnap pair s
  | .fltBase => writeFlt true d.toNat s
  | .fltLog2 => writeFlt false d.toNat s
  | .fltVec => ({ s with flt.ring.vec := fld d 0 12 }, .ok)
  | .fltProd => (s, .malformed)
  | .fltCons => ({ s with flt.ring.cons := fld d 0 32 }, .ok)
  | .fltAck => (acknowledge d s, .ok)
  | .keyCmd 0 => (latchWord o d s, .ok)
  | .keyCmd _ => ((keyCommand pair s).1, .ok)
  | .keyStat => (s, .malformed)
  | .value c => (writeValue c d s, .ok)
  | .ctrl c => (writeCtrl c d s, .ok)
  | .syncReq 0 => (latchWord o d s, .ok)
  | .syncReq _ => (hostSync pair s, .ok)
  | .nringBase => writeNring true d.toNat s
  | .nringLog2 => writeNring false d.toNat s
  | .nringCtr => ({ s with sync.nring.ctr := fld d 0 18 }, .ok)
  | .nringVec => ({ s with sync.nring.vec := fld d 0 11 }, .ok)
  | .nringProd => (s, .malformed)
  | .nringCons => ({ s with sync.nring.cons := fld d 0 32 }, .ok)
  | .jstage q => (writeJstage q d s, .ok)
  | .jctl q => (if fld d 0 2 = 2 then discardJournal q s else s, .ok)
  | .jstat _ _ => (s, .malformed)

/-! ### Access (R251, R252, R410) -/

/-- How far the register target is served (R410, R411): 0 not at all, 1 the groups of S22, 2 all of it. -/
def regStage (s : State) : Nat :=
  if !(aonRuns s) || s.start.inReset || s.pins.thermtrip || !s.pins.fallen.isEmpty then 0
  else match s.start.state with
    | 1 => 2
    | 0 => if 23 ≤ s.start.step then 2 else if s.start.step = 22 then 1 else 0
    | _ => 0

/-- The registers that a write reaches during S22. A QCFG word 0 of another queue is served as far as its refusal. -/
def servedInS22 (s : State) (r : Reg) : Bool :=
  let held (q : Nat) : Bool := (getQueue s q).jrn.state = 2
  match r with
  | .qcfg q w => held q || w = 0
  | .jstage q => held q
  | .jctl q => held q
  | .qstat q _ => held q
  | .jstat q _ => held q
  | .space _ _ => true
  | .resolve _ => true
  | .inval _ => true
  | .fringCons => true
  | .fltCons => true
  | .fltAck => true
  | .nringCons => true
  | _ => false

/-- A register whose write is a command: it is written whole, in 8 bytes. -/
def isCommand (r : Reg) : Bool :=
  match r with
  | .doorbell _ => true
  | .qctl _ => true
  | .resolve _ => true
  | .inval _ => true
  | .ctxCmd => true
  | .seqCmd _ => true
  | .seqToken => true
  | .acctSnap _ => true
  | .fltAck => true
  | .keyCmd _ => true
  | .syncReq _ => true
  | .jctl _ => true
  | _ => false

/-- Write `len` bytes (4 or 8, aligned) at a register offset. -/
def regWrite (core : Option Nat) (o len : Nat) (d : Word) (ext : Ext) (s : State) : State × Status :=
  match regAt (o / 8 * 8) with
  | none => (s, if regStage s = 0 then .deadTarget else .malformed)
  | some r =>
    if regStage s = 0 || (regStage s = 1 && !(servedInS22 s r)) then (s, .deadTarget)
    else if len = 8 && o % 8 = 0 then
      if regStage s = 1 && (match r with | .qcfg q 0 => (getQueue s q).jrn.state ≠ 2 && !(flag d 0) | _ => false) then (s, .deadTarget)
      else writeReg o r d ext core s
    else if len = 4 && o % 4 = 0 && !(isCommand r) then
      let old := match r with
        | .space _ 0 => (tget 0 s.latch (o / 8 * 8)).toNat
        | _ => (regValue s r).getD 0
      writeReg (o / 8 * 8) r (BitVec.ofNat 64 (putBits old (8 * (o % 8)) 32 d.toNat)) ext core s
    else (match r with | .doorbell _ => count 0x6000 7 s | _ => s, .malformed)

/-- Read `len` bytes (4 or 8, aligned) at a register offset. -/
def regRead (o len : Nat) (s : State) : Word × Status :=
  if regStage s = 0 then (0, .deadTarget)
  else match regAt (o / 8 * 8) with
    | none => (0, .malformed)
    | some r =>
      if !((len = 8 && o % 8 = 0) || (len = 4 && o % 4 = 0)) then (0, .malformed)
      else match regValue s r with
        | none => (0, .malformed)
        | some v => (BitVec.ofNat 64 (v / 2 ^ (8 * (o % 8)) % 2 ^ (8 * len)), .ok)

/-- The context of a requester that is a core. -/
def coreCtx (w : Requester) : Option Nat :=
  match w with
  | .host _ => none
  | .core _ _ c => some c.val

/-- A register write as a command of its own: a core receives its status, a host's posted write has no answer (R259). A host's
access wakes a sleeping block; a core's port accepts nothing while the block sleeps (R450). -/
def regAccess (w : Requester) (o len : Nat) (d : Word) (ext : Ext) (s : State) : State :=
  if s.asleep && isCore w then s
  else
    let (s, st) := regWrite (coreCtx w) o len d ext (wakeUp s)
    if isCore w then emit (.regRsp st) s else s

/-- The same for a whole 8-byte word. -/
def regCommand (w : Requester) (o : Nat) (d : Word) (ext : Ext) (s : State) : State := regAccess w o 8 d ext s

/-- A 16-byte register written as its two words (R252). -/
def regPair (w : Requester) (o : Nat) (raw : BitVec 128) (ext : Ext) (s : State) : State :=
  regCommand w (o + 8) (BitVec.ofNat 64 (fld raw 64 64)) ext (regCommand w o (BitVec.ofNat 64 (fld raw 0 64)) ext s)

/-- A core-port request whose target is a register. -/
def coreReg (p id : Nat) (s : State) : State :=
  match findOp s p id with
  | none => s
  | some o =>
    if o.phase = .finished then s
    else
      let off := offset o.pa
      let n := opLen o
      let sh := 8 * reqOff o.req
      if opCode o = opLoad || opCode o = opRload then
        let (v, st) := regRead off n s
        owe (.pump p) (finishOp p id st false (BitVec.ofNat 512 (v.toNat * 2 ^ sh)) s)
      else if o.req.mask ≠ maskOf (reqOff o.req) n then owe (.pump p) (finishOp p id .malformed false 0 s)
      else
        let (s, st) := regWrite (some (opCtx o)) off n (BitVec.ofNat 64 (nbits o.req.data.toNat sh (8 * n))) [] s
        owe (.pump p) (finishOp p id st false 0 s)

end Sys2Proof.Machine
end

