-- ==== Sys2Proof/Machine/Settle.lean ====
section
/-! DEFINITION. The work that a step owes before it ends: one action after another, until none is owed. -/

namespace Sys2Proof.Machine

/-- An operation ends with a status: on a FAIL (R182), a refused or lost peer request (R188, R215), a register's end. -/
def failOp (w : Waiter) (st : Status) (s : State) : State :=
  match w with
  | .portOp p id =>
    (match findOp s p id with
     | none => s
     | some o => if o.phase = .finished then s else owe (.pump p) (loseOp p st s o))
  | .array a id =>
    (match findCourse s a id with
     | none => s
     | some c =>
       let s := match c.stage with
         | .running => squashRun c noWork s
         | .draining _ _ _ => squashRun c noWork s
         | _ => s
       endAfterWrites a (ranUnit s a c) c st (dropRequests w s))
  | .queueCmd q idx =>
    (match findCmd s q idx with
     | none => s
     | some c =>
       let s := dropRequests w (modCmd q idx (fun k => { k with waitRec := none, probing := false }) (leaveEngine true q c s))
       if c.intent.isSome then unitFails q idx st s else finCmd q idx st s)
  | .ds c => stepFails c st s

/-- An operation checks its whole footprint again (R182). -/
def retryOp (w : Waiter) (s : State) : State :=
  match w with
  | .portOp p id =>
    let again (o : PortOp) : PortOp := match o.phase with | .fault _ => { o with phase := .start } | _ => o
    pump p (modOp p id again s)
  | .array a id => retryCourse a id s
  | .queueCmd q idx => retryCmd q idx s
  | .ds c => retryStep c s

/-- One owed action. -/
def runAct (a : Act) (s : State) : State :=
  match a with
  | .fence unit cause => fenceUnit unit cause s
  | .kill c cause => killAction c cause s
  | .freeze => freezeAction s
  | .pump p => serveDeferred p (pump p s)
  | .failOp w st => failOp w st s
  | .retryOp w => retryOp w s
  | .released r =>
    (match r.watch.dest with
     | .queue q => waitReleased q r.outcome r.status s
     | .ds c => gateReleased c r.outcome s
     | _ => s)
  | .peerOp p id => sendPortOp p id s
  | .regOp p id => coreReg p id s
  | .issueCourse p id => issueCoreCourse p id s
  | .peerSend w op pa bs poison => peerSend w op pa bs poison s
  | .peerRead w pa n => readPeer w pa n s
  | .arrayDone a => arrayDone a s
  | .walkDone k => walkDone k s
  | .ecc e g c op sh => applyEcc e g c op sh s
  | .homesMove => homesMove s

/-- Run the owed actions, in order; past the bound none is kept. -/
def settleN : Nat → State → State
  | 0, s => { s with acts := [] }
  | n + 1, s => match s.acts with
    | [] => s
    | a :: rest => settleN n (runAct a { s with acts := rest })

/-- Run the owed actions until none is left (the bound is never met: log 19). -/
def settle (s : State) : State := settleN 1000000 s

/-- End a command: run what it owes, and answer the next state. -/
def done (s : State) : Host.Outcome State Fault Refusal := .next (settle s)

/-- The effect of a command that needs the data path and CLK_FAB (R18, R410, R411). -/
def onFab (f : State → State) (s : State) : State := if fabOn s then f s else s

/-- A command that admits new work of a peer: none is admitted while a link hold is being reached or held (R428). -/
def onAdmit (f : State → State) (s : State) : State := if fabOn s && s.freeze.hold = 0 then f s else s

/-- The effect of a command that needs the data path, in ASLEEP too. -/
def onData (f : State → State) (s : State) : State := if dataOn s then f s else s

/-- The effect of a command that needs the always-on domain alone. -/
def onAon (f : State → State) (s : State) : State := if aonRuns s then f s else s

/-- The effect of a part whose clock starts on demand: while the block is asleep it does not run (R18). -/
def onAwake (f : State → State) (s : State) : State := if aonRuns s && !s.asleep then f s else s

/-- The effect of an access to the register target: it needs the block's clocks, and R410 decides how far it is served. -/
def onReg (f : State → State) (s : State) : State := if aonRuns s && !s.start.inReset then f s else s

/-- The effect of what a host, a peer or an always-on timer brings: it wakes a sleeping block first (Table 1.6). -/
def onWake (f : State → State) (s : State) : State := if dataOn s then f (wakeUp s) else s

/-- The effect of an event of a link: the link logic serves it during the start-up steps too, and while asleep. -/
def onLink (f : State → State) (s : State) : State := if linkOn s then f s else s

/-- What the MP does to a link: not while asleep. -/
def onLinkAwake (f : State → State) (s : State) : State := if linkOn s && !s.asleep then f s else s

end Sys2Proof.Machine
end

