-- ==== Sys2Proof/Machine/Transfers.lean ====
section
/-! DEFINITION. Checked block transfers (R341 to R343): a failed check, its re-sends, and their exhaustion; mismatches of
duplicated state machines (R360). -/

namespace Sys2Proof.Machine

/-- The transfer of a granule between two units that waits for a re-send. -/
def findXfer (s : State) (receiver sender g : Nat) : Option Transfer :=
  s.xfers.find? fun t => t.receiver = receiver && t.sender = sender && t.granule = g

def dropXfer (t : Transfer) (s : State) : State := { s with xfers := s.xfers.erase t }

/-- The running course of an array that receives the block and consumes it: a block of its operands, scales, images or row map (R125). -/
def arrayReceiver (s : State) (receiver g : Nat) : Option (Nat × Course) :=
  let a := receiver - 0x4000
  if 0x4000 ≤ receiver && receiver < 0x40C0 then
    match runningCourse s a with
    | some c => if (runReads s a c ++ rowMapExtent c.raw).any fun x => (granulesOf x.pa x.len).contains g then some (a, c) else none
    | none => none
  else none

/-- Outputs of the running course that are neither indicative nor squashed: output rows, or held-row outputs. Those that earlier
runs wrote, or this one before row or weight column `done`, are indicative; a scan and a forwarding course have none (R73, R103). -/
def openOutputs (c : Course) (done : Nat) : Nat :=
  let (rows, cols) := outShape c.raw c.opS c.opT
  if cdForward c.raw || cdOp c.raw = 2 then 0
  else if cdFlat c.raw then (liveRows c rows).length * (cols - max done c.resume)
  else ((liveRows c rows).filter fun m => max done (writtenRows c) ≤ m).length

/-- A check fails (R343): the receiver asks for a re-send. An array that presents rows ahead of its checks squashes them and
waits (R134); without data speculation the row waits (R140). -/
def checkFails (receiver sender g : Nat) (write : Bool) (r : RunLog) (s : State) : State :=
  if (findXfer s receiver sender g).isSome then s
  else
    let s := { s with xfers := s.xfers ++ [⟨receiver, sender, g, write, 0⟩] }
    match arrayReceiver s receiver g with
    | none => s
    | some (a, c) =>
      let runs := match c.stage with | .running => true | .draining _ _ _ => true | _ => false
      if runs && c.specData && !write then
        let s := count 0x4800 7 s
        let s := if cdForward c.raw || continues c then count 0x4800 8 s else s
        let kept := if c.strict then 0 else r.rows
        let s := if c.blocked then s else
          squashChain a c (squashSaved c (keepRows a (viewExt s a c r.ext) c r.rows (discardRun c r (chargeSquash c.ctx (openOutputs c kept) noWork s))))
        modCourse a c.id (fun x => { x with blocked := true, work := noWork }) s
      else s

/-- The event of a transfer's end: a block of a course belongs to the course's context (DEDUCED, log 30). -/
def blockEvent (cls : Nat) (st : Status) (t : Transfer) (resends : Nat) (s : State) : State :=
  let d := t.receiver + resends * 2 ^ 16
  match arrayReceiver s t.receiver t.granule with
  | some (_, c) => raise ⟨cls, t.sender, some c.ctx, t.granule * 64, 1, 4, st, d⟩ s
  | none => raise ⟨cls, t.sender, none, t.granule * 64, 1, if t.write then 2 else 1, st, d⟩ s

/-- The read of an operand descriptor failed for good: the course that waits for its examination ends CRC_EXHAUSTED (R104). -/
def headsLost (a g : Nat) (s : State) : State :=
  let reads (c : Course) : Bool := c.stage = .issued && structureOk c.raw &&
    (match (checkFootprint (tlbsOfArray a) true (fld (getCtx s c.ctx) 116 12) (descHeads c.raw) s).1 with
     | .good hx => hx.any fun x => g ∈ granulesOf x.pa x.len
     | _ => false)
  match (getArr s a).courses.find? reads with
  | some c => endCourse a 0 c .crcExhausted (-512) s
  | none => s

/-- The outcome of a transfer whose fourth re-send failed. -/
def exhausted (t : Transfer) (r : RunLog) (s : State) : State :=
  let s := blockEvent 2 .crcExhausted t 4 (count 0x8000 0x14 s)
  let p := t.receiver - 0x3000
  if t.write then
    if 0x6000 ≤ t.receiver && t.receiver < 0x7000 && (getTxn s t.granule).isSome then
      let s := poisonCreated (storageUnit s (t.granule * 64)) none 2 t.granule { s with mem.poison := tset false s.mem.poison t.granule true }
      match getTxn s t.granule with
      | some x => if isNear x.req.agent then
          (opsOf s x.req.agent).foldl (fun st o =>
            if opGranule o = t.granule && o.sent && o.phase ≠ .finished then owe (.failOp (.portOp x.req.agent o.id) .crcExhausted) st else st) s
        else s
      | none => s
    else loseWhere (fun k o => 0x3000 + k = t.sender && o.phase = .buffered && opGranule o = t.granule) .crcExhausted s
  else match arrayReceiver s t.receiver t.granule with
    | some (a, c) => courseFault a .crcExhausted (viewExt s a c r.ext) r { c with blocked := false } s
    | none =>
      if 0x4000 ≤ t.receiver && t.receiver < 0x40C0 then headsLost (t.receiver - 0x4000) t.granule s
      else if 0x3000 ≤ t.receiver && p < 192 then
        (opsOf s p).foldl (fun st o =>
          if o.what = .mem && opGranule o = t.granule && o.phase ≠ .finished && o.phase ≠ .start then owe (.failOp (.portOp p o.id) .crcExhausted) st else st) s
      else if 0x8000 ≤ t.receiver && t.receiver < 0x8028 then engineFault (t.receiver - 0x8000) .crcExhausted s
      else s

/-- A re-sent block arrives and is checked (R343). The re-run that waited for it starts (R134). -/
def resendArrives (receiver sender g : Nat) (ok : Bool) (r : RunLog) (s : State) : State :=
  match findXfer s receiver sender g with
  | none => s
  | some t =>
    let s := dropXfer t (count 0x8000 0x13 s)
    if ok then
      let s := blockEvent 1 .ok t (t.fails + 1) s
      match arrayReceiver s receiver g with
      | some (a, c) => if c.blocked && c.stage = .running && !(blocksOut s a) then rerun a c (fun x => { x with blocked := false }) s else s
      | none => s
    else if 3 ≤ t.fails then exhausted t r s
    else { s with xfers := s.xfers ++ [{ t with fails := t.fails + 1 }] }

/-- The event of a state-machine mismatch, against the unit itself. -/
def mismatchEvent (unit : Nat) (s : State) : State := raise ⟨7, unit, none, 0, 0, 0x0C, .fencedUnit, 0⟩ s

/-- An array's two sequencers differ (R118). -/
def sequencersDiffer (a : Nat) (r : RunLog) (s : State) : State :=
  if (getArr s a).fenced then s
  else fenceArray a 2 2 (some r) (mismatchEvent (0x4000 + a) (count 0x4100 8 (count (0x4101 + a) 8 s)))

/-- A copy engine's or a walker's two state machines differ (R360). The engine is fenced at once, its command runs again elsewhere, and
the commands that wait for a class of which no engine is left end (R272). -/
def machinesDiffer (unit : Nat) (s : State) : State :=
  if 0x8000 ≤ unit && unit < 0x8028 then
    let e := unit - 0x8000
    if (getEngine s e).fenced then s
    else
      let s := mismatchEvent unit s
      let s := modEngine e (fun x => { x with fenced := true, fencing := false }) s
      let s := capacityChanged true unit 2 s
      let s := match (getEngine s e).migrate with
        | some id => placeMigration id (modEngine e (fun x => { x with migrate := none }) s)
        | none => s
      strandCmds (engineFaults e .fencedUnit s)
  else if 0x7000 ≤ unit && unit < 0x7040 then
    if tget false s.tu.walkerFenced (unit - 0x7000) then s else fenceWalker (unit - 0x7000) 2 (mismatchEvent unit s)
  else s

end Sys2Proof.Machine
end

