-- ==== Sys2Proof/WellFormed.lean ====
section
/-! DEFINITION. The well-formedness of a command: what its operands' types do not say. Everything that the spec gives an
outcome (a malformed field, a refused right) is well-formed; what is not is a command that no port of the block can bring. -/

namespace Sys2Proof

/-- A physical address has 52 bits (R143). -/
def paOk (pa : Nat) : Bool := decide (pa < 2 ^ 52)

/-- A granule is a 64 B block of physical addresses (R143, Table 0.1). -/
def granuleOk (g : Nat) : Bool := decide (g < 2 ^ 46)

/-- The agents of Table 0.8: near caches, the host proxy, the peer proxies. No other identifier is ever assigned (R13). -/
def agentOk (agent : Nat) : Bool := decide (agent < 192) || (decide (0xF0 ≤ agent) && decide (agent ≤ 0xFC))

/-- The units of Tables 0.5 and 0.6, the subsystems as a whole (instance 0xFFF), and 0 for no unit (R11). -/
def unitOk (unit : Nat) : Bool :=
  let i := unit % 4096
  match unit / 4096 with
  | 0 => i == 0
  | 1 => decide (i < 2) || i == 0xFFF
  | 2 => decide (i < 12) || i == 0xFFF
  | 3 => decide (i < 192) || i == 0xFFF
  | 4 => decide (i < 192) || i == 0xFFF
  | 5 => decide (i < 192) || (decide (0x100 ≤ i) && decide (i < 0x106)) || (decide (0x200 ≤ i) && decide (i < 0x2C0)) || i == 0xFFF
  | 6 => decide (i < 48) || i == 0x100 || i == 0xFFF
  | 7 => decide (i < 64) || i == 0x100 || i == 0xFFF
  | 8 => decide (i < 0x28) || i == 0xFFF
  | 9 => i == 0 || i == 0xFFF
  | 10 => i == 0 || i == 0xFFF
  | 11 => i == 0 || i == 0xFFF
  | 12 => decide (i < 3) || i == 0xFFF
  | _ => false

/-- A coherence request names an agent and a physical address (R231). -/
def cohOk (r : CohReq) : Bool := agentOk r.agent && paOk r.pa

/-- What a host or a peer brings stands at host and peer addresses: PA[51:48] is 4 to 11 (Table 6.1). -/
def extOk (e : Ext) : Bool := e.all fun x => decide (2 ^ 50 ≤ x.1) && decide (x.1 < 3 * 2 ^ 50)

/-- A tenant's host window is a run of 4 KiB pages of the address space (Table 16.8). -/
def allowOk : ConfAllow → Bool
  | .hostWindow pa pages => decide (pa % 4096 = 0) && decide (pa + pages * 4096 ≤ 2 ^ 52)
  | .peerWindow _ _ => true
  | .hostDecoder _ _ => true

/-- A command that a port of the block can bring. -/
def WellFormed (i : Instr) : Bool :=
  match i with
  | .pwrOkRise => true
  | .pwrOkFall => true
  | .coldRstNAssert => true
  | .warmRstNAssert => true
  | .resetRelease _ => true
  | .hpPerstNFall _ => true
  | .hpPerstNRise _ => true
  | .freezeNFall => true
  | .freezeNRise => true
  | .tapReset _ => true
  | .railPgFall _ => true
  | .railPgTimeout _ => true
  | .grantStb _ => true
  | .droopStop _ => true
  | .droopStopPersists _ => true
  | .droopClear _ _ => true
  | .droopWarn _ => true
  | .thermtrip _ _ => true
  | .sensorSample temps volts => (temps.length == 64) && (volts.length == 24)
  | .cpnWake _ _ => true
  | .stackPgFall _ => true
  | .interfaceClockStop _ => true
  | .chainPartnerLost => true
  | .wakeEvent => true
  | .sleepDelayExpiry => true
  | .clusterIdleExpiry _ => true
  | .loftIdleExpiry _ => true
  | .srDelayExpiry _ => true
  | .governorTick _ heavy => decide heavy.Nodup
  | .powerPointSwitch _ => true
  | .rampDown _ => true
  | .adaptTicksReached _ _ => true
  | .guardLower _ => true
  | .linkMarginCheck _ _ => true
  | .linkReequalise _ => true
  | .l1IdleExpiry _ => true
  | .startBegin => true
  | .startStepComplete _ r => r.fails.all fun f => unitOk f.1.toNat
  | .journalWaitExpiry => true
  | .frameForward _ _ _ => true
  | .token _ => true
  | .addrGrant _ => true
  | .chainRead _ _ => true
  | .chainWrite _ _ => true
  | .chainDescribe _ _ => true
  | .spdmFrame _ => true
  | .register _ _ _ => true
  | .claim _ _ _ => true
  | .handover _ _ _ => true
  | .ownerRelease _ _ _ => true
  | .renew _ _ _ => true
  | .electionWindowEnd => true
  | .leaseLapse => true
  | .registrationExpiry _ => true
  | .mailboxDictionary _ _ _ _ => true
  | .mailboxSpdm _ _ => true
  | .mpWatchdogExpiry => true
  | .mirrorComplete _ _ _ => true
  | .getVersion _ => true
  | .getCapabilities _ => true
  | .negotiateAlgorithms _ => true
  | .getDigests _ => true
  | .getCertificate _ _ _ => true
  | .challenge _ _ => true
  | .getMeasurements _ _ _ _ => true
  | .keyExchange _ _ => true
  | .finish _ _ _ _ _ => true
  | .heartbeat _ _ _ => true
  | .keyUpdate _ _ _ => true
  | .endSession _ _ _ => true
  | .confCreate _ _ _ _ _ => true
  | .confAllow _ _ _ a => allowOk a
  | .confEnd _ _ _ _ => true
  | .dictionaryWrite _ _ _ data => !data.isEmpty
  | .cacheSteps _ _ => true
  | .arrayFence _ _ _ => true
  | .homeSliceFence _ _ _ => true
  | .engineFence _ _ _ => true
  | .nearFence _ _ => true
  | .windowControl _ _ _ _ => true
  | .decContext _ _ _ _ _ => true
  | .pointRequested _ _ => true
  | .firstClear _ _ => true
  | .ownerKill _ _ => true
  | .restoreDefaults _ _ => true
  | .retryMask _ _ => true
  | .pkgOffset _ _ => true
  | .pkgData _ _ => true
  | .pkgCommit _ _ => true
  | .testRun _ _ => true
  | .heatingLimit => true
  | .maxTicksExpiry _ _ _ => true
  | .fieldTestResult _ _ _ => true
  | .fwOffset _ _ => true
  | .fwData _ _ => true
  | .fwCommit _ _ => true
  | .fwActivate _ _ => true
  | .debugUnlock _ _ => true
  | .linkHold _ _ => true
  | .holdComplete => true
  | .registerWrite _ _ len _ ext => (len.val != 0) && extOk ext
  | .doorbell _ _ _ => true
  | .cqCons _ _ _ => true
  | .queueEnable _ _ _ ext => extOk ext
  | .queueDisable _ _ _ => true
  | .queueResume _ _ _ => true
  | .spaceEntry _ _ _ => true
  | .fringConfig _ _ _ => true
  | .nringConfig _ _ _ => true
  | .fltConfig _ _ _ => true
  | .resolveRetry _ _ => true
  | .resolveFail _ _ => true
  | .migrateCopy _ _ => true
  | .inval _ _ => true
  | .invalComplete => true
  | .ctxWrite _ _ _ _ => true
  | .ctxCreate _ _ => true
  | .ctxSuspend _ _ => true
  | .ctxResume _ _ => true
  | .ctxEnd _ _ => true
  | .ctxKill _ _ => true
  | .ctxRestartSteps _ _ => true
  | .contextEndingDrained _ => true
  | .contextRelease _ => true
  | .seqCreate _ _ ext => extOk ext
  | .seqRead _ _ ext => extOk ext
  | .seqPark _ _ ext => extOk ext
  | .seqUnpark _ _ ext => extOk ext
  | .seqEnd _ _ ext => extOk ext
  | .seqFree _ _ ext => extOk ext
  | .seqToken _ _ => true
  | .sequenceDone _ => true
  | .acctSnap _ _ => true
  | .counterCtrl _ _ _ => true
  | .counterValue _ _ _ => true
  | .jstage _ _ _ => true
  | .journalDiscard _ _ _ => true
  | .ackHold _ _ => true
  | .ackAct _ _ => true
  | .loadFresh _ _ _ => true
  | .loadDriver _ _ _ => true
  | .bind _ _ _ => true
  | .unbind _ _ _ => true
  | .destroy _ _ _ => true
  | .portLoad _ _ => true
  | .portStore _ _ => true
  | .portRload _ _ => true
  | .portCstore _ _ => true
  | .portAtomic _ _ => true
  | .portBarrier _ => true
  | .writePerformed _ _ => true
  | .holdWindowExpiry _ => true
  | .courseHalf _ _ _ _ _ => true
  | .course _ ext => extOk ext
  | .ridgeScan _ ext => extOk ext
  | .diagonal _ ext => extOk ext
  | .footprintReady _ errs => errs.all (fun x => granuleOk x.1)
  | .blockCheck receiver sender g _ _ r => unitOk receiver.toNat && unitOk sender.toNat && granuleOk g && extOk r.ext
  | .blockResend receiver sender g _ r => unitOk receiver.toNat && unitOk sender.toNat && granuleOk g && extOk r.ext
  | .seqVerdict _ _ _ => true
  | .strictRerun _ r => extOk r.ext
  | .courseComplete _ r => extOk r.ext
  | .preemption _ _ _ _ => true
  | .preemptSave _ r => extOk r.ext
  | .courseResume _ => true
  | .chainSpill _ => true
  | .courseFault _ _ r => extOk r.ext
  | .sequencerMismatch _ r => extOk r.ext
  | .smMismatch _ => true
  | .remoteWait _ => true
  | .remoteResponseLand _ => true
  | .peerTimeout _ _ => true
  | .sliceEnd _ => true
  | .engineChoose _ => true
  | .listScan => true
  | .stepIssue _ => true
  | .queueNop _ => true
  | .courseSlot _ => true
  | .queueCopy _ => true
  | .queueFill _ => true
  | .queueInlineWrite _ => true
  | .queueFlashing _ => true
  | .queueSignal _ => true
  | .queueWait _ => true
  | .digestOpen _ => true
  | .digestRegion _ ext => extOk ext
  | .digestRead _ => true
  | .digestClose _ => true
  | .slotReadReturn _ ext _ => extOk ext
  | .slotReread _ => true
  | .burstComplete _ ext => extOk ext
  | .engineFault _ _ => true
  | .completionRecord _ _ => true
  | .readbackComplete _ => true
  | .journalAccept _ => true
  | .journalIntent _ _ => true
  | .journalCommit _ _ => true
  | .queueDone _ _ => true
  | .recoverLimitExpiry _ => true
  | .syncSignal _ _ => true
  | .syncTake _ _ => true
  | .waitConsume _ _ => true
  | .waitObserve _ _ => true
  | .syncRead _ _ => true
  | .cancel _ _ => true
  | .watchTimeout => true
  | .notificationRecord => true
  | .faultEvent ev => unitOk ev.unit.toNat
  | .graceExpiry => true
  | .faultRecordCopy => true
  | .faultTimeoutExpiry _ => true
  | .walk _ _ _ => true
  | .walkComplete _ => true
  | .migrationCopyDone _ _ ext => extOk ext
  | .rdS r => cohOk r
  | .rdX r => cohOk r
  | .upg r => cohOk r
  | .rdNc r => cohOk r
  | .wrNc r _ => cohOk r
  | .atomH r _ _ _ => cohOk r
  | .zeroL r => cohOk r
  | .writeback r _ => cohOk r
  | .snpFwdS _ g requester => granuleOk g && agentOk requester
  | .snpFwdX _ g requester => granuleOk g && agentOk requester
  | .snpGetS _ g requester => granuleOk g && agentOk requester
  | .snpGetI _ g requester => granuleOk g && agentOk requester
  | .snpCur _ g requester => granuleOk g && agentOk requester
  | .snpInv _ g requester => granuleOk g && agentOk requester
  | .rspI _ g => granuleOk g
  | .rspFwdS _ g _ => granuleOk g
  | .rspFwdI _ g _ => granuleOk g
  | .rspData _ g _ => granuleOk g
  | .rspWbif _ g => granuleOk g
  | .dataFwdMessage agent g _ _ _ => agentOk agent && granuleOk g
  | .dataMessage agent g _ _ _ => agentOk agent && granuleOk g
  | .cmpFwd agent g => agentOk agent && granuleOk g
  | .gntX agent g => agentOk agent && granuleOk g
  | .cmpMessage agent g _ _ => agentOk agent && granuleOk g
  | .wbAck agent g => agentOk agent && granuleOk g
  | .retryMessage agent g _ => agentOk agent && granuleOk g
  | .doneMessage agent g => agentOk agent && granuleOk g
  | .snpdata _ g => granuleOk g
  | .snpinv _ g => granuleOk g
  | .snpcur _ g => granuleOk g
  | .memrd _ hpa _ => paOk hpa
  | .meminv _ hpa _ => paOk hpa
  | .memwr _ hpa _ _ => paOk hpa
  | .birsp _ g _ => granuleOk g
  | .biconflict _ g => granuleOk g
  | .agentDeath _ => true
  | .hostPortDown _ => true
  | .retrainLimit _ => true
  | .peerLinkDown _ => true
  | .peerNormal _ _ => true
  | .peerNak _ _ => true
  | .peerHold _ _ => true
  | .peerHoldExit _ _ => true
  | .ackTimeout _ => true
  | .peerRead _ => true
  | .peerWrite _ => true
  | .peerAtomic _ => true
  | .peerProbe _ => true
  | .peerSync _ => true
  | .peerSpdm _ _ _ => true
  | .readRsp _ => true
  | .writeAck _ => true
  | .atomicRsp _ => true
  | .probeRsp _ => true
  | .syncRsp _ => true
  | .spdmRsp _ _ _ => true
  | .railPgRise _ => true
  | .hostLinkTrained _ _ _ => true
  | .hostLinkRetrain _ => true
  | .peerLinkTrained _ _ => true
  | .chainSymbolLock => true
  | .creditReturn _ _ => true
  | .peerIdle _ _ => true
  | .ideKm _ _ => true
  | .hdmDecoderCommit _ _ _ base _ dpa _ _ => paOk base && paOk dpa
  | .h2dResponse _ g _ _ _ => granuleOk g
  | .cxlIoCompletion _ _ _ _ => true
  | .phyInitiatedUpdate _ _ _ => true
  | .mpRestarted => true
  | .fwReadBack _ => true

end Sys2Proof
end

