-- ==== Sys2Proof/Machine/ArrayRows.lean ====
section
/-! DEFINITION. The commands of the arrays and their courses (04, 05, 13, 14). -/

namespace Sys2Proof.Machine

/-! ### Course descriptors on a core port (R448, R449) -/

/-- The result of a course of which only a half arrived: MALFORMED, with no unit and no tag. -/
def halfResult : BitVec 128 := BitVec.ofNat 128 (pack [(8, Status.malformed.code), (24, 0), (10, 512), (86, 0)])

/-- The first half of a course waits no longer: the course completes MALFORMED. -/
def dropHalf (p : Nat) (s : State) : State :=
  match (getPort s p).half with
  | none => s
  | some (_, st, c) =>
    let id := (getPort s p).nextId
    let r : CoreReq := ⟨Fin.ofNat 192 p, BitVec.ofNat 64 (pack [(46, 0), (6, st), (12, c)]), 0, 0, 0, 0⟩
    let s := enterOp (.course 0) r (modPort p (fun x => { x with half := none }) s)
    modOp p id (fun o => { o with phase := .finished, answer := some ⟨.malformed, false, halfResult.setWidth 512⟩ })
      (count 0x4100 6 (count 0x4100 5 s))

/-- A half of a course descriptor arrives: the first waits, the second of the same stream and context completes it. -/
def courseHalf (p stream c : Nat) (half : BitVec 512) (last : Bool) (s : State) : State :=
  if last then
    match (getPort s p).half with
    | none => s
    | some (lo, st, k) =>
      if st = stream && k = c then
        let r : CoreReq := ⟨Fin.ofNat 192 p, BitVec.ofNat 64 (pack [(46, 0), (6, stream), (12, c)]), 0, 0, 0, 0⟩
        let raw : BitVec 1024 := half ++ lo
        pump p (enterOp (.course raw) r (modPort p (fun x => { x with half := none }) s))
      else pump p (dropHalf p s)
  else
    let s := pump p (dropHalf p s)
    modPort p (fun x => { x with half := some (half, stream, c) }) s

/-- COURSE_HALF (R449). -/
def execCourseHalf (p : PortId) (stream : Fin 64) (c : CtxId) (half : BitVec 512) (last : Bool) (s : State) : Host.Outcome State Fault Refusal :=
  done (onFab (courseHalf p.val stream.val c.val half last) s)

/-! ### Examination and start -/

/-- COURSE: the oldest issued course of the array with OPCODE COURSE, or with a reserved one, is read and checked (R104 to R107);
`ext` brings the host bytes of its operand descriptors. -/
def execCourse (a : ArrayId) (ext : Ext) (s : State) : Host.Outcome State Fault Refusal := done (onFab (takeIssued a.val 1 ext) s)

/-- RIDGE_SCAN (R103). -/
def execRidgeScan (a : ArrayId) (ext : Ext) (s : State) : Host.Outcome State Fault Refusal := done (onFab (takeIssued a.val 2 ext) s)

/-- DIAGONAL (R120). -/
def execDiagonal (a : ArrayId) (ext : Ext) (s : State) : Host.Outcome State Fault Refusal := done (onFab (takeIssued a.val 3 ext) s)

/-- A waiting operation whose footprint is present starts to move bytes, or is checked for it (R107). -/
def footprintReady (w : Waiter) (s : State) : State :=
  match w with
  | .portOp p _ => pump p s
  | .array a id =>
    (match findCourse s a id with
     | none => s
     | some c => match c.stage with
       | .issued => if c.src = .test || ctxState s c.ctx = 1 then examineCourse a [] c s else s
       | .ready => if (pickCourse s a).map (·.id) = some id then chooseCourse a s else s
       | _ => s)
  | .queueCmd q idx =>
    (match findCmd s q idx with
     | none => s
     | some c =>
       if c.fin.isSome || c.waitRec.isSome || !c.started then s
       else if c.footOk then (if c.engine.isNone && !c.probing then placeCmd q idx s else s)
       else if (slOp c.slot = 3 || slOp c.slot = 4 || slOp c.slot = 5) && c.engine.isNone then checkCopy none q idx s else s)
  | .ds c => stepIssue c s

/-- FOOTPRINT_READY (R107); `errs` are the errors that the storage has suffered by then, each found by the next read of its granule. -/
def execFootprintReady (w : Waiter) (errs : List (Nat × Ecc)) (s : State) : Host.Outcome State Fault Refusal := done (onFab (fun s => footprintReady w (storageErrors errs s)) s)

/-- The effect of an event of an array whose clock runs: a droop stop holds every state of its cluster (R116). -/
def onArr (a : Nat) (f : State → State) (s : State) : State := onFab (fun s => if (getCluster s (a / 4)).stopped then s else f s) s

/-- The effect of what arrives at a unit: an array takes nothing in while its clock is stopped (R116). -/
def onUnit (unit : Nat) (f : State → State) (s : State) : State :=
  if 0x4000 ≤ unit && unit < 0x40C0 then onArr (unit - 0x4000) f s else onFab f s

/-- BLOCK_CHECK: a receiver checks a block; a block that passes changes nothing (R341, R343). `r` is the run that a failed check
discards. -/
def execBlockCheck (receiver sender : BitVec 16) (g : Nat) (ok write : Bool) (r : RunLog) (s : State) : Host.Outcome State Fault Refusal :=
  done (onUnit receiver.toNat (fun s => if ok || !(unitOk receiver.toNat && unitOk sender.toNat) then s else checkFails receiver.toNat sender.toNat g write r s) s)

/-- BLOCK_RESEND (R343). -/
def execBlockResend (receiver sender : BitVec 16) (g : Nat) (ok : Bool) (r : RunLog) (s : State) : Host.Outcome State Fault Refusal :=
  done (onUnit receiver.toNat (fun s => if unitOk receiver.toNat && unitOk sender.toNat then resendArrives receiver.toNat sender.toNat g ok r s else s) s)

/-- VERDICT: the verdict of a step reaches an array, within ARR cycles that do not pass while its clock is stopped (R116, R126, R135). -/
def execSeqVerdict (a : ArrayId) (q : SeqId) (step : BitVec 32) (s : State) : Host.Outcome State Fault Refusal :=
  done (onArr a.val (verdictArrives a.val q.val step.toNat) s)

/-- COURSE_COMPLETE: every output is indicative or squashed (R133); `r` says what the run came to, and brings host inputs. -/
def execCourseComplete (a : ArrayId) (r : RunLog) (s : State) : Host.Outcome State Fault Refusal :=
  done (onArr a.val (completeCourse a.val r) s)

/-- STRICT_RERUN (R43). -/
def execStrictRerun (a : ArrayId) (r : RunLog) (s : State) : Host.Outcome State Fault Refusal :=
  done (onArr a.val (strictRerun a.val r) s)

/-- PREEMPTION: the array presents nothing after this row, intake cycle or pass: the next ones that it would present (R110). -/
def execPreemption (a : ArrayId) (row : BitVec 32) (intake : Byte) (pass : Fin 28) (s : State) : Host.Outcome State Fault Refusal :=
  done (onArr a.val (acceptPreemption a.val row.toNat intake.toNat pass.val) s)

/-- PREEMPT_SAVE (R110). -/
def execPreemptSave (a : ArrayId) (r : RunLog) (s : State) : Host.Outcome State Fault Refusal :=
  done (onArr a.val (savePreempted a.val r) s)

/-- COURSE_RESUME: the saved course that the array picks resumes (R111). -/
def execCourseResume (a : ArrayId) (s : State) : Host.Outcome State Fault Refusal :=
  done (onArr a.val (fun s => if (pickCourse s a.val).map (·.stage) = some .saved then chooseCourse a.val s else s) s)

/-- CHAIN_SPILL: the store makes room for the course that the array picks (R112). -/
def execChainSpill (a : ArrayId) (s : State) : Host.Outcome State Fault Refusal :=
  done (onArr a.val (fun s => match pickCourse s a.val with
    | some c => if needsSpill s a.val c then (let (ready, s) := spillReady a.val c s; if ready then spillFor a.val c s else s) else s
    | none => s) s)

/-- Poison of the running course has become indicative (R129): some row that consumed it, of those that a verdict or none has made
sure. Poison of what a host delivers is known to the array alone. -/
def poisonSure (s : State) (a : Nat) (c : Course) : Bool :=
  let sure := (List.range (outShape c.raw c.opS c.opT).1).filter fun m => rowVerdict c m = 1 && !(chainDead s a c m)
  !sure.isEmpty && ((firstPoison s a c sure).isSome || (runReads s a c).any fun x => target x.pa = .host)

/-- COURSE_FAULT: consumed poison or exhausted re-sends of the running course (R113, R114). -/
def execCourseFault (a : ArrayId) (st : Status) (r : RunLog) (s : State) : Host.Outcome State Fault Refusal :=
  done (onArr a.val (fun s => match runningCourse s a.val with
    | some c => if (st = .poisonConsumed && poisonSure s a.val c) || st = .crcExhausted then courseFault a.val st (viewExt s a.val c r.ext) r c s else s
    | none => s) s)

/-- SEQUENCER_MISMATCH (R118). -/
def execSequencerMismatch (a : ArrayId) (r : RunLog) (s : State) : Host.Outcome State Fault Refusal := done (onArr a.val (sequencersDiffer a.val r) s)

/-- SM_MISMATCH of a copy engine or a walker (R360). -/
def execSmMismatch (unit : BitVec 16) (s : State) : Host.Outcome State Fault Refusal := done (onFab (machinesDiffer unit.toNat) s)

end Sys2Proof.Machine
end

