-- ==== Sys2Proof/Machine/HostLink.lean ====
section
/-! DEFINITION. The host links (09, 11, 17): training, retrains, link-downs, the end of the host proxy (R241, R249, R293,
R294, R316, R436, R439). -/

namespace Sys2Proof.Machine

/-! ### Host writes that a lost port held (R215, R271) -/

/-- A flushed write of a core that has not been confirmed on port `p`. -/
def unconfirmedOn (s : State) (p : Nat) (o : PortOp) : Bool :=
  o.phase = .finished && o.flushed && countsStore o &&
    (if p = 0 then (getHost s 0).confirmed < o.need0 else (getHost s 1).confirmed < o.need1)

/-- Such a write, which port `p` carried, is lost: an EARLY one is recorded, and the first barrier of its stream reports it; no barrier
reports a LATE one (R216, R217). -/
def loseFlushed (p q : Nat) (s : State) (o : PortOp) : State :=
  let s := modOp q o.id (fun x => { x with need0 := 0, need1 := 0 }) s
  if o.early then
    modPort q (fun x => { x with lost := x.lost ++ [(o.id, opStream o, 2, .deadTarget)] })
      (raise ⟨8, 0x1000 + p, some (opCtx o), o.req.va.toNat, 2, 2, .deadTarget, 0⟩ (count 0x3880 4 s))
  else s

/-- Lose every core's flushed write that port `p` has not confirmed. -/
def loseUnconfirmed (p : Nat) (s : State) : State :=
  s.ports.foldl (fun st kv => (kv.2.ops.filter (unconfirmedOn s p)).foldl (loseFlushed p kv.1) st) s

/-- The writes that a port's write queue holds for the block's own work: those of no core. -/
def blockWrites (s : State) (p : Nat) : List Posted :=
  let lost := s.ports.flatMap fun kv => (kv.2.ops.filter (unconfirmedOn s p)).map fun o => if p = 0 then o.need0 else o.need1
  (getHost s p).wqueue.filter fun w => !(lost.contains w.seq)

/-- The writes that a command or course waits for on port `p` move to the other port's number `n`. -/
def moveNeed (s : State) (p n a b : Nat) : Nat × Nat :=
  if p = 0 then (if (getHost s 0).confirmed < a then (0, max b n) else (a, b))
  else (if (getHost s 1).confirmed < b then (max a n, 0) else (a, b))

/-- Every waiting command, course and record waits on the survivor instead. -/
def moveNeeds (p n : Nat) (s : State) : State :=
  let place (k m : Nat) : Nat × Nat := if k = p && (getHost s p).confirmed < m then (1 - p, n) else (k, m)
  let cmd (c : Cmd) : Cmd :=
    let (a, b) := moveNeed s p n c.need0 c.need1
    { c with need0 := a, need1 := b, cqAt := c.cqAt.map fun x => (x.1, place x.2.1 x.2.2) }
  let record (r : JRecord) : JRecord := if r.confirmed then r else { r with port := (place r.port r.seq).1, seq := (place r.port r.seq).2 }
  let course (c : Course) : Course := match c.stage with
    | .writing a b => let (x, y) := moveNeed s p n a b; { c with stage := .writing x y }
    | _ => c
  { s with queues := s.queues.map fun kv => (kv.1, { kv.2 with cmds := kv.2.cmds.map cmd, jrn.recs := kv.2.jrn.recs.map record })
           arrays.arr := s.arrays.arr.map fun kv => (kv.1, { kv.2 with courses := kv.2.courses.map course }) }

/-- A port's write queue and read-backs are gone; nothing of it is outstanding. -/
def clearPort (p : Nat) (s : State) : State :=
  modHost p (fun h => { h with readbacks := [], wqueue := [], confirmed := h.wseq }) { s with stalled := s.stalled.filter fun x => x.1 ≠ p }

/-- Requests of the device cache that went over port `p` go again over the survivor, and its evictions (R249). -/
def reissueCache (p : Nat) (s : State) : State :=
  let onPort (g : Nat) : Bool := tget 0 s.coh.sentOn g = p
  let gone := s.coh.evicting.filter fun e => onPort e.1
  let s := (s.coh.missing.filter fun m => onPort m.2).foldl (fun st m =>
    match getTxn st (missOwner st m.2) with
    | some t => (match hostNeed st t.kind m.2 t.req.cache.val (t.data.mask = fullMask) with
      | some req =>
        let sends := req = "ItoMWr" || req = "WOWrInv"
        d2h m.2 req (if sends && t.form = .plain then some t.data.data else none) (if sends then t.data.mask else 0) (sends && t.data.poison) st
      | none => st)
    | none => st) s
  gone.foldl (fun st e => d2h e.1 (if e.2 then "DirtyEvict" else "CleanEvictNoData") (if e.2 then some (lineAt st e.1) else none)
    (if e.2 then fullMask else 0) (e.2 && heldPoison st e.1) { st with coh.evicting := st.coh.evicting.erase e }) s

/-- Reads of the task-flushed path that went over port `p` go again over the survivor; an AtomicOp in flight is lost. -/
def reissueReads (p : Nat) (s : State) : State :=
  s.ports.foldl (fun acc kv => (kv.2.ops.filter fun o => o.phase = .io && nbits o.pa 12 1 = p).foldl (fun st o =>
    if opCode o = opAtomic then owe (.pump kv.1) (loseOp kv.1 .deadTarget st o)
    else portSend (hostPortOf st o.pa) (.hostRead (hostPortOf st o.pa) o.pa (opLen o)) st) acc) s

/-- A CXL.mem response, a back-invalidate snoop or an interrupt, as port `k` sends it in place of the port that went down. -/
def viaSurvivor (k : Nat) (o : Out) : Option Out :=
  match o with
  | .memRsp _ a r d x => some (.memRsp k a r d x)
  | .biSnoop _ a n => some (.biSnoop k a n)
  | .biConflict _ a => some (.biConflict k a)
  | .msix _ v => some (.msix k v)
  | _ => none

/-- One port is down and the other up: its traffic moves (R249, R271, R280). A response that the link carried before it went down has
reached the host (DESIGN CHOICE, log 175); one that waited for the link's retrain goes over the survivor. -/
def moveToSurvivor (p : Nat) (s : State) : State :=
  let k := 1 - p
  let waits := s.stalled.filterMap fun x => if x.1 = p then viaSurvivor k x.2 else none
  let again := blockWrites s p
  let s := loseUnconfirmed p s
  let n := (getHost s k).wseq + again.length
  let s := moveNeeds p n s
  let s := again.foldl (fun st w => hostPost w.pa w.bytes w.poison st) (waits.foldl (fun st o => portSend k o st) (clearPort p s))
  let s := if again.isEmpty then s else awaitPort k n s
  let h := getHost s p
  let s := modHost k (fun x => { x with asked := x.asked ++ h.asked, bisnp := x.bisnp ++ h.bisnp })
    (modHost p (fun x => { x with asked := [], bisnp := [] }) s)
  pumpAll (reissueReads p (reissueCache p s))

/-! ### The host proxy dies (R241, R249, R276, R294, R316) -/

/-- Requests that wait at a home for the host's answer end: their requesters have lost them. -/
def dropHostWaits (s : State) : State :=
  let gs := s.coh.missing.map (·.2)
  gs.foldl (fun st x => let g := missOwner st x; match getTxn st g with
    | some t => if t.memWait then serveQueued (endTxn g st) else st
    | none => st) { s with coh.missing := [], coh.merged := [], coh.evicting := s.coh.evicting.filter fun e => target (e.1 * 64) ≠ .host }

/-- Commands whose host writes are lost complete DEAD_TARGET; those of journaled queues wait for their unit (R294). -/
def loseCmdWrites (s : State) : State :=
  s.queues.foldl (fun st kv =>
    if qJournaled kv.2.cfg then st
    else (kv.2.cmds.filter fun c => (getHost s 0).confirmed < c.need0 || (getHost s 1).confirmed < c.need1).foldl (fun a c =>
      modCmd kv.1 c.idx (fun x => { x with fin := some (worst (x.fin.getD .ok) .deadTarget), need0 := 0, need1 := 0 }) a) st) s

/-- Courses whose host outputs are lost complete DEAD_TARGET. -/
def loseCourseWrites (s : State) : State :=
  s.arrays.arr.foldl (fun st kv => kv.2.courses.foldl (fun a c => match c.stage with
    | .writing x y => if (getHost s 0).confirmed < x || (getHost s 1).confirmed < y then owe (.failOp (.array kv.1 c.id) .deadTarget) a else a
    | _ => a) st) s

/-- Queues without a journal whose ring or completion ring lies in host memory stop (R276, R294). -/
def stopHostQueues (s : State) : State :=
  s.queues.foldl (fun st kv =>
    let x := kv.2
    if qJournaled x.cfg then st
    else
      let st := modQueue kv.1 (fun y => { y with cmds := y.cmds.map fun c => { c with cqAt := none } }) st
      if x.state = 1 && (target (qRing x.cfg) = .host || target (qCq x.cfg) = .host) then stopQueue kv.1 .deadTarget st else st) s

/-- Host-registered watches end, their records held until the ring is configured again (R316). -/
def parkHostWatches (s : State) : State :=
  let before := s.sync.held
  let s := endWatches 2 .deadTarget false (fun w => w.dest = .host) { s with sync.held := [] }
  { s with sync.parked := s.sync.parked ++ s.sync.held, sync.held := before }

/-- The host proxy dies, once. -/
def proxyDies (s : State) : State :=
  if s.coh.proxyGone then s
  else
    let s := loseUnconfirmed 1 (loseUnconfirmed 0 { s with coh.proxyGone := true })
    let s := loseCourseWrites (loseCmdWrites s)
    let s := clearPort 1 (clearPort 0 s)
    let s := hostLinesLost (reclaim hostProxy 0 s)
    let s := loseWhere (fun _ o => o.what = .mem && o.phase ≠ .start && o.phase ≠ .finished && !(isBarrier o) && target o.pa = .host &&
      (match o.phase with | .fault _ => false | _ => true)) .deadTarget s
    let s := dropHostWaits s
    let s := modHost 1 (fun h => { h with asked := [], bisnp := [] }) (modHost 0 (fun h => { h with asked := [], bisnp := [] }) s)
    pumpAll (parkHostWatches (stopHostQueues (holdJournals s)))

/-! ### Link events -/

/-- Port `p`'s link goes down: link-down, host reset, or a retrain over 100 ms (R215, R249, R433). -/
def hostDown (p : Nat) (s : State) : State :=
  if (getHost s p).link = 0 then s
  else
    let was := hostUp s p
    let s := modHost p (fun h => { h with link := 0, width := 0, rate := 0, retrainStart := none }) s
    let s := setLinkState p 0 s
    if !was then s
    else
      let s := raise ⟨0x0A, 0x1000 + p, none, 0, 0, 0x0B, .ok, 0⟩ (count (0x5001 + p) 0x15 s)
      if proxyAlive s then moveToSurvivor p s else proxyDies s

/-- A host reset on port `p` (R436), taken at once. -/
def hostReset (p : Nat) (s : State) : State :=
  let s := count (0x5001 + p) 0x16 s
  modHost p (fun h => { h with perst := false }) (hostDown p s)

/-- The port trains again when its reset rises. -/
def perstRises (p : Nat) (s : State) : State :=
  modHost p (fun h => { h with perst := true, link := if h.link = 0 then 1 else h.link }) s

/-- A retrain begins: traffic stalls, read-backs included (R293). A retrain out of L1 wakes a sleeping block (Table 1.6). -/
def retrainBegins (p : Nat) (s : State) : State :=
  if hostUp s p && (getHost s p).link ≠ 5 then
    modHost p (fun h => { h with link := 5, retrainStart := some s.aoncnt }) (wakeUp s)
  else s

/-- The port's training or retrain has ended: it carries traffic in L0. A retrain that lasted longer than 100 ms is a
link-down (R293). A link that reaches L0 wakes a sleeping block (Table 1.6). -/
def linkTrained (p width rate : Nat) (s : State) : State :=
  let h := getHost s p
  match h.retrainStart with
  | some t =>
    if h.link = 5 then
      let n := s.aoncnt - t
      if 5000000 < n then hostDown p s
      else
        let out := s.stalled.filter fun x => x.1 = p
        let s := modHost p (fun x => { x with
          link := 2, width := width, rate := rate, retrainStart := none, longest := max x.longest n, lastUse := s.aoncnt })
          { (wakeUp s) with stalled := s.stalled.filter fun x => x.1 ≠ p }
        pumpAll (count (0x5001 + p) 0x14 (out.foldl (fun st x => emit x.2 st) s))
    else s
  | none =>
    if h.link = 1 && h.perst then
      let s := modHost p (fun x => { x with link := 2, width := width, rate := rate, lastUse := s.aoncnt }) (wakeUp s)
      pumpAll (setLinkState p 1 { s with coh.proxyGone := false })
    else s

/-- A retrain passes 100 ms (R293). -/
def retrainLimit (p : Nat) (s : State) : State :=
  match (getHost s p).retrainStart with
  | some t => if (getHost s p).link = 5 && t + 5000000 < s.aoncnt then hostDown p s else s
  | none => s

/-- L1 after L1_IDLE ticks without a transaction (R439). -/
def l1Expires (p : Nat) (s : State) : State :=
  let h := getHost s p
  if (h.link = 2 || h.link = 3) && h.lastUse + obj s (0x5001 + p) 0x19 5000 ≤ s.aoncnt && h.readbacks.isEmpty && h.asked.isEmpty && h.bisnp.isEmpty then
    modHost p (fun x => { x with link := 4 }) s
  else s

/-- A PHY-supplied interface clock stops: host ports 0 and 1, then the peer links (R433). -/
def clockStops (l : Nat) (s : State) : State := if l < 2 then hostDown l s else peerDown (l - 2) s

end Sys2Proof.Machine
end

