-- ==== Sys2Proof/Machine/CohRows.lean ====
section
/-! DEFINITION. The commands of the home protocol (09): each is one message taken by its receiver. -/

namespace Sys2Proof.Machine

/-- A request of an assigned agent reaches its home slice (R13). One whose data block failed its check waits for it (R125). -/
def requestTaken (k : CohKind) (r : CohReq) (d : CohData) (aop size : Nat) (s : State) : State :=
  if !(agentOk r.agent) || blockOut s (r.pa / 64) then s
  else homeRequest k r d aop size .plain (takeMsg (.request k r d aop size) s)

/-- A message that carries a data block to the home of granule `g`: one whose block failed its check waits for the block (R125). -/
def withBlock (g : Nat) (f : State → State) (s : State) : State := if blockOut s g then s else f s

def execRdS (r : CohReq) (s : State) : Host.Outcome State Fault Refusal := done (onFab (requestTaken .rdS r noData 0 0) s)
def execRdX (r : CohReq) (s : State) : Host.Outcome State Fault Refusal := done (onFab (requestTaken .rdX r noData 0 0) s)
def execUpg (r : CohReq) (s : State) : Host.Outcome State Fault Refusal := done (onFab (requestTaken .upg r noData 0 0) s)
def execRdNc (r : CohReq) (s : State) : Host.Outcome State Fault Refusal := done (onFab (requestTaken .rdNc r noData 0 0) s)
def execWrNc (r : CohReq) (d : CohData) (s : State) : Host.Outcome State Fault Refusal :=
  done (onFab (requestTaken .wrNc r d 0 0) s)
/-- `size` 0 to 2 is 4, 8 or 16 bytes (Table 8.8). -/
def execAtomH (r : CohReq) (d : CohData) (aop : Fin 10) (size : Fin 3) (s : State) : Host.Outcome State Fault Refusal :=
  done (onFab (requestTaken .atomH r d aop.val (4 * 2 ^ size.val)) s)
def execZeroL (r : CohReq) (s : State) : Host.Outcome State Fault Refusal := done (onFab (requestTaken .zeroL r noData 0 0) s)
def execWriteback (r : CohReq) (bad : Bool) (s : State) : Host.Outcome State Fault Refusal := done (onFab (withBlock (r.pa / 64) (wbArrives r bad)) s)

def execSnpFwdS (p : PortId) (g requester : Nat) (s : State) : Host.Outcome State Fault Refusal :=
  done (onFab (snoopArrives .fwdS p.val g requester) s)
def execSnpFwdX (p : PortId) (g requester : Nat) (s : State) : Host.Outcome State Fault Refusal :=
  done (onFab (snoopArrives .fwdX p.val g requester) s)
def execSnpGetS (p : PortId) (g requester : Nat) (s : State) : Host.Outcome State Fault Refusal :=
  done (onFab (snoopArrives .getS p.val g requester) s)
def execSnpGetI (p : PortId) (g requester : Nat) (s : State) : Host.Outcome State Fault Refusal :=
  done (onFab (snoopArrives .getI p.val g requester) s)
def execSnpCur (p : PortId) (g requester : Nat) (s : State) : Host.Outcome State Fault Refusal :=
  done (onFab (snoopArrives .cur p.val g requester) s)
def execSnpInv (p : PortId) (g requester : Nat) (s : State) : Host.Outcome State Fault Refusal :=
  done (onFab (snoopArrives .inv p.val g requester) s)

def execRspI (p : PortId) (g : Nat) (s : State) : Host.Outcome State Fault Refusal := done (onFab (rspI p.val g) s)
def execRspFwdS (p : PortId) (g : Nat) (dirty : Bool) (s : State) : Host.Outcome State Fault Refusal :=
  done (onFab (withBlock g (rspHad [.fwdS] p.val g dirty true)) s)
def execRspFwdI (p : PortId) (g : Nat) (dirty : Bool) (s : State) : Host.Outcome State Fault Refusal :=
  done (onFab (withBlock g (rspHad [.fwdX] p.val g dirty true)) s)
def execRspData (p : PortId) (g : Nat) (dirty : Bool) (s : State) : Host.Outcome State Fault Refusal :=
  done (onFab (withBlock g (rspHad [.getS, .getI, .cur] p.val g dirty false)) s)
def execRspWbif (p : PortId) (g : Nat) (s : State) : Host.Outcome State Fault Refusal := done (onFab (rspWbif p.val g) s)

def execDataFwdMessage (agent g : Nat) (x : Grant) (line : Line) (poison : Bool) (s : State) : Host.Outcome State Fault Refusal :=
  done (onFab (dataArrives agent g x line poison true) s)
def execDataMessage (agent g : Nat) (x : Grant) (line : Line) (poison : Bool) (s : State) : Host.Outcome State Fault Refusal :=
  done (onFab (dataArrives agent g x line poison false) s)
def execCmpFwd (agent g : Nat) (s : State) : Host.Outcome State Fault Refusal := done (onFab (takeMsg (.cmpFwd agent g)) s)
def execGntX (agent g : Nat) (s : State) : Host.Outcome State Fault Refusal := done (onFab (grantArrives agent g) s)
def execCmpMessage (agent g : Nat) (old : Line) (poison : Bool) (s : State) : Host.Outcome State Fault Refusal :=
  done (onFab (cmpArrives agent g old poison) s)
def execWbAck (agent g : Nat) (s : State) : Host.Outcome State Fault Refusal := done (onFab (wbAckArrives agent g) s)
def execRetryMessage (agent g : Nat) (n : Fin 16) (s : State) : Host.Outcome State Fault Refusal :=
  done (onFab (retryArrives agent g n.val) s)
def execDoneMessage (agent g : Nat) (s : State) : Host.Outcome State Fault Refusal := done (onFab (doneArrives agent g) s)

/-- AGENT_DEATH: an uncorrectable tag error fences a near cache (R230, R241); the host proxy is dead while no host port is
up. Every home slice reclaims (R242). -/
def agentDies (agent : Option PortId) (s : State) : State :=
  match agent with
  | some p => if (getPort s p.val).nearFenced then s else owe (.fence (0x3000 + p.val) 3) s
  | none => if proxyAlive s then s else proxyDies s

def execAgentDeath (agent : Option PortId) (s : State) : Host.Outcome State Fault Refusal := done (onFab (agentDies agent) s)

end Sys2Proof.Machine
end

