-- ==== Sys2Proof/Machine/Power.lean ====
section
/-! DEFINITION. Power (01, 04, 15, 17): power points and the governor, droop inputs, calibration, sensors, the trip, power
gating and sleep. -/

namespace Sys2Proof.Machine

/-! ### Power points and the limit (R17, R397, R398) -/

def pointInEffect (s : State) : Nat := obj s 0x2000 2 1
def ceilingOf (point : Nat) : Nat := match point with | 0 => 340 | 1 => 650 | _ => 780
def arrMhz (point : Nat) : Nat := match point with | 0 => 800 | 1 => 1100 | _ => 1350

/-- LIMIT_W: the lowest of the ceiling, the grant and the owner's cap. -/
def limitOf (s : State) : Nat := min (ceilingOf (pointInEffect s)) (min s.power.grant (obj s 0x2000 3 780))

/-- A temperature in units of 0.125 °C. -/
def tempOf (s : State) (k : Nat) : Int := (tget 0 s.flt.temps k).toInt

/-- Some sensor reads at or above THROTTLE_TEMP (R398). -/
def hot (s : State) : Bool := (List.range 64).any fun k => (obj s 0x2000 9 840 : Int) ≤ tempOf s k

/-- A cluster with all four of its arrays fenced is not counted (R400). -/
def clusterFenced (s : State) (c : Nat) : Bool := (rangeFrom (4 * c) 4).all fun a => (getArr s a).fenced

/-- CAL_STATE: 0 once every counted cluster has a record and none is provisional. -/
def calState (s : State) : Nat :=
  b2n ((List.range 48).any fun c => !(clusterFenced s c) && ((getCluster s c).source = 0 || (getCluster s c).provisional))

/-- Bit n of PROVISIONAL: cluster n is provisional. -/
def provisionalBits (s : State) : Nat := pack ((List.range 48).map fun c => (1, b2n ((getCluster s c).provisional && !(clusterFenced s c))))

/-- POINT_IN_EFFECT follows POINT_REQUESTED, with PEAK held at NOMINAL while the calibration is provisional (R397); before S23
it stays (R409). -/
def refreshPoint (s : State) : State :=
  let want := obj s 0x2000 1 1
  let v := if want = 2 && calState s = 1 then 1 else want
  if s.start.state ≠ 1 || v = pointInEffect s then s
  else { (setObj 0x2000 2 v s) with power.pointAt := s.aoncnt }

/-- No array of the cluster has a row in flight: none runs a course, or the course there waits for a block that is sent again, or has
presented its last row. -/
def rowFree (s : State) (c : Nat) : Bool :=
  (rangeFrom (4 * c) 4).all fun a => (runningCourse s a).all fun k => k.blocked || (match k.stage with | .writing _ _ => true | _ => false)

/-- A cluster moves its clock to the point in effect: in a cycle with no row in flight, or from 10 µs after the change at a row
boundary (R24). Between two commands every running array stands at a row boundary. -/
def switchPoint (c : Nat) (s : State) : State :=
  if rowFree s c || s.power.pointAt + 500 ≤ s.aoncnt then modCluster c (fun x => { x with point := pointInEffect s }) s else s

/-- 20 µs after the change every cluster runs at the new point (R24). -/
def switchLate (s : State) : State :=
  if s.power.pointAt + 1000 ≤ s.aoncnt then
    (List.range 48).foldl (fun st c => if (getCluster st c).point = pointInEffect s then st else
      modCluster c (fun x => { x with point := pointInEffect s }) st) s
  else s

/-! ### The governor (R398, R399) and the adaptive monitor (R401) -/

/-- A droop in a counted tick raises a provisional cluster's guard by 5 mV, up to 50 mV. -/
def guardRaise (c : Nat) (s : State) : State :=
  if aonRuns s && (getCluster s c).provisional && (getCluster s c).heavy then
    modCluster c (fun x => { x with guard := min 50 (x.guard + 5), quiet := 0 }) s
  else s

/-- One counted tick of a provisional cluster that draws 60 % of RATED_MA or more. A tick with a warning counts as a droop. -/
def countedTick (s : State) (c : Nat) : State :=
  if (getCluster s c).provisional then
    let s := modCluster c (fun x => { x with counted := x.counted + 1, quiet := x.quiet + 1 }) s
    if (getCluster s c).warned then guardRaise c s else s
  else s

/-- f at the end of a tick with estimate `p` under the limit `lim` (in mW), and the ticks in a row below 0.97 of it. -/
def nextIssue (f below p lim : Nat) : Nat × Nat :=
  if lim < p * 1000 then (f - 1, 0)
  else if p * 100000 < 97 * lim then (if below = 15 then (min 32 (f + 1), 0) else (f, below + 1))
  else (f, 0)

/-- The end of an AON tick: P is the governor's estimate in W, `heavy` the clusters that drew 60 % of RATED_MA or more. -/
def governorTick (p : Nat) (heavy : List Nat) (s : State) : State :=
  let w := limitOf s
  let lim := if hot s then 900 * w else 1000 * w
  let f := s.power.issue
  let s := if f < 32 then count 0x2000 0x0B s else s
  let s := if f = 0 && lim < p * 1000 then count 0x2000 0x0C s else s
  let (f', b) := nextIssue f s.power.below p lim
  let s := { s with power.limit := w, power.power := p, power.issue := f', power.below := b }
  let s := (List.range 48).foldl (fun st c =>
    if heavy.contains c ≠ (getCluster st c).heavy then modCluster c (fun x => { x with heavy := heavy.contains c }) st else st) s
  heavy.foldl countedTick s

/-- Once no cluster is provisional, CAL_STATE is 0 and a requested PEAK takes effect. -/
def calChanged (s : State) : State := refreshPoint s

/-- The monitor writes a new record after ADAPT_TICKS counted ticks (R401). -/
def adaptDone (c load : Nat) (s : State) : State :=
  let x := getCluster s c
  if x.provisional && 250000000 ≤ x.counted then
    let g := x.guard
    calChanged (count 0x2100 9 (modCluster c (fun y => { y with
      provisional := false, source := 3, load := load, guard := 0, vQuiet := y.vQuiet + g, vNominal := y.vNominal + g, vPeak := y.vPeak + g
      taken := s.aoncnt, temp := (tget 0 s.flt.temps c).toNat }) s))
  else s

/-- One second of counted ticks without a droop lowers the guard by 5 mV (R401). -/
def guardLowers (c : Nat) (s : State) : State :=
  let x := getCluster s c
  if x.provisional && 50000000 ≤ x.quiet then modCluster c (fun y => { y with guard := y.guard - 5, quiet := 0 }) s else s

/-! ### Droop inputs (R116, R454) -/

/-- DROOP_STOP_N low: the cluster's clock stops with every state held. -/
def droopStop (c : Nat) (s : State) : State := guardRaise c (modCluster c (fun x => { x with stopped := true }) s)

/-- The stop has lasted 64 ARR cycle-times: the clock restarts with one idle row in two. -/
def droopPersists (c : Nat) (s : State) : State :=
  if (getCluster s c).stopped then
    let s := count 0x4100 7 (modCluster c (fun x => { x with stopped := false, half := true }) s)
    fencesWaiting c (raise ⟨0x0B, 0x4000 + 4 * c, none, 0, 0, 0, .ok, 0⟩ s)
  else s

/-- A droop input rises. -/
def droopClears (c : Nat) (warn : Bool) (s : State) : State :=
  let s' := modCluster c (fun x => if warn then { x with warned := false } else { x with stopped := false, half := false }) s
  if !warn && (getCluster s c).stopped then fencesWaiting c s' else s'

/-- DROOP_WARN_N low: one idle row in four while it lasts. -/
def droopWarns (c : Nat) (s : State) : State := modCluster c (fun x => { x with warned := true }) s

/-! ### Sensors (R351, R455, R457) -/

/-- The unit that Table 17.16 gives a sensor: its lowest (DESIGN CHOICE, log 23). -/
def unitOfSensor (k : Nat) : Nat :=
  if k < 48 then 0x4000 + 4 * k
  else if k < 52 then 0x5000 + 48 * (k - 48)
  else if k < 58 then 0x5100 + (k - 52)
  else if k < 60 then 0x1000 + (k - 58)
  else match k with | 60 => 0x2000 | 61 => 0x2008 | 62 => 0xB000 | _ => 0xC000

/-- THERMTRIP_N falls and every fast clock stops; the trip holds until PWR_OK falls. -/
def trip (s : State) : State := if s.pins.thermtrip then s else emit (.pin "THERMTRIP_N" 0 false) { s with pins.thermtrip := true }

/-- One sensor's new reading: a reading that rises above the throttle limit is an ENVIRONMENT event; 125 °C trips. -/
def sampleTemp (s : State) (kv : Nat × BitVec 12) : State :=
  let lim : Int := (obj s 0x2000 9 840 : Nat)
  let was := tempOf s kv.1
  let s := { s with flt.temps := tset 0 s.flt.temps kv.1 kv.2 }
  let s := if lim < kv.2.toInt && was ≤ lim then raise ⟨0x0B, unitOfSensor kv.1, none, 0, 0, 0, .ok, 0⟩ s else s
  if 1000 ≤ kv.2.toInt then trip s else s

/-- Every 16 ticks the sensors and the voltage monitors are sampled. -/
def sampleSensors (temps volts : List (BitVec 12)) (s : State) : State :=
  let s := { s with flt.volts := ((List.range 24).zip volts).foldl (fun t kv => tset 0 t kv.1 kv.2) s.flt.volts }
  ((List.range 64).zip temps).foldl sampleTemp s

/-! ### Gating, retention, sleep (R20, R21, R90, R163) -/

/-- An array ramps down once it has no course to present after its last row, though that row's course may not have completed, or once its
course has waited 64 cycles for an input (R90). -/
def rampDown (a : Nat) (s : State) : State :=
  if (getArr s a).courses.any (startable s) then s else modArr a (fun x => { x with current := false }) s

/-- No array of the cluster presents a row, or holds its current; courses may wait there. -/
def clusterIdle (s : State) (c : Nat) : Bool := rowFree s c && (rangeFrom (4 * c) 4).all fun a => !(getArr s a).current

/-- A cluster power-gates once it has issued no row for CLUSTER_IDLE_DELAY (R20). -/
def gateCluster (c : Nat) (s : State) : State :=
  if clusterIdle s c && (getCluster s c).rowDue ≤ s.aoncnt then modCluster c (fun x => { x with gated := true }) s else s

/-- A loft slice enters retention once it has served no access for LOFT_IDLE_DELAY; it keeps its data (R163). -/
def retainSlice (k : Nat) (s : State) : State :=
  if tget 64 s.power.loftDue k ≤ s.aoncnt then { s with mem.retained := tset false s.mem.retained k true } else s

/-- An active stack enters self-refresh once its controller has served no access for SR_DELAY (R163). -/
def refreshStack (k : Nat) (s : State) : State :=
  if (getStack s k).active && tget 2500 s.power.stackDue k ≤ s.aoncnt then modStack k (fun x => { x with selfRefresh := true }) s else s

/-- The conditions of R21 hold now. -/
def allIdle (s : State) : Bool :=
  ((List.range 48).all fun c => (getCluster s c).gated) && (s.arrays.arr.all fun kv => kv.2.courses.isEmpty) &&
  (s.queues.all fun kv => (kv.2.state ≠ 1 || kv.2.cons = kv.2.prod) && kv.2.cmds.isEmpty && kv.2.jrn.limit.isNone) &&
  (s.engines.all fun kv => kv.2.job.isNone && kv.2.migrate.isNone) && s.tu.walks.isEmpty && s.tu.invals.isEmpty && s.tu.copies.isEmpty &&
  (s.sched.steps.all fun kv => kv.2.issuing.isNone) &&
  (s.ports.all fun kv => kv.2.ops.isEmpty && kv.2.held.isEmpty && kv.2.half.isNone) &&
  s.coh.fabric.isEmpty && s.coh.txns.isEmpty && s.coh.queued.isEmpty && s.coh.missing.isEmpty && s.coh.evicting.isEmpty &&
  (s.hosts.all fun kv => (kv.2.link = 0 || kv.2.link = 4) && kv.2.readbacks.isEmpty && kv.2.asked.isEmpty && kv.2.bisnp.isEmpty) &&
  (s.peers.all fun kv => kv.2.out.isEmpty && kv.2.outq.isEmpty && kv.2.inbox.isEmpty && kv.2.part.isNone && kv.2.replay.isEmpty) &&
  s.sync.held.isEmpty && s.sync.parked.isEmpty && s.stalled.isEmpty && s.mgmt.mpQueue = 0 && s.mgmt.mirrorPending.isEmpty && s.mgmt.mpRestart.isNone && s.ftest.run.isNone

/-- The work that the block has had: entries of its ports, courses, slots and records of its queues, invalidations, traffic of its links.
Work that begins and ends between two ticks has raised it. -/
def activity (s : State) : Nat :=
  let sum (l : List Nat) : Nat := l.foldl (· + ·) 0
  sum (s.ports.map fun kv => kv.2.nextId) + s.arrays.nextId + s.tu.issued + sum (s.queues.map fun kv => kv.2.cons + kv.2.cqProd) +
  sum (s.peers.map fun kv => kv.2.sendSeq + kv.2.recvSeq) + sum (s.hosts.map fun kv => kv.2.wseq + kv.2.lastUse)

/-- The idle period of R21 goes on, begins with the SLEEP_DELAY of now, or breaks: seen at each tick (log 159). -/
def watchIdle (s : State) : State :=
  let fresh := (s.aoncnt, obj s 0x2000 0x0E 500, activity s)
  let on := match s.power.idleFrom with
    | some x => if x.2.2 = activity s then x else fresh
    | none => fresh
  { s with power.idleFrom := if fabOn s && allIdle s then some on else none }

/-- The idle period has lasted its SLEEP_DELAY, which is not 0, without a break (R21). -/
def idleLong (s : State) : Bool :=
  match s.power.idleFrom with
  | none => false
  | some (t, d, n) => d ≠ 0 && t + d ≤ s.aoncnt && n = activity s

/-- One tick of CLK_AON on an empty queue: the clock, the late switch of a power point, and the idle conditions. -/
def tick (s : State) : State := if aonRuns s then watchIdle (switchLate (idleTick s)) else s

/-- ASLEEP (R21). -/
def fallAsleep (s : State) : State :=
  if idleLong s && s.start.state = 1 && allIdle s then
    let s := setAwake false { s with asleep := true, mem.retained := (List.range 192).foldl (fun t k => tset false t k true) s.mem.retained, power.idleFrom := none }
    (activeStacks s).foldl (fun st k => modStack k (fun x => { x with selfRefresh := true }) st) s
  else s

/-! ### Link margins (R402) -/

/-- The PHY's margin under traffic (R402). -/
def marginChecked (l margin : Nat) (s : State) : State :=
  if (getLink s l).state = 1 then
    let s := count 0x2100 0x0A (count (0x2131 + l) 4 { s with power.links := tmod {} s.power.links l (fun x => { x with margin := margin }) })
    setLinkState l (if obj s (0x2131 + l) 3 30 ≤ margin then 2 else 3) s
  else s

/-- The link is re-equalised (R402). -/
def reequalise (l : Nat) (s : State) : State := if (getLink s l).state = 3 then setLinkState l 1 s else s

/-! ### Stack rails and PHY updates (R451) -/

/-- SPs_PG falls while the stack is active: its channels are fenced. -/
def stackPgFalls (k : Nat) (s : State) : State :=
  if (getStack s k).active then (List.range 32).foldl (fun st c => fenceChannel k c 1 st) (modStack k (fun x => { x with pg := false }) s) else s

end Sys2Proof.Machine
end

