-- ==== Sys2Proof/Machine/Objects.lean ====
section
/-! DEFINITION. The object dictionary (15, with the object tables of every chapter): its records, the type, access class and
size of each object, and what a read of each object returns (R372 to R378). -/

namespace Sys2Proof.Machine

/-! ### Types and access classes (Tables 15.1, 15.2) -/

/-- An object's type: `u n` and `i n` are integers of n bytes. -/
inductive Ty where
  | bool
  | u (n : Nat)
  | i (n : Nat)
  | bytes (n : Nat)
  | str (n : Nat)
  deriving DecidableEq, Repr

inductive Access where
  | const | ro | rw | wo | rwp
  deriving DecidableEq, Repr

def Ty.size : Ty → Nat
  | .bool => 1 | .u n => n | .i n => n | .bytes n => n | .str n => n

/-- The type code of Table 15.1. -/
def Ty.code : Ty → Nat
  | .bool => 1
  | .u n => (match n with | 1 => 2 | 2 => 3 | 4 => 4 | _ => 5)
  | .i n => (match n with | 1 => 6 | 2 => 7 | 4 => 8 | _ => 9)
  | .bytes _ => 0x0B
  | .str _ => 0x0C

/-- The access class code of Table 15.2. -/
def Access.code : Access → Nat
  | .const => 0 | .ro => 1 | .rw => 2 | .wo => 3 | .rwp => 4

/-- One object: its type, its access class and its default. -/
structure Obj where
  ty : Ty
  acc : Access
  default : Nat
  deriving DecidableEq, Repr

/-- A record of the dictionary, or `n` records alike at consecutive indices, with the objects of subindices 1 to ENTRIES. -/
structure Rec where
  base : Nat
  n : Nat
  entries : List (Ty × Access × Nat)
  deriving DecidableEq, Repr

/-! ### The records -/

def rec1000 : Rec := ⟨0x1000, 1, [
  (.str 16, .const, 0x6E61736F7A6C6144), (.str 16, .const, 0x39434A206F79726F4A), (.u 1, .const, 1),
  (.bytes 16, .const, 0), (.u 2, .const, 1), (.u 4, .ro, 0), (.u 4, .const, 0), (.u 8, .ro, 0), (.bytes 16, .ro, 0)]⟩

def rec1100 : Rec := ⟨0x1100, 1, [
  (.u 1, .ro, 0), (.u 1, .ro, 0xFF), (.u 1, .ro, 0), (.u 4, .const, 250000000), (.u 4, .ro, 0), (.u 4, .rwp, 5000),
  (.u 2, .wo, 0), (.u 2, .ro, 0), (.u 2, .ro, 0), (.u 1, .ro, 0), (.bool, .wo, 0), (.u 8, .ro, 0), (.u 8, .ro, 0),
  (.u 8, .ro, 0), (.u 8, .ro, 0), (.u 8, .ro, 0), (.u 8, .ro, 0), (.u 1, .ro, 0)]⟩

def rec1101 : Rec := ⟨0x1101, 8, [
  (.u 1, .ro, 0), (.u 1, .ro, 0), (.u 1, .ro, 0), (.bytes 48, .ro, 0), (.u 8, .ro, 0), (.u 8, .ro, 0)]⟩

def rec1180 : Rec := ⟨0x1180, 8, [
  (.u 4, .ro, 0), (.u 8, .ro, 0), (.u 2, .ro, 0), (.bytes 256, .ro, 0)]⟩

def rec2000 : Rec := ⟨0x2000, 1, [
  (.u 1, .rwp, 1), (.u 1, .ro, 1), (.u 2, .rwp, 780), (.u 2, .ro, 340), (.u 2, .ro, 0), (.u 2, .ro, 0), (.u 1, .ro, 32),
  (.u 4, .rwp, 256), (.u 2, .rwp, 840), (.u 2, .ro, 1100), (.u 8, .ro, 0), (.u 8, .ro, 0), (.u 1, .ro, 0),
  (.u 4, .rwp, 500)]⟩

def rec2100 : Rec := ⟨0x2100, 1, [
  (.u 1, .ro, 1), (.bytes 6, .ro, 0), (.u 1, .ro, 1), (.u 1, .const, 60), (.u 1, .const, 25), (.u 4, .const, 12000),
  (.u 4, .const, 250000000), (.u 2, .ro, 0x3FFF), (.u 8, .ro, 0), (.u 8, .ro, 0), (.u 1, .ro, 0)]⟩

def rec2101 : Rec := ⟨0x2101, 48, [
  (.u 1, .ro, 0), (.u 1, .ro, 0), (.bool, .ro, 1), (.u 1, .ro, 25), (.u 2, .ro, 0), (.u 2, .ro, 0), (.u 2, .ro, 0),
  (.u 8, .ro, 0), (.i 2, .ro, 0), (.u 4, .ro, 0)]⟩

def rec2131 : Rec := ⟨0x2131, 14, [
  (.u 1, .ro, 0), (.u 2, .ro, 0), (.u 2, .rwp, 30), (.u 8, .ro, 0), (.u 8, .ro, 0), (.u 1, .ro, 0)]⟩

def rec3000 : Rec := ⟨0x3000, 1, [
  (.u 8, .const, 1610612736), (.u 8, .const, 67108864), (.u 1, .rwp, 4), (.u 8, .ro, 268435456), (.u 8, .ro, 1275068416),
  (.u 1, .ro, 0), (.u 8, .ro, 0), (.u 8, .ro, 0), (.u 8, .ro, 0), (.u 4, .rw, 64), (.u 4, .ro, 0), (.u 8, .ro, 0),
  (.u 8, .ro, 0), (.u 1, .ro, 0)]⟩

def rec3100 : Rec := ⟨0x3100, 1, [
  (.u 1, .const, 6), (.u 1, .ro, 0x3F), (.u 8, .ro, 412316860416), (.u 8, .ro, 412316860416), (.u 2, .const, 4096),
  (.u 2, .ro, 0), (.u 8, .ro, 0), (.u 4, .rw, 2500), (.u 8, .ro, 0)]⟩

def rec3101 : Rec := ⟨0x3101, 6, [
  (.u 1, .ro, 2), (.u 2, .ro, 12800), (.u 1, .ro, 0), (.u 4, .ro, 0), (.u 8, .ro, 0), (.u 8, .ro, 0)]⟩

def rec3800 : Rec := ⟨0x3800, 1, [
  (.u 4, .ro, 1048576), (.u 1, .const, 16), (.bool, .rwp, 1), (.u 1, .ro, 48), (.u 8, .ro, 0), (.u 8, .ro, 0),
  (.u 8, .ro, 0), (.u 8, .ro, 0), (.u 8, .ro, 0), (.u 8, .ro, 0), (.u 8, .ro, 0), (.u 8, .ro, 0), (.u 8, .ro, 0),
  (.u 8, .ro, 0), (.u 8, .ro, 0), (.u 8, .ro, 0), (.u 8, .ro, 0), (.u 8, .ro, 0), (.u 4, .ro, 0), (.u 4, .rw, 0),
  (.u 8, .ro, 0), (.u 2, .rw, 0), (.bytes 16, .ro, 0), (.u 8, .rw, 0), (.bytes 16, .ro, 0), (.u 2, .ro, 0)]⟩

def rec3801 : Rec := ⟨0x3801, 48, [
  (.u 1, .ro, 0), (.bool, .rw, 0), (.u 1, .ro, 0xFF), (.u 4, .ro, 0), (.u 2, .ro, 0), (.u 8, .ro, 0)]⟩

def rec3880 : Rec := ⟨0x3880, 1, [
  (.u 1, .rwp, 2), (.u 8, .ro, 0), (.u 8, .ro, 0), (.u 8, .ro, 0), (.u 8, .ro, 0), (.u 8, .ro, 0), (.u 8, .ro, 0),
  (.u 8, .ro, 0), (.u 1, .ro, 0)]⟩

def rec4000 : Rec := ⟨0x4000, 1, [
  (.u 1, .rwp, 0), (.bool, .rwp, 1), (.bool, .rwp, 1), (.u 4, .const, 0x00000FFF), (.u 8, .ro, 0), (.u 8, .ro, 0),
  (.u 8, .ro, 0), (.u 8, .ro, 0), (.bool, .rwp, 1)]⟩

def rec4100 : Rec := ⟨0x4100, 1, [
  (.u 1, .const, 192), (.u 1, .ro, 192), (.bytes 24, .ro, 0), (.bool, .rwp, 0), (.u 8, .ro, 0), (.u 8, .ro, 0),
  (.u 8, .ro, 0), (.u 8, .ro, 0), (.u 8, .ro, 0), (.u 8, .ro, 0), (.u 8, .ro, 0), (.u 8, .ro, 0), (.u 8, .ro, 0)]⟩

def rec4101 : Rec := ⟨0x4101, 192, [
  (.u 1, .ro, 0), (.bool, .rw, 0), (.u 1, .ro, 0), (.u 1, .ro, 0xFF), (.u 8, .ro, 0), (.u 8, .ro, 0), (.u 2, .ro, 0xFFFF),
  (.u 8, .ro, 0)]⟩

def rec4800 : Rec := ⟨0x4800, 1, [
  (.bool, .rwp, 1), (.bool, .rwp, 1), (.u 8, .ro, 0), (.u 8, .ro, 0), (.u 8, .ro, 0), (.u 8, .ro, 0), (.u 8, .ro, 0),
  (.u 8, .ro, 0), (.u 8, .ro, 0), (.u 8, .ro, 0), (.u 8, .ro, 0), (.u 1, .ro, 0)]⟩

def rec5000 : Rec := ⟨0x5000, 1, [
  (.u 1, .ro, 0), (.u 8, .ro, 0), (.u 8, .ro, 0), (.u 8, .ro, 0), (.u 1, .ro, 0)]⟩

def rec5001 : Rec := ⟨0x5001, 2, [
  (.u 2, .rw, 0), (.u 2, .rw, 0), (.u 2, .rw, 0), (.u 2, .rw, 0), (.u 2, .rw, 0), (.u 2, .rw, 0), (.u 2, .rw, 0),
  (.u 2, .rw, 0), (.u 2, .rw, 0), (.u 2, .rw, 0), (.u 2, .rw, 0), (.u 2, .rw, 0), (.u 2, .rw, 0), (.u 2, .rw, 0),
  (.u 2, .rw, 0), (.u 2, .rw, 0), (.u 1, .ro, 0), (.u 1, .ro, 0), (.u 1, .ro, 0), (.u 8, .ro, 0), (.u 8, .ro, 0),
  (.u 8, .ro, 0), (.u 8, .ro, 0), (.u 4, .ro, 0), (.u 4, .rw, 5000), (.u 1, .ro, 0)]⟩

def rec5400 : Rec := ⟨0x5400, 1, [
  (.u 2, .const, 768), (.u 8, .ro, 0), (.u 1, .ro, 0)]⟩

def rec5401 : Rec := ⟨0x5401, 12, [
  (.u 1, .ro, 0), (.u 1, .ro, 0), (.u 8, .ro, 0), (.u 8, .ro, 0), (.u 8, .ro, 0), (.u 8, .ro, 0), (.u 1, .ro, 0)]⟩

def rec5410 : Rec := ⟨0x5410, 768, [
  (.u 1, .rw, 0), (.u 8, .rw, 0), (.u 4, .rw, 0), (.u 2, .rw, 0), (.u 2, .rw, 0), (.u 8, .ro, 0)]⟩

def rec5800 : Rec := ⟨0x5800, 1, [
  (.u 1, .const, 64), (.u 1, .ro, 64), (.u 2, .const, 4096), (.u 2, .ro, 0), (.u 4, .rw, 500000000), (.u 8, .ro, 0),
  (.u 8, .ro, 0), (.u 8, .ro, 0), (.u 8, .ro, 0), (.u 8, .ro, 0), (.u 8, .ro, 0), (.u 8, .ro, 0), (.u 1, .ro, 0)]⟩

def rec6000 : Rec := ⟨0x6000, 1, [
  (.u 2, .const, 16384), (.u 1, .const, 16), (.u 1, .const, 16), (.u 1, .const, 8), (.u 1, .ro, 40), (.u 8, .ro, 0),
  (.u 8, .ro, 0), (.u 8, .ro, 0), (.u 8, .ro, 0), (.u 8, .ro, 0), (.u 8, .ro, 0), (.u 8, .ro, 0), (.u 8, .ro, 0),
  (.u 8, .ro, 0), (.u 8, .ro, 0), (.u 2, .ro, 0)]⟩

def rec6001 : Rec := ⟨0x6001, 40, [
  (.u 1, .ro, 0), (.bool, .rw, 0), (.u 8, .ro, 0), (.u 8, .ro, 0), (.u 8, .ro, 0), (.u 1, .ro, 0)]⟩

def rec6400 : Rec := ⟨0x6400, 1, [
  (.u 4, .const, 98304), (.u 4, .ro, 98304), (.u 4, .rw, 50000000), (.u 8, .ro, 0), (.u 8, .ro, 0), (.u 8, .ro, 0),
  (.u 8, .ro, 0), (.u 8, .ro, 0), (.u 8, .ro, 0), (.u 8, .ro, 0), (.u 8, .ro, 0), (.u 1, .ro, 0)]⟩

def rec6800 : Rec := ⟨0x6800, 1, [
  (.u 4, .const, 131072), (.u 4, .const, 262144), (.u 4, .const, 229376), (.u 4, .ro, 0), (.u 4, .rwp, 16384),
  (.u 8, .ro, 0), (.u 8, .ro, 0), (.u 8, .ro, 0), (.u 8, .ro, 0), (.u 8, .ro, 0), (.u 8, .ro, 0), (.u 8, .ro, 0),
  (.u 8, .ro, 0), (.u 8, .ro, 0), (.u 1, .ro, 0)]⟩

def rec6C00 : Rec := ⟨0x6C00, 1, [
  (.u 4, .const, 262144), (.u 4, .ro, 0), (.u 4, .ro, 0), (.u 4, .ro, 0), (.u 2, .ro, 0), (.u 4, .rwp, 500000),
  (.u 2, .ro, 16384), (.u 8, .ro, 0), (.u 8, .ro, 0), (.u 8, .ro, 0), (.u 8, .ro, 0), (.u 8, .ro, 0), (.u 8, .ro, 0),
  (.u 8, .ro, 0), (.u 8, .ro, 0), (.u 8, .ro, 0), (.u 2, .ro, 0)]⟩

def rec7000 : Rec := ⟨0x7000, 1, [
  (.u 2, .rw, 0), (.u 8, .ro, 0), (.u 8, .ro, 0), (.u 8, .ro, 0), (.u 8, .ro, 0), (.u 8, .ro, 0), (.u 8, .ro, 0),
  (.u 8, .ro, 0), (.u 8, .ro, 0), (.u 8, .ro, 0), (.u 8, .ro, 0), (.u 8, .ro, 0), (.u 8, .ro, 0), (.u 2, .ro, 0),
  (.u 8, .ro, 0), (.u 8, .ro, 0), (.u 8, .ro, 0), (.u 1, .ro, 0), (.u 4, .ro, 1800000), (.u 4, .ro, 300000),
  (.u 4, .ro, 600), (.u 4, .ro, 4070), (.u 4, .ro, 12000), (.u 4, .ro, 9000)]⟩

def rec8000 : Rec := ⟨0x8000, 1, [
  (.u 1, .rwp, 1), (.u 1, .rwp, 2), (.u 1, .ro, 0), (.bytes 64, .ro, 0), (.bool, .wo, 0), (.bytes 64, .ro, 0),
  (.u 4, .ro, 0), (.u 8, .ro, 0), (.u 8, .ro, 0), (.u 8, .ro, 0), (.u 8, .ro, 0), (.u 8, .ro, 0), (.u 8, .ro, 0),
  (.u 1, .ro, 0), (.u 8, .ro, 0), (.u 8, .ro, 0), (.u 8, .ro, 0), (.u 8, .wo, 0), (.u 8, .ro, 0), (.u 8, .ro, 0),
  (.u 8, .ro, 0), (.u 8, .ro, 0), (.u 4, .ro, 0), (.u 1, .ro, 192), (.u 8, .ro, 0), (.u 4, .ro, 0), (.u 1, .wo, 0),
  (.bytes 24, .ro, 0)]⟩

def rec8001 : Rec := ⟨0x8001, 17, [
  (.u 2, .rwp, 0), (.u 4, .rwp, 0), (.u 1, .rwp, 0), (.u 4, .rwp, 500000), (.u 8, .ro, 0), (.u 8, .ro, 0), (.u 1, .ro, 0)]⟩

def rec8400 : Rec := ⟨0x8400, 1, [
  (.u 2, .const, 8192), (.u 2, .ro, 0), (.u 8, .ro, 0), (.u 8, .ro, 0), (.u 8, .ro, 0), (.u 1, .ro, 0)]⟩

def rec8800 : Rec := ⟨0x8800, 1, [
  (.u 4, .rw, 0), (.bytes 64, .wo, 0), (.bool, .wo, 0), (.u 1, .ro, 0), (.u 4, .ro, 0), (.u 4, .ro, 0), (.u 4, .rwp, 0),
  (.bytes 16, .wo, 0), (.u 1, .ro, 0), (.bytes 32, .ro, 0), (.u 8, .ro, 0), (.u 8, .ro, 0), (.u 1, .ro, 0)]⟩

def rec9000 : Rec := ⟨0x9000, 1, [
  (.u 1, .ro, 0), (.u 1, .ro, 0), (.u 1, .ro, 0), (.u 1, .rw, 0), (.bytes 16, .ro, 0), (.bytes 16, .ro, 0), (.u 4, .wo, 0),
  (.u 8, .rwp, 0), (.u 4, .rwp, 1500000000), (.u 8, .ro, 0), (.u 8, .ro, 0), (.u 1, .ro, 0)]⟩

def rec9400 : Rec := ⟨0x9400, 1, [
  (.u 1, .ro, 0), (.bytes 48, .const, 0), (.bytes 48, .ro, 0), (.u 1, .ro, 0), (.u 4, .rw, 0), (.bytes 64, .wo, 0),
  (.bool, .wo, 0), (.u 1, .ro, 0), (.bool, .wo, 0), (.u 2, .ro, 0), (.bool, .rw, 0), (.u 1, .ro, 0), (.u 8, .ro, 0),
  (.u 8, .ro, 0), (.u 1, .ro, 0)]⟩

def rec9800 : Rec := ⟨0x9800, 1, [
  (.u 1, .ro, 0), (.bool, .rw, 0), (.u 1, .ro, 0), (.u 2, .rw, 0), (.u 4, .rw, 0), (.bytes 64, .ro, 0), (.u 8, .ro, 0)]⟩

/-- Every record of the dictionary, in index order. -/
def dictionary : List Rec := [
  rec1000, rec1100, rec1101, rec1180, rec2000, rec2100, rec2101, rec2131,
  rec3000, rec3100, rec3101, rec3800, rec3801, rec3880, rec4000, rec4100,
  rec4101, rec4800, rec5000, rec5001, rec5400, rec5401, rec5410, rec5800,
  rec6000, rec6001, rec6400, rec6800, rec6C00, rec7000, rec8000, rec8001,
  rec8400, rec8800, rec9000, rec9400, rec9800]

/-- The record at an index. -/
def recOf (idx : Nat) : Option Rec := dictionary.find? fun r => r.base ≤ idx && idx < r.base + r.n

/-- Subindex 0 of every record: the number of its entries. -/
def entriesObj (r : Rec) : Obj := ⟨.u 1, .const, r.entries.length⟩

/-- The object at Index:Sub. -/
def objAt (idx sub : Nat) : Option Obj :=
  match recOf idx with
  | none => none
  | some r => if sub = 0 then some (entriesObj r) else (r.entries[sub - 1]?).map fun e => ⟨e.1, e.2.1, e.2.2⟩

/-- The size of a whole record: its subindices 1 to ENTRIES, concatenated. -/
def recSize (r : Rec) : Nat := (r.entries.map fun e => e.1.size).foldl (· + ·) 0

/-! ### WRAPPED objects -/

/-- Bit i is set when the i-th listed counter of a record has wrapped. -/
def wrapBits (s : State) (idx : Nat) (subs : List Nat) : Nat := pack (subs.map fun k => (1, b2n (tget false s.wraps (okey idx k))))

/-- The counters of a record's WRAPPED object, in bit order: the object's subindex and theirs. -/
def wrapSubs (base : Nat) : Option (Nat × List Nat) :=
  match base with
  | 0x1100 => some (0x12, rangeFrom 0x0C 6)
  | 0x2000 => some (0x0D, [0x0B, 0x0C])
  | 0x2100 => some (0x0B, [9, 0x0A])
  | 0x2131 => some (6, [4])
  | 0x3000 => some (0x0E, rangeFrom 7 3)
  | 0x3800 => some (0x1A, rangeFrom 5 14 ++ [0x15])
  | 0x3880 => some (9, rangeFrom 2 7)
  | 0x5000 => some (5, rangeFrom 2 3)
  | 0x5001 => some (0x1A, rangeFrom 0x14 4)
  | 0x5400 => some (3, [2])
  | 0x5401 => some (7, rangeFrom 3 4)
  | 0x5800 => some (0x0D, rangeFrom 6 7)
  | 0x6000 => some (0x10, rangeFrom 6 10)
  | 0x6001 => some (6, rangeFrom 3 3)
  | 0x6400 => some (0x0C, rangeFrom 4 8)
  | 0x6800 => some (0x0F, rangeFrom 6 8)
  | 0x6C00 => some (0x11, rangeFrom 8 9)
  | 0x8000 => some (0x1A, rangeFrom 8 18)
  | 0x8001 => some (7, [5, 6])
  | 0x8400 => some (6, rangeFrom 3 3)
  | 0x8800 => some (0x0D, [0x0B, 0x0C])
  | 0x9000 => some (0x0C, [0x0A, 0x0B])
  | 0x9400 => some (0x0F, [0x0D, 0x0E])
  | _ => none

/-! ### What the block's own objects show -/

/-- A mask of the numbers below `n` that meet `p`. -/
def bitsOf (n : Nat) (p : Nat → Bool) : Nat := pack ((List.range n).map fun k => (1, b2n (p k)))

/-- How many numbers below `n` meet `p`. -/
def countOf (n : Nat) (p : Nat → Bool) : Nat := ((List.range n).filter p).length

/-- The fused security version (R416). -/
def fusedSvn (s : State) : Nat := max Config.fuseSvn.toNat s.sec.svn

/-- SECURITY_STATE: 0 not ready, 1 ready, 2 ready with debug unlocked. -/
def securityState (s : State) : Nat := if !s.sec.ready then 0 else if obj s 0x9400 0x0B 0 = 1 then 2 else 1

/-- STATE of an array's record (Table 4.14). -/
def arrayState (s : State) (a : Nat) : Nat :=
  let x := getArr s a
  if underTest s (0x4000 + a) then 5
  else if x.fenced then 4
  else if x.run.isSome && x.current then 3
  else if x.run.isSome || x.current then 2
  else if (getCluster s (a / 4)).gated then 0 else 1

/-- The directory probe image of the granule at `pa` (Table 9.6). -/
def probeImage (s : State) (pa : Nat) : Nat :=
  let g := pa % 2 ^ 52 / 64
  let e := getDir s g
  let sh := match shingleOf s g with | .i => 0 | .v => 1 | .d => 2 | .s => 3 | .e => 4 | .m => 5
  let st := match e.st with | .invalid => 0 | .shared => 1 | .exclusive => 2 | .broadcast => 3
  let p (i : Nat) : Nat := (e.ptrs[i]?).getD 0
  pack [(29, 0), (3, sh), (8, p 0), (8, p 1), (8, p 2), (8, p 3), (8, 0),
    (1, b2n (s.coh.queued.any fun q => q.req.pa / 64 = g && isAged q.req)), (1, b2n (getTxn s g).isSome),
    (2, match e.f with | some f => e.ptrs.findIdx (fun x => x = f) | none => 0), (1, b2n e.f.isSome), (3, e.ptrs.length), (2, st), (46, g)]

/-- STATE of stack `k` (Table 6.7). -/
def stackState (s : State) (k : Nat) : Nat :=
  let x := getStack s k
  if !x.active then 0 else if x.selfRefresh then 1 else if x.fenced.isEmpty then 2 else 3

/-- The field `n` bytes at byte `o` of a loaded image or package. -/
def imageNum (t : Table Byte) (o n : Nat) : Nat := ofLe ((rangeFrom o n).map fun k => tget 0 t k)

/-- The step record as 512 bytes (R412). -/
def recordBytes (t : Table (BitVec 128)) : List Byte := (List.range 32).flatMap fun k => bytesOf 16 (tget 0 t k)

/-- The 64 bytes of READOUT_DATA (R427). While DEBUG_UNLOCK is 0, only the images of unit 0xC001 can be read; the layout of every
other image is open. -/
def readOut (s : State) : Nat :=
  let o := obj s 0x9800 5 0
  if obj s 0x9800 4 0 = 0xC001 && o % 64 = 0 && o < 0x280 then
    if o = 0 then s.flt.first.toNat
    else if o = 0x40 then s.flt.last.toNat
    else ofLe (((recordBytes s.start.cur).drop (o - 0x80)).take 64)
  else if obj s 0x9400 0x0B 0 = 1 then (peekFree 512 s).toNat
  else 0

/-- The objects whose value is what the state shows, by record, instance and subindex. -/
def liveValue (s : State) (base k sub : Nat) : Option Nat :=
  match base with
  | 0x1000 => (match sub with
    | 4 => some Config.serial.toNat
    | 6 => some s.fw.version
    | 7 => some Config.romVersion.toNat
    | 8 => some s.aoncnt
    | 9 => some (pack [(64, s.aoncnt), (64, s.aoncnt + (peekFree 32 s).toNat)])
    | _ => none)
  | 0x1100 => (match sub with
    | 1 => some s.mgmt.chainAddr
    | 2 => some (s.mgmt.owner.getD 0xFF)
    | 3 => some (if s.mgmt.owner.isSome then 2 else if s.mgmt.electing.isSome then 1 else 0)
    | 5 => some (if s.mgmt.owner.isSome then s.mgmt.lease - s.aoncnt else 0)
    | 8 => some s.mgmt.mpQueue
    | 9 => some s.mgmt.mirrorPending.length
    | 0x0A => some s.mgmt.mirrorState
    | _ => none)
  | 0x1101 =>
    let m := tget {} s.mgmt.masters k
    (match sub with
    | 1 => some (if !m.used then 0 else if s.mgmt.owner = some k then 2 else 1)
    | 2 => some m.path
    | 3 => some m.claim
    | 4 => some m.digest
    | 5 => some m.last
    | 6 => some m.requests.toNat
    | _ => none)
  | 0x1180 =>
    let m := tget {} s.mgmt.masters k
    (match sub with
    | 1 => some m.snapOf
    | 2 => some m.snapAt
    | 3 => some m.snap.length
    | 4 => some (ofLe m.snap)
    | _ => none)
  | 0x2000 => (match sub with
    | 4 => some s.power.grant
    | 5 => some s.power.limit
    | 6 => some s.power.power
    | 7 => some s.power.issue
    | 0x0A => some (arrMhz (pointInEffect s))
    | _ => none)
  | 0x2100 => (match sub with
    | 1 => some (calState s)
    | 2 => some (provisionalBits s)
    | 3 => some s.power.fullStep
    | 8 => some s.power.linksProv
    | _ => none)
  | 0x2101 =>
    let c := getCluster s k
    (match sub with
    | 1 => some c.source
    | 2 => some c.load
    | 3 => some (b2n (decide (c.load < 60)))
    | 4 => some c.guard
    | 5 => some c.vQuiet
    | 6 => some c.vNominal
    | 7 => some c.vPeak
    | 8 => some c.taken
    | 9 => some ((BitVec.ofNat 12 c.temp).signExtend 16).toNat
    | 0x0A => some (if c.provisional then 250000000 - c.counted else 0)
    | _ => none)
  | 0x2131 =>
    let l := getLink s k
    (match sub with
    | 1 => some l.state
    | 2 => some l.margin
    | 5 => some l.since
    | _ => none)
  | 0x3000 => (match sub with
    | 4 => some (s.mem.steps * 2 ^ 26)
    | 5 => some (scratchBytes s)
    | 6 => some (b2n s.mem.inChange)
    | 0x0B => some s.mem.repaired
    | _ => none)
  | 0x3100 => (match sub with
    | 2 => some (bitsOf 6 fun i => (getStack s i).active)
    | 3 => some (stackBytes s)
    | 4 => some (stackBytes s - 2 ^ 31 * ((activeStacks s).map fun i => (getStack s i).fenced.length).foldl (· + ·) 0)
    | 6 => some (s.mem.slots.filter fun kv => kv.2.key.isSome).length
    | _ => none)
  | 0x3101 =>
    let x := getStack s k
    (match sub with
    | 1 => some (stackState s k)
    | 2 => some x.rate
    | 3 => some x.cause
    | 4 => some (bitsOf 32 fun c => x.fenced.contains c)
    | _ => none)
  | 0x3800 => (match sub with
    | 1 => some (s.mem.steps * 262144 - countOf 48 (fun h => tget 0 s.coh.homeState h = 2) * (s.mem.steps * 262144 / 48))
    | 4 => some (countOf 48 fun h => tget 0 s.coh.homeState h ≠ 2)
    | 0x13 => some s.coh.lostProduced
    | 0x17 => some (tget 0 s.coh.lost (obj s 0x3800 0x16 0 % 4096)).toNat
    | 0x19 => some (probeImage s (obj s 0x3800 0x18 0))
    | _ => none)
  | 0x3801 => (match sub with
    | 1 => some (tget 0 s.coh.homeState k)
    | 2 => some (b2n (decide (tget 0 s.coh.homeState k ≠ 0)))
    | 3 => some (if tget 0 s.coh.homeState k = 2 then nextHome s k 48 else 0xFF)
    | 4 => some (s.coh.dir.filter fun kv => homeOf s kv.1 = k).length
    | 5 => some (((s.coh.missing.filter fun m => homeOf s m.2 = k).map (·.1)).eraseDups).length
    | _ => none)
  | 0x4100 => (match sub with
    | 2 => some (countOf 192 fun a => !(getArr s a).fenced)
    | 3 => some (bitsOf 192 fun a => (getArr s a).fenced)
    | _ => none)
  | 0x4101 =>
    let x := getArr s k
    (match sub with
    | 1 => some (arrayState s k)
    | 2 => some (b2n x.fenced)
    | 3 => some x.cause
    | 4 => some (if x.fenced then (substitute s k).getD 0xFF else 0xFF)
    | 7 => some (x.store.ctx.getD 0xFFFF)
    | _ => none)
  | 0x4800 => (match sub with
    | 3 => some s.sched.total.sqOutputs
    | 4 => some s.sched.total.sqCycles
    | 5 => some s.sched.total.sqBytes
    | 6 => some (s.sched.total.sqEnergyFj / 1000000)
    | 0x0C => some (wrappedBits [s.sched.total.sqOutputs, s.sched.total.sqCycles, s.sched.total.sqBytes, s.sched.total.sqEnergyFj / 1000000])
    | _ => none)
  | 0x5000 => (match sub with
    | 1 => some (b2n (hostUp s 0) + b2n (hostUp s 1))
    | _ => none)
  | 0x5001 =>
    let h := getHost s k
    (match sub with
    | 0x11 => some h.link
    | 0x12 => some h.width
    | 0x13 => some h.rate
    | 0x18 => some h.longest
    | _ => none)
  | 0x5401 => (match sub with
    | 1 => some (getPeer s k).state
    | 2 => some (getPeer s k).lanes
    | _ => none)
  | 0x5800 => (match sub with
    | 2 => some (countOf 64 fun w => !(tget false s.tu.walkerFenced w))
    | 4 => some (s.tu.recs.filter fun kv => kv.2.isSome).length
    | _ => none)
  | 0x6000 => (match sub with
    | 5 => some (countOf 40 fun e => !(getEngine s e).fenced)
    | _ => none)
  | 0x6001 =>
    let e := getEngine s k
    (match sub with
    | 1 => some (if e.fenced then 2 else if e.job.isSome || e.migrate.isSome then 1 else 0)
    | 2 => some (b2n (e.fenced || e.fencing))
    | _ => none)
  | 0x6400 => (match sub with
    | 2 => some (shadowFree s)
    | _ => none)
  | 0x6800 => (match sub with
    | 4 => some s.sync.watches.length
    | 0x0E => some s.sync.lastImbalance.toNat
    | _ => none)
  | 0x6C00 => (match sub with
    | 2 => some (s.sched.seqs.filter fun kv => sqState kv.2 = 1).length
    | 3 => some (s.sched.seqs.filter fun kv => sqState kv.2 = 2).length
    | 4 => some (s.sched.seqs.filter fun kv => sqState kv.2 = 3 || sqState kv.2 = 4).length
    | 5 => some (s.sched.ctx.filter fun kv => fld kv.2 52 4 ≠ 0).length
    | 7 => some s.sched.remoteFree
    | _ => none)
  | 0x7000 =>
    let a := getAcct s (obj s 0x7000 1 0)
    let t := s.sched.total
    let block := [t.engineTime, t.host + t.stack + t.loft + t.peer, t.energyFj / 1000000 + s.sched.tickNj]
    if 2 ≤ sub && sub ≤ 0x0D then (acctList a)[sub - 2]?
    else (match sub with
    | 0x0E => some (wrappedBits (acctList a))
    | 0x12 => some (wrappedBits block)
    | _ => if 0x0F ≤ sub && sub ≤ 0x11 then block[sub - 0x0F]? else if 0x13 ≤ sub then some (energyCoef s (sub - 0x13)) else none)
  | 0x8000 => (match sub with
    | 3 => some (b2n s.flt.firstValid + 2 * b2n s.flt.overflow)
    | 4 => some s.flt.first.toNat
    | 6 => some s.flt.last.toNat
    | 7 => some s.flt.serial
    | 0x0E => some s.flt.grace.length
    | 0x17 => some s.flt.capacityGen
    | 0x18 => some (countOf 192 fun p => !(getPort s p).nearFenced)
    | 0x1C => some (bitsOf 192 fun p => (getPort s p).nearFenced)
    | _ => none)
  | 0x8001 => (match sub with
    | 1 => some (obj s (0x8001 + k) 1 (classN (k + 1)))
    | 2 => some (obj s (0x8001 + k) 2 (classW (k + 1)))
    | 3 => some (actionOf s (k + 1))
    | 4 => some (graceOf s (k + 1))
    | _ => none)
  | 0x8400 => (match sub with
    | 2 => some s.accums.length
    | _ => none)
  | 0x8800 => (match sub with
    | 1 => some s.ftest.offset
    | 4 => some s.ftest.state
    | 5 => some (if s.ftest.state = 2 then imageNum s.ftest.pkg 4 4 else 0)
    | 6 => some (if s.ftest.state = 2 then imageNum s.ftest.pkg 8 4 else 0)
    | 9 => some (match s.ftest.run with | none => 0 | some r => if r.heating then 1 else 2)
    | 0x0A => some s.ftest.result.toNat
    | _ => none)
  | 0x9000 => (match sub with
    | 1 => some s.start.state
    | 2 => some s.start.step
    | 3 => some s.start.kind
    | 5 => some (tget 0 s.start.cur (obj s 0x9000 4 0)).toNat
    | 6 => some (tget 0 s.start.prev (obj s 0x9000 4 0)).toNat
    | _ => none)
  | 0x9400 => (match sub with
    | 1 => some (securityState s)
    | 2 => some Config.deviceCert.toNat
    | 3 => some (if s.sec.ready then (Config.aliasCert (BitVec.ofNat 384 s.fw.measure)).toNat else 0)
    | 4 => some (fusedSvn s)
    | 5 => some s.fw.offset
    | 8 => some s.fw.state
    | 0x0A => some (s.sched.ctx.filter fun kv => flag kv.2 109 && fld kv.2 52 4 ≠ 0).length
    | 0x0C => some s.sec.sessions.length
    | _ => none)
  | 0x9800 => (match sub with
    | 1 => some s.freeze.state
    | 3 => some s.freeze.hold
    | 6 => some (readOut s)
    | 7 => some s.freeze.aoncnt
    | _ => none)
  | _ => none

/-- The value of an object of a record, as a number of its size; a WO_OWNER object holds none and stands as zero. -/
def valueIn (s : State) (r : Rec) (idx sub : Nat) (o : Obj) : Nat :=
  match o.acc, liveValue s r.base (idx - r.base) sub with
  | .wo, _ => 0
  | _, some v => v
  | .const, none => o.default
  | .rw, none => obj s idx sub o.default
  | .rwp, none => obj s idx sub o.default
  | .ro, none =>
    (match wrapSubs r.base with
    | some (w, subs) => if w = sub then wrapBits s idx subs else if o.ty = .u 8 then (ctr s idx sub).toNat else obj s idx sub o.default
    | none => if o.ty = .u 8 then (ctr s idx sub).toNat else obj s idx sub o.default)

/-- The bytes of an object as it stands. -/
def objBytes (s : State) (r : Rec) (idx sub : Nat) (o : Obj) : List Byte := toLe o.ty.size (valueIn s r idx sub o)

/-- The bytes of a whole record: its subindices 1 to ENTRIES in order (R389). -/
def recBytes (s : State) (r : Rec) (idx : Nat) : List Byte :=
  ((List.range r.entries.length).zip r.entries).flatMap fun ke => objBytes s r idx (ke.1 + 1) ⟨ke.2.1, ke.2.2.1, ke.2.2.2⟩

/-- Every RWP_OWNER object, by its key (R377). -/
def persistentKeys : List Nat :=
  dictionary.flatMap fun r => (List.range r.n).flatMap fun i =>
    ((List.range r.entries.length).zip r.entries).filterMap fun ke => if ke.2.2.1 = .rwp then some (okey (r.base + i) (ke.1 + 1)) else none

/-- The measured RWP_OWNER objects of measurement block 5, in index order (Table 16.6). -/
def measuredBytes (s : State) : List Byte :=
  [0x2000, 0x3000, 0x3880, 0x4000, 0x4800].flatMap fun i =>
    match recOf i with
    | none => []
    | some r => ((List.range r.entries.length).zip r.entries).flatMap fun ke =>
        if ke.2.2.1 = .rwp then objBytes s r i (ke.1 + 1) ⟨ke.2.1, ke.2.2.1, ke.2.2.2⟩ else []

end Sys2Proof.Machine
end

