-- ==== Sys2Proof/Machine/FieldTest.lean ====
section
/-! DEFINITION. Field test (14): loading and verifying a package (R367, R368), runs and their results (R369, R370). -/

namespace Sys2Proof.Machine

/-! ### Packages (R367, R368) -/

/-- The bytes of a loaded image or package, `n` bytes from `o`. -/
def imageBytes (t : Table Byte) (o n : Nat) : List Byte := (rangeFrom o n).map fun k => tget 0 t k

/-- The subsystem codes that a package may test. -/
def testTarget (t : Nat) : Bool := t = 3 || t = 4 || t = 6 || t = 7 || t = 8

/-- Every check of a package but that of its signature (R368). -/
def packageForm (s : State) : Bool :=
  let p := s.ftest.pkg
  let body := imageNum p 0x10 4
  imageNum p 0 4 = 1 && body + 224 ≤ 2 ^ 20 && 1 ≤ imageNum p 0x0E 2 && imageNum p 0x0E 2 ≤ 4096 && testTarget (imageNum p 0x0C 2) &&
  imageNum p 0x20 48 = (Config.sha384 (imageBytes p 128 body)).toNat && obj s 0x8800 7 0 ≤ imageNum p 8 4

/-- The package's signature verifies. -/
def packageSigned (s : State) : Bool :=
  let body := imageNum s.ftest.pkg 0x10 4
  Config.packageSigned (imageBytes s.ftest.pkg 0 (128 + body)) (imageBytes s.ftest.pkg (128 + body) 96)

/-- A write of PKG_COMMIT: VERIFIED or REJECTED; a failed signature raises a SECURITY event. Its unit and its OPERATION, which the spec
does not name, are the security root and 0x0D (DESIGN CHOICE, log 172). -/
def commitPackage (s : State) : State :=
  let ok := packageSigned s
  let s := if ok then s else raise ⟨0x0D, 0xC002, none, 0, 0, 0x0D, .ok, 0⟩ s
  { s with ftest.state := if packageForm s && ok then 2 else 3 }

/-- 64 B of a package, and the offset moves on (R368). A write outside loading begins loading again (DESIGN CHOICE, log 24). -/
def packageData (bs : List Byte) (s : State) : State :=
  { s with ftest.pkg := putBytes s.ftest.pkg s.ftest.offset bs, ftest.offset := s.ftest.offset + 64, ftest.state := 1 }

/-! ### Runs (R369, R370) -/

/-- A unit that a run may test: fenced, and idle. -/
def fencedIdle (s : State) (unit : Nat) : Bool :=
  let i := unit % 4096
  match unit / 4096 with
  | 3 => i < 192 && (getPort s i).nearFenced
  | 4 => i < 192 && (getArr s i).fenced && (getArr s i).courses.isEmpty
  | 6 => i < 48 && tget 0 s.coh.homeState i = 2
  | 7 => i < 64 && tget false s.tu.walkerFenced i
  | 8 => i < 40 && (getEngine s i).fenced && (getEngine s i).job.isNone && (getEngine s i).migrate.isNone
  | _ => false

def runUnit (r : BitVec 128) : Nat := fld r 80 16
def runTempMin (r : BitVec 128) : Nat := fld r 56 8

/-- Every field of a run request is in range for the package (Table 14.13). -/
def runForm (s : State) (r : BitVec 128) : Bool :=
  let p := s.ftest.pkg
  let n := imageNum p 0x0E 2
  s.ftest.state = 2 && fld r 96 32 = imageNum p 4 4 && runUnit r / 4096 = imageNum p 0x0C 2 &&
  fld r 72 8 ≤ 60 && fld r 64 8 ≤ 80 && fld r 40 16 < n && 1 ≤ fld r 24 16 && fld r 40 16 + fld r 24 16 ≤ n

/-- The nearest sensor's reading and the rail's voltage of a unit. -/
def unitTemp (s : State) (unit : Nat) : Nat := (tget 0 s.flt.temps (sensorOf unit)).toNat
def unitVolt (s : State) (unit : Nat) : Nat := (tget 0 s.flt.volts (railOf unit)).toNat

/-- A run starts: heating first when TEMP_MIN is not zero. -/
def startRun (r : BitVec 128) (s : State) : State :=
  { s with ftest.run := some ⟨r, s.aoncnt, runTempMin r ≠ 0, runTempMin r = 0, unitTemp s (runUnit r), unitVolt s (runUnit r)⟩ }

/-- The heating phase has reached TEMP_MIN. -/
def hotEnough (s : State) (r : TestRun) : Bool :=
  (8 * runTempMin r.req : Int) ≤ (BitVec.ofNat 12 (unitTemp s (runUnit r.req))).toInt

/-- Heating ends at TEMP_MIN, or after 100 ms, and the patterns begin. -/
def heatingEnds (s : State) : State :=
  match s.ftest.run with
  | none => s
  | some r =>
    if r.heating && (hotEnough s r || r.started + 5000000 ≤ s.aoncnt) then
      { s with ftest.run := some { r with heating := false, met := hotEnough s r, temp := unitTemp s (runUnit r.req), volt := unitVolt s (runUnit r.req) } }
    else s

/-- The result of a run (Table 14.14). -/
def resultImage (s : State) (r : TestRun) (st : Status) (ran first fails : Nat) : BitVec 256 :=
  BitVec.ofNat 256 (pack [(8, st.code), (1, b2n (decide (fails = 0))), (1, b2n r.met), (14, 0), (16, fails), (16, first), (16, ran), (12, r.volt),
    (12, r.temp), (8, fld r.req 64 8), (8, fld r.req 72 8), (16, runUnit r.req), (32, imageNum s.ftest.pkg 8 4), (32, fld r.req 96 32), (64, s.aoncnt)])

/-- A run ends: its result, its counts, and an event against the unit when a pattern failed (R370). -/
def endRun (st : Status) (ran first fails : Nat) (s : State) : State :=
  match s.ftest.run with
  | none => s
  | some r =>
    let s := count 0x8800 0x0B { s with ftest.run := none, ftest.result := resultImage s r st ran first fails }
    if fails = 0 then s else raise ⟨0x0E, runUnit r.req, none, 0, 0, 0x0D, st, 0⟩ (count 0x8800 0x0C s)

/-- A run is cut short: the block's counts of its patterns so far are open. -/
def abortRun (s : State) : State :=
  if s.ftest.run.isNone then s
  else
    let v := (peekFree 48 s).toNat
    endRun .aborted (v % 65536) (v / 65536 % 65536) (v / 2 ^ 32 % 65536) (takeFree s)

/-- A run passes MAX_TICKS. -/
def runTimesOut (ran first fails : Nat) (s : State) : State :=
  match s.ftest.run with
  | none => s
  | some r => if r.started + imageNum s.ftest.pkg 0x14 4 < s.aoncnt then endRun .timeout ran first fails s else s

/-- Every pattern of a run has run. -/
def runCompletes (ran first fails : Nat) (s : State) : State :=
  match s.ftest.run with
  | none => s
  | some r => if r.heating then s else endRun .ok ran first fails s

/-- A write of 0 to PKG_OFFSET (R368, R370). -/
def discardPackage (s : State) : State :=
  let s := abortRun s
  { s with ftest.pkg := [], ftest.offset := 0, ftest.state := 1 }

end Sys2Proof.Machine
end

