-- ==== Sys2Proof/Machine/Firmware.lean ====
section
/-! DEFINITION. The firmware image and the management processor (15, 16): loading, verifying and writing an image (R414 to R417),
the watchdog and restarts (R382, R383). -/

namespace Sys2Proof.Machine

/-- The largest image: header, body and signature (R414). -/
def imageMax : Nat := 3 * 2 ^ 19 + 224

/-- R415's checks of the loaded image. -/
def imageOk (s : State) : Bool :=
  let t := s.fw.image
  let body := imageNum t 0x10 4
  imageNum t 0 4 = 1 && body ≤ 3 * 2 ^ 19 && imageNum t 0x20 48 = (Config.sha384 (imageBytes t 128 body)).toNat &&
  Config.firmwareSigned (imageBytes t 0 (128 + body)) (imageBytes t (128 + body) 96) &&
  fusedSvn s ≤ imageNum t 8 1 && imageNum t 8 1 < 64

/-- The image's whole length. -/
def imageLength (t : Table Byte) : Nat := imageNum t 0x10 4 + 224

/-- A write of 0 to FW_OFFSET discards any loaded image. -/
def discardImage (s : State) : State := { s with fw.image := [], fw.offset := 0, fw.state := 1 }

/-- 64 B of an image, and the offset moves on. A write outside loading begins loading again (DESIGN CHOICE, log 24). -/
def imageData (bs : List Byte) (s : State) : State :=
  { s with fw.image := putBytes s.fw.image s.fw.offset bs, fw.offset := s.fw.offset + 64, fw.state := 1 }

/-- A write of FW_COMMIT: a verified image is written over the image in flash; a rejected one is not (R416). -/
def commitImage (s : State) : State :=
  if imageOk s then
    emit (.flash "firmware" (imageBytes s.fw.image 0 (imageLength s.fw.image))) { s with fw.state := 3 }
  else { s with fw.state := 5 }

/-- The MP alone restarts; the dictionary answers again by the 200 ms bound (R382). -/
def restartMp (s : State) : State := { s with mgmt.mpRestart := some (s.aoncnt + 10000000), mgmt.mpQueue := 0 }

/-- A write of FW_ACTIVATE while the image is written. -/
def activateImage (s : State) : State :=
  if s.fw.state = 4 then restartMp (abortRun { s with fw.starting := true }) else s

/-- The MP runs a new image: its VERSION, SVN and measurement. -/
def runImage (version svn measure : Nat) (s : State) : State := { s with fw.version := version, fw.svn := svn, fw.measure := measure }

/-- The written image runs, and the fused SVN rises to its SVN (R416). -/
def startLoaded (s : State) : State :=
  let t := s.fw.image
  let s := runImage (imageNum t 4 4) (imageNum t 8 1) (Config.sha384 (imageBytes t 0 (imageLength t))).toNat s
  { s with fw.starting := false, sec.svn := max s.sec.svn (imageNum t 8 1) }

/-- Step S03 of this start has started the MP (R409). -/
def mpStarted (s : State) : Bool := fld (tget 0 s.start.cur 3) 0 3 = 1

/-- The MP watchdog expires (R382, R383). -/
def watchdogExpires (s : State) : State :=
  if s.mgmt.mpHeld || !(mpStarted s) then s
  else
    let recent := (s.mgmt.expiries.filter fun t => s.aoncnt - t < 500000000)
    let s := abortRun { s with mgmt.expiries := recent ++ [s.aoncnt] }
    let s := raise ⟨0x0F, 0xC000, none, 0, 0, 0, .ok, 0⟩ (count 0x1100 0x0D (restartMp s))
    if 2 ≤ recent.length then { s with mgmt.mpHeld := true, mgmt.mpRestart := none } else s

/-- The MP answers again. -/
def mpRestarted (s : State) : State :=
  match s.mgmt.mpRestart with
  | none => s
  | some _ =>
    let s := { s with mgmt.mpRestart := none }
    if s.fw.starting then startLoaded s else s

/-- The write of a persistent object to flash ends (R377): it is mirrored, or flash writes fail. -/
def mirrorEnds (key : Nat) (ok : Bool) (s : State) : State :=
  if !(s.mgmt.mirrorPending.contains key) || s.mgmt.mpRestart.isSome || s.mgmt.mpHeld then s
  else if ok then
    let v := tget none s.objs key
    { s with mgmt.mirror := tset none s.mgmt.mirror key v, mgmt.mirrorPending := s.mgmt.mirrorPending.erase key
             mgmt.mirrorState := if s.mgmt.mirrorState = 2 then 0 else s.mgmt.mirrorState }
  else { s with mgmt.mirrorState := 2 }

/-- A persistent object has changed: the MP owes its mirror. -/
def persist (key : Nat) (s : State) : State :=
  if s.mgmt.mirrorPending.contains key then s else { s with mgmt.mirrorPending := s.mgmt.mirrorPending ++ [key] }

end Sys2Proof.Machine
end

