-- ==== Sys2Proof/Machine/Owner.lean ====
section
/-! DEFINITION. Owner writes (15, and the object tables of every chapter): the ranges that the tables state, the conditions of each
chapter, and the effects of the objects that act when they are written. -/

namespace Sys2Proof.Machine

/-! ### Replies (R375) -/

def replyDone (data : List Byte) : Reply := ⟨0, .ok, 0, data⟩
def replyBusy (after : Nat) : Reply := ⟨1, .ok, after, []⟩
def replyRefused (st : Status) : Reply := ⟨2, st, 0, []⟩

/-- An effect that takes place, answered DONE. -/
def took (s : State) : State × Reply := (s, replyDone [])

/-! ### Ranges (Table 15.3, fourth row) -/

/-- The value lies in the range that the object's table or chapter states for every write, or that R12 states for the context that it
names. RSVD bits are ignored (R5). -/
def inRange (s : State) (base sub v : Nat) : Bool :=
  match base, sub with
  | 0x1100, 6 => 1 ≤ v && v ≤ 50000000
  | 0x1100, 7 => v ≤ 4095
  | 0x2000, 1 => v ≤ 2
  | 0x2000, 3 => 100 ≤ v && v ≤ 780
  | 0x3000, 3 => v ≤ 8
  | 0x3800, 0x14 => subMod 32 s.coh.lostProduced v < 2 ^ 31
  | 0x3800, 0x16 => v ≤ 4095
  | 0x3880, 1 => v ≤ 2
  | 0x4000, 1 => v ≤ 4
  | 0x5410, 2 => v % 4096 = 0
  | 0x5001, _ => sub % 2 = 0 || 16 < sub || v ≤ 4095
  | 0x5410, 3 => v ≤ 2 ^ 28
  | 0x5410, 4 => v ≤ 4095
  | 0x7000, 1 => v ≤ 4095
  | 0x8000, 1 => v ≤ 4
  | 0x8000, 2 => v ≤ 4
  | 0x8000, 0x1B => v ≤ 191
  | 0x8001, 3 => v ≤ 3
  | 0x8001, 4 => v ≠ 0
  | 0x8800, 1 => v % 64 = 0
  | 0x8800, 7 => obj s 0x8800 7 0 ≤ v
  | 0x9000, 4 => v ≤ 31
  | 0x9000, 7 => v < 2 ^ 24
  | 0x9000, 8 => v = 0 || (v % 512 = 0 && v < 2 ^ 52 && target v = .host)
  | 0x9400, 5 => v % 64 = 0
  | 0x9800, 5 => v % 64 = 0
  | _, _ => true

/-! ### Effects -/

/-- Store a written value. -/
def putObj (idx sub v : Nat) (persistent : Bool) (s : State) : State :=
  let s := setObj idx sub v s
  if persistent then persist (okey idx sub) s else s

/-- The scratch granules from byte offset `lo` to `hi`. -/
def scratchBetween (lo hi g : Nat) : Bool := target (g * 64) = .scratch && lo ≤ offset (g * 64) && offset (g * 64) < hi

/-- The granules that leave scratch or come into it hold nothing: VOID, no data, no poison. -/
def voidScratch (lo hi : Nat) (s : State) : State :=
  { s with mem.tags := tdrop s.mem.tags fun g _ => scratchBetween lo hi g
           mem.poison := tdrop s.mem.poison fun g _ => scratchBetween lo hi g
           mem.bytes := tdrop s.mem.bytes fun a _ => scratchBetween lo hi (a / 64) }

/-- Near-cache copies of removed scratch are invalidated; dirty ones are counted as discarded (R154). -/
def dropScratchCopies (lo hi : Nat) (s : State) : State :=
  let gone := s.coh.near.filter fun kv => scratchBetween lo hi (kv.1 % 2 ^ 46)
  let s := gone.foldl (fun st kv => setNear (kv.1 / 2 ^ 46) (kv.1 % 2 ^ 46) {} st) s
  countN 0x3000 0x0D (gone.filter fun kv => kv.2.st = .m).length { s with coh.dir := tdrop s.coh.dir fun g _ => scratchBetween lo hi g }

/-- The split between scratch and device cache moves to `n` steps (R154). -/
def changeSplit (n : Nat) (s : State) : State :=
  let s := (s.coh.dev.map (·.1)).foldl (fun st l => evictLine l st) s
  let old := scratchBytes s
  let new := scratchBytes { s with mem.steps := n }
  let s := dropScratchCopies new old s
  { (voidScratch (min old new) (max old new) s) with mem.steps := n, mem.inChange := false }

/-- CACHE_STEPS. -/
def writeSteps (n : Nat) (s : State) : State × Reply :=
  if s.mem.inChange then (s, replyBusy 0) else took (changeSplit n (putObj 0x3000 3 n true s))

/-- FENCE of an array (R124): a 1 is done once the array is fenced, so that it is refused with BUSY while a stopped clock holds the
pre-emption (R117; log 170). -/
def writeArrayFence (a v : Nat) (s : State) : State × Reply :=
  if v = 1 then
    if !(getArr s a).fenced && (getCluster s (a / 4)).stopped then (s, replyBusy 0) else took (fenceArray a 0 1 none s)
  else if underTest s (0x4000 + a) then (s, replyBusy 0)
  else took (unfenceArray a s)

/-- FENCE of a home slice (R244). -/
def writeHomeFence (h v : Nat) (s : State) : State × Reply := if v = 1 then took (fenceHome h 0 s) else (s, replyBusy 0)

/-- FENCE of a copy engine (R277). -/
def writeEngineFence (e v : Nat) (s : State) : State × Reply := if v = 1 then took (fenceEngine e 0 s) else took (unfenceEngine e s)

/-- NEAR_FENCE. -/
def writeNearFence (p : Nat) (s : State) : State × Reply := took (fenceNear p 0 s)

/-- What a confidential context's tenant has allowed. -/
def peerAllowed (s : State) (c l w : Nat) : Bool :=
  !(confidential s c) || (match tget none s.sec.conf c with | some x => x.peers.contains (l, w) | none => false)
def decoderAllowed (s : State) (c p d : Nat) : Bool :=
  !(confidential s c) || (match tget none s.sec.conf c with | some x => x.decoders.contains (p, d) | none => false)

/-- The extent of a window lies in its target (R189). -/
def windowFits (s : State) (l w : Nat) : Bool :=
  let b := winBase s l w
  let t := target b
  b < 2 ^ 52 && (t = .stacks || t = .scratch) && winPages s l w ≠ 0 && offset b + 4096 * winPages s l w ≤ presentSize s t

/-- A window record: `k` counts links by 64 and windows by 1 (R189). A KEY_SLOT above 4,095 is stored: no slot has that number, so that
accesses under it find an empty slot (DESIGN CHOICE, log 158). -/
def writeWindow (k sub v : Nat) (s : State) : State × Reply :=
  let l := k / 64
  let w := k % 64
  if sub = 1 then
    let v := v % 16
    if !nbit v 0 then took (setObj (winIdx l w) 1 v s)
    else if !(windowFits s l w) then (s, replyRefused .malformed)
    else if !(peerAllowed s (winCtx s l w) l w) then (s, replyRefused .rightsFault)
    else
      let s := if winPresent s l w then s else modPeer l (fun p => { p with grants := p.grants.filter fun x => x ≠ w }) s
      took (setObj (winIdx l w) 1 v s)
  else if winPresent s l w then (s, replyBusy 0)
  else took (setObj (winIdx l w) sub v s)

/-- DEC_CONTEXT and DEC_KEY_SLOT of host port `p` (R248). -/
def writeDecoder (p sub v : Nat) (s : State) : State × Reply :=
  let d := (sub - 1) / 2
  if (tget {} (getHost s p).decoders d).committed then (s, replyBusy 0)
  else if sub % 2 = 1 && !(decoderAllowed s v p d) then (s, replyRefused .rightsFault)
  else took (setObj (0x5001 + p) sub v s)

/-- FIRST_CLEAR (R353). -/
def clearFirst (s : State) : State := { s with flt.first := 0, flt.firstValid := false, flt.overflow := false }

/-- OWNER_KILL (R396). -/
def ownerKill (c : Nat) (s : State) : State := ctxCommand 5 c s

/-- RESTORE_DEFAULTS (R377): the objects that act take their default as a write of it would. -/
def restoreDefaults (s : State) : State :=
  let changed := (s.objs.map (·.1)).filter fun k => persistentKeys.contains k
  let s := { s with objs := tdrop s.objs fun k _ => persistentKeys.contains k }
  let s := changed.foldl (fun st k => persist k st) s
  refreshPoint (if s.mem.steps = 4 then s else changeSplit 4 s)

/-- DEBUG_UNLOCK (R427). -/
def writeDebug (v : Nat) (s : State) : State × Reply :=
  if v = 1 && s.sec.confEver then (s, replyRefused .rightsFault)
  else took { (setObj 0x9400 0x0B v s) with sec.debugEver := s.sec.debugEver || v = 1 }

/-! ### Link hold (R428) -/

/-- Everything that had started has completed. -/
def quiesced (s : State) : Bool :=
  (s.arrays.arr.all fun kv => kv.2.run.isNone) && (s.queues.all fun kv => kv.2.cmds.all fun c => !c.started) &&
  (s.engines.all fun kv => kv.2.job.isNone && kv.2.migrate.isNone) &&
  (s.hosts.all fun kv => kv.2.readbacks.isEmpty && kv.2.asked.isEmpty && kv.2.bisnp.isEmpty) &&
  (s.peers.all fun kv => kv.2.out.isEmpty && kv.2.outq.isEmpty && kv.2.replay.isEmpty)

/-- A held peer link leaves its hold; timeouts run on from where they stood (R446). -/
def leaveHold (l : Nat) (s : State) : State :=
  if (getPeer s l).state = 4 then
    drainPeer l (sendControl l 4 (modPeer l (fun p => { p with state := 3, out := p.out.map fun r => { r with issued := r.issued + (s.aoncnt - p.heldSince) } }) s))
  else s

/-- The links leave hold. -/
def leaveHolds (s : State) : State :=
  let s := [0, 1].foldl (fun st p => if (getHost st p).link = 6 then modHost p (fun h => { h with link := 2 }) st else st) s
  (List.range 12).foldl (fun st l => leaveHold l st) s

/-- LINK_HOLD: 1 begins to quiesce; 0 restores admission, and held links run again. -/
def writeHold (v : Nat) (s : State) : State × Reply :=
  if v = 1 then
    let s := setObj 0x9800 2 1 s
    took (if s.freeze.hold = 0 then { s with freeze.hold := 1, freeze.holdSince := s.aoncnt } else s)
  else took (leaveHolds (setObj 0x9800 2 0 { s with freeze.hold := 0 }))

/-- Quiescing ends: each link is held, or after 100 ms the hold has failed. -/
def holdEnds (s : State) : State :=
  if s.freeze.hold ≠ 1 then s
  else if quiesced s then
    let s := [0, 1].foldl (fun st p => if hostUp st p then modHost p (fun h => { h with link := 6 }) st else st) s
    let s := (List.range 12).foldl (fun st l =>
      if (getPeer st l).state = 3 then sendControl l 3 (modPeer l (fun p => { p with state := 4, heldSince := st.aoncnt }) st) else st) s
    { s with freeze.hold := 2 }
  else if s.freeze.holdSince + 5000000 ≤ s.aoncnt then { s with freeze.hold := 3 }
  else s

/-! ### Packages, images, runs -/

/-- PKG_OFFSET (R368). -/
def writePkgOffset (v : Nat) (s : State) : State × Reply :=
  took (if v = 0 then discardPackage s else { s with ftest.offset := v })

/-- PKG_DATA (R368). -/
def writePkgData (bs : List Byte) (s : State) : State × Reply :=
  if 2 ^ 20 < s.ftest.offset + 64 then (s, replyRefused .boundFault) else took (packageData bs s)

/-- PKG_COMMIT (R368). -/
def writePkgCommit (v : Nat) (s : State) : State × Reply := took (if v = 1 then commitPackage s else s)

/-- RUN (R369). -/
def writeTestRun (r : BitVec 128) (s : State) : State × Reply :=
  if s.ftest.run.isSome || !(fencedIdle s (runUnit r)) then (s, replyBusy 0)
  else if !(runForm s r) then (s, replyRefused .malformed)
  else took (startRun r s)

/-- FW_OFFSET (R416). -/
def writeFwOffset (v : Nat) (s : State) : State × Reply := took (if v = 0 then discardImage s else { s with fw.offset := v })

/-- FW_DATA (R416). -/
def writeFwData (bs : List Byte) (s : State) : State × Reply :=
  if imageMax < s.fw.offset + 64 then (s, replyRefused .boundFault) else took (imageData bs s)

/-- FW_COMMIT (R416). -/
def writeFwCommit (v : Nat) (s : State) : State × Reply := took (if v = 1 then commitImage s else s)

/-- FW_ACTIVATE (R416). -/
def writeFwActivate (v : Nat) (s : State) : State × Reply := took (if v = 1 then activateImage s else s)

/-! ### One write -/

/-- The effect of a write of `v`, spelled by `bs`, to object `sub` of instance `k` of a record, after the rows of Table 15.3. -/
def writeEffect (base k sub v : Nat) (bs : List Byte) (s : State) : State × Reply :=
  match base, sub with
  | 0x1100, 7 => took (ownerKill v s)
  | 0x1100, 0x0B => took (if v = 1 then restoreDefaults s else s)
  | 0x2000, 1 => took (refreshPoint (putObj 0x2000 1 v true s))
  | 0x3000, 3 => writeSteps v s
  | 0x3801, 2 => writeHomeFence k v s
  | 0x4101, 2 => writeArrayFence k v s
  | 0x5410, _ => writeWindow k sub v s
  | 0x6001, 2 => writeEngineFence k v s
  | 0x8000, 5 => took (if v = 1 then clearFirst s else s)
  | 0x8000, 0x12 => took (acknowledge (BitVec.ofNat 64 v) s)
  | 0x8000, 0x1B => writeNearFence v s
  | 0x8800, 1 => writePkgOffset v s
  | 0x8800, 2 => writePkgData bs s
  | 0x8800, 3 => writePkgCommit v s
  | 0x8800, 8 => writeTestRun (BitVec.ofNat 128 v) s
  | 0x9000, 7 => took { s with start.retryMask := v }
  | 0x9400, 5 => writeFwOffset v s
  | 0x9400, 6 => writeFwData bs s
  | 0x9400, 7 => writeFwCommit v s
  | 0x9400, 9 => writeFwActivate v s
  | 0x9400, 0x0B => writeDebug v s
  | 0x9800, 2 => writeHold v s
  | _, _ => if base = 0x5001 && sub ≤ 16 then writeDecoder k sub v s else
    took (putObj (base + k) sub v (match objAt (base + k) sub with | some o => o.acc = .rwp | none => false) s)

/-- A write of a present, writable object by its owner: size, range and BOOL, then the chapter's conditions and the effect. -/
def ownerWrite (idx sub : Nat) (bs : List Byte) (s : State) : State × Reply :=
  match recOf idx, objAt idx sub with
  | some r, some o =>
    let v := ofLe bs
    if bs.length ≠ o.ty.size || (o.ty = .bool && 2 ≤ v) || !(inRange s r.base sub v) then (s, replyRefused .malformed)
    else writeEffect r.base (idx - r.base) sub v bs s
  | _, _ => (s, replyRefused .malformed)

end Sys2Proof.Machine
end

