-- ==== Sys2Proof/Machine/Dict.lean ====
section
/-! DEFINITION. Dictionary requests, masters and ownership (15): who is served when, reads, writes and descriptions, kept responses
and snapshots (R386 to R389), registration, elections and leases (R393 to R396), the mailbox (R392). -/

namespace Sys2Proof.Machine

/-! ### Masters and sessions -/

def getMaster (s : State) (m : Nat) : Master := tget {} s.mgmt.masters m
def modMaster (m : Nat) (f : Master → Master) (s : State) : State := { s with mgmt.masters := tmod {} s.mgmt.masters m f }

/-- An established SPDM session. -/
def findSession (s : State) (id : Nat) : Option Session := s.sec.sessions.find? fun x => x.id = id && x.finished

/-- Change a session. -/
def modSession (id : Nat) (f : Session → Session) (s : State) : State :=
  { s with sec.sessions := s.sec.sessions.map fun x => if x.id = id then f x else x }

/-- The request verifies under the session of the master it names: that master, when one is registered on it. -/
def verifiedMaster (s : State) (f : Frame) : Option Nat :=
  match f.session with
  | none => none
  | some id =>
    let m := f.master.val
    if (findSession s id).isSome && (getMaster s m).used && (getMaster s m).session = id then some m else none

/-- The request verifies under an established session. -/
def verified (s : State) (f : Frame) : Bool := match f.session with | some id => (findSession s id).isSome | none => false

/-- The frame counters of a session rise with a verified request and its response (R387). -/
def countFrame (f : Frame) (s : State) : State :=
  match f.session with
  | some id => modSession id (fun x => { x with rx := x.rx + 1, tx := x.tx + 1 }) s
  | none => s

/-! ### Elections and leases (R394, R395) -/

/-- A candidate: a registered master with a claim. -/
def candidate (s : State) (m : Nat) : Bool := (getMaster s m).used && (getMaster s m).claim ≠ 0

/-- The candidates. -/
def candidates (s : State) : List Nat := (List.range 8).filter fun m => candidate s m

/-- The winner of an election: the highest claim, a tie to the lower identifier. -/
def winner (s : State) : Option Nat :=
  (candidates s).foldl (fun best m => match best with
    | none => some m
    | some b => if (getMaster s b).claim < (getMaster s m).claim then some m else some b) none

/-- The lease of 250,000,000 ticks starts anew. -/
def newLease (s : State) : State := { s with mgmt.lease := s.aoncnt + 250000000 }

/-- The election window starts. -/
def beginElection (s : State) : State := { s with mgmt.electing := some (s.aoncnt + obj s 0x1100 6 5000) }

/-- The election window ends. -/
def electionEnds (s : State) : State :=
  match s.mgmt.electing, s.mgmt.owner with
  | some t, none =>
    if s.aoncnt < t then s
    else
      let s' : State := { s with mgmt.electing := none }
      (match winner s with
      | some m => count 0x1100 0x10 (newLease { s' with mgmt.owner := some m })
      | none => s')
  | _, _ => s

/-- Ownership is given up: the owner's claim becomes 0, and a new election begins while a candidate remains. -/
def giveUp (s : State) : State :=
  match s.mgmt.owner with
  | none => s
  | some m =>
    let s : State := { (modMaster m (fun x => { x with claim := 0 }) s) with mgmt.owner := none }
    if (candidates s).isEmpty then s else beginElection s

/-- The lease has run out before the present tick. -/
def leaseOver (s : State) : Bool := s.mgmt.owner.isSome && decide (s.mgmt.lease < s.aoncnt)

/-- The lease lapses. -/
def lapse (s : State) : State := giveUp (count 0x1100 0x11 s)

/-- The end of the tick in which the lease runs out. -/
def leaseEnds (s : State) : State := if s.mgmt.owner.isSome && decide (s.mgmt.lease ≤ s.aoncnt) then lapse s else s

/-- A registration ends (R393). -/
def endRegistration (m : Nat) (s : State) : State :=
  let s := if s.mgmt.owner = some m then giveUp s else s
  { s with mgmt.masters := tset {} s.mgmt.masters m {} }

/-- 60 s without a request. -/
def registrationExpires (m : Nat) (s : State) : State :=
  if (getMaster s m).used && (getMaster s m).last + 3000000000 ≤ s.aoncnt then endRegistration m s else s

/-- A request of a registered master: its time, and for the owner the lease (R395). -/
def noteRequest (m : Nat) (s : State) : State :=
  let s := modMaster m (fun x => { x with last := s.aoncnt }) s
  if s.mgmt.owner = some m then newLease s else s

/-- A request that the block has taken is counted, and its response kept under its TAG with the last 16 (R388). -/
def keepReply (m tag : Nat) (r : Reply) (s : State) : State :=
  if r.disp = 1 then s
  else modMaster m (fun x => { x with requests := x.requests + 1, kept := (x.kept.filter (fun k => k.1 ≠ tag) ++ [(tag, r)]).drop ((x.kept.filter (fun k => k.1 ≠ tag)).length - 15) }) s

/-! ### When the dictionary is served (R380 to R383, R409, R411, R417, R426) -/

/-- The always-on domain and the chain logic run: power is good, and no cold reset holds them. -/
def chainOn (s : State) : Bool := s.pins.pwrOk && s.pins.fallen.isEmpty && !(s.start.inReset && s.start.kind ≤ 1)

/-- The indices that the always-on domain answers itself. -/
def aonIndex (s : State) (idx : Nat) : Bool := idx = 0x1000 || idx = 0x9000 || (frozen s && idx = 0x9800)

/-- The objects that the recovery loader serves to any requester (R417). -/
def recoveryObject (idx sub : Nat) : Bool := idx = 0x1000 || idx = 0x9000 || (idx = 0x9400 && 5 ≤ sub && sub ≤ 8)

/-- How a request of the MP's classes is met before Table 15.3 is judged: none when it is served. -/
def gate (read : Bool) (idx sub : Nat) (s : State) : Option Reply :=
  if frozen s then (if aonIndex s idx then none else some (replyRefused .deadTarget))
  else if s.start.state = 3 then (if recoveryObject idx sub then none else some (replyRefused .deadTarget))
  else if !(mpStarted s) then
    (if s.start.state = 2 then (if aonIndex s idx then none else some (replyRefused .deadTarget))
     else if read && aonIndex s idx then none else some (replyBusy 0))
  else if s.mgmt.mpHeld then some (replyRefused .deadTarget)
  else match s.mgmt.mpRestart with
    | some t => some (replyBusy (t - s.aoncnt))
    | none => if 192 ≤ s.mgmt.mpQueue then some (replyBusy (max 50 (peekFree 32 s).toNat)) else none

/-- A BUSY answer of a full queue is counted (R380). -/
def countBusy (r : Reply) (s : State) : State :=
  if r.disp = 1 && 192 ≤ s.mgmt.mpQueue && s.mgmt.mpRestart.isNone && mpStarted s then takeFree (count 0x1100 0x0C s) else s

/-! ### Reads, writes, descriptions (Table 15.3) -/

/-- The recovery loader serves its objects to any requester. -/
def anyone (s : State) (idx sub : Nat) : Bool := idx = 0x1000 || (s.start.state = 3 && recoveryObject idx sub)

/-- What a read of an object or of a whole record returns. -/
def readObject (registered : Bool) (idx sub : Nat) (s : State) : List Byte ⊕ Status :=
  match recOf idx with
  | none => .inr .malformed
  | some r =>
    if sub = 0xFF then
      (if !registered && !(anyone s idx sub) then .inr .rightsFault
       else if 256 < recSize r then .inr .boundFault
       else if idx = 0x9800 && !(frozen s) then .inr .rightsFault
       else .inl (recBytes s r idx))
    else match objAt idx sub with
      | none => .inr .malformed
      | some o =>
        if o.acc = .wo || (!registered && !(anyone s idx sub)) then .inr .rightsFault
        else if idx = 0x9800 && sub = 6 && !(frozen s) then .inr .rightsFault
        else .inl (objBytes s r idx sub o)

/-- A write of whole data. -/
def writeObject (owner : Bool) (idx sub : Nat) (bs : List Byte) (s : State) : State × Reply :=
  match objAt idx sub with
  | none => (s, replyRefused .malformed)
  | some o =>
    if o.acc = .const || o.acc = .ro || !(owner || (s.start.state = 3 && recoveryObject idx sub)) then (s, replyRefused .rightsFault)
    else ownerWrite idx sub bs s

/-- DESCRIBE: type code, access class and size. -/
def describe (registered : Bool) (idx sub : Nat) : Reply :=
  match recOf idx with
  | none => replyRefused .malformed
  | some r =>
    let known : Option (Nat × Nat × Nat) := if sub = 0xFF then some (0x0D, 1, recSize r) else (objAt idx sub).map fun o => (o.ty.code, o.acc.code, o.ty.size)
    match known with
    | none => replyRefused .malformed
    | some (t, a, n) => if !registered && idx ≠ 0x1000 then replyRefused .rightsFault else replyDone (toLe 4 (pack [(16, n), (8, a), (8, t)]))

/-- Four bytes of a value, from byte 4 × seg. -/
def segment (bs : List Byte) (seg : Nat) : List Byte := (bs.drop (4 * seg)).take 4

/-- A READ frame (R389). A capture is the requesting master's; an unregistered requester has none. -/
def readSegment (m : Option Nat) (idx sub seg : Nat) (s : State) : State × Reply :=
  if seg = 0 then
    match readObject m.isSome idx sub s with
    | .inr st => (s, replyRefused st)
    | .inl bs =>
      let s := match m with
        | some k => if 4 < bs.length || sub = 0xFF then modMaster k (fun x => { x with snapOf := idx * 256 + sub, snapAt := s.aoncnt, snap := bs }) s else s
        | none => s
      (takeFree s, replyDone (segment bs 0))
  else match m with
    | none => (s, replyRefused (if anyone s idx sub then .malformed else .rightsFault))
    | some k =>
      let x := getMaster s k
      if x.snapOf = idx * 256 + sub && 4 * seg < x.snap.length then (s, replyDone (segment x.snap seg)) else (s, replyRefused .malformed)

/-- A WRITE frame: the segments collect in the master's buffer, and the write takes effect with the last (R389). -/
def writeSegment (m : Option Nat) (idx sub seg : Nat) (data : BitVec 32) (s : State) : State × Reply :=
  match objAt idx sub with
  | none => (s, replyRefused .malformed)
  | some o =>
    let owner := m.isSome && s.mgmt.owner = m
    if o.acc = .const || o.acc = .ro || !(owner || (s.start.state = 3 && recoveryObject idx sub)) then (s, replyRefused .rightsFault)
    else
      let k := m.getD 8
      let x := getMaster s k
      let held : List Byte := if seg = 0 then [] else if x.wobj = idx * 256 + sub then x.wbuf else []
      if held.length ≠ 4 * seg || o.ty.size ≤ 4 * seg then (modMaster k (fun y => { y with wbuf := [] }) s, replyRefused .malformed)
      else
        let bs := held ++ bytesOf 4 data
        if o.ty.size ≤ bs.length then writeObject owner idx sub (bs.take o.ty.size) (modMaster k (fun y => { y with wbuf := [] }) s)
        else (modMaster k (fun y => { y with wobj := idx * 256 + sub, wbuf := bs }) s, replyDone [])

/-! ### Registration and ownership requests (R393, R394) -/

/-- REGISTER over a path: 0 the chain, 1 and 2 the mailboxes. -/
def registerMaster (path : Nat) (f : Frame) (s : State) : State × Reply :=
  match (match f.session with | some id => findSession s id | none => none) with
  | none => (s, replyRefused .rightsFault)
  | some x =>
    if !x.master then (s, replyRefused .rightsFault)
    else match (List.range 8).find? fun m => (getMaster s m).used && (getMaster s m).session = x.id with
      | some m => (s, replyDone (toLe 4 m))
      | none => match (List.range 8).find? fun m => !(getMaster s m).used with
        | none => (s, replyRefused .boundFault)
        | some m => (modMaster m (fun _ => { used := true, path := path, session := x.id, digest := x.digest, last := s.aoncnt }) s, replyDone (toLe 4 m))

/-- CLAIM: sets or withdraws a claim; the first one begins an election. -/
def claim (m c : Nat) (s : State) : State × Reply :=
  let s := modMaster m (fun x => { x with claim := c }) s
  (if c ≠ 0 && s.mgmt.owner.isNone && s.mgmt.electing.isNone then beginElection s else s, replyDone [])

/-- HANDOVER of the owner to a candidate. -/
def handover (m heir : Nat) (s : State) : State × Reply :=
  if s.mgmt.owner ≠ some m then (s, replyRefused .rightsFault)
  else if heir < 8 && candidate s heir then (newLease { s with mgmt.owner := some heir }, replyDone [])
  else (s, replyRefused .malformed)

/-- RELEASE by the owner. -/
def releaseOwner (m : Nat) (s : State) : State × Reply :=
  if s.mgmt.owner = some m then (giveUp s, replyDone []) else (s, replyRefused .rightsFault)

/-- RENEW by the owner. -/
def renewLease (m : Nat) (s : State) : State × Reply :=
  if s.mgmt.owner = some m then (newLease s, replyDone []) else (s, replyRefused .rightsFault)

/-! ### One request -/

/-- What a request carries beside its header: nothing for a frame, the data of a mailbox command (R392). -/
def dictRequest (path : Nat) (f : Frame) (mail : Option (List Byte)) (m : Option Nat) (s : State) : State × Reply :=
  let idx := f.index.toNat
  let sub := f.sub.toNat
  let gated (read : Bool) (k : State → State × Reply) : State × Reply := match gate read idx sub s with
    | some r => (countBusy r s, r)
    | none => k s
  match f.typ.val with
  | 4 => gated true fun s => match mail with
    | none => readSegment m idx sub f.seg.toNat s
    | some _ => (match readObject m.isSome idx sub s with | .inl bs => (takeFree s, replyDone bs) | .inr st => (s, replyRefused st))
  | 5 => gated false fun s => match mail with
    | none => writeSegment m idx sub f.seg.toNat f.data s
    | some bs => writeObject (m.isSome && s.mgmt.owner = m) idx sub bs s
  | 6 => gated false fun s => (s, describe m.isSome idx sub)
  | 8 => (match gate false 0 0 s with | some r => (countBusy r s, r) | none => registerMaster path f s)
  | 9 => (match m with | some k => claim k (fld f.data 0 8) s | none => (s, replyRefused .rightsFault))
  | 0x0A => (match m with | some k => handover k (fld f.data 0 8) s | none => (s, replyRefused .rightsFault))
  | 0x0B => (match m with | some k => releaseOwner k s | none => (s, replyRefused .rightsFault))
  | 0x0C => (match m with | some k => renewLease k s | none => (s, replyRefused .rightsFault))
  | _ => (s, replyRefused .malformed)

/-- A request that needs no MAC: a read of 0x1000 by an unregistered requester (R387), and what the recovery loader serves. -/
def needsNoMac (s : State) (f : Frame) : Bool :=
  (f.typ = 4 && f.index = 0x1000#16) || (s.start.state = 3 && (f.typ = 4 || f.typ = 5 || f.typ = 6) && recoveryObject f.index.toNat f.sub.toNat)

/-- Serve a request: its MAC, a kept response, its effect, and the response kept in the same step (R387, R388). A lease that has
run out lapses first (R395). -/
def serveRequest (path : Nat) (f : Frame) (mail : Option (List Byte)) (s : State) : State × Reply :=
  let s := if leaseOver s then lapse s else s
  match verifiedMaster s f with
  | some m =>
    let s := noteRequest m (countFrame f s)
    (match (getMaster s m).kept.find? fun k => k.1 = f.tag.toNat with
    | some k => (count 0x1100 0x0F s, k.2)
    | none =>
      let (s, r) := dictRequest path f mail (some m) s
      (if (getMaster s m).used then keepReply m f.tag.toNat r s else s, r))
  | none =>
    if verified s f then dictRequest path f mail none (countFrame f s)
    else if f.session.isNone && needsNoMac s f then dictRequest path f mail none s
    else (s, replyRefused .rightsFault)

/-! ### The chain (R385, R390, R391) -/

/-- Send a frame toward the chain master. -/
def sendUp (f : Frame) (s : State) : State := emit (.chain true f) s

/-- Send a frame away from the chain master, when the port has a partner. -/
def sendDown (f : Frame) (s : State) : State := if s.pins.chainDown then emit (.chain false f) s else s

/-- A chain address is taken: retained, and mirrored with the persistent objects (R391). -/
def takeAddress (a : Nat) (s : State) : State := { s with mgmt.chainAddr := a, mgmt.oldAddr := a, mgmt.mirrorAddr := a }

/-- TOKEN (R390). -/
def tokenArrives (f : Frame) (s : State) : State :=
  let v := f.data.toNat
  let (s, v) := if v < 254 then (takeAddress (v + 1) s, v + 1) else (takeAddress 0 s, v)
  if s.pins.chainDown then sendDown { f with data := BitVec.ofNat 32 v } s
  else sendUp { f with dest := 0, src := BitVec.ofNat 8 s.mgmt.chainAddr, typ := 1, data := BitVec.ofNat 32 v } s

/-- ADDR_GRANT with this block's nonce (R391). 0xFF is no chain address (R12): a grant of it is malformed, and has no effect. -/
def grantAddress (f : Frame) (s : State) : State :=
  if s.mgmt.nonce = some (fld f.data 8 24) && fld f.data 0 8 ≠ 0xFF then { (takeAddress (fld f.data 0 8) s) with mgmt.nonce := none } else s

/-- The response frame of a request. -/
def answerFrame (f : Frame) (addr : Nat) (r : Reply) : Frame :=
  { f with dest := f.src, src := BitVec.ofNat 8 addr, disp := ⟨r.disp % 4, Nat.mod_lt _ (by decide)⟩, resp := true
           status := BitVec.ofNat 8 r.status.code, data := if r.disp = 1 then BitVec.ofNat 32 r.retry else BitVec.ofNat 32 (ofLe r.data) }

/-- A frame for this block is acted on; it wakes a sleeping block (Table 1.6). While the fast clocks are stopped by a trip, what the MP would answer has no answer. -/
def actOn (f : Frame) (s : State) : State :=
  let s := wakeUp s
  match f.typ.val with
  | 0 => s
  | 1 => s
  | 2 => s
  | 3 => grantAddress f s
  | 7 => { s with mgmt.spdmIn := tset [] s.mgmt.spdmIn 0 (tget [] s.mgmt.spdmIn 0 ++ bytesOf 4 f.data) }
  | t =>
    if 0x0D ≤ t || f.resp || (s.pins.thermtrip && t ≤ 8) then s
    else
      let (s, r) := serveRequest 0 f none s
      sendUp (answerFrame f s.mgmt.chainAddr r) s

/-- A frame arrives on CH_UP (R385). -/
def frameFromUp (f : Frame) (s : State) : State :=
  if !f.crcOk then count 0x1100 0x0E s
  else if 0x0D ≤ f.typ.val then s
  else if f.typ = 0 then tokenArrives f s
  else
    let mine := f.dest = 0xFF#8 || (s.mgmt.chainAddr ≠ 0 && f.dest.toNat = s.mgmt.chainAddr)
    let fwd := !(s.mgmt.chainAddr ≠ 0 && f.dest.toNat = s.mgmt.chainAddr)
    let s := if fwd then sendDown f s else s
    if mine && (s.mgmt.chainAddr ≠ 0 || f.typ = 3) then actOn f s else s

/-- A frame arrives on CH_DN: it goes on toward the chain master. -/
def frameFromDown (f : Frame) (s : State) : State :=
  if !f.crcOk then count 0x1100 0x0E s else if 0x0D ≤ f.typ.val then s else sendUp f s

/-- A whole frame is received. -/
def frameArrives (up : Bool) (f : Frame) (s : State) : State :=
  if !(chainOn s) then s else if up then frameFromUp f s else frameFromDown f s

/-- The same, with `n` entries in the MP's queue as the frame arrives. -/
def queuedFrame (n : Nat) (f : Frame) (s : State) : State :=
  if !(chainOn s) then s else frameArrives true f { s with mgmt.mpQueue := n }

/-! ### The mailbox (R392) -/

/-- The mailbox of a host port takes commands: its link is trained, the block runs, and no link hold stops admission (R411, R428). -/
def mailboxOn (s : State) (p : Nat) : Bool := chainOn s && !s.start.inReset && !(frozen s) && !s.pins.thermtrip && hostUp s p && s.freeze.hold = 0

/-- Command 0xC000. -/
def mailRequest (p n : Nat) (f : Frame) (bs : List Byte) (s : State) : State :=
  if mailboxOn s p then
    let (s, r) := serveRequest (p + 1) f (some bs) { (wakeUp s) with mgmt.mpQueue := n }
    emit (.mailbox p f r) s
  else s

/-- A request of path 0 (a chain frame), or of the mailbox of a host port. -/
def pathRequest (path n : Nat) (f : Frame) (s : State) : State :=
  if path = 0 then queuedFrame n f s else mailRequest (path - 1) n f [] s

/-! ### A write as a command of its own -/

/-- An owner write by a registered master, on the path that it registered on; its answer goes to the master. The MP serves it: it wakes a
sleeping block (R18). -/
def masterWrite (m idx sub : Nat) (bs : List Byte) (s : State) : State :=
  if chainOn s && !s.pins.thermtrip && (getMaster s m).used then
    let s := wakeUp s
    let s := if leaseOver s then lapse s else s
    let s := noteRequest m s
    let (s, r) := match gate false idx sub s with
      | some r => (countBusy r s, r)
      | none => writeObject (s.mgmt.owner = some m) idx sub bs s
    emit (.answer m r) (if r.disp = 1 then s else modMaster m (fun x => { x with requests := x.requests + 1 }) s)
  else s

end Sys2Proof.Machine
end

