-- ==== Sys2Proof/Machine/Security.lean ====
section
/-! DEFINITION. The security root (16): the SPDM responder and its sessions (R419 to R421), measurements, confidential contexts
(R425), link keys (R422, R423). The wire form of SPDM messages and the cryptography are named outside standards: a command
brings what their checks find, and an answer names the response and the bytes that the spec fixes in it. -/

namespace Sys2Proof.Machine

/-! ### Transports -/

/-- The responder answers on this transport (R392, R411, R419). -/
def viaOn (s : State) (v : Via) : Bool :=
  s.sec.ready && !s.start.inReset && !(frozen s) && !s.pins.thermtrip &&
  (match v with
    | .doe p => hostUp s p
    | .mailbox p => mailboxOn s p
    | .chain => chainOn s && s.mgmt.chainAddr ≠ 0
    | .peer l => 2 ≤ (getPeer s l).state)

/-- The bytes held of a message that came in pieces over a transport: 0 the chain, 1 and 2 the mailboxes. -/
def viaKey (v : Via) : Nat := match v with | .chain => 0 | .mailbox p => 1 + p.val | .doe p => 3 + p.val | .peer l => 5 + l.val

/-- SPDM message bytes arrive in a frame or a mailbox command. -/
def spdmArrives (v : Via) (bs : List Byte) (s : State) : State :=
  { s with mgmt.spdmIn := tset [] s.mgmt.spdmIn (viaKey v) (tget [] s.mgmt.spdmIn (viaKey v) ++ bs) }

/-- Answer a request: its pieces are used up. -/
def spdmAnswer (v : Via) (rsp : String) (data : List Byte) (s : State) : State :=
  emit (.spdm v rsp data) { s with mgmt.spdmIn := tset [] s.mgmt.spdmIn (viaKey v) [] }

/-- The effect of an SPDM request, when the responder serves its transport. The MP answers it: it wakes a sleeping block (R18). -/
def onSpdm (v : Via) (f : State → State) (s : State) : State := if viaOn s v then f (wakeUp s) else s

/-- A failed verification or a refused session (0x9400:0D). -/
def spdmFails (s : State) : State := count 0x9400 0x0D s

/-! ### Identity and measurements (R419, R420) -/

def measurement (s : State) : BitVec 384 := BitVec.ofNat 384 s.fw.measure

/-- The content of a measurement block (Table 16.6). -/
def measureBlock (s : State) (k : Nat) : List Byte :=
  match k with
  | 1 => bytesOf 4 Config.romVersion ++ bytesOf 48 Config.keyHashes
  | 2 => bytesOf 48 (measurement s)
  | 3 => [BitVec.ofNat 8 (fusedSvn s), BitVec.ofNat 8 s.fw.svn]
  | 4 => [BitVec.ofNat 8 (obj s 0x9400 0x0B 0), BitVec.ofNat 8 (b2n s.sec.debugEver)]
  | _ => bytesOf 48 (Config.sha384 (measuredBytes s))

/-- GET_DIGESTS: the digest of the certificate chain of slot 0. -/
def getDigests (v : Via) (s : State) : State := spdmAnswer v "DIGESTS" (bytesOf 48 (Config.sha384 (Config.certChain (measurement s)))) s

/-- GET_CERTIFICATE: `n` bytes of the chain from `o`. -/
def getCertificate (v : Via) (o n : Nat) (s : State) : State :=
  spdmAnswer v "CERTIFICATE" (((Config.certChain (measurement s)).drop o).take n) s

/-- CHALLENGE: a signature of the exchange by the alias key. -/
def challenge (v : Via) (msg : List Byte) (s : State) : State := spdmAnswer v "CHALLENGE_AUTH" (Config.aliasSign (measurement s) msg) s

/-- GET_MEASUREMENTS: operation 0 asks for the number of blocks, 0xFF for all of them, 1 to 5 for one; signed when asked. -/
def getMeasurements (v : Via) (op : Nat) (sign : Bool) (msg : List Byte) (s : State) : State :=
  let content : Option (List Byte) :=
    if op = 0 then some [5] else if op = 0xFF then some ((rangeFrom 1 5).flatMap (measureBlock s)) else if op ≤ 5 then some (measureBlock s op) else none
  match content with
  | none => spdmAnswer v "ERROR" [1] s
  | some c => spdmAnswer v "MEASUREMENTS" (c ++ if sign then Config.aliasSign (measurement s) (msg ++ c) else []) s

/-! ### Sessions (R419, R421) -/

/-- KEY_EXCHANGE: a new session, or Busy beyond 64. -/
def keyExchange (v : Via) (msg : List Byte) (s : State) : State :=
  if 64 ≤ s.sec.sessions.length then spdmAnswer v "ERROR" [3] (spdmFails s)
  else
    let id := s.sec.nextSession
    spdmAnswer v "KEY_EXCHANGE_RSP" (toLe 4 id ++ Config.aliasSign (measurement s) msg)
      { s with sec.sessions := s.sec.sessions ++ [{ id := id, digest := 0, master := false, finished := false }], sec.nextSession := id % 2 ^ 32 + 1 }

/-- A session is bound to one context, the last it named. -/
def unbindSession (id : Nat) (s : State) : State :=
  { s with sec.conf := s.sec.conf.map fun kv => (kv.1, kv.2.map fun x => if x.session = some id then { x with session := none } else x) }

/-- A session ends, and with it the registration on it and its binding to a confidential context (R393, R425). -/
def endSession (id : Nat) (s : State) : State :=
  let s := unbindSession id { s with sec.sessions := s.sec.sessions.filter fun x => x.id ≠ id }
  match (List.range 8).find? fun m => (getMaster s m).used && (getMaster s m).session = id with
  | some m => endRegistration m s
  | none => s

/-- The session exists. -/
def openSession (s : State) (id : Nat) : Bool := s.sec.sessions.any fun x => x.id = id

/-- FINISH: the session is established for the leaf certificate with this digest; `master` says that its chain ends at the key that
R421 accepts for masters. A failed check ends it. -/
def finishSession (v : Via) (id : Nat) (ok : Bool) (digest : Nat) (master : Bool) (s : State) : State :=
  if !(openSession s id) then spdmAnswer v "ERROR" [1] (spdmFails s)
  else if !ok then spdmAnswer v "ERROR" [6] (spdmFails (endSession id s))
  else spdmAnswer v "FINISH_RSP" [] (modSession id (fun x => { x with digest := digest, master := master, finished := true, rx := 0, tx := 0 }) s)

/-- A request in a session: its tag verifies, or it is a failed verification. -/
def inSession (v : Via) (id : Nat) (ok : Bool) (f : State → State) (s : State) : State :=
  if (findSession s id).isSome && ok then f s else spdmAnswer v "ERROR" [6] (spdmFails s)

/-- KEY_UPDATE: new keys; on a peer link the flit counters start anew (R423). -/
def keyUpdate (v : Via) (id : Nat) (s : State) : State :=
  let s := modSession id (fun x => { x with keyGen := x.keyGen + 1 }) s
  let s := { s with peers := s.peers.map fun kv => (kv.1, if kv.2.session = some id then { kv.2 with flits := 0 } else kv.2) }
  spdmAnswer v "KEY_UPDATE_ACK" [] s

/-! ### Confidential contexts (R425) -/

/-- The answer to a tenant's request: its status, then its data. -/
def tenantAnswer (v : Via) (st : Status) (data : List Byte) (s : State) : State :=
  spdmAnswer v "VENDOR_DEFINED_RESPONSE" (BitVec.ofNat 8 st.code :: data) s

/-- The context that a session is bound to. -/
def boundContext (s : State) (id : Nat) : Option Nat :=
  (s.sec.conf.find? fun kv => match kv.2 with | some x => decide (x.session = some id) && ctxState s kv.1 ≠ 0 | none => false).map (·.1)

/-- The check that CONF_CREATE of a FREE context fails, if any. R320 and Table 16.8 name no status for a failed CREATE rule
(DESIGN CHOICE, log 26). -/
def confVerdict (s : State) (c : Nat) (slots : List Nat) : Status :=
  if obj s 0x9400 0x0B 0 = 1 then .rightsFault
  else if ctxState s c ≠ 0 then .rightsFault
  else if !(createOk s c) || 4 < slots.length then .malformed
  else if slots.any fun k => (getSlot s k).key.isSome then .boundFault
  else .ok

/-- The context is made, with fresh keys and a queue key. -/
def confMake (v : Via) (id c : Nat) (slots : List Nat) (digest : Nat) (s : State) : State :=
  let s := unbindSession id s
  let s := setCtxFld c 109 1 1 (setCtxState c 1 (modAcct c (fun _ => {}) (modRun c (fun _ => {}) s)))
  let s := slots.eraseDups.foldl (fun st k => fillSlot k [c] false true st) s
  let q := s.mem.keySerial + 1
  let key := bytesOf 32 (peekFree 256 s)
  let x : ConfCtx := { tenant := digest, session := some id, slots := slots.eraseDups, queueKey := q }
  tenantAnswer v .ok key { (takeFree s) with mem.keySerial := q, sec.confEver := true, sec.conf := tset none s.sec.conf c (some x) }

/-- CONF_CREATE: a new context, or the session's binding to one that its tenant made before. -/
def confCreate (v : Via) (id c : Nat) (slots : List Nat) (s : State) : State :=
  let digest := ((findSession s id).map (·.digest)).getD 0
  match tget none s.sec.conf c with
  | some x =>
    if confidential s c && ctxState s c ≠ 0 then
      (if x.tenant = digest then (let s := unbindSession id s; tenantAnswer v .ok [] { s with sec.conf := tset none s.sec.conf c (some { x with session := some id }) })
       else tenantAnswer v .rightsFault [] s)
    else (match confVerdict s c slots with | .ok => confMake v id c slots digest s | st => tenantAnswer v st [] s)
  | none => (match confVerdict s c slots with | .ok => confMake v id c slots digest s | st => tenantAnswer v st [] s)

/-- CONF_ALLOW, for the context that the session is bound to. -/
def confAllow (v : Via) (id : Nat) (a : ConfAllow) (s : State) : State :=
  match boundContext s id with
  | none => tenantAnswer v .rightsFault [] s
  | some c =>
    let x := (tget none s.sec.conf c).getD {}
    let put (y : ConfCtx) : State := tenantAnswer v .ok [] { s with sec.conf := tset none s.sec.conf c (some y) }
    match a with
    | .hostWindow pa pages => if 16 ≤ x.hosts.length then tenantAnswer v .boundFault [] s else put { x with hosts := x.hosts ++ [(pa, pages)] }
    | .peerWindow l w => put { x with peers := x.peers ++ [(l.val, w.val)] }
    | .hostDecoder p d => put { x with decoders := x.decoders ++ [(p.val, d.val)] }

/-- CONF_END: as CTX_CMD END. -/
def confEnd (v : Via) (id c : Nat) (s : State) : State :=
  if boundContext s id = some c then tenantAnswer v .ok [] (ctxCommand 4 c s) else tenantAnswer v .rightsFault [] s

/-- IDE_KM over DOE: the host sets a port's IDE keys (R422). -/
def ideKeys (p : Nat) (k : Nat) (s : State) : State := modHost p (fun h => { h with ideKey := some k }) s

end Sys2Proof.Machine
end

