-- ==== Sys2Proof/Machine/DictRows.lean ====
section
/-! DEFINITION. The commands of the chain, the mailboxes, masters and the owner (15). -/

namespace Sys2Proof.Machine

/-! ### Frames (R385, R386) -/

/-- FRAME_FORWARD: a whole frame is received on CH_UP, or on CH_DN; `queued` entries stand in the MP's queue. -/
def execFrameForward (up : Bool) (queued : Fin 257) (f : Frame) (s : State) : Host.Outcome State Fault Refusal :=
  done (if up then queuedFrame queued.val f s else frameArrives false f s)
/-- TOKEN (R390). -/
def execToken (f : Frame) (s : State) : Host.Outcome State Fault Refusal := done (frameArrives true { f with typ := 0 } s)
/-- ADDR_GRANT (R391). -/
def execAddrGrant (f : Frame) (s : State) : Host.Outcome State Fault Refusal := done (frameArrives true { f with typ := 3 } s)
/-- READ (R389). -/
def execChainRead (queued : Fin 257) (f : Frame) (s : State) : Host.Outcome State Fault Refusal :=
  done (queuedFrame queued.val { f with typ := 4 } s)
/-- WRITE (R389). -/
def execChainWrite (queued : Fin 257) (f : Frame) (s : State) : Host.Outcome State Fault Refusal :=
  done (queuedFrame queued.val { f with typ := 5 } s)
/-- DESCRIBE (R386). -/
def execChainDescribe (queued : Fin 257) (f : Frame) (s : State) : Host.Outcome State Fault Refusal :=
  done (queuedFrame queued.val { f with typ := 6 } s)
/-- SPDM_FRAME: four more bytes of an SPDM message (R386). -/
def execSpdmFrame (f : Frame) (s : State) : Host.Outcome State Fault Refusal := done (frameArrives true { f with typ := 7 } s)

/-! ### Masters (R393 to R395): over the chain, or over the mailbox of a host port (path 1 or 2) -/

/-- REGISTER (R393). -/
def execRegister (path : Fin 3) (queued : Fin 257) (f : Frame) (s : State) : Host.Outcome State Fault Refusal :=
  done (pathRequest path.val queued.val { f with typ := 8 } s)
/-- CLAIM (R394). -/
def execClaim (path : Fin 3) (queued : Fin 257) (f : Frame) (s : State) : Host.Outcome State Fault Refusal :=
  done (pathRequest path.val queued.val { f with typ := 9 } s)
/-- HANDOVER (R394). -/
def execHandover (path : Fin 3) (queued : Fin 257) (f : Frame) (s : State) : Host.Outcome State Fault Refusal :=
  done (pathRequest path.val queued.val { f with typ := 10 } s)
/-- RELEASE (R394). -/
def execOwnerRelease (path : Fin 3) (queued : Fin 257) (f : Frame) (s : State) : Host.Outcome State Fault Refusal :=
  done (pathRequest path.val queued.val { f with typ := 11 } s)
/-- RENEW (R395). -/
def execRenew (path : Fin 3) (queued : Fin 257) (f : Frame) (s : State) : Host.Outcome State Fault Refusal :=
  done (pathRequest path.val queued.val { f with typ := 12 } s)

/-- ELECTION_WINDOW_END (R394). -/
def execElectionWindowEnd (s : State) : Host.Outcome State Fault Refusal := done (onAon electionEnds s)
/-- LEASE_LAPSE (R395). -/
def execLeaseLapse (s : State) : Host.Outcome State Fault Refusal := done (onAon leaseEnds s)
/-- REGISTRATION_EXPIRY (R393). -/
def execRegistrationExpiry (m : MasterId) (s : State) : Host.Outcome State Fault Refusal := done (onAon (registrationExpires m.val) s)

/-! ### Mailboxes (R392) and the chain's partner (R452) -/

/-- MAILBOX_DICTIONARY. -/
def execMailboxDictionary (p : HostId) (queued : Fin 257) (f : Frame) (bytes : List Byte) (s : State) : Host.Outcome State Fault Refusal :=
  done (mailRequest p.val queued.val f bytes s)
/-- MAILBOX_SPDM. -/
def execMailboxSpdm (p : HostId) (bytes : List Byte) (s : State) : Host.Outcome State Fault Refusal :=
  done (if mailboxOn s p.val then spdmArrives (.mailbox p) bytes (wakeUp s) else s)
/-- CHAIN_PARTNER_LOST (R452). -/
def execChainPartnerLost (s : State) : Host.Outcome State Fault Refusal := done { s with pins.chainDown := false }
/-- CHAIN_SYMBOL_LOCK (R452). -/
def execChainSymbolLock (s : State) : Host.Outcome State Fault Refusal := done { s with pins.chainDown := true }

/-! ### Owner writes: a registered master `m` writes a value (R375, R396) -/

/-- A write of value `v` to an object, in the bytes of its size. -/
def putValue (m idx sub v : Nat) (s : State) : State :=
  masterWrite m idx sub (toLe (match objAt idx sub with | some o => o.ty.size | none => 0) v) s

/-- DICTIONARY_WRITE (R375). -/
def execDictionaryWrite (m : MasterId) (index : BitVec 16) (sub : Byte) (data : List Byte) (s : State) : Host.Outcome State Fault Refusal :=
  done (masterWrite m.val index.toNat sub.toNat data s)
/-- CACHE_STEPS (R154). -/
def execCacheSteps (m : MasterId) (v : Byte) (s : State) : Host.Outcome State Fault Refusal := done (putValue m.val 0x3000 3 v.toNat s)
/-- FENCE of an array (R124). -/
def execArrayFence (m : MasterId) (a : ArrayId) (v : Byte) (s : State) : Host.Outcome State Fault Refusal :=
  done (putValue m.val (0x4101 + a.val) 2 v.toNat s)
/-- FENCE of a home slice (R244). -/
def execHomeSliceFence (m : MasterId) (h : HomeId) (v : Byte) (s : State) : Host.Outcome State Fault Refusal :=
  done (putValue m.val (0x3801 + h.val) 2 v.toNat s)
/-- FENCE of a copy engine (R277). -/
def execEngineFence (m : MasterId) (e : EngineId) (v : Byte) (s : State) : Host.Outcome State Fault Refusal :=
  done (putValue m.val (0x6001 + e.val) 2 v.toNat s)
/-- NEAR_FENCE (R358). -/
def execNearFence (m : MasterId) (v : Byte) (s : State) : Host.Outcome State Fault Refusal := done (putValue m.val 0x8000 0x1B v.toNat s)
/-- CONTROL of a peer window (R189). -/
def execWindowControl (m : MasterId) (l : PeerId) (w : Fin 64) (v : Byte) (s : State) : Host.Outcome State Fault Refusal :=
  done (putValue m.val (winIdx l.val w.val) 1 v.toNat s)
/-- DEC_CONTEXT, or DEC_KEY_SLOT, of a host decoder (R248). -/
def execDecContext (m : MasterId) (p : HostId) (d : Fin 8) (slot : Bool) (v : BitVec 16) (s : State) : Host.Outcome State Fault Refusal :=
  done (putValue m.val (0x5001 + p.val) (2 * d.val + (if slot then 2 else 1)) v.toNat s)
/-- POINT_REQUESTED (R397). -/
def execPointRequested (m : MasterId) (v : Byte) (s : State) : Host.Outcome State Fault Refusal := done (putValue m.val 0x2000 1 v.toNat s)
/-- FIRST_CLEAR (R353). -/
def execFirstClear (m : MasterId) (v : Byte) (s : State) : Host.Outcome State Fault Refusal := done (putValue m.val 0x8000 5 v.toNat s)
/-- OWNER_KILL (R396). -/
def execOwnerKill (m : MasterId) (c : BitVec 16) (s : State) : Host.Outcome State Fault Refusal := done (putValue m.val 0x1100 7 c.toNat s)
/-- RESTORE_DEFAULTS (R377). -/
def execRestoreDefaults (m : MasterId) (v : Byte) (s : State) : Host.Outcome State Fault Refusal := done (putValue m.val 0x1100 0x0B v.toNat s)
/-- RETRY_MASK (R406). -/
def execRetryMask (m : MasterId) (v : BitVec 32) (s : State) : Host.Outcome State Fault Refusal := done (putValue m.val 0x9000 7 v.toNat s)
/-- PKG_OFFSET (R368). -/
def execPkgOffset (m : MasterId) (v : BitVec 32) (s : State) : Host.Outcome State Fault Refusal := done (putValue m.val 0x8800 1 v.toNat s)
/-- PKG_DATA (R368). -/
def execPkgData (m : MasterId) (data : Line) (s : State) : Host.Outcome State Fault Refusal := done (putValue m.val 0x8800 2 data.toNat s)
/-- PKG_COMMIT (R368). -/
def execPkgCommit (m : MasterId) (v : Byte) (s : State) : Host.Outcome State Fault Refusal := done (putValue m.val 0x8800 3 v.toNat s)
/-- RUN (R369). -/
def execTestRun (m : MasterId) (r : BitVec 128) (s : State) : Host.Outcome State Fault Refusal := done (putValue m.val 0x8800 8 r.toNat s)
/-- FW_OFFSET (R416). -/
def execFwOffset (m : MasterId) (v : BitVec 32) (s : State) : Host.Outcome State Fault Refusal := done (putValue m.val 0x9400 5 v.toNat s)
/-- FW_DATA (R416). -/
def execFwData (m : MasterId) (data : Line) (s : State) : Host.Outcome State Fault Refusal := done (putValue m.val 0x9400 6 data.toNat s)
/-- FW_COMMIT (R416). -/
def execFwCommit (m : MasterId) (v : Byte) (s : State) : Host.Outcome State Fault Refusal := done (putValue m.val 0x9400 7 v.toNat s)
/-- FW_ACTIVATE (R416). -/
def execFwActivate (m : MasterId) (v : Byte) (s : State) : Host.Outcome State Fault Refusal := done (putValue m.val 0x9400 9 v.toNat s)
/-- DEBUG_UNLOCK (R427). -/
def execDebugUnlock (m : MasterId) (v : Byte) (s : State) : Host.Outcome State Fault Refusal := done (putValue m.val 0x9400 0x0B v.toNat s)
/-- LINK_HOLD (R428). -/
def execLinkHold (m : MasterId) (v : Byte) (s : State) : Host.Outcome State Fault Refusal := done (putValue m.val 0x9800 2 v.toNat s)

end Sys2Proof.Machine
end

