-- ==== Sys2Proof/Machine/HostMemRows.lean ====
section
/-! DEFINITION. The host's CXL.cache and CXL.mem commands (R245 to R248). -/

namespace Sys2Proof.Machine

/-- SnpData: an owner gives its data back first. -/
def snpDataTaken (p g : Nat) (s : State) : State := snoopTaken p g .getS s
/-- SnpInv: every near copy leaves first. -/
def snpInvTaken (p g : Nat) (s : State) : State := snoopTaken p g .getI s
/-- SnpCur: an owner sends its data and keeps it. -/
def snpCurTaken (p g : Nat) (s : State) : State := snoopTaken p g .cur s

def execSnpdata (p : HostId) (g : Nat) (s : State) : Host.Outcome State Fault Refusal := done (onWake (snpDataTaken p.val g) s)
def execSnpinv (p : HostId) (g : Nat) (s : State) : Host.Outcome State Fault Refusal := done (onWake (snpInvTaken p.val g) s)
def execSnpcur (p : HostId) (g : Nat) (s : State) : Host.Outcome State Fault Refusal := done (onWake (snpCurTaken p.val g) s)

/-- MemRd and MemRdData: RD_NC, RD_S without F, or RD_X (Table 9.11). Nothing serves it: poisoned data (R248). -/
def memRdTaken (p hpa : Nat) (mv : Meta) (s : State) : State :=
  match hdmTarget s p hpa with
  | none => portSend p (.memRsp p hpa "MemData,Cmp" none true) (hdmRefused p hpa s)
  | some (g, c, k) =>
    memRequest (match mv with | .invalid => .rdNc | .shared => .rdS | .any => .rdX) p g c k noData s

def execMemrd (p : HostId) (hpa : Nat) (mv : Meta) (s : State) : Host.Outcome State Fault Refusal :=
  done (onWake (memRdTaken p.val hpa mv) s)

/-- MemInv: UPG with MetaValue Any; with Invalid the host gives its copy up. MetaValue Shared is not in Table 9.11. -/
def memInvTaken (p hpa : Nat) (mv : Meta) (s : State) : State :=
  match hdmTarget s p hpa with
  | none => portSend p (.memRsp p hpa "Cmp" none false) (hdmRefused p hpa s)
  | some (g, c, k) => match mv with
    | .any => memRequest .upg p g c k noData s
    | .invalid =>
      if granuleBusy s g || s.coh.queued.any (fun q => q.req.pa / 64 = g) then
        homeRequest .upg (proxyReq g c k) noData 0 0 .release (modHost p (fun h => { h with asked := h.asked ++ [g] }) s)
      else portSend p (.memRsp p (g * 64) "Cmp" none false) (dropHost g s)
    | .shared => s

def execMeminv (p : HostId) (hpa : Nat) (mv : Meta) (s : State) : Host.Outcome State Fault Refusal :=
  done (onWake (memInvTaken p.val hpa mv) s)

/-- MemWr and MemWrPtl: the owner's writeback, a WR_NC, or a write at memory that keeps the directory (Table 9.11). A write
before the answer to a back-invalidate snoop is that answer's data. -/
def memWrTaken (p hpa : Nat) (d : CohData) (mv : Meta) (s : State) : State :=
  match hdmTarget s p hpa with
  | none => portSend p (.memRsp p hpa "Cmp" none false) (hdmRefused p hpa s)
  | some (g, c, k) =>
    let s := if d.poison then poisonCreated (0x1000 + p) (some c) 2 g s else s
    let owns := (getDir s g).st = .exclusive && (getDir s g).ptrs.contains hostProxy
    let answers := (getHost s p).bisnp.any fun b => b.1 = g
    let atMemory (st : State) : State :=
      portSend p (.memRsp p (g * 64) "Cmp" none false) (writeGranule c k g d.data d.mask d.poison (stackLine g k 0 true (d.mask = fullMask) (meetWrite (some c) g (d.mask = fullMask) (softMask g d.mask st))))
    match mv with
    | .invalid =>
      if owns || answers then dropHost g (atMemory s) else memRequest .wrNc p g c k d s
    | _ =>
      if !answers && (granuleBusy s g || s.coh.queued.any fun q => q.req.pa / 64 = g) then
        homeRequest .wrNc (proxyReq g c k) d 0 0 .keeps (modHost p (fun h => { h with asked := h.asked ++ [g] }) s)
      else atMemory s

def execMemwr (p : HostId) (hpa : Nat) (d : CohData) (mv : Meta) (s : State) : Host.Outcome State Fault Refusal :=
  done (onWake (memWrTaken p.val hpa d mv) s)

/-- BIRspS, BIRspI, BIRspE: the host has answered a back-invalidate snoop, and the request that waits proceeds. -/
def biRspTaken (p g : Nat) (rsp : BiRsp) (s : State) : State :=
  match (getHost s p).bisnp.find? fun b => b.1 = g with
  | none => s
  | some b =>
    let s := modHost p (fun h => { h with bisnp := h.bisnp.erase b }) s
    let s := if rsp = .i then dropHost g s else s
    holderAnswered g hostProxy false s

def execBirsp (p : HostId) (g : Nat) (rsp : BiRsp) (s : State) : Host.Outcome State Fault Refusal :=
  done (onWake (biRspTaken p.val g rsp) s)

/-- BIConflict is acknowledged; the host request stays ordered after the snoop's transaction (R247). -/
def biConflictTaken (p g : Nat) (s : State) : State :=
  if (getHost s p).bisnp.any fun b => b.1 = g then portSend p (.biConflict p (g * 64)) s else s

def execBiconflict (p : HostId) (g : Nat) (s : State) : Host.Outcome State Fault Refusal :=
  done (onWake (biConflictTaken p.val g) s)

/-- The shingle that a host grant leaves. -/
def shingleOfGrant : H2d → Shingle
  | .goS => .s | .goE => .e | .goM => .m | _ => .i

/-- The host answers a request of the device cache: a miss takes its data and state, and the request that waited goes on; an eviction is
complete (R245). A line that the cache may not hold is not held (Table 9.1). -/
def h2dArrives (p g : Nat) (rsp : H2d) (data : Option Line) (poison : Bool) (s : State) : State :=
  if s.coh.missing.contains (g / 4, g) then
    let s := { s with coh.missing := s.coh.missing.erase (g / 4, g) }
    let s := match data with
      | some d =>
        if rsp = .pull then s
        else
          let s := if poison then poisonCreated (0x1000 + p) ((getTxn s g).map fun t => t.req.ctx.val) 1 g s else s
          writeGranule 0 0 g d fullMask poison s
      | none => s
    let owner := missOwner s g
    let t := getTxn s owner
    let keySlot := match t with | some x => x.req.keySlot.val | none => 0
    let x := match t with
      | some y => if y.req.cache = 2 then .i else shingleOfGrant rsp
      | none => shingleOfGrant rsp
    let s := if x = .i then s
      else
        let s := if (getLine s (g / 4)).isSome then s else (allocLine (g / 4) keySlot s).getD s
        let s := touch g (setShingle g x s)
        let through := match t with
          | some y => y.req.cache ≠ 0 && (y.kind = .rdX || y.kind = .upg || y.kind = .atomH)
          | none => false
        if through && !(s.coh.through.contains g) then { s with coh.through := s.coh.through ++ [g] } else s
    let s := if x = .i then setShingle g .i s else s
    serveQueued (serveLine (g / 4) s.coh.merged.length s)
  else { s with coh.evicting := s.coh.evicting.filter fun e => e.1 ≠ g }

def execH2dResponse (p : HostId) (g : Nat) (rsp : H2d) (data : Option Line) (poison : Bool) (s : State) :
    Host.Outcome State Fault Refusal :=
  done (onWake (fun s => if hostUp s p.val then h2dArrives p.val g rsp data poison s else s) s)

/-- HDM_DECODER_COMMIT: a commit maps the stacks only, from stack offset `dpa`, 1 or 2 ways, 256 B to 16 KiB (R248). -/
def decoderCommit (p d : Nat) (commit : Bool) (base size dpa ways gran : Nat) (s : State) : State :=
  if commit then
    if dpa + size / ways ≤ stackBytes s then
      modHost p (fun h => { h with decoders := tset {} h.decoders d ⟨true, base, size, ways, gran, dpa⟩ }) s
    else s
  else modHost p (fun h => { h with decoders := tmod {} h.decoders d (fun x => { x with committed := false }) }) s

def execHdmDecoderCommit (p : HostId) (d : Fin 8) (commit : Bool) (base size dpa : Nat) (ways : Fin 2) (gran : Fin 7) (s : State) :
    Host.Outcome State Fault Refusal :=
  done (onWake (decoderCommit p.val d.val commit base size dpa (ways.val + 1) (256 * 2 ^ gran.val)) s)

end Sys2Proof.Machine
end

