-- ==== Sys2Proof/Machine/Start.lean ====
section
/-! DEFINITION. Resets, start-up, freeze (16, 17): the scopes of the resets (Table 17.4, R407, R408), the start-up sequencer and
its step records (R404 to R413), freezes and their release (R426, R429). -/

namespace Sys2Proof.Machine

/-! ### The step record (Table 16.2) -/

/-- TYPE of a step: 0 mandatory, 1 optional, 2 alternative (Table 16.1). -/
def stepType (k : Nat) : Nat :=
  match k with
  | 5 => 1 | 16 => 1
  | 2 => 2 | 4 => 2 | 7 => 2 | 8 => 2 | 9 => 2 | 10 => 2 | 11 => 2 | 12 => 2 | 13 => 2 | 14 => 2 | 17 => 2 | 18 => 2 | 19 => 2 | 20 => 2 | 22 => 2
  | _ => 0

/-- The highest level of a step. -/
def topLevel (k : Nat) : Nat :=
  if 8 ≤ k && k ≤ 13 then 3
  else match k with | 2 => 1 | 4 => 1 | 7 => 1 | 14 => 1 | 17 => 3 | 18 => 3 | 19 => 2 | 20 => 2 | 22 => 1 | _ => 0

/-- The highest level takes the unit out of use, so that nothing is attempted at it. -/
def topDisables (k : Nat) : Bool := k = 7 || (8 ≤ k && k ≤ 14) || (17 ≤ k && k ≤ 20)

/-- The step applies its levels to several units. -/
def manyUnits (k : Nat) : Bool := k = 7 || k = 14 || k = 19 || k = 20

/-- WARM_RST_N keeps the step (Table 16.1). -/
def keptStep (k : Nat) : Bool := k = 0 || k = 4 || k = 5 || k = 6

def entryStatus (e : BitVec 128) : Nat := fld e 0 3
def entryAlt (e : BitVec 128) : Nat := fld e 32 8

/-- An entry that ends now. -/
def stepEntry (s : State) (k status : Nat) (kept : Bool) (attempts alt : Nat) (cause : Nat) (unit : Nat) : BitVec 128 :=
  BitVec.ofNat 128 (pack [(3, status), (1, b2n kept), (2, stepType k), (18, 0), (8, min 255 attempts), (8, alt), (8, cause), (16, unit), (64, s.aoncnt)])

/-- Record a step's end: it runs no longer. -/
def recordStep (k : Nat) (e : BitVec 128) (s : State) : State :=
  { s with start.cur := tset 0 s.start.cur k e, start.running := s.start.running.filter fun x => x ≠ k }

/-- The previous entry as the sequencer reads it (R406). -/
def prevEntry (s : State) (k : Nat) : BitVec 128 := if nbit s.start.forget k then 0 else tget 0 s.start.prev k

/-- The level at which a step begins (R406). -/
def beginLevel (s : State) (k : Nat) : Nat :=
  let e := prevEntry s k
  if stepType k ≠ 2 then 0
  else if entryStatus e = 4 then min (entryAlt e) (topLevel k)
  else if entryStatus e = 2 then topLevel k
  else 0

/-- The previous start fenced or disabled the unit as an alternative, and RETRY_MASK does not forget it. -/
def wasDown (s : State) (k unit : Nat) : Bool := !(nbit s.start.forget k) && s.start.prevDown.contains (k * 65536 + unit)

/-- Note that this start takes a unit out of use. -/
def noteDown (k unit : Nat) (s : State) : State := { s with start.down := s.start.down ++ [k * 65536 + unit] }

/-- The record goes to flash, and to the host address of RECORD_COPY_PA (R412). -/
def publishRecord (s : State) : State :=
  let s := emit (.flash "record" (recordBytes s.start.cur)) { s with start.mirrored := s.start.cur }
  let pa := obj s 0x9000 8 0
  if pa = 0 then s else writeRecord pa (recordBytes s.start.cur) s

/-- The block enters SAFE (R405, R411). -/
def enterSafe (s : State) : State :=
  publishRecord (count 0x9000 0x0B { s with start.state := 2, start.running := [], start.forget := 0 })

/-! ### What the steps do -/

/-- A calibration of one cluster (R400, R401). -/
def calibrate (source : Nat) (s : State) (r : CalRead) : State :=
  let light := decide (r.load.toNat < 60)
  modCluster r.cluster (fun x => { x with
    source := source, load := r.load.toNat, provisional := light, guard := (if light then 25 else 0), vQuiet := r.vQuiet.toNat,
    vNominal := r.vNominal.toNat, vPeak := r.vPeak.toNat, taken := s.aoncnt, temp := (tget 0 s.flt.temps r.cluster.val).toNat, counted := 0, quiet := 0 }) s

/-- Stack `k` runs at a level of S08 to S13, or is disabled. The set of active stacks is fixed from one COLD_RST_N edge to the next (R156,
R407): at a warm start an active stack stays active and a disabled one stays disabled, whatever the step reports (DESIGN CHOICE,
log 173). -/
def bringUpStack (k lvl : Nat) (s : State) : State :=
  let on := (getStack s k).active
  let lvl := if s.start.kind < 2 || (on && lvl ≠ 3) then lvl else if on then 4 else 3
  if lvl = 4 then noteDown (8 + k) (0x5100 + k) (modStack k (fun x => { x with selfRefresh := false }) s) else
  let rate := match lvl with | 0 => 12800 | 1 => 9600 | _ => 6400
  let cause := match lvl with | 0 => 0 | 3 => 2 | _ => 1
  let s := modStack k (fun x => { x with active := lvl ≠ 3, selfRefresh := false, rate := (if lvl = 3 then x.rate else rate), pwrEn := lvl ≠ 3, pg := x.pg || lvl ≠ 3, cause := cause }) s
  if lvl = 3 then noteDown (8 + k) (0x5100 + k) s else s

/-- Fence an array as a start-up alternative (FENCE_CAUSE 4). -/
def startFence (k a : Nat) (s : State) : State := noteDown k (0x4000 + a) (fenceArray a 4 4 none s)

/-- The cluster of a failing unit of S07. -/
def clusterOf (unit : Nat) : Nat := unit % 4096 / 4

/-- Host port `p` ends its training step: x16, x8, x4 or down. -/
def hostTrains (p lvl : Nat) (s : State) : State :=
  if lvl = 3 then noteDown (17 + p) (0x1000 + p) (hostDown p s)
  else if (getHost s p).link = 1 then linkTrained p (16 / 2 ^ lvl) 64 s else s

/-- Peer link `l` ends its training step: all lanes, half of them, or down. -/
def peerTrains (k l lvl : Nat) (s : State) : State :=
  if lvl = 2 then noteDown k (0x2000 + l) (peerDown l s)
  else if (getPeer s l).state ≤ 1 then peerTrained l ((if l < 8 then 64 else 8) / 2 ^ lvl) s else s

/-- The units of the multi-unit steps S19 and S20. -/
def linksOf (k : Nat) : List Nat := if k = 19 then List.range 8 else rangeFrom 8 4

/-- S02 ends: the verified image's firmware, or the recovery loader (R415, R417). -/
def firmwareStep (lvl : Nat) (img : Option ImageReport) (s : State) : State :=
  if lvl = 0 then
    (match img with
     | some i => runImage i.version.toNat i.svn.toNat i.measure.toNat s
     | none => s)
  else
    let s := runImage 0 0 0 { s with start.state := 3, start.forget := 0 }
    [0, 1].foldl (fun st p => if (getHost st p).perst then modHost p (fun h => { h with link := 1 }) st else st) s

/-- S04 ends: after a power-up, retained storage is restored from the mirror; a mirror that fails its check leaves every
persistent object at its default (R377, R391, R412). -/
def restoreStep (lvl : Nat) (s : State) : State :=
  if lvl = 0 then
    if s.start.kind = 0 then
      { s with objs := s.mgmt.mirror.foldl (fun t kv => tset none t kv.1 kv.2) s.objs, mgmt.oldAddr := s.mgmt.mirrorAddr, start.prev := s.start.mirrored }
    else s
  else { s with objs := tdrop s.objs fun k _ => persistentKeys.contains k, mgmt.mirrorState := 1 }

/-! ### Beginning steps -/

/-- Some queue is HELD (R295). -/
def anyHeld (s : State) : Bool := s.queues.any fun kv => kv.2.jrn.state = 2

/-- What a step does as it begins: rails at S00, the address request at S05, the split at S06, host training at S17 and S18, the
credits of the core ports at S22. -/
def stepStarts (k : Nat) (s : State) : State :=
  match k with
  | 0 =>
    let s := (List.range 21).foldl (fun st r => if nbit st.pins.railEn r then st else emit (.pin "RAIL_EN" r true) st) s
    { s with pins.railEn := 0x7FFFFF }
  | 5 =>
    let n := (peekFree 24 s).toNat
    let f : Frame := { dest := 0, src := 0, typ := 2, disp := 0, master := 0, resp := false, tag := 0, index := 0, sub := 0, seg := 0,
                       status := 0, data := BitVec.ofNat 32 (s.mgmt.oldAddr % 256 + 256 * n), session := none, crcOk := true }
    sendUp f { (takeFree s) with mgmt.nonce := some n }
  | 6 => { s with mem.steps := min 8 (obj s 0x3000 3 4) }
  | 17 => if (getHost s 0).perst && !(hostUp s 0) then modHost 0 (fun h => { h with link := 1 }) s else s
  | 18 => if (getHost s 1).perst && !(hostUp s 1) then modHost 1 (fun h => { h with link := 1 }) s else s
  | 22 =>
    let s := s.ports.foldl (fun st kv => sendHeld kv.1 (modPort kv.1 (fun x => { x with respCredits := max 16 x.respCredits, eventCredits := max 16 x.eventCredits }) st)) s
    setAwake true { s with start.s22Since := s.aoncnt }
  | _ => s

/-- A step whose units the previous start took out of use is not tested again: its level applies at once. -/
def downAgain (s : State) (k : Nat) : Bool := !(manyUnits k) && topDisables k && beginLevel s k = topLevel k

/-- The top level of a single-unit step. -/
def disableUnit (k : Nat) (s : State) : State :=
  if 8 ≤ k && k ≤ 13 then bringUpStack (k - 8) 3 s else if k = 17 || k = 18 then hostTrains (k - 17) 3 s else s

/-- Begin one step: it is kept, skipped, taken as it was, or it runs. -/
def beginStep (s : State) (k : Nat) : State :=
  let e := prevEntry s k
  if 2 ≤ s.start.kind && keptStep k then
    let p := tget 0 s.start.prev k
    recordStep k (stepEntry s k (entryStatus p) true 0 (entryAlt p) 0 (fld p 48 16)) s
  else if stepType k = 1 && entryStatus e = 2 then
    let s := recordStep k (stepEntry s k 3 false 0 0 0 0) s
    if k = 16 then { s with power.fullStep := 1 } else s
  else if downAgain s k then recordStep k (stepEntry s k 4 false 0 (topLevel k) 0 0) (disableUnit k s)
  else
    let s := stepStarts k s
    if k = 22 && !(anyHeld s) then recordStep k (stepEntry s k 1 false 1 0 0 0) s
    else { s with start.running := s.start.running ++ [k] }

/-- The group of steps after the one that begins with step `k`: S08 to S13, S17 and S18, S19 and S20 run at the same time. -/
def nextGroup (k : Nat) : List Nat :=
  match k with
  | 7 => rangeFrom 8 6 | 8 => [14] | 16 => [17, 18] | 17 => [19, 20] | 19 => [21] | 23 => []
  | _ => [k + 1]

/-- Begin a group; CURRENT_STEP is its first step. -/
def beginGroup (g : List Nat) (s : State) : State := g.foldl beginStep { s with start.step := g.headD 23 }

/-- The block is READY (R404, R409, R412). -/
def ready (s : State) : State := publishRecord (refreshPoint { s with start.state := 1, start.forget := 0 })

/-- No stack is left after S08 to S13, or no array after S14 (R405). -/
def nothingLeft (s : State) : Bool :=
  (s.start.step = 8 && (activeStacks s).isEmpty) || (s.start.step = 14 && (List.range 192).all fun a => (getArr s a).fenced)

/-- Go on while the steps that run have ended. -/
def advance : Nat → State → State
  | 0, s => s
  | n + 1, s =>
    if s.start.state ≠ 0 || !s.start.running.isEmpty then s
    else if nothingLeft s then enterSafe s
    else match nextGroup s.start.step with
      | [] => ready s
      | g => advance n (beginGroup g s)

/-- A start begins (R404): it is counted, and waits at S00 while FREEZE_N is low (R429). -/
def startBegins (s : State) : State :=
  if s.start.due && s.pins.pwrOk && !s.start.inReset && s.pins.freezeN && s.pins.fallen.isEmpty && !(frozen s) then
    let s := count 0x9000 0x0A s
    advance 24 (beginGroup [0] { s with
      start.due := false, start.state := 0, start.cur := [], start.running := [], start.down := []
      start.forget := s.start.retryMask, start.retryMask := 0 })
  else s

/-! ### Ending steps -/

/-- How often a unit failed. -/
def failsOf (r : StepReport) (unit : Nat) : Nat := (r.fails.filter fun f => f.1.toNat = unit).length

/-- The failing units, each once. -/
def failedUnits (r : StepReport) : List Nat := (r.fails.map fun f => f.1.toNat).eraseDups

/-- CAUSE and UNIT of the last failed attempt. -/
def lastFail (r : StepReport) : Nat × Nat := match r.fails.getLast? with | some f => (f.2.code, f.1.toNat) | none => (0, 0)

/-- The clusters of S07 that fail: both attempts, or in the previous start. -/
def badClusters (s : State) (r : StepReport) : List Nat :=
  (List.range 48).filter fun c => ((failedUnits r).any fun u => clusterOf u = c && 2 ≤ failsOf r u) || wasDown s 7 (0x4000 + 4 * c)

/-- The arrays of S14 that fail. -/
def badArrays (s : State) (r : StepReport) : List Nat :=
  (List.range 192).filter fun a => 2 ≤ failsOf r (0x4000 + a) || wasDown s 14 (0x4000 + a)

/-- The level of a link of S19 or S20: the others are tested from the previous level, but not from "link down" (DESIGN CHOICE, log 27). -/
def linkLevel (s : State) (k : Nat) (r : StepReport) (l : Nat) : Nat :=
  if wasDown s k (0x2000 + l) then 2 else min 2 (min (beginLevel s k) 1 + failsOf r (0x2000 + l) / 2)

/-- The level in use of a step that ends, over all its units. -/
def levelReached (s : State) (k : Nat) (r : StepReport) : Nat :=
  match k with
  | 7 => b2n !(badClusters s r).isEmpty
  | 14 => b2n !(badArrays s r).isEmpty
  | 19 => ((linksOf 19).map (linkLevel s 19 r)).foldl max 0
  | 20 => ((linksOf 20).map (linkLevel s 20 r)).foldl max 0
  | _ => min (topLevel k) (beginLevel s k + r.fails.length / 2)

/-- ATTEMPTS of a step that ends: up to two at each level at which something is attempted, then the one that passed. -/
def attemptsMade (s : State) (k : Nat) (r : StepReport) (lvl : Nat) : Nat :=
  let n := if manyUnits k then ((failedUnits r).map (failsOf r)).foldl max 0 else r.fails.length
  let most := 2 * (topLevel k - beginLevel s k)
  if topDisables k && lvl = topLevel k then min n most else n + 1

/-- The effect of an alternative step at its level. -/
def alternativeEffect (k : Nat) (r : StepReport) (lvl : Nat) (s : State) : State :=
  match k with
  | 2 => firmwareStep lvl r.image s
  | 4 => restoreStep lvl s
  | 7 => (badClusters s r).foldl (fun st c => (rangeFrom (4 * c) 4).foldl (fun x a => startFence 7 a x) st) s
  | 14 => (badArrays s r).foldl (fun st a => startFence 14 a st) s
  | 17 => hostTrains 0 lvl s
  | 18 => hostTrains 1 lvl s
  | 19 => (linksOf 19).foldl (fun st l => peerTrains 19 l (linkLevel s 19 r l) st) s
  | 20 => (linksOf 20).foldl (fun st l => peerTrains 20 l (linkLevel s 20 r l) st) s
  | 22 => s
  | _ => bringUpStack (k - 8) lvl s

/-- The effect of a mandatory or optional step that passes. -/
def passEffect (k : Nat) (r : StepReport) (s : State) : State :=
  match k with
  | 3 => if s.fw.starting then startLoaded s else s
  | 6 => { s with mem.repaired := r.rows.toNat }
  | 15 => r.cal.foldl (calibrate 1) s
  | 16 => { (r.cal.foldl (calibrate 2) s) with power.fullStep := 0 }
  | 21 => { s with sec.ready := true }
  | _ => s

/-- A step of this start ends (R405). S22 ends when no queue is HELD (R410). -/
def stepEnds (k : Nat) (r : StepReport) (s : State) : State :=
  if !(s.start.running.contains k) || s.start.state ≠ 0 || (k = 22 && anyHeld s) then s
  else
    let (cause, unit) := lastFail r
    if stepType k = 2 then
      let lvl := levelReached s k r
      let e := stepEntry s k (if lvl = 0 then 1 else 4) false (attemptsMade s k r lvl) lvl cause unit
      advance 24 (recordStep k e (alternativeEffect k r lvl s))
    else if 2 ≤ r.fails.length then
      let s := recordStep k (stepEntry s k 2 false 2 0 cause unit) s
      if stepType k = 0 then enterSafe s else advance 24 (if k = 16 then { s with power.fullStep := 2 } else s)
    else advance 24 (passEffect k r (recordStep k (stepEntry s k 1 false (r.fails.length + 1) 0 cause unit) s))

/-- JOURNAL_WAIT runs out: S22 ends ALT_OK, the remaining queues stay HELD (R410). -/
def journalWaitEnds (s : State) : State :=
  if s.start.running.contains 22 && s.start.s22Since + obj s 0x9000 9 1500000000 ≤ s.aoncnt then
    advance 24 (recordStep 22 (if anyHeld s then stepEntry s 22 4 false 1 1 0 0 else stepEntry s 22 1 false 1 0 0 0) s)
  else s

/-- A requested rail has not come within 120 µs: S00 fails (R437). -/
def railLate (r : Nat) (s : State) : State :=
  if s.start.running.contains 0 && r ≤ 20 && !(nbit s.pins.railPg r) then
    enterSafe (recordStep 0 (stepEntry s 0 2 false 1 0 Status.timeout.code 0xC000) s)
  else s

/-- The flash write of a firmware image and its read-back end (R416); in RECOVERY the start goes on at S03 (R417). -/
def firmwareWritten (same : Bool) (s : State) : State :=
  if s.fw.state ≠ 3 then s
  else if !same then { s with fw.state := 6 }
  else if s.start.state = 3 then
    advance 24 (beginGroup [3] { s with fw.state := 4, fw.starting := true, start.state := 0 })
  else { s with fw.state := 4 }

/-! ### Resets (Table 17.4) -/

/-- The record of a start that has begun becomes the previous record; a step that runs is abandoned (R413). -/
def abandon (s : State) : State :=
  if s.start.running.isEmpty && s.start.cur.isEmpty then s
  else
    let s := s.start.running.foldl (fun st k => recordStep k (stepEntry st k 2 false 1 0 Status.aborted.code 0) st) s
    { s with start.prev := s.start.cur, start.prevDown := s.start.down, start.cur := [], start.down := [], start.running := [] }

/-- The start-up sequencer in reset. -/
def resetStart (kind : Nat) (s : State) : StartUnit :=
  let t := (abandon s).start
  { t with state := 0, step := 0, kind := kind, inReset := true, due := false, forget := 0 }

/-- A step counter that survives COLD_RST_N: STARTS and SAFE_ENTRIES, and their WRAPPED bits (Table 16.9). -/
def keptCounter (k : Nat) : Bool := k = okey 0x9000 0x0A || k = okey 0x9000 0x0B

/-- A reset leaves the droop inputs as they stand. -/
def droopPins (s : State) : Table Cluster :=
  tmapTo {} (fun x : Cluster => ({ stopped := x.stopped, half := x.half, warned := x.warned } : Cluster)) s.power.clusters

/-- COLD_RST_N: everything outside retained AON storage is reset. AONCNT and the grant count from PWR_OK; the pins and what the
carrier's flash holds lie outside. -/
def coldReset (kind : Nat) (s : State) : State :=
  { pending := s.pending, free := s.free, out := s.out, aoncnt := s.aoncnt
    objs := s.objs.filter fun kv => persistentKeys.contains kv.1
    ctrs := s.ctrs.filter fun kv => keptCounter kv.1
    wraps := s.wraps.filter fun kv => keptCounter kv.1
    mem := { keySerial := s.mem.keySerial }
    hosts := tmapTo {} (fun h : HostPort => ({ perst := h.perst } : HostPort)) s.hosts
    flt := { first := s.flt.first, firstValid := s.flt.firstValid, overflow := s.flt.overflow }
    pins := s.pins
    start := resetStart kind s
    sec := { svn := s.sec.svn, nextSession := s.sec.nextSession }
    mgmt := { oldAddr := s.mgmt.oldAddr, mirror := s.mgmt.mirror, mirrorAddr := s.mgmt.mirrorAddr, mirrorPending := s.mgmt.mirrorPending, mirrorState := s.mgmt.mirrorState }
    power := { grant := s.power.grant, tap := s.power.tap, clusters := droopPins s } }

/-- Core-port requests and courses of the cores end ABORTED; their answers wait for credits (R408). -/
def abortPorts (s : State) : State :=
  let s : State := { s with ports := s.ports.map fun kv => (kv.1, { kv.2 with respCredits := 0, eventCredits := 0 }) }
  let s : State := s.arrays.arr.foldl (fun st kv => kv.2.courses.foldl (fun a c => match c.src with
    | .core _ _ => endCourse kv.1 (ranUnit a kv.1 c) c .aborted (-512) a
    | _ => a) st) s
  let s : State := s.ports.foldl (fun st kv => (kv.2.ops.filter fun o => o.answer.isNone).foldl (fun a o =>
    match o.what with
    | .sync _ => finishOp kv.1 o.id .aborted false ((syncResponse 0 0 0 .aborted).setWidth 512) a
    | .course _ => finishOp kv.1 o.id .aborted false ((BitVec.ofNat 128 Status.aborted.code).setWidth 512) a
    | .mem => finishOp kv.1 o.id .aborted false 0 a) st) s
  s.ports.foldl (fun st kv => deliverOps kv.1 st) s

/-- Sequences keep their state; unconfirmed steps are taken back (R408). -/
def warmSeq (e : BitVec 512) : BitVec 512 :=
  if sqState e = 1 || sqState e = 2 then BitVec.ofNat 512 (putBits (putBits e.toNat 224 32 (sqDone e)) 80 16 0xFFFF) else e

/-- A context with a step program has STEP_STATUS ABORTED (R408). -/
def warmCtx (x : BitVec 512) : BitVec 512 :=
  if fld x 368 16 = 0 then x else BitVec.ofNat 512 (putBits x.toNat 44 8 Status.aborted.code)

/-- What the device cache keeps: the drain has written its host lines back and released them (R407). -/
def drainHostLines (s : State) : State :=
  ((s.coh.dev.map (·.1)).filter fun l => target (l * 256) = .host).foldl (fun st l => evictLine l st) s

/-- WARM_RST_N, after its drain (R407, R408, R297). -/
def warmReset (kind : Nat) (s : State) : State :=
  let s := abortPorts (abortRun (drainHostLines { s with sync.watches := [], sync.held := [], sync.parked := [] }))
  { s with
    acts := []
    stalled := []
    latch := []
    mem.stackRecs := (activeStacks s).foldl (fun t k => tmod {} t k fun x => { x with selfRefresh := true, updating := [] }) s.mem.stackRecs
    mem.inChange := false
    tu := { spaces := s.tu.spaces, fring := s.tu.fring, walkerFenced := s.tu.walkerFenced }
    ports := tmapTo {} (fun p : Port => ({ held := p.held, respCredits := 0, eventCredits := 0, nearFenced := p.nearFenced, nextId := p.nextId } : Port)) s.ports
    coh := { dev := s.coh.dev, homeState := tmapTo 0 (fun v : Nat => if v = 1 then 2 else v) s.coh.homeState, lost := s.coh.lost, lostProduced := s.coh.lostProduced }
    hosts := tmapTo {} (fun h : HostPort => ({ perst := h.perst, longest := h.longest } : HostPort)) s.hosts
    peers := []
    arrays := { arr := tmapTo {} (fun x : ArrayU => ({ fenced := x.fenced, cause := x.cause } : ArrayU)) s.arrays.arr, nextId := s.arrays.nextId }
    xfers := []
    queues := tmapTo {} warmQueue s.queues
    engines := tmapTo {} (fun e : Engine => ({ fenced := e.fenced, fenceCause := e.fenceCause } : Engine)) s.engines
    sched := { ctx := tmapTo ctxReset warmCtx s.sched.ctx, seqs := tmapTo 0 warmSeq s.sched.seqs
               acct := s.sched.acct, total := s.sched.total, tickNj := s.sched.tickNj, releasing := s.sched.releasing }
    flt.grace := []
    flt.sources := []
    ftest := { offset := s.ftest.offset, result := s.ftest.result }
    start := resetStart kind s
    freeze := {}
    sec.sessions := []
    sec.conf := s.sec.conf.map fun kv => (kv.1, kv.2.map fun x => { x with session := none })
    sec.ready := false
    sec.keyDone := 0
    sec.keyLast := 0
    fw := { offset := s.fw.offset }
    mgmt := { chainAddr := s.mgmt.chainAddr, oldAddr := s.mgmt.oldAddr, mirror := s.mgmt.mirror, mirrorAddr := s.mgmt.mirrorAddr
              mirrorPending := s.mgmt.mirrorPending, mirrorState := s.mgmt.mirrorState }
    power := { grant := s.power.grant, tap := s.power.tap, clusters := droopPins s }
    asleep := false }

/-- PWR_OK falls: everything is lost but what the carrier's flash holds (R435). -/
def powerLoss (s : State) : State :=
  { pending := s.pending, free := s.free, out := s.out
    mem := { keySerial := s.mem.keySerial }
    hosts := tmapTo {} (fun h : HostPort => ({ perst := h.perst } : HostPort)) s.hosts
    pins := { s.pins with pwrOk := false, thermtrip := false, fallen := [], railEn := 0 }
    start := { inReset := true, due := false, mirrored := s.start.mirrored }
    sec := { svn := s.sec.svn, nextSession := s.sec.nextSession }
    mgmt := { mirror := s.mgmt.mirror, mirrorAddr := s.mgmt.mirrorAddr } }

/-- No reset holds the block: the start is due (R404, R434). -/
def maybeDue (s : State) : State :=
  if s.pins.pwrOk && s.pins.coldN && s.pins.warmN && s.pins.fallen.isEmpty then { s with start.inReset := false, start.due := true } else s

/-- PWR_OK rises; a start begins at the later of this edge and a reset's release. -/
def powerRises (s : State) : State :=
  if s.pins.pwrOk then s
  else maybeDue { s with pins.pwrOk := true, pins.railEn := 0x600000, start.inReset := true, start.kind := 0 }

/-- COLD_RST_N falls. -/
def coldAsserts (s : State) : State :=
  let s := { s with pins.coldN := false }
  if s.pins.pwrOk then coldReset 1 s else s

/-- WARM_RST_N falls: the wider resets win (R435). -/
def warmAsserts (s : State) : State :=
  let s := { s with pins.warmN := false }
  if s.pins.pwrOk && s.pins.coldN && s.pins.fallen.isEmpty then warmReset 2 s else s

/-- COLD_RST_N (or WARM_RST_N) rises. -/
def resetRises (cold : Bool) (s : State) : State :=
  if (if cold then s.pins.coldN else s.pins.warmN) then s
  else
    let s := if cold then { s with pins.coldN := true } else { s with pins.warmN := true }
    if s.start.inReset then maybeDue s else s

/-- A rail that the block needs falls while the block runs: as COLD_RST_N held low (R437). -/
def railFalls (r : Nat) (s : State) : State :=
  let s := { s with pins.railPg := putBits s.pins.railPg r 1 0 }
  if s.pins.pwrOk && (r ≤ 20 || r = 23) && (nbit s.pins.railEn r || r = 23) && !(s.pins.fallen.contains r) then
    let s := coldReset 1 s
    { s with pins.fallen := s.pins.fallen ++ [r] }
  else s

/-- The rail returns. -/
def railRises (r : Nat) (s : State) : State :=
  let s := { s with pins.railPg := putBits s.pins.railPg r 1 1 }
  if s.pins.fallen.contains r then maybeDue { s with pins.fallen := s.pins.fallen.filter fun x => x ≠ r } else s

/-! ### Freeze pins (R426, R429) -/

/-- FREEZE_N falls. -/
def freezeFalls (s : State) : State :=
  let s := { s with pins.freezeN := false }
  if s.pins.pwrOk && !s.start.inReset && s.pins.fallen.isEmpty then freezeNow 1 s else s

/-- FREEZE_N rises: a held block goes on where it stopped; otherwise a warm reset with START_KIND 3. -/
def freezeRises (s : State) : State :=
  let s := { s with pins.freezeN := true }
  if s.freeze.state ≠ 1 then s
  else if s.freeze.hold = 2 then leaveHolds { s with freeze.state := 0 }
  else maybeDue (warmReset 3 s)

end Sys2Proof.Machine
end

