-- ==== Sys2Proof/Machine/LinkRows.lean ====
section
/-! DEFINITION. The commands of the host links, the core-port credits and the task-flushed path (08, 09, 11, 16, 17). -/

namespace Sys2Proof.Machine

/-- HP_PERST_N_FALL (R436). The pin acts whatever the clocks do. -/
def execHpPerstNFall (p : HostId) (s : State) : Host.Outcome State Fault Refusal := done (hostReset p.val s)
/-- HP_PERST_N_RISE (R436). -/
def execHpPerstNRise (p : HostId) (s : State) : Host.Outcome State Fault Refusal := done (perstRises p.val s)
/-- INTERFACE_CLOCK_STOP: of host port 0 or 1, or of peer link l - 2 (R433). -/
def execInterfaceClockStop (l : Fin 14) (s : State) : Host.Outcome State Fault Refusal := done (onLink (clockStops l.val) s)
/-- HOST_PORT_DOWN (R249). -/
def execHostPortDown (p : HostId) (s : State) : Host.Outcome State Fault Refusal := done (onLink (hostDown p.val) s)
/-- HOST_LINK_RETRAIN (R293). -/
def execHostLinkRetrain (p : HostId) (s : State) : Host.Outcome State Fault Refusal := done (onLink (retrainBegins p.val) s)
/-- RETRAIN_LIMIT (R293). -/
def execRetrainLimit (p : HostId) (s : State) : Host.Outcome State Fault Refusal := done (onLink (retrainLimit p.val) s)
/-- HOST_LINK_TRAINED: the lanes and the rate in GT/s that training found (R436, R440). -/
def execHostLinkTrained (p : HostId) (width rate : Byte) (s : State) : Host.Outcome State Fault Refusal :=
  done (onLink (linkTrained p.val width.toNat rate.toNat) s)
/-- L1_IDLE_EXPIRY (R439). -/
def execL1IdleExpiry (p : HostId) (s : State) : Host.Outcome State Fault Refusal := done (onLink (l1Expires p.val) s)

/-- CREDIT_RETURN on the response channel, or on the event channel (R448). -/
def execCreditReturn (p : PortId) (event : Bool) (s : State) : Host.Outcome State Fault Refusal :=
  done (onFab (fun s => owe (.pump p.val) (creditReturns p.val event s)) s)

/-- IDE_KM: the key that the host sets, as an identity (R422). -/
def execIdeKm (p : HostId) (key : Nat) (s : State) : Host.Outcome State Fault Refusal := done (onSpdm (.doe p) (ideKeys p.val key) s)

/-- A granule's data with the bytes over it that wait in a host write queue: the queue answers reads of them (R195). -/
def underQueue (s : State) (g : Nat) (d : Line) : Line :=
  let q := queueExt s
  ofBytes 512 ((List.range 64).map fun i => match q.find? fun e => e.1 = 64 * g + i with | some e => e.2 | none => lineByte d i)

/-- The completion of a CXL.io read or AtomicOp of entry `id` of core port `q`: the bytes at their places in the granule, or
poison (R207, R346). -/
def ioReturns (q id : Nat) (data : Line) (poison : Bool) (s : State) : State :=
  match findOp s q id with
  | none => s
  | some o =>
    if o.phase ≠ .io || !(hostUp s (hostPortOf s o.pa)) then s
    else
      let p := hostPortOf s o.pa
      let s := modHost p (fun h => { h with lastUse := s.aoncnt, link := if h.link = 4 then 2 else h.link }) s
      owe (.pump q) (if poison then
        finishOp q id .poisonConsumed false 0
          (raisePoisonConsumed (0x3000 + q) (some (opCtx o)) (if opCode o = opAtomic then 3 else 1) o.req.va.toNat 2
            (poisonCreated (0x1000 + p) (some (opCtx o)) (if opCode o = opAtomic then 3 else 1) (opGranule o) s))
      else finishOp q id .ok false (namedBytes o.req (if opCode o = opAtomic then data else underQueue s (o.pa / 64) data)) s)

/-- CXL_IO_COMPLETION (R207). -/
def execCxlIoCompletion (q : PortId) (id : Nat) (data : Line) (poison : Bool) (s : State) : Host.Outcome State Fault Refusal :=
  done (onFab (ioReturns q.val id data poison) s)

end Sys2Proof.Machine
end

