-- ==== Sys2Proof/Machine/PeerRows.lean ====
section
/-! DEFINITION. The commands of the peer links (07, 08, 13, 17). -/

namespace Sys2Proof.Machine

/-- NORMAL flit (R444). -/
def execPeerNormal (l : PeerId) (f : PeerFlit) (s : State) : Host.Outcome State Fault Refusal := done (onLink (fun s => flitNormal l.val f (wakeUp s)) s)
/-- NAK flit (R444). -/
def execPeerNak (l : PeerId) (f : PeerFlit) (s : State) : Host.Outcome State Fault Refusal := done (onLink (flitNak l.val f) s)
/-- HOLD flit (R446). -/
def execPeerHold (l : PeerId) (f : PeerFlit) (s : State) : Host.Outcome State Fault Refusal := done (onLink (flitHold l.val f) s)
/-- HOLD_EXIT flit (R446). -/
def execPeerHoldExit (l : PeerId) (f : PeerFlit) (s : State) : Host.Outcome State Fault Refusal := done (onLink (flitHoldExit l.val f) s)
/-- IDLE flit (R444). -/
def execPeerIdle (l : PeerId) (f : PeerFlit) (s : State) : Host.Outcome State Fault Refusal := done (onLink (flitIdle l.val f) s)
/-- ACK_TIMEOUT (R444). -/
def execAckTimeout (l : PeerId) (s : State) : Host.Outcome State Fault Refusal := done (onLink (ackTimedOut l.val) s)

/-- PEER_READ (R445). -/
def execPeerRead (l : PeerId) (s : State) : Host.Outcome State Fault Refusal := done (onAdmit (servePeerRead l.val) s)
/-- PEER_WRITE (R445). -/
def execPeerWrite (l : PeerId) (s : State) : Host.Outcome State Fault Refusal := done (onAdmit (servePeerWrite l.val) s)
/-- PEER_ATOMIC (R445). -/
def execPeerAtomic (l : PeerId) (s : State) : Host.Outcome State Fault Refusal := done (onAdmit (servePeerAtomic l.val) s)
/-- PROBE (R188). -/
def execPeerProbe (l : PeerId) (s : State) : Host.Outcome State Fault Refusal := done (onAdmit (servePeerProbe l.val) s)
/-- PEER_SYNC (R303). -/
def execPeerSync (l : PeerId) (s : State) : Host.Outcome State Fault Refusal := done (onAdmit (servePeerSync l.val) s)
/-- PEER_SPDM: session set-up bytes, what the responder answers, and the session that ends the set-up (R423, R445). -/
def execPeerSpdm (l : PeerId) (answer : List Byte) (session : Option Nat) (s : State) : Host.Outcome State Fault Refusal :=
  done (onLink (takePeerSpdm l.val 0x06 answer session) s)

/-- READ_RSP (R445). -/
def execReadRsp (l : PeerId) (s : State) : Host.Outcome State Fault Refusal := done (onFab (takeReadRsp l.val) s)
/-- WRITE_ACK (R445). -/
def execWriteAck (l : PeerId) (s : State) : Host.Outcome State Fault Refusal := done (onFab (takeWriteAck l.val) s)
/-- ATOMIC_RSP (R445). -/
def execAtomicRsp (l : PeerId) (s : State) : Host.Outcome State Fault Refusal := done (onFab (takeAtomicRsp l.val) s)
/-- PROBE_RSP (R188). -/
def execProbeRsp (l : PeerId) (s : State) : Host.Outcome State Fault Refusal := done (onFab (takeProbeRsp l.val) s)
/-- SYNC_RSP (R445). -/
def execSyncRsp (l : PeerId) (s : State) : Host.Outcome State Fault Refusal := done (onFab (takeSyncRsp l.val) s)
/-- SPDM_RSP: this block is the requester, and sends on (R423, R445). -/
def execSpdmRsp (l : PeerId) (answer : List Byte) (session : Option Nat) (s : State) : Host.Outcome State Fault Refusal :=
  done (onLink (takePeerSpdm l.val 0x86 answer session) s)

/-- The oldest received message of an operation answers a request in a remote-wait record. -/
def remoteAnswer (s : State) (l op kind : Nat) : Bool :=
  match inboxMsg s l op with
  | some x => (match answered s l kind (pmTag x.1) with | some r => r.remote | none => false)
  | none => false

/-- A response lands in its remote-wait record (R334). -/
def remoteLands (l : Nat) (s : State) : State :=
  if remoteAnswer s l 0x81 0 then takeReadRsp l s
  else if remoteAnswer s l 0x82 1 then takeWriteAck l s
  else s

/-- REMOTE_RESPONSE_LAND (R334). -/
def execRemoteResponseLand (l : PeerId) (s : State) : Host.Outcome State Fault Refusal := done (onFab (remoteLands l.val) s)

/-- PEER_TIMEOUT of the request with this tag (R188, R215). -/
def execPeerTimeout (l : PeerId) (slot : BitVec 16) (s : State) : Host.Outcome State Fault Refusal :=
  done (onFab (requestTimedOut l.val slot.toNat) s)

/-- PEER_LINK_DOWN (R215). -/
def execPeerLinkDown (l : PeerId) (s : State) : Host.Outcome State Fault Refusal := done (onLink (peerDown l.val) s)

/-- PEER_LINK_TRAINED (R446). -/
def execPeerLinkTrained (l : PeerId) (lanes : Fin 65) (s : State) : Host.Outcome State Fault Refusal :=
  done (onLink (peerTrained l.val lanes.val) s)

end Sys2Proof.Machine
end

