-- ==== Sys2Proof/Machine/PortRows.lean ====
section
/-! DEFINITION. The commands of a core port's request channel (08, 17). -/

namespace Sys2Proof.Machine

/-- LOAD: a request arrives; the operation is the one its attribute word names (Table 8.2). -/
def execPortLoad (r : CoreReq) (e : Ecc) (s : State) : Host.Outcome State Fault Refusal := done (onFab (portRequest r e) s)
def execPortStore (r : CoreReq) (e : Ecc) (s : State) : Host.Outcome State Fault Refusal := done (onFab (portRequest r e) s)
def execPortRload (r : CoreReq) (e : Ecc) (s : State) : Host.Outcome State Fault Refusal := done (onFab (portRequest r e) s)
def execPortCstore (r : CoreReq) (e : Ecc) (s : State) : Host.Outcome State Fault Refusal := done (onFab (portRequest r e) s)
def execPortAtomic (r : CoreReq) (e : Ecc) (s : State) : Host.Outcome State Fault Refusal := done (onFab (portRequest r e) s)
/-- BARRIER names no address, so no storage is read. -/
def execPortBarrier (r : CoreReq) (s : State) : Host.Outcome State Fault Refusal := done (onFab (portRequest r .clean) s)

/-- WRITE_PERFORMED: entry `id` of port `p` reaches its point of performance (R195). -/
def execWritePerformed (p : PortId) (id : Nat) (s : State) : Host.Outcome State Fault Refusal :=
  done (onFab (performWrite p.val id) s)

/-- HOLD_WINDOW_EXPIRY: 256 FAB cycles after a reserved load (R211). -/
def execHoldWindowExpiry (p : PortId) (s : State) : Host.Outcome State Fault Refusal := done (onFab (holdExpires p.val) s)

end Sys2Proof.Machine
end

