-- ==== Sys2Proof/Machine/PowerRows.lean ====
section
/-! DEFINITION. The commands of power, clocks and sleep (01, 03, 04, 06, 13, 15, 17): limits, droop inputs, sensors, gating,
retention, power points, calibration and link margins. -/

namespace Sys2Proof.Machine

/-- GRANT_STB: the grant that holds until the next strobe (R453). -/
def execGrantStb (grant : BitVec 12) (s : State) : Host.Outcome State Fault Refusal :=
  done (onAon (fun s => { s with power.grant := grant.toNat }) s)

/-- GOVERNOR_TICK: `p` is the estimate in W that the energy model and the rail telemetry give, `heavy` the clusters that drew 60 % of
RATED_MA or more in the tick (R398, R401). -/
def execGovernorTick (p : BitVec 12) (heavy : List ClusterId) (s : State) : Host.Outcome State Fault Refusal :=
  done (onAwake (governorTick p.toNat (heavy.map (·.val)).eraseDups) s)

/-- DROOP_STOP (R116, R454). The pin acts whatever the clocks do. -/
def execDroopStop (c : ClusterId) (s : State) : Host.Outcome State Fault Refusal := done (droopStop c.val s)
/-- DROOP_STOP_PERSISTS (R116). -/
def execDroopStopPersists (c : ClusterId) (s : State) : Host.Outcome State Fault Refusal := done (onAwake (droopPersists c.val) s)
/-- DROOP_CLEAR: the warning input, or the stop input, rises (R116, R454). -/
def execDroopClear (c : ClusterId) (warn : Bool) (s : State) : Host.Outcome State Fault Refusal := done (droopClears c.val warn s)
/-- DROOP_WARN (R454). -/
def execDroopWarn (c : ClusterId) (s : State) : Host.Outcome State Fault Refusal := done (droopWarns c.val s)

/-- THERMTRIP: a sensor that reads 125 °C or more (R455). -/
def execThermtrip (sensor : Fin 64) (temp : BitVec 12) (s : State) : Host.Outcome State Fault Refusal :=
  done (onAon (fun s => if 1000 ≤ temp.toInt then sampleTemp s (sensor.val, temp) else s) s)
/-- SENSOR_SAMPLE: what the sensors and the voltage monitors read, lowest first (R351). -/
def execSensorSample (temps volts : List (BitVec 12)) (s : State) : Host.Outcome State Fault Refusal :=
  done (onAwake (sampleSensors temps volts) s)

/-- CPN_WAKE: the level of CPn_WAKE; a rise is a wake event (R450). -/
def execCpnWake (p : PortId) (high : Bool) (s : State) : Host.Outcome State Fault Refusal :=
  done (onAon (fun s => let s := modPort p.val (fun x => { x with wake := high }) s; if high then onWake id s else s) s)
/-- WAKE_EVENT (R21). -/
def execWakeEvent (s : State) : Host.Outcome State Fault Refusal := done (onWake id s)
/-- SLEEP_DELAY_EXPIRY (R21). -/
def execSleepDelayExpiry (s : State) : Host.Outcome State Fault Refusal := done (onFab fallAsleep s)
/-- CLUSTER_IDLE_EXPIRY (R20). -/
def execClusterIdleExpiry (c : ClusterId) (s : State) : Host.Outcome State Fault Refusal := done (onAwake (gateCluster c.val) s)
/-- LOFT_IDLE_EXPIRY: the slice enters retention and keeps its data (R163). -/
def execLoftIdleExpiry (slice : Fin 192) (s : State) : Host.Outcome State Fault Refusal :=
  done (onAwake (retainSlice slice.val) s)
/-- SR_DELAY_EXPIRY: an active stack enters self-refresh (R163). -/
def execSrDelayExpiry (k : StackId) (s : State) : Host.Outcome State Fault Refusal :=
  done (onAwake (refreshStack k.val) s)

/-- POWER_POINT_SWITCH (R24). -/
def execPowerPointSwitch (c : ClusterId) (s : State) : Host.Outcome State Fault Refusal := done (onAwake (switchPoint c.val) s)
/-- RAMP_DOWN (R90). -/
def execRampDown (a : ArrayId) (s : State) : Host.Outcome State Fault Refusal := done (onAwake (rampDown a.val) s)
/-- ADAPT_TICKS_REACHED: the new record and its LOAD_PCT (R401). -/
def execAdaptTicksReached (c : ClusterId) (load : Byte) (s : State) : Host.Outcome State Fault Refusal :=
  done (onAwake (adaptDone c.val load.toNat) s)
/-- GUARD_LOWER (R401). -/
def execGuardLower (c : ClusterId) (s : State) : Host.Outcome State Fault Refusal := done (onAwake (guardLowers c.val) s)

/-- LINK_MARGIN_CHECK: the PHY's margin of link `l` (R402). -/
def execLinkMarginCheck (l : Fin 14) (margin : Byte) (s : State) : Host.Outcome State Fault Refusal :=
  done (onLinkAwake (marginChecked l.val margin.toNat) s)
/-- LINK_REEQUALISE (R402). -/
def execLinkReequalise (l : Fin 14) (s : State) : Host.Outcome State Fault Refusal := done (onLinkAwake (reequalise l.val) s)

/-- STACK_PG_FALL (R451). -/
def execStackPgFall (k : StackId) (s : State) : Host.Outcome State Fault Refusal := done (onAon (stackPgFalls k.val) s)
/-- PHY_INITIATED_UPDATE: the update of a channel begins, or ends. The held traffic is only delayed (R451). -/
def execPhyInitiatedUpdate (k : StackId) (c : Fin 32) (begins : Bool) (s : State) : Host.Outcome State Fault Refusal :=
  done (onAwake (fun s => modStack k.val (fun x =>
    { x with updating := (x.updating.filter fun y => y ≠ c.val) ++ (if begins then [c.val] else []) }) s) s)

/-- TAP_RESET: the level of TRST_N; low resets the TAP (R460). -/
def execTapReset (low : Bool) (s : State) : Host.Outcome State Fault Refusal :=
  done (let s := { s with pins.trstN := !low }; if low then { s with power.tap := .idcode } else s)

end Sys2Proof.Machine
end

