-- ==== Sys2Proof/Machine/QueueRows.lean ====
section
/-! DEFINITION. The commands of the queues and copy engines (10) and of the journal (11). -/

namespace Sys2Proof.Machine

/-- The registers of a queue. -/
def doorbellOff (q : Nat) : Nat := 0x1000 * q
def qcfgOff (q : Nat) : Nat := 0x04000000 + 0x40 * q
def journalOff (q : Nat) : Nat := 0x06000000 + 0x20 * q

/-- REGISTER_WRITE: any register, by its offset and size; `ext` carries the host bytes that a command register's effect reads (R251). -/
def execRegisterWrite (w : Requester) (off : Fin 0x8000000) (len : Fin 9) (data : Word) (ext : Ext) (s : State) : Host.Outcome State Fault Refusal :=
  done (onReg (regAccess w off.val len.val data ext) s)

/-- DOORBELL (R258, R259). -/
def execDoorbell (w : Requester) (q : QueueId) (data : Word) (s : State) : Host.Outcome State Fault Refusal :=
  done (onReg (regCommand w (doorbellOff q.val) data []) s)

/-- CQ_CONS (R274). -/
def execCqCons (w : Requester) (q : QueueId) (data : Word) (s : State) : Host.Outcome State Fault Refusal :=
  done (onReg (regCommand w (doorbellOff q.val + 8) data []) s)

/-- QUEUE_ENABLE: word 0 of QCFG with ENABLE = 1 (R253, R295). -/
def execQueueEnable (w : Requester) (q : QueueId) (data : Word) (ext : Ext) (s : State) : Host.Outcome State Fault Refusal :=
  done (onReg (regCommand w (qcfgOff q.val) (data ||| 1) ext) s)

/-- QUEUE_DISABLE: word 0 of QCFG with ENABLE = 0 (R254). -/
def execQueueDisable (w : Requester) (q : QueueId) (data : Word) (s : State) : Host.Outcome State Fault Refusal :=
  done (onReg (regCommand w (qcfgOff q.val) (data &&& ~~~1) []) s)

/-- QUEUE_RESUME: QCTL (R254). -/
def execQueueResume (w : Requester) (q : QueueId) (data : Word) (s : State) : Host.Outcome State Fault Refusal :=
  done (onReg (regCommand w (qcfgOff q.val + 0x30) data []) s)

/-- JSTAGE (R283). -/
def execJstage (w : Requester) (q : QueueId) (data : Word) (s : State) : Host.Outcome State Fault Refusal :=
  done (onReg (regCommand w (journalOff q.val) data []) s)

/-- DISCARD: JCTL (R296). -/
def execJournalDiscard (w : Requester) (q : QueueId) (data : Word) (s : State) : Host.Outcome State Fault Refusal :=
  done (onReg (regCommand w (journalOff q.val + 8) data []) s)

/-- NOP completes with no effect (R257). -/
def execQueueNop (q : QueueId) (s : State) : Host.Outcome State Fault Refusal :=
  done (onFab (startNext q.val 1 none (fun q c s => finCmd q c.idx .ok s)) s)

/-- COURSE of a slot (R257). -/
def execCourseSlot (q : QueueId) (s : State) : Host.Outcome State Fault Refusal := done (onFab (startNext q.val 2 none startCourseSlot) s)

/-- COPY (R268 to R270). -/
def execQueueCopy (q : QueueId) (s : State) : Host.Outcome State Fault Refusal := done (onFab (startNext q.val 3 none startCopy) s)

/-- FILL (R268). -/
def execQueueFill (q : QueueId) (s : State) : Host.Outcome State Fault Refusal := done (onFab (startNext q.val 4 none startCopy) s)

/-- INLINE_WRITE (R257). -/
def execQueueInlineWrite (q : QueueId) (s : State) : Host.Outcome State Fault Refusal := done (onFab (startNext q.val 5 none startCopy) s)

/-- FLASHING (R264). -/
def execQueueFlashing (q : QueueId) (s : State) : Host.Outcome State Fault Refusal := done (onFab (startNext q.val 6 none startFlashing) s)

/-- SIGNAL of a queue (R257). -/
def execQueueSignal (q : QueueId) (s : State) : Host.Outcome State Fault Refusal := done (onFab (startNext q.val 7 none startSignal) s)

/-- WAIT of a queue (R257). -/
def execQueueWait (q : QueueId) (s : State) : Host.Outcome State Fault Refusal := done (onFab (startNext q.val 8 none startWait) s)

/-- DIGEST OPEN (R364). -/
def execDigestOpen (q : QueueId) (s : State) : Host.Outcome State Fault Refusal := done (onFab (startNext q.val 9 (some 1) digestOpen) s)

/-- A DIGEST command starts, or goes on where it waits for its bytes. -/
def digestNext (q op : Nat) (f : Nat → Cmd → State → State) (s : State) : State :=
  match digestWaits s q op with
  | some c => f q c s
  | none => startNext q 9 (some op) f s

/-- DIGEST REGION (R366); `ext` carries the region's host bytes. -/
def execDigestRegion (q : QueueId) (ext : Ext) (s : State) : Host.Outcome State Fault Refusal :=
  done (onFab (digestNext q.val 2 (digestRegion ext)) s)

/-- DIGEST READ (R365). -/
def execDigestRead (q : QueueId) (s : State) : Host.Outcome State Fault Refusal := done (onFab (digestNext q.val 3 digestRead) s)

/-- DIGEST CLOSE (R364). -/
def execDigestClose (q : QueueId) (s : State) : Host.Outcome State Fault Refusal := done (onFab (startNext q.val 9 (some 4) digestClose) s)

/-- SLOT_READ_RETURN: the read of slot CONS returns its bytes, or fails (R261, R262). -/
def execSlotReadReturn (q : QueueId) (ext : Ext) (failed : Option Status) (s : State) : Host.Outcome State Fault Refusal :=
  done (onFab (slotReturned q.val ext failed) s)

/-- SLOT_REREAD: the next read of a slot that was not visible is due (R261). -/
def execSlotReread (q : QueueId) (s : State) : Host.Outcome State Fault Refusal := done (onFab (slotReread q.val) s)

/-- BURST_COMPLETE (R270); `ext` carries the burst's host source bytes. -/
def execBurstComplete (e : EngineId) (ext : Ext) (s : State) : Host.Outcome State Fault Refusal := done (onFab (burstEnds e.val ext) s)

/-- ENGINE_FAULT (R272): exhausted re-sends, or any status that the fault carries. -/
def execEngineFault (e : EngineId) (st : Status) (s : State) : Host.Outcome State Fault Refusal :=
  done (onFab (fun s => if st = .ok then s else engineFault e.val st s) s)

/-- COMPLETION_RECORD (R273, R275). -/
def execCompletionRecord (q : QueueId) (idx : Nat) (s : State) : Host.Outcome State Fault Refusal :=
  done (onFab (completionRecord q.val idx) s)

/-- The oldest read-back of a port returns (R265): every write before it is confirmed, and what waited on it looks again. -/
def readbackReturns (p : Nat) (s : State) : State :=
  let h := getHost s p
  if !(hostCarries s p) then s
  else match h.readbacks with
    | [] => s
    | n :: rest =>
      let s := count 0x6000 0x0C (modHost p (fun x => { x with
        readbacks := rest, confirmed := max x.confirmed n, wqueue := x.wqueue.filter fun w => n < w.seq, lastUse := s.aoncnt }) s)
      s.arrays.arr.foldl (fun st kv => owe (.arrayDone kv.1) st) (pumpAll (confirmRecords s))

/-- READBACK_COMPLETE (R265). -/
def execReadbackComplete (p : HostId) (s : State) : Host.Outcome State Fault Refusal := done (onWake (readbackReturns p.val) s)

/-- ACCEPT: the slot at CONS is copied and accepted (R287, log 20). -/
def execJournalAccept (q : QueueId) (s : State) : Host.Outcome State Fault Refusal := done (onFab (acceptHead q.val) s)

/-- INTENT (R289). -/
def execJournalIntent (q : QueueId) (idx : Nat) (s : State) : Host.Outcome State Fault Refusal := done (onFab (intentUnit q.val idx) s)

/-- COMMIT (R289). -/
def execJournalCommit (q : QueueId) (idx : Nat) (s : State) : Host.Outcome State Fault Refusal := done (onFab (commitUnit q.val idx) s)

/-- DONE (R290). -/
def execQueueDone (q : QueueId) (idx : Nat) (s : State) : Host.Outcome State Fault Refusal := done (onFab (doneCmd q.val idx) s)

/-- RECOVER_LIMIT_EXPIRY (R296). -/
def execRecoverLimitExpiry (q : QueueId) (s : State) : Host.Outcome State Fault Refusal := done (onFab (recoveryExpires q.val) s)

end Sys2Proof.Machine
end

