-- ==== Sys2Proof/Machine/SchedRows.lean ====
section
/-! DEFINITION. The commands of contexts, sequences, step lists, slices and accounting (13). -/

namespace Sys2Proof.Machine

/-- CTX_WRITE: word `k` of CTX[c] (R319). -/
def execCtxWrite (w : Requester) (c : CtxId) (k : Fin 8) (data : Word) (s : State) : Host.Outcome State Fault Refusal :=
  done (onReg (regCommand w (0x04120000 + 0x40 * c.val + 8 * k.val) data []) s)

/-- The CTX_CMD word of a command. -/
def ctxWord (cmd : Nat) (c : CtxId) : Word := BitVec.ofNat 64 (cmd + c.val * 2 ^ 36)

def execCtxCreate (w : Requester) (c : CtxId) (s : State) : Host.Outcome State Fault Refusal := done (onReg (regCommand w 0x041A0000 (ctxWord 1 c) []) s)
def execCtxSuspend (w : Requester) (c : CtxId) (s : State) : Host.Outcome State Fault Refusal := done (onReg (regCommand w 0x041A0000 (ctxWord 2 c) []) s)
def execCtxResume (w : Requester) (c : CtxId) (s : State) : Host.Outcome State Fault Refusal := done (onReg (regCommand w 0x041A0000 (ctxWord 3 c) []) s)
def execCtxEnd (w : Requester) (c : CtxId) (s : State) : Host.Outcome State Fault Refusal := done (onReg (regCommand w 0x041A0000 (ctxWord 4 c) []) s)
def execCtxKill (w : Requester) (c : CtxId) (s : State) : Host.Outcome State Fault Refusal := done (onReg (regCommand w 0x041A0000 (ctxWord 5 c) []) s)
def execCtxRestartSteps (w : Requester) (c : CtxId) (s : State) : Host.Outcome State Fault Refusal := done (onReg (regCommand w 0x041A0000 (ctxWord 6 c) []) s)

/-- CONTEXT_ENDING_DRAINED (R320). -/
def execContextEndingDrained (c : CtxId) (s : State) : Host.Outcome State Fault Refusal := done (onFab (endingDrained c.val) s)

/-- CONTEXT_RELEASE (R320). -/
def execContextRelease (c : CtxId) (s : State) : Host.Outcome State Fault Refusal := done (onFab (releaseContext c.val) s)

/-- A SEQ_CMD with its OP (Table 13.6). -/
def seqWord (raw : BitVec 128) (op : Nat) : BitVec 128 := BitVec.ofNat 128 (putBits raw.toNat 0 4 op)

def execSeqCreate (w : Requester) (raw : BitVec 128) (ext : Ext) (s : State) : Host.Outcome State Fault Refusal := done (onReg (regPair w 0x041A0010 (seqWord raw 1) ext) s)
def execSeqRead (w : Requester) (raw : BitVec 128) (ext : Ext) (s : State) : Host.Outcome State Fault Refusal := done (onReg (regPair w 0x041A0010 (seqWord raw 2) ext) s)
def execSeqPark (w : Requester) (raw : BitVec 128) (ext : Ext) (s : State) : Host.Outcome State Fault Refusal := done (onReg (regPair w 0x041A0010 (seqWord raw 3) ext) s)
def execSeqUnpark (w : Requester) (raw : BitVec 128) (ext : Ext) (s : State) : Host.Outcome State Fault Refusal := done (onReg (regPair w 0x041A0010 (seqWord raw 4) ext) s)
def execSeqEnd (w : Requester) (raw : BitVec 128) (ext : Ext) (s : State) : Host.Outcome State Fault Refusal := done (onReg (regPair w 0x041A0010 (seqWord raw 5) ext) s)
def execSeqFree (w : Requester) (raw : BitVec 128) (ext : Ext) (s : State) : Host.Outcome State Fault Refusal := done (onReg (regPair w 0x041A0010 (seqWord raw 6) ext) s)

/-- SEQ_TOKEN (R324, R325). -/
def execSeqToken (w : Requester) (data : Word) (s : State) : Host.Outcome State Fault Refusal := done (onReg (regCommand w 0x041A0028 data []) s)

/-- SEQUENCE_DONE (R322). -/
def execSequenceDone (q : SeqId) (s : State) : Host.Outcome State Fault Refusal := done (onFab (seqFinish q.val) s)

/-- ACCT_SNAP (R337). -/
def execAcctSnap (w : Requester) (raw : BitVec 128) (s : State) : Host.Outcome State Fault Refusal := done (onReg (regPair w 0x041A0030 raw []) s)

/-- LIST_SCAN (R329). -/
def execListScan (s : State) : Host.Outcome State Fault Refusal := done (onFab listScan s)

/-- STEP_ISSUE (R328). -/
def execStepIssue (c : CtxId) (s : State) : Host.Outcome State Fault Refusal := done (onFab (stepIssue c.val) s)

/-- The records whose migration copy waits for an engine (R184). -/
def waitingMigrations (s : State) : List Nat :=
  (s.tu.recs.filterMap fun kv => match kv.2 with
    | some r => if r.moving.isSome && !r.copied then some kv.1 else none
    | none => none).filter fun id => !(s.engines.any fun kv => kv.2.migrate = some id)

/-- An engine chooses: a migration copy that waits for a host-to-device engine first, else the next context (R330). -/
def chooseEngine (e : Nat) (s : State) : State :=
  match waitingMigrations s with
  | id :: _ => if 192 ≤ e && e < 208 && engineIdle s (e - 192) then modEngine (e - 192) (fun x => { x with migrate := some id }) s else engineChooses e s
  | [] => engineChooses e s

/-- ENGINE_CHOOSE: arrays 0 to 191, copy engines 192 to 231. -/
def execEngineChoose (e : Fin 232) (s : State) : Host.Outcome State Fault Refusal := done (onFab (chooseEngine e.val) s)

/-- SLICE_END (R331). -/
def execSliceEnd (e : Fin 232) (s : State) : Host.Outcome State Fault Refusal := done (onFab (sliceEnds e.val) s)

/-- REMOTE_WAIT (R334). -/
def execRemoteWait (e : Fin 232) (s : State) : Host.Outcome State Fault Refusal := done (onFab (remoteWait e.val) s)

end Sys2Proof.Machine
end

