-- ==== Sys2Proof/Machine/SecRows.lean ====
section
/-! DEFINITION. The SPDM requests (R419 to R421) and the tenant requests (R425). `ok` says whether the request's own check verifies:
the session's tag, or the signature of a FINISH. -/

namespace Sys2Proof.Machine

/-- GET_VERSION: the responder speaks SPDM 1.3. -/
def execGetVersion (v : Via) (s : State) : Host.Outcome State Fault Refusal := done (onSpdm v (spdmAnswer v "VERSION" [0x13]) s)
/-- GET_CAPABILITIES. -/
def execGetCapabilities (v : Via) (s : State) : Host.Outcome State Fault Refusal := done (onSpdm v (spdmAnswer v "CAPABILITIES" []) s)
/-- NEGOTIATE_ALGORITHMS. -/
def execNegotiateAlgorithms (v : Via) (s : State) : Host.Outcome State Fault Refusal := done (onSpdm v (spdmAnswer v "ALGORITHMS" []) s)
/-- GET_DIGESTS. -/
def execGetDigests (v : Via) (s : State) : Host.Outcome State Fault Refusal := done (onSpdm v (getDigests v) s)
/-- GET_CERTIFICATE: `len` bytes of the chain of slot 0 from `off`. -/
def execGetCertificate (v : Via) (off len : BitVec 16) (s : State) : Host.Outcome State Fault Refusal :=
  done (onSpdm v (getCertificate v off.toNat len.toNat) s)
/-- CHALLENGE: `msg` is what the signature covers of the exchange. -/
def execChallenge (v : Via) (msg : List Byte) (s : State) : Host.Outcome State Fault Refusal := done (onSpdm v (challenge v msg) s)
/-- GET_MEASUREMENTS (R420). -/
def execGetMeasurements (v : Via) (op : Byte) (sign : Bool) (msg : List Byte) (s : State) : Host.Outcome State Fault Refusal :=
  done (onSpdm v (getMeasurements v op.toNat sign msg) s)
/-- KEY_EXCHANGE. -/
def execKeyExchange (v : Via) (msg : List Byte) (s : State) : Host.Outcome State Fault Refusal := done (onSpdm v (keyExchange v msg) s)
/-- FINISH: `digest` names the requester's leaf certificate, `master` says that its chain is one that R421 accepts. -/
def execFinish (v : Via) (id : Nat) (ok : Bool) (digest : BitVec 384) (master : Bool) (s : State) : Host.Outcome State Fault Refusal :=
  done (onSpdm v (finishSession v id ok digest.toNat master) s)
/-- HEARTBEAT. -/
def execHeartbeat (v : Via) (id : Nat) (ok : Bool) (s : State) : Host.Outcome State Fault Refusal :=
  done (onSpdm v (inSession v id ok (spdmAnswer v "HEARTBEAT_ACK" [])) s)
/-- KEY_UPDATE (R419, R423). -/
def execKeyUpdate (v : Via) (id : Nat) (ok : Bool) (s : State) : Host.Outcome State Fault Refusal :=
  done (onSpdm v (inSession v id ok (keyUpdate v id)) s)
/-- END_SESSION (R393, R419). -/
def execEndSession (v : Via) (id : Nat) (ok : Bool) (s : State) : Host.Outcome State Fault Refusal :=
  done (onSpdm v (inSession v id ok (fun s => spdmAnswer v "END_SESSION_ACK" [] (endSession id s))) s)

/-- CONF_CREATE (R425). -/
def execConfCreate (v : Via) (id : Nat) (ok : Bool) (c : CtxId) (slots : List KeySlotId) (s : State) : Host.Outcome State Fault Refusal :=
  done (onSpdm v (inSession v id ok (confCreate v id c.val (slots.map (·.val)))) s)
/-- CONF_ALLOW (R425). -/
def execConfAllow (v : Via) (id : Nat) (ok : Bool) (a : ConfAllow) (s : State) : Host.Outcome State Fault Refusal :=
  done (onSpdm v (inSession v id ok (confAllow v id a)) s)
/-- CONF_END (R425). -/
def execConfEnd (v : Via) (id : Nat) (ok : Bool) (c : CtxId) (s : State) : Host.Outcome State Fault Refusal :=
  done (onSpdm v (inSession v id ok (confEnd v id c.val)) s)

end Sys2Proof.Machine
end

