-- ==== Sys2Proof/Machine/StartRows.lean ====
section
/-! DEFINITION. The commands of reset, start-up and freeze (16, 17). Pins act whatever the clocks do. -/

namespace Sys2Proof.Machine

/-- PWR_OK_RISE (R404, R435). -/
def execPwrOkRise (s : State) : Host.Outcome State Fault Refusal := done (powerRises s)
/-- PWR_OK_FALL (R435). -/
def execPwrOkFall (s : State) : Host.Outcome State Fault Refusal := done (powerLoss s)
/-- COLD_RST_N held low (R434, R435). -/
def execColdRstNAssert (s : State) : Host.Outcome State Fault Refusal := done (coldAsserts s)
/-- WARM_RST_N held low (R407, R408). -/
def execWarmRstNAssert (s : State) : Host.Outcome State Fault Refusal := done (warmAsserts s)
/-- RESET_RELEASE: COLD_RST_N, or WARM_RST_N, rises (R404). -/
def execResetRelease (cold : Bool) (s : State) : Host.Outcome State Fault Refusal := done (resetRises cold s)
/-- FREEZE_N_FALL (R426). -/
def execFreezeNFall (s : State) : Host.Outcome State Fault Refusal := done (freezeFalls s)
/-- FREEZE_N_RISE (R429). -/
def execFreezeNRise (s : State) : Host.Outcome State Fault Refusal := done (freezeRises s)
/-- RAIL_PG_FALL of rail `r` (R437). -/
def execRailPgFall (r : Fin 24) (s : State) : Host.Outcome State Fault Refusal := done (railFalls r.val s)
/-- RAIL_PG_RISE (R437). -/
def execRailPgRise (r : Fin 24) (s : State) : Host.Outcome State Fault Refusal := done (railRises r.val s)
/-- RAIL_PG_TIMEOUT (R437). -/
def execRailPgTimeout (r : Fin 24) (s : State) : Host.Outcome State Fault Refusal := done (onAon (railLate r.val) s)

/-- START_BEGIN (R404). -/
def execStartBegin (s : State) : Host.Outcome State Fault Refusal := done (onAon startBegins s)
/-- START_STEP_COMPLETE: step `k` ends with what its report says (R405). -/
def execStartStepComplete (k : Fin 24) (r : StepReport) (s : State) : Host.Outcome State Fault Refusal :=
  done (onAon (fun s => if r.fails.all fun f => unitOk f.1.toNat then stepEnds k.val r s else s) s)
/-- JOURNAL_WAIT_EXPIRY (R410). -/
def execJournalWaitExpiry (s : State) : Host.Outcome State Fault Refusal := done (onAon journalWaitEnds s)

/-- LINK_HOLD quiescing ends (R428). -/
def execHoldComplete (s : State) : Host.Outcome State Fault Refusal := done (onAon holdEnds s)

/-- FW_READ_BACK: the flash write of the image and its read-back end; `same` says what the read-back finds (R416). -/
def execFwReadBack (same : Bool) (s : State) : Host.Outcome State Fault Refusal := done (onAwake (firmwareWritten same) s)
/-- MP_WATCHDOG_EXPIRY; the watchdog pauses while CLK_MP is stopped (R382, R383, R21). -/
def execMpWatchdogExpiry (s : State) : Host.Outcome State Fault Refusal :=
  done (onAon (fun s => if s.asleep || s.pins.thermtrip then s else watchdogExpires s) s)
/-- MP_RESTARTED (R382, R416). -/
def execMpRestarted (s : State) : Host.Outcome State Fault Refusal := done (onAon mpRestarted s)
/-- MIRROR_COMPLETE of an object; `ok` says whether the flash write took (R377). -/
def execMirrorComplete (index : BitVec 16) (sub : Byte) (ok : Bool) (s : State) : Host.Outcome State Fault Refusal :=
  done (onAon (mirrorEnds (okey index.toNat sub.toNat) ok) s)

/-- HEATING_LIMIT (R369). -/
def execHeatingLimit (s : State) : Host.Outcome State Fault Refusal := done (onAon heatingEnds s)
/-- MAX_TICKS_EXPIRY: how many patterns ran, the first that failed, how many failed (R369, R370). -/
def execMaxTicksExpiry (ran first fails : BitVec 16) (s : State) : Host.Outcome State Fault Refusal :=
  done (onAon (runTimesOut ran.toNat first.toNat fails.toNat) s)
/-- FIELD_TEST_RESULT: every pattern of the run has run (R370). -/
def execFieldTestResult (ran first fails : BitVec 16) (s : State) : Host.Outcome State Fault Refusal :=
  done (onAon (runCompletes ran.toNat first.toNat fails.toNat) s)

end Sys2Proof.Machine
end

