-- ==== Sys2Proof/Machine/SyncRows.lean ====
section
/-! DEFINITION. The commands of the sync unit (12), of the key slots (16) and of the fault collector (14). -/

namespace Sys2Proof.Machine

/-! ### Sync counters -/

/-- CTRL[c] (R302). -/
def execCounterCtrl (w : Requester) (c : CounterId) (data : Word) (s : State) : Host.Outcome State Fault Refusal :=
  done (onReg (regCommand w (0x04300000 + 8 * c.val) data []) s)

/-- VALUE[c] (R302). -/
def execCounterValue (w : Requester) (c : CounterId) (data : Word) (s : State) : Host.Outcome State Fault Refusal :=
  done (onReg (regCommand w (0x04200000 + 8 * c.val) data []) s)

/-- A sync request: of the host through SYNC_REQ, of a core through its port's sync channel, in its stream's order (R304). -/
def syncRequest (w : Requester) (raw : BitVec 128) (s : State) : State :=
  match w with
  | .host _ => regPair w 0x04400000 raw [] s
  | .core p _ _ =>
    let r : CoreReq := ⟨p, BitVec.ofNat 64 (pack [(46, 0), (6, fld raw 32 6), (12, fld raw 20 12)]), 0, 0, 0, 0⟩
    pump p.val (enterOp (.sync raw) r s)

/-- A sync request with its OP (Table 12.4). -/
def syncWord (raw : BitVec 128) (op : Nat) : BitVec 128 := BitVec.ofNat 128 (putBits raw.toNat 17 3 op)

/-- SYNC_SIGNAL; a word with a reserved OP comes this way too, and is malformed (R304). -/
def execSyncSignal (w : Requester) (raw : BitVec 128) (s : State) : Host.Outcome State Fault Refusal :=
  done (onReg (syncRequest w (if 6 ≤ fld raw 17 3 then raw else syncWord raw 0)) s)
def execSyncTake (w : Requester) (raw : BitVec 128) (s : State) : Host.Outcome State Fault Refusal := done (onReg (syncRequest w (syncWord raw 1)) s)
def execWaitConsume (w : Requester) (raw : BitVec 128) (s : State) : Host.Outcome State Fault Refusal := done (onReg (syncRequest w (syncWord raw 2)) s)
def execWaitObserve (w : Requester) (raw : BitVec 128) (s : State) : Host.Outcome State Fault Refusal := done (onReg (syncRequest w (syncWord raw 3)) s)
def execSyncRead (w : Requester) (raw : BitVec 128) (s : State) : Host.Outcome State Fault Refusal := done (onReg (syncRequest w (syncWord raw 4)) s)
def execCancel (w : Requester) (raw : BitVec 128) (s : State) : Host.Outcome State Fault Refusal := done (onReg (syncRequest w (syncWord raw 5)) s)

/-- WATCH_TIMEOUT: at the end of a tick, every watch whose deadline it was ends (R309). -/
def execWatchTimeout (s : State) : Host.Outcome State Fault Refusal := done (onWake timeoutWatches s)

/-- The oldest held notification record goes out. -/
def sendNotification (s : State) : State :=
  if s.sync.held.isEmpty || !(ringReady s s.sync.nring) then s else throughHome s.sync.nring 16 writeNotification s

/-- NOTIFICATION_RECORD (R312). -/
def execNotificationRecord (s : State) : Host.Outcome State Fault Refusal := done (onFab sendNotification s)

/-! ### Key slots (R424) -/

/-- A KEY_CMD word (Table 16.7). -/
def keyWord (op : Nat) (c : CtxId) (k : KeySlotId) : BitVec 128 := BitVec.ofNat 128 (pack [(4, op), (72, 0), (12, c.val), (12, k.val)])

def execLoadFresh (w : Requester) (c : CtxId) (k : KeySlotId) (s : State) : Host.Outcome State Fault Refusal := done (onReg (regPair w 0x041E0000 (keyWord 1 c k) []) s)
def execLoadDriver (w : Requester) (c : CtxId) (k : KeySlotId) (s : State) : Host.Outcome State Fault Refusal := done (onReg (regPair w 0x041E0000 (keyWord 4 c k) []) s)
def execBind (w : Requester) (c : CtxId) (k : KeySlotId) (s : State) : Host.Outcome State Fault Refusal := done (onReg (regPair w 0x041E0000 (keyWord 2 c k) []) s)
def execUnbind (w : Requester) (c : CtxId) (k : KeySlotId) (s : State) : Host.Outcome State Fault Refusal := done (onReg (regPair w 0x041E0000 (keyWord 3 c k) []) s)
def execDestroy (w : Requester) (c : CtxId) (k : KeySlotId) (s : State) : Host.Outcome State Fault Refusal := done (onReg (regPair w 0x041E0000 (keyWord 5 c k) []) s)

/-! ### Faults -/

/-- The event of a report. -/
def reportEvent (r : EventReport) : Event :=
  ⟨r.cls.val, r.unit.toNat, r.ctx.map (·.val), r.addr.toNat, r.addrKind.val, r.op.toNat, r.status, r.detail.toNat⟩

/-- A replayed host flit is counted by its port (R344; 0x5001 + p, sub 0x17). -/
def countReplay (r : EventReport) (s : State) : State :=
  if r.cls.val = 9 && (r.unit.toNat = 0x1000 || r.unit.toNat = 0x1001) then count (0x4001 + r.unit.toNat) 0x17 s else s

/-- FAULT_EVENT: a unit of Table 0.6 reports an event of a class of Table 14.3 (R348, R349). -/
def execFaultEvent (ev : EventReport) (s : State) : Host.Outcome State Fault Refusal :=
  done (onAon (fun s => if 1 ≤ ev.cls.val && ev.cls.val ≤ 0x11 && unitOk ev.unit.toNat && stepReached 1 s then raise (reportEvent ev) (countReplay ev s) else s) s)

/-- ACK_HOLD: FLT_ACK with HOLD (R354). -/
def execAckHold (w : Requester) (serial : BitVec 32) (s : State) : Host.Outcome State Fault Refusal :=
  done (onReg (regCommand w 0x041C0028 (serial.setWidth 64) []) s)

/-- ACK_ACT: FLT_ACK with ACT (R354). -/
def execAckAct (w : Requester) (serial : BitVec 32) (s : State) : Host.Outcome State Fault Refusal :=
  done (onReg (regCommand w 0x041C0028 (serial.setWidth 64 + 0x100000000) []) s)

/-- A timer expires: it is gone, counted, and its action is owed (R354). -/
def expireGrace (s : State) (t : Grace) : State :=
  oweAction t.action t.unit t.ctx (count 0x8000 0x0F { s with flt.grace := s.flt.grace.filter fun x => x.serial ≠ t.serial })

/-- Timers past their deadline expire, FREEZE first; once a FREEZE is taken the others stay pending (R355). -/
def graceExpires (s : State) : State :=
  match expiredGrace s with
  | [] => s
  | t :: ts => if t.action = 3 then expireGrace s t else (t :: ts).foldl expireGrace s

/-- GRACE_EXPIRY (R354). -/
def execGraceExpiry (s : State) : Host.Outcome State Fault Refusal := done (onAon (fun s => if stepReached 3 s then graceExpires (wakeUp s) else s) s)

end Sys2Proof.Machine
end

