-- ==== Sys2Proof/Machine/TransRows.lean ====
section
/-! DEFINITION. The commands of the translation unit (07) and the rings' configuration (R464). -/

namespace Sys2Proof.Machine

/-- A RESOLVE word with its ACTION. -/
def withAction (raw : BitVec 128) (n a : Nat) : BitVec 128 := BitVec.ofNat 128 (putBits raw.toNat 0 n a)

/-- SPACE[a] (R166). -/
def execSpaceEntry (w : Requester) (a : Fin 4096) (raw : BitVec 128) (s : State) : Host.Outcome State Fault Refusal :=
  done (onReg (regPair w (0x04100000 + 0x10 * a.val) raw []) s)

/-- FRING_BASE or FRING_LOG2 (R178, R464). -/
def execFringConfig (w : Requester) (isBase : Bool) (data : Word) (s : State) : Host.Outcome State Fault Refusal :=
  done (onReg (regCommand w (if isBase then 0x04110000 else 0x04110008) data []) s)

/-- NRING_BASE or NRING_LOG2 (R312, R464). -/
def execNringConfig (w : Requester) (isBase : Bool) (data : Word) (s : State) : Host.Outcome State Fault Refusal :=
  done (onReg (regCommand w (if isBase then 0x04400010 else 0x04400018) data []) s)

/-- FLT_BASE or FLT_LOG2 (R352, R464). -/
def execFltConfig (w : Requester) (isBase : Bool) (data : Word) (s : State) : Host.Outcome State Fault Refusal :=
  done (onReg (regCommand w (if isBase then 0x041C0000 else 0x041C0008) data []) s)

/-- RESOLVE with ACTION 1, RETRY (R182). -/
def execResolveRetry (w : Requester) (raw : BitVec 128) (s : State) : Host.Outcome State Fault Refusal :=
  done (onReg (regPair w 0x04110030 (withAction raw 4 1) []) s)

/-- RESOLVE with ACTION 2, FAIL (R182). -/
def execResolveFail (w : Requester) (raw : BitVec 128) (s : State) : Host.Outcome State Fault Refusal :=
  done (onReg (regPair w 0x04110030 (withAction raw 4 2) []) s)

/-- RESOLVE with ACTION 3, MIGRATE_COPY (R184). -/
def execMigrateCopy (w : Requester) (raw : BitVec 128) (s : State) : Host.Outcome State Fault Refusal :=
  done (onReg (regPair w 0x04110030 (withAction raw 4 3) []) s)

/-- INVAL (R186). -/
def execInval (w : Requester) (raw : BitVec 128) (s : State) : Host.Outcome State Fault Refusal :=
  done (onReg (regPair w 0x04110040 raw []) s)

/-- INVAL_COMPLETE (R186). -/
def execInvalComplete (s : State) : Host.Outcome State Fault Refusal := done (onFab invalCompletes s)

/-- WALK: a miss of an operation (R174, R175). -/
def execWalk (w : Waiter) (space : Fin 4096) (va : BitVec 56) (s : State) : Host.Outcome State Fault Refusal :=
  done (onFab (walkStarts w space.val va.toNat) s)

/-- WALK_COMPLETE (R174). -/
def execWalkComplete (k : WalkerId) (s : State) : Host.Outcome State Fault Refusal := done (onFab (walkReturns k.val) s)

/-- MIGRATION_COPY_DONE (R184); `ext` carries the grain's host bytes. -/
def execMigrationCopyDone (e : Fin 16) (st : Status) (ext : Ext) (s : State) : Host.Outcome State Fault Refusal :=
  done (onFab (migrationDone e.val st ext) s)

/-- The copy of a page-fault record that fell due first goes out. -/
def sendPfCopy (s : State) : State :=
  if (s.tu.copies.head?.any fun c => c.2 ≤ s.aoncnt) && ringReady s s.tu.fring then throughHome s.tu.fring 64 writePfCopy s else s

/-- FAULT_RECORD_COPY (R178). -/
def execFaultRecordCopy (s : State) : Host.Outcome State Fault Refusal := done (onFab sendPfCopy s)

/-- A page-fault record reaches its time limit: it is resolved as FAIL (R183). -/
def pfExpires (id : Nat) (s : State) : State :=
  if pfTimedOut s id then
    match getRec s id with
    | some r => freeRec id (fun w => .failOp w r.failStatus) (count 0x5800 0x0B s)
    | none => s
  else s

/-- FAULT_TIMEOUT_EXPIRY (R183). -/
def execFaultTimeoutExpiry (id : RecordId) (s : State) : Host.Outcome State Fault Refusal := done (onFab (pfExpires id.val) s)

end Sys2Proof.Machine
end

