-- ==== Sys2Proof/Machine/Dispatch.lean ====
section
/-! DEFINITION. One arm per command: a direct call of its meaning. -/

namespace Sys2Proof.Machine

def exec (i : Instr) (s : State) : Host.Outcome State Fault Refusal :=
  match i with
  | .pwrOkRise => Sys2Proof.Machine.execPwrOkRise s
  | .pwrOkFall => Sys2Proof.Machine.execPwrOkFall s
  | .coldRstNAssert => Sys2Proof.Machine.execColdRstNAssert s
  | .warmRstNAssert => Sys2Proof.Machine.execWarmRstNAssert s
  | .resetRelease cold => Sys2Proof.Machine.execResetRelease cold s
  | .hpPerstNFall p => Sys2Proof.Machine.execHpPerstNFall p s
  | .hpPerstNRise p => Sys2Proof.Machine.execHpPerstNRise p s
  | .freezeNFall => Sys2Proof.Machine.execFreezeNFall s
  | .freezeNRise => Sys2Proof.Machine.execFreezeNRise s
  | .tapReset low => Sys2Proof.Machine.execTapReset low s
  | .railPgFall r => Sys2Proof.Machine.execRailPgFall r s
  | .railPgTimeout r => Sys2Proof.Machine.execRailPgTimeout r s
  | .grantStb grant => Sys2Proof.Machine.execGrantStb grant s
  | .droopStop c => Sys2Proof.Machine.execDroopStop c s
  | .droopStopPersists c => Sys2Proof.Machine.execDroopStopPersists c s
  | .droopClear c warn => Sys2Proof.Machine.execDroopClear c warn s
  | .droopWarn c => Sys2Proof.Machine.execDroopWarn c s
  | .thermtrip sensor temp => Sys2Proof.Machine.execThermtrip sensor temp s
  | .sensorSample temps volts => Sys2Proof.Machine.execSensorSample temps volts s
  | .cpnWake p high => Sys2Proof.Machine.execCpnWake p high s
  | .stackPgFall k => Sys2Proof.Machine.execStackPgFall k s
  | .interfaceClockStop l => Sys2Proof.Machine.execInterfaceClockStop l s
  | .chainPartnerLost => Sys2Proof.Machine.execChainPartnerLost s
  | .wakeEvent => Sys2Proof.Machine.execWakeEvent s
  | .sleepDelayExpiry => Sys2Proof.Machine.execSleepDelayExpiry s
  | .clusterIdleExpiry c => Sys2Proof.Machine.execClusterIdleExpiry c s
  | .loftIdleExpiry slice => Sys2Proof.Machine.execLoftIdleExpiry slice s
  | .srDelayExpiry k => Sys2Proof.Machine.execSrDelayExpiry k s
  | .governorTick p heavy => Sys2Proof.Machine.execGovernorTick p heavy s
  | .powerPointSwitch c => Sys2Proof.Machine.execPowerPointSwitch c s
  | .rampDown a => Sys2Proof.Machine.execRampDown a s
  | .adaptTicksReached c load => Sys2Proof.Machine.execAdaptTicksReached c load s
  | .guardLower c => Sys2Proof.Machine.execGuardLower c s
  | .linkMarginCheck l margin => Sys2Proof.Machine.execLinkMarginCheck l margin s
  | .linkReequalise l => Sys2Proof.Machine.execLinkReequalise l s
  | .l1IdleExpiry p => Sys2Proof.Machine.execL1IdleExpiry p s
  | .startBegin => Sys2Proof.Machine.execStartBegin s
  | .startStepComplete k r => Sys2Proof.Machine.execStartStepComplete k r s
  | .journalWaitExpiry => Sys2Proof.Machine.execJournalWaitExpiry s
  | .frameForward up queued f => Sys2Proof.Machine.execFrameForward up queued f s
  | .token f => Sys2Proof.Machine.execToken f s
  | .addrGrant f => Sys2Proof.Machine.execAddrGrant f s
  | .chainRead queued f => Sys2Proof.Machine.execChainRead queued f s
  | .chainWrite queued f => Sys2Proof.Machine.execChainWrite queued f s
  | .chainDescribe queued f => Sys2Proof.Machine.execChainDescribe queued f s
  | .spdmFrame f => Sys2Proof.Machine.execSpdmFrame f s
  | .register path queued f => Sys2Proof.Machine.execRegister path queued f s
  | .claim path queued f => Sys2Proof.Machine.execClaim path queued f s
  | .handover path queued f => Sys2Proof.Machine.execHandover path queued f s
  | .ownerRelease path queued f => Sys2Proof.Machine.execOwnerRelease path queued f s
  | .renew path queued f => Sys2Proof.Machine.execRenew path queued f s
  | .electionWindowEnd => Sys2Proof.Machine.execElectionWindowEnd s
  | .leaseLapse => Sys2Proof.Machine.execLeaseLapse s
  | .registrationExpiry m => Sys2Proof.Machine.execRegistrationExpiry m s
  | .mailboxDictionary p queued f bytes => Sys2Proof.Machine.execMailboxDictionary p queued f bytes s
  | .mailboxSpdm p bytes => Sys2Proof.Machine.execMailboxSpdm p bytes s
  | .mpWatchdogExpiry => Sys2Proof.Machine.execMpWatchdogExpiry s
  | .mirrorComplete index sub ok => Sys2Proof.Machine.execMirrorComplete index sub ok s
  | .getVersion v => Sys2Proof.Machine.execGetVersion v s
  | .getCapabilities v => Sys2Proof.Machine.execGetCapabilities v s
  | .negotiateAlgorithms v => Sys2Proof.Machine.execNegotiateAlgorithms v s
  | .getDigests v => Sys2Proof.Machine.execGetDigests v s
  | .getCertificate v off len => Sys2Proof.Machine.execGetCertificate v off len s
  | .challenge v msg => Sys2Proof.Machine.execChallenge v msg s
  | .getMeasurements v op sign msg => Sys2Proof.Machine.execGetMeasurements v op sign msg s
  | .keyExchange v msg => Sys2Proof.Machine.execKeyExchange v msg s
  | .finish v id ok digest master => Sys2Proof.Machine.execFinish v id ok digest master s
  | .heartbeat v id ok => Sys2Proof.Machine.execHeartbeat v id ok s
  | .keyUpdate v id ok => Sys2Proof.Machine.execKeyUpdate v id ok s
  | .endSession v id ok => Sys2Proof.Machine.execEndSession v id ok s
  | .confCreate v id ok c slots => Sys2Proof.Machine.execConfCreate v id ok c slots s
  | .confAllow v id ok a => Sys2Proof.Machine.execConfAllow v id ok a s
  | .confEnd v id ok c => Sys2Proof.Machine.execConfEnd v id ok c s
  | .dictionaryWrite m index sub data => Sys2Proof.Machine.execDictionaryWrite m index sub data s
  | .cacheSteps m v => Sys2Proof.Machine.execCacheSteps m v s
  | .arrayFence m a v => Sys2Proof.Machine.execArrayFence m a v s
  | .homeSliceFence m h v => Sys2Proof.Machine.execHomeSliceFence m h v s
  | .engineFence m e v => Sys2Proof.Machine.execEngineFence m e v s
  | .nearFence m v => Sys2Proof.Machine.execNearFence m v s
  | .windowControl m l w v => Sys2Proof.Machine.execWindowControl m l w v s
  | .decContext m p d slot v => Sys2Proof.Machine.execDecContext m p d slot v s
  | .pointRequested m v => Sys2Proof.Machine.execPointRequested m v s
  | .firstClear m v => Sys2Proof.Machine.execFirstClear m v s
  | .ownerKill m c => Sys2Proof.Machine.execOwnerKill m c s
  | .restoreDefaults m v => Sys2Proof.Machine.execRestoreDefaults m v s
  | .retryMask m v => Sys2Proof.Machine.execRetryMask m v s
  | .pkgOffset m v => Sys2Proof.Machine.execPkgOffset m v s
  | .pkgData m data => Sys2Proof.Machine.execPkgData m data s
  | .pkgCommit m v => Sys2Proof.Machine.execPkgCommit m v s
  | .testRun m r => Sys2Proof.Machine.execTestRun m r s
  | .heatingLimit => Sys2Proof.Machine.execHeatingLimit s
  | .maxTicksExpiry ran first fails => Sys2Proof.Machine.execMaxTicksExpiry ran first fails s
  | .fieldTestResult ran first fails => Sys2Proof.Machine.execFieldTestResult ran first fails s
  | .fwOffset m v => Sys2Proof.Machine.execFwOffset m v s
  | .fwData m data => Sys2Proof.Machine.execFwData m data s
  | .fwCommit m v => Sys2Proof.Machine.execFwCommit m v s
  | .fwActivate m v => Sys2Proof.Machine.execFwActivate m v s
  | .debugUnlock m v => Sys2Proof.Machine.execDebugUnlock m v s
  | .linkHold m v => Sys2Proof.Machine.execLinkHold m v s
  | .holdComplete => Sys2Proof.Machine.execHoldComplete s
  | .registerWrite w off len data ext => Sys2Proof.Machine.execRegisterWrite w off len data ext s
  | .doorbell w q data => Sys2Proof.Machine.execDoorbell w q data s
  | .cqCons w q data => Sys2Proof.Machine.execCqCons w q data s
  | .queueEnable w q data ext => Sys2Proof.Machine.execQueueEnable w q data ext s
  | .queueDisable w q data => Sys2Proof.Machine.execQueueDisable w q data s
  | .queueResume w q data => Sys2Proof.Machine.execQueueResume w q data s
  | .spaceEntry w a raw => Sys2Proof.Machine.execSpaceEntry w a raw s
  | .fringConfig w isBase data => Sys2Proof.Machine.execFringConfig w isBase data s
  | .nringConfig w isBase data => Sys2Proof.Machine.execNringConfig w isBase data s
  | .fltConfig w isBase data => Sys2Proof.Machine.execFltConfig w isBase data s
  | .resolveRetry w raw => Sys2Proof.Machine.execResolveRetry w raw s
  | .resolveFail w raw => Sys2Proof.Machine.execResolveFail w raw s
  | .migrateCopy w raw => Sys2Proof.Machine.execMigrateCopy w raw s
  | .inval w raw => Sys2Proof.Machine.execInval w raw s
  | .invalComplete => Sys2Proof.Machine.execInvalComplete s
  | .ctxWrite w c k data => Sys2Proof.Machine.execCtxWrite w c k data s
  | .ctxCreate w c => Sys2Proof.Machine.execCtxCreate w c s
  | .ctxSuspend w c => Sys2Proof.Machine.execCtxSuspend w c s
  | .ctxResume w c => Sys2Proof.Machine.execCtxResume w c s
  | .ctxEnd w c => Sys2Proof.Machine.execCtxEnd w c s
  | .ctxKill w c => Sys2Proof.Machine.execCtxKill w c s
  | .ctxRestartSteps w c => Sys2Proof.Machine.execCtxRestartSteps w c s
  | .contextEndingDrained c => Sys2Proof.Machine.execContextEndingDrained c s
  | .contextRelease c => Sys2Proof.Machine.execContextRelease c s
  | .seqCreate w raw ext => Sys2Proof.Machine.execSeqCreate w raw ext s
  | .seqRead w raw ext => Sys2Proof.Machine.execSeqRead w raw ext s
  | .seqPark w raw ext => Sys2Proof.Machine.execSeqPark w raw ext s
  | .seqUnpark w raw ext => Sys2Proof.Machine.execSeqUnpark w raw ext s
  | .seqEnd w raw ext => Sys2Proof.Machine.execSeqEnd w raw ext s
  | .seqFree w raw ext => Sys2Proof.Machine.execSeqFree w raw ext s
  | .seqToken w data => Sys2Proof.Machine.execSeqToken w data s
  | .sequenceDone q => Sys2Proof.Machine.execSequenceDone q s
  | .acctSnap w raw => Sys2Proof.Machine.execAcctSnap w raw s
  | .counterCtrl w c data => Sys2Proof.Machine.execCounterCtrl w c data s
  | .counterValue w c data => Sys2Proof.Machine.execCounterValue w c data s
  | .jstage w q data => Sys2Proof.Machine.execJstage w q data s
  | .journalDiscard w q data => Sys2Proof.Machine.execJournalDiscard w q data s
  | .ackHold w serial => Sys2Proof.Machine.execAckHold w serial s
  | .ackAct w serial => Sys2Proof.Machine.execAckAct w serial s
  | .loadFresh w c k => Sys2Proof.Machine.execLoadFresh w c k s
  | .loadDriver w c k => Sys2Proof.Machine.execLoadDriver w c k s
  | .bind w c k => Sys2Proof.Machine.execBind w c k s
  | .unbind w c k => Sys2Proof.Machine.execUnbind w c k s
  | .destroy w c k => Sys2Proof.Machine.execDestroy w c k s
  | .portLoad r e => Sys2Proof.Machine.execPortLoad r e s
  | .portStore r e => Sys2Proof.Machine.execPortStore r e s
  | .portRload r e => Sys2Proof.Machine.execPortRload r e s
  | .portCstore r e => Sys2Proof.Machine.execPortCstore r e s
  | .portAtomic r e => Sys2Proof.Machine.execPortAtomic r e s
  | .portBarrier r => Sys2Proof.Machine.execPortBarrier r s
  | .writePerformed p id => Sys2Proof.Machine.execWritePerformed p id s
  | .holdWindowExpiry p => Sys2Proof.Machine.execHoldWindowExpiry p s
  | .courseHalf p stream c half last => Sys2Proof.Machine.execCourseHalf p stream c half last s
  | .course a ext => Sys2Proof.Machine.execCourse a ext s
  | .ridgeScan a ext => Sys2Proof.Machine.execRidgeScan a ext s
  | .diagonal a ext => Sys2Proof.Machine.execDiagonal a ext s
  | .footprintReady w errs => Sys2Proof.Machine.execFootprintReady w errs s
  | .blockCheck receiver sender g ok write r => Sys2Proof.Machine.execBlockCheck receiver sender g ok write r s
  | .blockResend receiver sender g ok r => Sys2Proof.Machine.execBlockResend receiver sender g ok r s
  | .seqVerdict a q step => Sys2Proof.Machine.execSeqVerdict a q step s
  | .strictRerun a r => Sys2Proof.Machine.execStrictRerun a r s
  | .courseComplete a r => Sys2Proof.Machine.execCourseComplete a r s
  | .preemption a row intake pass => Sys2Proof.Machine.execPreemption a row intake pass s
  | .preemptSave a r => Sys2Proof.Machine.execPreemptSave a r s
  | .courseResume a => Sys2Proof.Machine.execCourseResume a s
  | .chainSpill a => Sys2Proof.Machine.execChainSpill a s
  | .courseFault a st r => Sys2Proof.Machine.execCourseFault a st r s
  | .sequencerMismatch a r => Sys2Proof.Machine.execSequencerMismatch a r s
  | .smMismatch unit => Sys2Proof.Machine.execSmMismatch unit s
  | .remoteWait e => Sys2Proof.Machine.execRemoteWait e s
  | .remoteResponseLand l => Sys2Proof.Machine.execRemoteResponseLand l s
  | .peerTimeout l slot => Sys2Proof.Machine.execPeerTimeout l slot s
  | .sliceEnd e => Sys2Proof.Machine.execSliceEnd e s
  | .engineChoose e => Sys2Proof.Machine.execEngineChoose e s
  | .listScan => Sys2Proof.Machine.execListScan s
  | .stepIssue c => Sys2Proof.Machine.execStepIssue c s
  | .queueNop q => Sys2Proof.Machine.execQueueNop q s
  | .courseSlot q => Sys2Proof.Machine.execCourseSlot q s
  | .queueCopy q => Sys2Proof.Machine.execQueueCopy q s
  | .queueFill q => Sys2Proof.Machine.execQueueFill q s
  | .queueInlineWrite q => Sys2Proof.Machine.execQueueInlineWrite q s
  | .queueFlashing q => Sys2Proof.Machine.execQueueFlashing q s
  | .queueSignal q => Sys2Proof.Machine.execQueueSignal q s
  | .queueWait q => Sys2Proof.Machine.execQueueWait q s
  | .digestOpen q => Sys2Proof.Machine.execDigestOpen q s
  | .digestRegion q ext => Sys2Proof.Machine.execDigestRegion q ext s
  | .digestRead q => Sys2Proof.Machine.execDigestRead q s
  | .digestClose q => Sys2Proof.Machine.execDigestClose q s
  | .slotReadReturn q ext failed => Sys2Proof.Machine.execSlotReadReturn q ext failed s
  | .slotReread q => Sys2Proof.Machine.execSlotReread q s
  | .burstComplete e ext => Sys2Proof.Machine.execBurstComplete e ext s
  | .engineFault e st => Sys2Proof.Machine.execEngineFault e st s
  | .completionRecord q idx => Sys2Proof.Machine.execCompletionRecord q idx s
  | .readbackComplete p => Sys2Proof.Machine.execReadbackComplete p s
  | .journalAccept q => Sys2Proof.Machine.execJournalAccept q s
  | .journalIntent q idx => Sys2Proof.Machine.execJournalIntent q idx s
  | .journalCommit q idx => Sys2Proof.Machine.execJournalCommit q idx s
  | .queueDone q idx => Sys2Proof.Machine.execQueueDone q idx s
  | .recoverLimitExpiry q => Sys2Proof.Machine.execRecoverLimitExpiry q s
  | .syncSignal w raw => Sys2Proof.Machine.execSyncSignal w raw s
  | .syncTake w raw => Sys2Proof.Machine.execSyncTake w raw s
  | .waitConsume w raw => Sys2Proof.Machine.execWaitConsume w raw s
  | .waitObserve w raw => Sys2Proof.Machine.execWaitObserve w raw s
  | .syncRead w raw => Sys2Proof.Machine.execSyncRead w raw s
  | .cancel w raw => Sys2Proof.Machine.execCancel w raw s
  | .watchTimeout => Sys2Proof.Machine.execWatchTimeout s
  | .notificationRecord => Sys2Proof.Machine.execNotificationRecord s
  | .faultEvent ev => Sys2Proof.Machine.execFaultEvent ev s
  | .graceExpiry => Sys2Proof.Machine.execGraceExpiry s
  | .faultRecordCopy => Sys2Proof.Machine.execFaultRecordCopy s
  | .faultTimeoutExpiry id => Sys2Proof.Machine.execFaultTimeoutExpiry id s
  | .walk w space va => Sys2Proof.Machine.execWalk w space va s
  | .walkComplete k => Sys2Proof.Machine.execWalkComplete k s
  | .migrationCopyDone e st ext => Sys2Proof.Machine.execMigrationCopyDone e st ext s
  | .rdS r => Sys2Proof.Machine.execRdS r s
  | .rdX r => Sys2Proof.Machine.execRdX r s
  | .upg r => Sys2Proof.Machine.execUpg r s
  | .rdNc r => Sys2Proof.Machine.execRdNc r s
  | .wrNc r d => Sys2Proof.Machine.execWrNc r d s
  | .atomH r d aop size => Sys2Proof.Machine.execAtomH r d aop size s
  | .zeroL r => Sys2Proof.Machine.execZeroL r s
  | .writeback r bad => Sys2Proof.Machine.execWriteback r bad s
  | .snpFwdS p g requester => Sys2Proof.Machine.execSnpFwdS p g requester s
  | .snpFwdX p g requester => Sys2Proof.Machine.execSnpFwdX p g requester s
  | .snpGetS p g requester => Sys2Proof.Machine.execSnpGetS p g requester s
  | .snpGetI p g requester => Sys2Proof.Machine.execSnpGetI p g requester s
  | .snpCur p g requester => Sys2Proof.Machine.execSnpCur p g requester s
  | .snpInv p g requester => Sys2Proof.Machine.execSnpInv p g requester s
  | .rspI p g => Sys2Proof.Machine.execRspI p g s
  | .rspFwdS p g dirty => Sys2Proof.Machine.execRspFwdS p g dirty s
  | .rspFwdI p g dirty => Sys2Proof.Machine.execRspFwdI p g dirty s
  | .rspData p g dirty => Sys2Proof.Machine.execRspData p g dirty s
  | .rspWbif p g => Sys2Proof.Machine.execRspWbif p g s
  | .dataFwdMessage agent g x line poison => Sys2Proof.Machine.execDataFwdMessage agent g x line poison s
  | .dataMessage agent g x line poison => Sys2Proof.Machine.execDataMessage agent g x line poison s
  | .cmpFwd agent g => Sys2Proof.Machine.execCmpFwd agent g s
  | .gntX agent g => Sys2Proof.Machine.execGntX agent g s
  | .cmpMessage agent g old poison => Sys2Proof.Machine.execCmpMessage agent g old poison s
  | .wbAck agent g => Sys2Proof.Machine.execWbAck agent g s
  | .retryMessage agent g n => Sys2Proof.Machine.execRetryMessage agent g n s
  | .doneMessage agent g => Sys2Proof.Machine.execDoneMessage agent g s
  | .snpdata p g => Sys2Proof.Machine.execSnpdata p g s
  | .snpinv p g => Sys2Proof.Machine.execSnpinv p g s
  | .snpcur p g => Sys2Proof.Machine.execSnpcur p g s
  | .memrd p hpa mv => Sys2Proof.Machine.execMemrd p hpa mv s
  | .meminv p hpa mv => Sys2Proof.Machine.execMeminv p hpa mv s
  | .memwr p hpa d mv => Sys2Proof.Machine.execMemwr p hpa d mv s
  | .birsp p g rsp => Sys2Proof.Machine.execBirsp p g rsp s
  | .biconflict p g => Sys2Proof.Machine.execBiconflict p g s
  | .agentDeath agent => Sys2Proof.Machine.execAgentDeath agent s
  | .hostPortDown p => Sys2Proof.Machine.execHostPortDown p s
  | .retrainLimit p => Sys2Proof.Machine.execRetrainLimit p s
  | .peerLinkDown l => Sys2Proof.Machine.execPeerLinkDown l s
  | .peerNormal l f => Sys2Proof.Machine.execPeerNormal l f s
  | .peerNak l f => Sys2Proof.Machine.execPeerNak l f s
  | .peerHold l f => Sys2Proof.Machine.execPeerHold l f s
  | .peerHoldExit l f => Sys2Proof.Machine.execPeerHoldExit l f s
  | .ackTimeout l => Sys2Proof.Machine.execAckTimeout l s
  | .peerRead l => Sys2Proof.Machine.execPeerRead l s
  | .peerWrite l => Sys2Proof.Machine.execPeerWrite l s
  | .peerAtomic l => Sys2Proof.Machine.execPeerAtomic l s
  | .peerProbe l => Sys2Proof.Machine.execPeerProbe l s
  | .peerSync l => Sys2Proof.Machine.execPeerSync l s
  | .peerSpdm l answer session => Sys2Proof.Machine.execPeerSpdm l answer session s
  | .readRsp l => Sys2Proof.Machine.execReadRsp l s
  | .writeAck l => Sys2Proof.Machine.execWriteAck l s
  | .atomicRsp l => Sys2Proof.Machine.execAtomicRsp l s
  | .probeRsp l => Sys2Proof.Machine.execProbeRsp l s
  | .syncRsp l => Sys2Proof.Machine.execSyncRsp l s
  | .spdmRsp l answer session => Sys2Proof.Machine.execSpdmRsp l answer session s
  | .railPgRise r => Sys2Proof.Machine.execRailPgRise r s
  | .hostLinkTrained p width rate => Sys2Proof.Machine.execHostLinkTrained p width rate s
  | .hostLinkRetrain p => Sys2Proof.Machine.execHostLinkRetrain p s
  | .peerLinkTrained l lanes => Sys2Proof.Machine.execPeerLinkTrained l lanes s
  | .chainSymbolLock => Sys2Proof.Machine.execChainSymbolLock s
  | .creditReturn p event => Sys2Proof.Machine.execCreditReturn p event s
  | .peerIdle l f => Sys2Proof.Machine.execPeerIdle l f s
  | .ideKm p key => Sys2Proof.Machine.execIdeKm p key s
  | .hdmDecoderCommit p d commit base size dpa ways gran => Sys2Proof.Machine.execHdmDecoderCommit p d commit base size dpa ways gran s
  | .h2dResponse p g rsp data poison => Sys2Proof.Machine.execH2dResponse p g rsp data poison s
  | .cxlIoCompletion q id data poison => Sys2Proof.Machine.execCxlIoCompletion q id data poison s
  | .phyInitiatedUpdate k c begins => Sys2Proof.Machine.execPhyInitiatedUpdate k c begins s
  | .mpRestarted => Sys2Proof.Machine.execMpRestarted s
  | .fwReadBack same => Sys2Proof.Machine.execFwReadBack same s

end Sys2Proof.Machine
end

