-- ==== Sys2Proof/Safety.lean ====
section
/-! DEFINITION. What a safe run is, and the situations and outcomes that the statements speak of. -/

namespace Sys2Proof
open Machine

/-- A step is safe when it answers a next state. No command of this block ends a run. -/
def Safe (s : State) : Prop := ∃ t, step s = .next t

/-- What a cold reset leaves of a state (Table 17.4, R413): retained AON storage as it was, the record of a start that had ended as
the previous record, and the reset value of everything else. -/
def KeptByColdReset (s t : State) : Prop :=
  (∀ i j d, persistentKeys.contains (okey i j) = true → obj t i j d = obj s i j d) ∧
  (∀ i j d, persistentKeys.contains (okey i j) = false → obj t i j d = d) ∧
  t.flt.first = s.flt.first ∧ t.flt.firstValid = s.flt.firstValid ∧ t.flt.last = 0 ∧ t.flt.grace = [] ∧ t.flt.ring = {} ∧
  t.mgmt.oldAddr = s.mgmt.oldAddr ∧ t.mgmt.chainAddr = 0 ∧ t.mgmt.masters = [] ∧ t.mgmt.owner = none ∧
  (s.start.running = [] → s.start.cur ≠ [] → t.start.prev = s.start.cur ∧ t.start.cur = []) ∧
  t.start.inReset = true ∧ t.start.kind = 1 ∧ t.start.running = [] ∧
  t.aoncnt = s.aoncnt ∧ t.mem.bytes = [] ∧ t.mem.tags = [] ∧ t.mem.slots = [] ∧ t.mem.poison = [] ∧ t.mem.steps = 4 ∧
  t.sync = {} ∧ t.sched = {} ∧ t.queues = [] ∧ t.engines = [] ∧ t.ports = [] ∧ t.coh = {} ∧ t.tu = {} ∧ t.arrays = {} ∧
  t.peers = [] ∧ t.accums = [] ∧ t.ftest = {} ∧ t.fw = {} ∧ t.freeze = {} ∧ t.pending = s.pending

/-- What a warm reset keeps (R407, R408, Table 17.4) of a block with no work in flight. -/
def KeptByWarmReset (s t : State) : Prop :=
  t.mem.bytes = s.mem.bytes ∧ t.mem.tags = s.mem.tags ∧ t.mem.poison = s.mem.poison ∧ t.mem.slots = s.mem.slots ∧
  t.mem.keyOf = s.mem.keyOf ∧ t.objs = s.objs ∧ t.tu.spaces = s.tu.spaces ∧ t.tu.fring = s.tu.fring ∧ t.flt.ring = s.flt.ring ∧
  t.sync.nring = s.sync.nring ∧ t.sync.value = s.sync.value ∧ t.sync.ctrl = s.sync.ctrl ∧
  t.flt.first = s.flt.first ∧ t.mgmt.chainAddr = s.mgmt.chainAddr ∧ t.sched.acct = s.sched.acct ∧ t.aoncnt = s.aoncnt

/-- The dictionary is served: the chain logic runs, the MP of this start runs and its queue has room for every class (R380, R409,
R411, R426), and no ownership lease has run out. -/
def DictionaryServed (s : State) : Prop :=
  chainOn s = true ∧ s.pins.thermtrip = false ∧ frozen s = false ∧ s.start.state = 1 ∧ mpStarted s = true ∧
  s.mgmt.mpHeld = false ∧ s.mgmt.mpRestart = none ∧ s.mgmt.mpQueue < 192 ∧ leaseOver s = false

/-- Master `m` is registered and owns the block, and the dictionary is served, between two commands. -/
def OwnerServed (m : Nat) (s : State) : Prop :=
  DictionaryServed s ∧ s.asleep = false ∧ (getMaster s m).used = true ∧ s.mgmt.owner = some m ∧ s.acts = []

/-- The block has answered master `m` with DONE. -/
def AnsweredDone (m : Nat) (t : State) : Prop := t.out.head? = some (Out.answer m ⟨0, .ok, 0, []⟩)

/-- A write of this object does more than store the value (Tables 1.8, 3.x, 14.x, 15.x, 16.9 and their chapters). -/
def ActsWhenWritten (base sub : Nat) : Prop :=
  (base, sub) ∈ [(0x1100, 7), (0x1100, 0x0B), (0x2000, 1), (0x3000, 3), (0x3801, 2), (0x4101, 2), (0x6001, 2), (0x8000, 5), (0x8000, 0x12),
    (0x8000, 0x1B), (0x8800, 1), (0x8800, 2), (0x8800, 3), (0x8800, 8), (0x9000, 7), (0x9400, 5), (0x9400, 6), (0x9400, 7), (0x9400, 9),
    (0x9400, 0x0B), (0x9800, 2)] ∨ base = 0x5410 ∨ (base = 0x5001 ∧ sub ≤ 16)

/-- A chain frame for this block, acted on by it alone: it runs, holds the frame's address, and the frame is a sound request. -/
def ChainRequest (f : Frame) (s : State) : Prop :=
  chainOn s = true ∧ f.crcOk = true ∧ f.resp = false ∧ s.mgmt.chainAddr ≠ 0 ∧ f.dest.toNat = s.mgmt.chainAddr ∧ f.dest ≠ 0xFF#8 ∧ s.acts = []

/-- The frame verifies under the session of a registered master (R387). -/
def FromMaster (m : Nat) (f : Frame) (s : State) : Prop := verifiedMaster s f = some m ∧ (getMaster s m).kept = []

/-- Nothing is in flight: no port, queue or array has work, the caches and the directory hold nothing, and no watch is registered. -/
def Idle (s : State) : Prop :=
  s.acts = [] ∧ s.ports = [] ∧ s.queues = [] ∧ s.arrays.arr = [] ∧ s.coh.near = [] ∧ s.coh.dir = [] ∧ s.coh.dev = [] ∧ s.coh.txns = [] ∧
  s.coh.queued = [] ∧ s.coh.fabric = [] ∧ s.coh.missing = [] ∧ s.coh.evicting = [] ∧ s.coh.wbs = [] ∧ s.sync.watches = [] ∧
  s.sync.held = [] ∧ s.flt.grace = [] ∧ s.ftest.run = none

/-- Raising a fault record owes nothing: fewer than 64 grace timers run, and the fault ring, where there is one, lies outside device
memory. -/
def RecordsQuietly (s : State) : Prop :=
  s.flt.grace.length < 64 ∧ (ringOn s.flt.ring = true → target (ringAddr s.flt.ring 64) = .host)

/-- The responder serves a request over this transport, between two commands (R392, R411, R419). -/
def SpdmServed (v : Via) (s : State) : Prop := viaOn s v = true ∧ s.asleep = false ∧ s.acts = []

/-- The block has answered over the transport with this response, and the request's pieces are used up. -/
def AnsweredOver (v : Via) (rsp : String) (data : List Byte) (s t : State) : Prop :=
  t.out = .spdm v rsp data :: s.out ∧ tget [] t.mgmt.spdmIn (viaKey v) = []

/-- The register target is served whole, and nothing else of the block is at work. -/
def RegServed (s : State) : Prop := regStage s = 2 ∧ s.asleep = false ∧ s.acts = []

/-- The writes of a command are answered: a core gets their statuses, newest first, a host's posted writes none. -/
def RegAnswers (w : Requester) (sts : List Status) (s t : State) : Prop :=
  t.out = (if isCore w then sts.map Out.regRsp else []) ++ s.out

/-- No link of a host port retrains: what a port has to send goes out at once (R293). -/
def LinksCarry (s : State) : Prop := ∀ p, (getHost s p).link ≠ 5

/-- A well-formed host sync request of operation `op` for context `x`, counter `c` and count `n`, with no watch registered. -/
def HostSync (op : Nat) (raw : BitVec 128) (c x n : Nat) (s : State) : Prop :=
  RegServed s ∧ heldResults s < 64 ∧ syncMalformed (syncWord raw op) true = false ∧ fld raw 0 17 = c ∧ fld raw 20 12 = x ∧ fld raw 64 32 = n ∧ n ≠ 0 ∧
  ctxState s x = 1 ∧ boundTo s.sync c x = true ∧ s.sync.watches = []

/-- The storage has no error still to be found, and no access of it can put a host line out of the device cache. -/
def QuietStorage (s : State) : Prop := s.mem.flaws = [] ∧ ∀ l ∈ s.coh.dev, target (l.1 * 256) ≠ .host

/-- Core port `p` has nothing in progress, its near cache serves, and its core has given a response credit. -/
def CorePortFree (p : Nat) (s : State) : Prop :=
  fabOn s = true ∧ s.acts = [] ∧ (getPort s p).ops = [] ∧ (getPort s p).held = [] ∧ (getPort s p).deferred = [] ∧ (getPort s p).lost = [] ∧
  (getPort s p).hold = [] ∧ (getPort s p).seen = [] ∧ 0 < (getPort s p).respCredits ∧ (getPort s p).nearFenced = false

/-- A sound request of context `atCtx r.attr`, READY, whose bytes translate to `x`, in cacheable device memory that the context may
access (R159, R176, R194). -/
def SoundAccess (r : CoreReq) (x : Extent) (s : State) : Prop :=
  CorePortFree r.port s ∧ ctxState s (atCtx r.attr) = 1 ∧ reqMalformed r = false ∧
  checkFootprint (tlbsOfPort r.port) true (fld (getCtx s (atCtx r.attr)) 116 12)
    [⟨r.va.toNat, reqLen r, needOf (newOp 0 .mem r 0 0)⟩] (enterOp .mem r s) = (.good [x], enterOp .mem r s) ∧
  accessVerdict s (atCtx r.attr) x.keySlot x.pa (reqLen r) = .ok ∧ (target x.pa = .stacks ∨ target x.pa = .scratch) ∧ x.cache ≠ 2

/-- The block has answered request `r` (Table 17.13). -/
def Responds (r : CoreReq) (st : Status) (scFail : Bool) (d : Line) (s t : State) : Prop :=
  t.out = .core r.port (.response ⟨st, scFail, d⟩ (atStream r.attr) r.tag) :: s.out

/-- Granule `g` holds `d`, and every byte outside it reads as before. -/
def OnlyGranule (g : Nat) (d : Nat → Byte) (s t : State) : Prop :=
  (∀ i, i < 64 → byteAt t (g * 64 + i) = d i) ∧ ∀ a, a < g * 64 ∨ g * 64 + 64 ≤ a → byteAt t a = byteAt s a

/-- CLK_FAB runs, between two commands, and the clock of array `a`'s cluster is not stopped. -/
def ArrayRuns (a : Nat) (s : State) : Prop := fabOn s = true ∧ s.acts = [] ∧ (getCluster s (a / 4)).stopped = false

/-- The home slices can let an access read and write these extents at once: no transaction, writeback, holder or host line is in its way
(R220, R231, R232). -/
def WayClear (s : State) (reads writes : List Extent) : Prop := ∀ b ∈ bulkGranules true writes ++ bulkGranules false reads, bulkWaits s b = false

/-- Course `c` of command `idx` of queue `q` runs alone on array `a`, without signal, peers or open verdicts. -/
def RunsAlone (a : Nat) (c : Course) (q idx : Nat) (k : Cmd) (s : State) : Prop :=
  ArrayRuns a s ∧ (getArr s a).courses = [c] ∧ (getArr s a).run = some c.id ∧ c.src = .queue q idx ∧ (getQueue s q).cmds = [k] ∧ k.idx = idx ∧ k.fin = none ∧ k.staged = [] ∧
  flag (getQueue s q).cfg 192 = false ∧ cdSignal c.raw = false ∧ s.peers = [] ∧ c.bound = [] ∧ c.rowSeq = []

/-- The course has left its array with this status, and its command carries the result (Table 4.4). -/
def CourseEnded (a unit : Nat) (c : Course) (q : Nat) (st : Status) (obs : Int) (s t : State) : Prop :=
  (getArr t a).courses = [] ∧ (getArr t a).run = none ∧ ctr t 0x4100 5 = ctr s 0x4100 5 + 1 ∧
  ∃ k, (getQueue t q).cmds = [k] ∧ k.fin = some st ∧ k.detail = courseResult c unit st obs

/-- The state in which a course's footprint is checked: its descriptors have been read. -/
def afterHeads (a : Nat) (c : Course) (hx : List Extent) (s : State) : State := dropLanded (.array a c.id) (noteExtents c.ctx 4 hx s)

/-- A course that its array may make ready: its descriptors `hx` and its footprint `foot` are present, allowed, unpoisoned and in
device memory, and it passes its checks (R104 to R107, R466). -/
def Acceptable (a : Nat) (c : Course) (hx foot : List Extent) (s : State) : Prop :=
  let space := fld (getCtx s c.ctx) 116 12
  let s1 := afterHeads a c hx s
  let oS := readOd s1 (queueExt s) c hx (cdStreamOp c.raw)
  let oT := readOd s1 (queueExt s) c hx (cdStatOp c.raw)
  let oO := readOd s1 (queueExt s) c hx (cdOutOp c.raw)
  s.peers = [] ∧ structureOk c.raw = true ∧ checkFootprint (tlbsOfArray a) true space (descHeads c.raw) s = (.good hx, s) ∧
  checkFootprint (tlbsOfArray a) true space (courseSegs c.raw oS oT oO) s1 = (.good foot, s1) ∧
  (∀ x ∈ hx, accessVerdict s c.ctx x.keySlot x.pa x.len = .ok ∧ runPoison s c.ctx x.pa x.len = false ∧ (target x.pa = .stacks ∨ target x.pa = .scratch)) ∧
  (∀ x ∈ foot, accessVerdict s1 c.ctx x.keySlot x.pa x.len = .ok ∧ (target x.pa = .stacks ∨ target x.pa = .scratch)) ∧
  (∀ va, footPoison s1 c.ctx foot va = false) ∧ courseVerdict s1 c oS oT oO = .ok ∧ odFmt oS ≠ 10 ∧ chainedWait s1 c = false

/-- Nothing that a course, or the chain before it in the array's store, reads or writes lies in a peer window. -/
def NoPeers (a : Nat) (c : Course) (s : State) : Prop :=
  (∀ x ∈ c.foot, target x.pa ≠ .peer) ∧ ∀ k ∈ (getArr s a).store.members, ∀ x ∈ k.foot, target x.pa ≠ .peer

/-- No droop stop holds the unit `u`: the clock of an array's cluster runs (R116). -/
def UnitRuns (u : Nat) (s : State) : Prop := 0x4000 ≤ u → u < 0x40C0 → (getCluster s ((u - 0x4000) / 4)).stopped = false

/-- Two fault records can be taken one after the other: the grace list has room, and a ring that is on lies in host memory. -/
def RecordsTwice (s : State) : Prop :=
  s.flt.grace.length + 1 < 64 ∧ (ringOn s.flt.ring = true → target (ringAddr s.flt.ring 64) = .host ∧ target (ringAddr (ringBump s.flt.ring) 64) = .host)

/-- Queue `q`, not journaled, runs with the checked slot `v` of a READY context at its head and no started command. -/
def SlotWaits (q : Nat) (v : BitVec 2048) (s : State) : Prop :=
  fabOn s = true ∧ s.acts = [] ∧ isJournaled s q = false ∧ (getQueue s q).state = 1 ∧ (getQueue s q).head = some v ∧ (getQueue s q).cmds = [] ∧
  (getQueue s q).waits = [] ∧ cqRoom (getQueue s q) = true ∧ ctxState s (queueCtx s q) = 1

/-- The waiting slot is well formed (R257). -/
def SlotReady (q : Nat) (v : BitVec 2048) (s : State) : Prop :=
  SlotWaits q v s ∧ slotMalformed (confidential s (queueCtx s q)) v = false

/-- The slot has left the head: its command is started, with this outcome. -/
def Started (q : Nat) (v : BitVec 2048) (fin : Option Status) (s t : State) : Prop :=
  (getQueue t q).cons = ((getQueue s q).cons + 1) % 2 ^ 32 ∧ (getQueue t q).head = none ∧ (getQueue t q).state = (getQueue s q).state ∧
  ∃ c, (getQueue t q).cmds = [c] ∧ c.slot = v ∧ c.idx = (getQueue s q).cons ∧ c.started = true ∧ c.fin = fin

/-- The state in which a copy's or a digest's footprint is checked: its command has started. -/
def afterStart (q : Nat) (v : BitVec 2048) (s : State) : State :=
  enterCmd q (newCmd (getQueue s q).cons ((getQueue s q).epoch * 2 ^ 32 + (getQueue s q).cons) v true) false s

/-- The footprint of the starting command is present in device memory and its context may access it. -/
def FootOk (q : Nat) (v : BitVec 2048) (segs : List Segment) (foot : List Extent) (s : State) : Prop :=
  s.tu.invals = [] ∧ s.tu.recs = [] ∧
  checkFootprint tlbsOfService false (fld (getCtx s (queueCtx s q)) 116 12) segs (afterStart q v s) = (.good foot, afterStart q v s) ∧
  ∀ x ∈ foot, accessVerdict s (queueCtx s q) x.keySlot x.pa x.len = .ok ∧ (target x.pa = .stacks ∨ target x.pa = .scratch)

/-- Where slot CONS of queue `q` lies. -/
def slotPlace (s : State) (q : Nat) : Nat := qRing (getQueue s q).cfg + 256 * ((getQueue s q).cons % 2 ^ qRingLog2 (getQueue s q).cfg)

/-- What the home slices are asked for when slot CONS is read: nothing for a ring in host memory, whose bytes the host brings. -/
def slotExtent (s : State) (q : Nat) : List Extent :=
  if target (slotPlace s q) = .host then [] else [⟨0, slotPlace s q, 256, qKey (getQueue s q).cfg, 2, false, false⟩]

/-- What the home slices are asked for when the next completion record of queue `q` is written. -/
def cqExtent (s : State) (q : Nat) : List Extent :=
  if target (cqPlace (getQueue s q)) = .host then [] else [⟨0, cqPlace (getQueue s q), 32, qKey (getQueue s q).cfg, 2, false, false⟩]

/-- A journaled queue runs, its host path carries, and its journal has room; `c` is its one command and `r` the one record that it holds, which
is confirmed. No course waits. -/
def JournalRuns (q : Nat) (c : Cmd) (r : JRecord) (s : State) : Prop :=
  fabOn s = true ∧ s.acts = [] ∧ s.mem.flaws = [] ∧ s.peers = [] ∧ s.arrays.arr = [] ∧ proxyAlive s = true ∧ LinksCarry s ∧ isJournaled s q = true ∧ (getQueue s q).jrn.state = 1 ∧
  (getQueue s q).cmds = [c] ∧ c.started = true ∧ (getQueue s q).jrn.recs = [r] ∧ r.confirmed = true ∧ c.doneMark = false ∧ c.doneRec = false ∧ c.doneNum = none ∧ c.waitRec = none ∧
  c.folds = [] ∧ c.keptFrames = [] ∧ 160 ≤ 2 ^ qJLog2 (getQueue s q).cfg - subMod 32 (getQueue s q).jrn.jprod r.num

/-- The next record of the journal has this content and has been sent to its place (Table 11.6). -/
def RecordSent (q type cseq argA argB : Nat) (st : Status) (s t : State) : Prop :=
  (getQueue t q).jrn.jprod = ((getQueue s q).jrn.jprod + 1) % 2 ^ 32 ∧
  ∃ p, Out.hostWrite p (recordAddr (getQueue s q) (getQueue s q).jrn.jprod)
    (bytesOf 32 (journalImage q (qJLog2 (getQueue s q).cfg) (getQueue s q).jrn.jprod type cseq argA argB st)) false ∈ t.out

/-- CLK_FAB runs, nothing is open or waits at a home, no home slice is fenced, the directory and the device cache are empty, and no block or
stored granule is in error. -/
def HomesQuiet (s : State) : Prop :=
  fabOn s = true ∧ s.acts = [] ∧ s.coh.dir = [] ∧ s.coh.txns = [] ∧ s.coh.queued = [] ∧ s.coh.dev = [] ∧ s.coh.homeState = [] ∧ s.coh.missing = [] ∧
  s.coh.through = [] ∧ s.mem.flaws = [] ∧ (s.xfers.all fun y => !y.write) = true

/-- A request of a near cache for a stack granule, not poisoned. -/
def NearRequest (r : CohReq) (s : State) : Prop :=
  HomesQuiet s ∧ r.agent < 192 ∧ target r.pa = .stacks ∧ target (r.pa / 64 * 64) = .stacks ∧ r.pa / 64 / 4 * 4 * 64 + 256 ≤ 2 ^ 48 ∧ poisonAt s (r.pa / 64) = false

/-- Granule `g` holds `d` in the bytes that `m` names, and every byte outside it reads as before. -/
def WrittenUnder (g : Nat) (d : Line) (m : Word) (s t : State) : Prop :=
  (∀ i, i < 64 → maskBit m i = true → byteAt t (g * 64 + i) = lineByte d i) ∧ ∀ a, a < g * 64 ∨ g * 64 + 64 ≤ a → byteAt t a = byteAt s a

/-- The near cache of port `p` holds granule `g` in state `st`, serves, and owes no writeback and no hold window. -/
def Holds (p g : Nat) (l : NearLine) (s : State) : Prop :=
  fabOn s = true ∧ s.acts = [] ∧ getNear s p g = l ∧ (getPort s p).nearFenced = false ∧ (p, g) ∉ s.coh.wbs ∧ ∀ w ∈ (getPort s p).hold, w.1 ≠ g

/-- Granule `g`, of the stacks, has the open transaction `x` of a near cache; its home waits for the answer of holder `p`. -/
def Awaits (g p : Nat) (k : CohKind) (x : Txn) (s : State) : Prop :=
  fabOn s = true ∧ s.acts = [] ∧ getTxn s g = some x ∧ x.kind = k ∧ x.form = .plain ∧ x.asked = [p] ∧ x.wbWait = none ∧ x.req.agent < 192 ∧ x.req.agent ≠ p ∧ x.req.pa / 64 = g ∧
  target x.req.pa = .stacks ∧ target (g * 64) = .stacks ∧ s.coh.queued = [] ∧ s.coh.dev = [] ∧ s.coh.homeState = [] ∧ s.mem.flaws = [] ∧ poisonAt s g = false ∧
  (getPort s x.req.agent).nearFenced = false ∧ blockOut s g = false

/-- A granule of host memory that no near cache holds, in a line of the device cache. -/
def HostLine (g : Nat) (d : DevLine) (s : State) : Prop :=
  fabOn s = true ∧ s.acts = [] ∧ LinksCarry s ∧ target (g * 64) = .host ∧ getDir s g = {} ∧ getLine s (g / 4) = some d ∧ d.sh.length = 4 ∧
  getTxn s g = none ∧ ∀ q ∈ s.coh.queued, q.req.pa / 64 ≠ g

/-- Link `l` is active under a session, has nothing to send, to resend or to return, and its logic runs. -/
def LinkActive (l : Nat) (p : PeerLink) (s : State) : Prop :=
  linkOn s = true ∧ fabOn s = true ∧ s.freeze.hold = 0 ∧ s.acts = [] ∧ getPeer s l = p ∧ p.state = 3 ∧ p.session.isSome = true ∧ p.outq = [] ∧ p.replay = []

/-- Nothing changed but link `l`, what the block put out, and counters. -/
def OnlyLink (l : Nat) (s t : State) : Prop :=
  (∀ k, k ≠ l → getPeer t k = getPeer s k) ∧ { t with peers := s.peers, out := s.out, ctrs := s.ctrs, wraps := s.wraps } = s

/-- The oldest message received on link `l`, active, is the request `m` with `data`, whose window lets it at `pa` as the window's context
with the window's key slot; no cache holds anything, its home slices have nothing else to do for these bytes, and no block of them
still awaits a check. -/
def PeerAsks (l op need : Nat) (m : BitVec 256) (data : List Byte) (pa : Nat) (s : State) : Prop :=
  (∃ p, LinkActive l p s ∧ p.inbox = [(m, data)]) ∧ pmOp m = op ∧ s.coh.dir = [] ∧ s.coh.dev = [] ∧
  windowVerdict s l (pmWindow m) (pmOffset m) (pmSize m + 1) need false = .ok ∧ pa = winBase s l (pmWindow m) + pmOffset m ∧
  accessVerdict s (winCtx s l (pmWindow m)) (winSlot s l (pmWindow m)) pa (pmSize m + 1) = .ok ∧ pmSize m < 256 ∧ pa % 64 + pmSize m + 1 ≤ 64 ∧
  (target pa = .stacks ∨ target pa = .scratch) ∧ granulePoison s (winCtx s l (pmWindow m)) (pa / 64) = false ∧ s.mem.flaws = [] ∧
  WayClear s [⟨0, pa, pmSize m + 1, winSlot s l (pmWindow m), 0, false, false⟩]
    (if need = needR then [] else [⟨0, pa, pmSize m + 1, winSlot s l (pmWindow m), 0, false, false⟩]) ∧
  unchecked s (0x2000 + l) (pa / 64) = false

/-- What the window's context reads of the granule that holds `pa`. -/
def windowLine (s : State) (l : Nat) (m : BitVec 256) (pa : Nat) : Line := granuleData s (winCtx s l (pmWindow m)) (winSlot s l (pmWindow m)) (pa / 64)

/-- The block has returned the request's credits and answered it with this message, whose data slots begin with `data`; it keeps the
answer until the peer has acknowledged it. -/
def PeerAnswered (l op : Nat) (m : BitVec 256) (st : Status) (blocks : Nat) (data : List Byte) (s t : State) : Prop :=
  ∃ a f, t.out = .peerFlit l 1 f :: .peerFlit l 0 a :: s.out ∧ a.reqCredits.val = min 63 ((getPeer s l).owedReq + 1) ∧
  f.body.extractLsb' 0 256 = pmMake op st.code (pmTag m) 0 blocks 0 0 0 0 0 ∧ fld f.slots 0 2 = 1 ∧
  (∀ i, i < data.length → f.body.extractLsb' (256 + 8 * i) 8 = data.getD i 0) ∧ (getPeer t l).inbox = [] ∧ (getPeer t l).replay.length = 1

/-- Operation `o`, of the memory, is all that core port `p` has; it waits on request `r` of link `l`, which is all that the links wait
for, and the oldest message received is `m`, with `data`. -/
def PeerAwaits (l p : Nat) (o : PortOp) (r : PeerReq) (m : BitVec 256) (data : List Byte) (s : State) : Prop :=
  CorePortFree p { s with ports := tset {} s.ports p { getPort s p with ops := [] } } ∧ (getPort s p).ops = [o] ∧ o.phase = .peer 0 ∧ o.what = .mem ∧ o.answer = none ∧
  o.answered = false ∧ target o.pa = .peer ∧ r.waiter = .portOp p o.id ∧ r.landed = false ∧ r.remote = false ∧
  (∃ k : PeerLink, s.peers = [(l, k)] ∧ k.out = [r] ∧ k.inbox = [(m, data)])

/-- The operation ended so: the core has its response, its port and the link wait for nothing, and memory is as it was. -/
def PeerEnded (l p : Nat) (o : PortOp) (a : Answer) (s t : State) : Prop :=
  t.out = .core p (.response a (opStream o) o.req.tag) :: s.out ∧ (getPort t p).ops = [] ∧ (getPeer t l).out = [] ∧ t.mem = s.mem ∧ t.objs = s.objs

/-- The counter operation was refused with a report: counted, and a record of severity NOTE; no counter and no watch changed. -/
def CounterError (s t : State) : Prop :=
  ctr t 0x6800 0x0B = ctr s 0x6800 0x0B + 1 ∧ t.flt.serial = (s.flt.serial + 1) % 2 ^ 32 ∧ ctr t 0x8000 0x08 = ctr s 0x8000 0x08 + 1 ∧ t.sync = s.sync

/-- `q` is a finite value of format `f`. -/
def IsValue (f : Nat) (q : ℚ) : Prop := ∃ code n e, code < 2 ^ fmtBits f ∧ decodeElem f false code = .fin n e ∧ q = n * (2 : ℚ) ^ e

/-- What acts while the block is frozen (R426, R429): its pins, the chain and its SPDM, and what the MP serves outside the held clocks. Every other
command finds its clock stopped. -/
def ActsWhileFrozen (c : Instr) : Bool :=
  match c with
  | .pwrOkRise | .pwrOkFall | .coldRstNAssert | .warmRstNAssert | .resetRelease _ | .freezeNFall | .freezeNRise | .railPgFall _
  | .railPgRise _ | .frameForward _ _ _ | .token _ | .addrGrant _ | .chainRead _ _ | .chainWrite _ _ | .chainDescribe _ _ | .spdmFrame _
  | .register _ _ _ | .claim _ _ _ | .handover _ _ _ | .ownerRelease _ _ _ | .renew _ _ _ | .mailboxDictionary _ _ _ _ | .mailboxSpdm _ _
  | .chainPartnerLost | .chainSymbolLock | .dictionaryWrite _ _ _ _ | .cacheSteps _ _ | .arrayFence _ _ _ | .homeSliceFence _ _ _
  | .engineFence _ _ _ | .nearFence _ _ | .windowControl _ _ _ _ | .decContext _ _ _ _ _ | .pointRequested _ _ | .firstClear _ _
  | .ownerKill _ _ | .restoreDefaults _ _ | .retryMask _ _ | .pkgOffset _ _ | .pkgData _ _ | .pkgCommit _ _ | .testRun _ _ | .fwOffset _ _
  | .fwData _ _ | .fwCommit _ _ | .fwActivate _ _ | .debugUnlock _ _ | .linkHold _ _ | .hpPerstNFall _ | .hpPerstNRise _ | .droopStop _
  | .droopClear _ _ | .droopWarn _ | .tapReset _ => true
  | _ => false

end Sys2Proof
end

