-- ==== Sys2Proof/Certificates/Slice0/Obligations.lean ====
section
/-! DEFINITION. The statements for the provers. Each docstring begins with the rules of spec/ that the statement rests on. -/

section
open Sys2Proof Sys2Proof.Machine

/-- A step takes the command at the front of the queue and gives it its effect on the state with the queue's rest. On an empty queue the block
idles for one tick of CLK_AON, while its always-on domain runs; the MP takes an entry of its queue, and the power unit looks at its clusters
and at the idle conditions (DESIGN CHOICE, log 1, 43 and 159). -/
def Obligations.StepTakesTheFrontOrIdles : Prop :=
  (∀ (c : Instr) (s : State), step { s with pending := c :: s.pending } = exec c s) ∧
  (∀ (s : State), s.pending = [] → ∃ t, step s = .next t ∧ (aonRuns s = true → t.aoncnt = s.aoncnt + 1) ∧ (aonRuns s = false → t = s) ∧
    (aonRuns s = true → t.mgmt.mpQueue = s.mgmt.mpQueue - 1) ∧
    { t with aoncnt := s.aoncnt, sched.tickNj := s.sched.tickNj, mgmt.mpQueue := s.mgmt.mpQueue, power.idleFrom := s.power.idleFrom,
             power.clusters := s.power.clusters } = s)

/-- R299, R320, R394, R444: reset leaves no work: nothing is pending or owed, memory lists nothing, every context is FREE, every counter 0, no
master is registered, every peer receiver has granted 256 request and 1,024 data credits, and no start runs. -/
def Obligations.ResetLeavesNoWork : Prop :=
  State.reset.pending = [] ∧ State.reset.acts = [] ∧ State.reset.mem.bytes = [] ∧ Memory.wf State.reset.mem.bytes = true ∧ State.reset.objs = [] ∧
  State.reset.ctrs = [] ∧ (∀ c, ctxState State.reset c = 0) ∧ State.reset.sync.watches = [] ∧ (∀ c, valueOf State.reset.sync c = 0) ∧
  (∀ l, (getPeer State.reset l).reqCredits = 256 ∧ (getPeer State.reset l).dataCredits = 1024) ∧ State.reset.mgmt.masters = [] ∧ State.reset.mgmt.owner = none ∧
  State.reset.mgmt.chainAddr = 0 ∧ State.reset.aoncnt = 0 ∧ State.reset.start.running = [] ∧ frozen State.reset = false

/-- Whatever command is in front, a step keeps device memory in its one canonical form. The canonical form is the model's own (an unlisted byte
reads as 0, log 12). -/
def Obligations.MemoryStaysCanonical : Prop :=
  ∀ (s t : State), Memory.wf s.mem.bytes = true → step s = .next t → Memory.wf t.mem.bytes = true

/-- Whatever command is in front, a step answers a next state that owes nothing; no command ends a run. Owed work is the model's own record (log
19). -/
def Obligations.EveryStepEndsWithNothingOwed : Prop :=
  ∀ (s : State), s.acts = [] → Safe s ∧ ∀ t, step s = .next t → t.acts = []

/-- R426, R428: in a frozen block no clock domain steps: a command that is none of those that act then leaves everything as it is. -/
def Obligations.AFrozenBlockHoldsItsState : Prop :=
  ∀ (s : State) (c : Instr), frozen s = true → s.acts = [] → ActsWhileFrozen c = false → exec c s = .next s

/-- R435, R434, Table 17.4: when PWR_OK falls the block stops at once and loses everything, retained AON storage included. What the carrier's
flash holds lies outside the block (log 2). Table 17.4, R434, R437: COLD_RST_N held low, or a rail that the block needs falling, resets
everything outside retained AON storage; the next start has START_KIND 1. -/
def Obligations.PowerLossAndColdReset : Prop :=
  (∀ s : State, ∃ t, exec .pwrOkFall s = .next t ∧
    t.pins.pwrOk = false ∧ t.pins.railEn = 0 ∧ t.start.inReset = true ∧
    t.aoncnt = 0 ∧ t.objs = [] ∧ t.ctrs = [] ∧ t.wraps = [] ∧ t.mem.bytes = [] ∧ t.mem.tags = [] ∧ t.mem.slots = [] ∧
    t.flt = {} ∧ t.start.cur = [] ∧ t.start.prev = [] ∧ t.mgmt.oldAddr = 0 ∧ t.sync = {} ∧ t.sched = {} ∧ t.queues = [] ∧
    t.ports = [] ∧ t.arrays = {} ∧ t.coh = {} ∧ t.tu = {} ∧
    t.mgmt.mirror = s.mgmt.mirror ∧ t.start.mirrored = s.start.mirrored ∧ t.pending = s.pending) ∧
  (∀ s : State, s.pins.pwrOk = true → ∃ t, exec .coldRstNAssert s = .next t ∧
    t.pins = { s.pins with coldN := false } ∧ KeptByColdReset s t) ∧
  (∀ (s : State) (r : Fin 24), s.pins.pwrOk = true → s.pins.fallen = [] →
    (r.val ≤ 20 ∧ nbit s.pins.railEn r.val = true) ∨ r.val = 23 → ∃ t, exec (.railPgFall r) s = .next t ∧
    t.pins.fallen = [r.val] ∧ nbit t.pins.railPg r.val = false ∧ KeptByColdReset s t)

/-- R404, R434, R435, R437: a start is due at the later of PWR_OK's rise and the rise of the reset that is released; while another reset is
still held none is due. R426, R428, R429, R460: FREEZE_N low stops the clocks with every other bit of state held and records AONCNT; its
rise resumes a block whose links were held, and resets any other one with START_KIND 3; TRST_N resets the TAP alone. -/
def Obligations.StartsAndFreezesFollowTheirInputs : Prop :=
  (∀ s : State, s.acts = [] → s.pins.pwrOk = false → s.pins.coldN = true → s.pins.warmN = true → s.pins.fallen = [] →
    exec .pwrOkRise s = .next { s with pins.pwrOk := true, pins.railEn := 0x600000, start.inReset := false, start.kind := 0, start.due := true }) ∧
  (∀ s : State, s.acts = [] → s.pins.pwrOk = false → s.pins.coldN = false →
    exec .pwrOkRise s = .next { s with pins.pwrOk := true, pins.railEn := 0x600000, start.inReset := true, start.kind := 0 }) ∧
  (∀ s : State, s.acts = [] → s.pins.pwrOk = true → s.pins.coldN = false → s.pins.warmN = true → s.pins.fallen = [] → s.start.inReset = true →
    exec (.resetRelease true) s = .next { s with pins.coldN := true, start.inReset := false, start.due := true }) ∧
  (∀ s : State, s.acts = [] → s.pins.pwrOk = true → s.pins.coldN = true → s.pins.warmN = false → s.pins.fallen = [] → s.start.inReset = true →
    exec (.resetRelease false) s = .next { s with pins.warmN := true, start.inReset := false, start.due := true }) ∧
  (∀ s : State, s.acts = [] → s.pins.coldN = false → s.pins.warmN = false → s.start.inReset = true →
    exec (.resetRelease false) s = .next { s with pins.warmN := true }) ∧
  (∀ (s : State) (r : Fin 24), s.acts = [] → s.pins.pwrOk = true → s.pins.coldN = true → s.pins.warmN = true → s.pins.fallen = [r.val] →
    exec (.railPgRise r) s = .next { s with pins.railPg := putBits s.pins.railPg r.val 1 1, pins.fallen := [], start.inReset := false, start.due := true }) ∧
  (∀ s : State, s.acts = [] → s.pins.pwrOk = true → s.start.inReset = false → s.pins.fallen = [] → s.freeze.state = 0 →
    exec .freezeNFall s = .next { s with pins.freezeN := false, freeze.state := 1, freeze.aoncnt := s.aoncnt }) ∧
  (∀ s : State, s.acts = [] → s.freeze.state = 1 → s.freeze.hold = 2 → (∀ l, (getPeer s l).state ≠ 4) →
    ∃ t, exec .freezeNRise s = .next t ∧ t.pins = { s.pins with freezeN := true } ∧ t.freeze = { s.freeze with state := 0 } ∧
      (∀ p : HostId, getHost t p = if (getHost s p).link = 6 then { getHost s p with link := 2 } else getHost s p) ∧
      { t with pins := s.pins, freeze := s.freeze, hosts := s.hosts } = s) ∧
  (∀ s : State, s.pins.pwrOk = true → s.pins.coldN = true → s.pins.warmN = true → s.pins.fallen = [] → s.freeze.state = 1 → s.freeze.hold ≠ 2 →
    ∃ t, exec .freezeNRise s = .next t ∧ t.start.kind = 3 ∧ t.start.inReset = false ∧ t.start.due = true ∧ t.freeze = {} ∧ t.pins.freezeN = true) ∧
  (∀ (s : State) (low : Bool), s.acts = [] → exec (.tapReset low) s = .next { s with
    pins.trstN := !low, power.tap := if low then .idcode else s.power.tap })

/-- R407, R408: WARM_RST_N clears every range TLB, walk, page-fault record and link session, and begins a start of kind 2; of a block with no
work in flight it keeps memory, tags, keys, objects, address spaces, the rings' registers, the sync counters and the accounting. That the
MP's sessions end with the reset is the model's choice (log 74). -/
def Obligations.WarmResetKeepsWhatR408Lists : Prop :=
  (∀ s : State, s.pins.pwrOk = true → s.pins.coldN = true → s.pins.fallen = [] → ∃ t, exec .warmRstNAssert s = .next t ∧
    t.pins.warmN = false ∧ t.start.inReset = true ∧ t.start.kind = 2 ∧ t.start.due = false ∧
    t.tu.tlb = [] ∧ t.tu.walks = [] ∧ t.tu.recs = [] ∧ t.tu.invals = [] ∧ t.coh.near = [] ∧ t.coh.dir = [] ∧
    t.sec.sessions = [] ∧ t.peers = [] ∧ t.flt.grace = [] ∧ t.freeze = {} ∧ t.acts = []) ∧
  (∀ s : State, s.pins.pwrOk = true → s.pins.coldN = true → s.pins.fallen = [] → s.ports = [] → s.arrays.arr = [] → s.coh.dev = [] →
    s.ftest.run = none → s.queues = [] → ∃ t, exec .warmRstNAssert s = .next t ∧ t.sync.watches = [] ∧
      KeptByWarmReset s t)

/-- R436, R293, R439, R422, R448: a host link's events at a port that is down, training, idle or retraining. -/
def Obligations.HostLinkEventsAtOnePort : Prop :=
  (∀ (s : State) (p : HostId), s.acts = [] → (getHost s p).link = 0 → ∃ t, exec (.hpPerstNFall p) s = .next t ∧
    (getHost t p).perst = false ∧ (getHost t p).link = 0 ∧ ctr t (0x5001 + p) 0x16 = ctr s (0x5001 + p) 0x16 + 1 ∧
    (∀ q : HostId, q ≠ p → getHost t q = getHost s q) ∧ { t with hosts := s.hosts, ctrs := s.ctrs, wraps := s.wraps } = s) ∧
  (∀ (s : State) (p : HostId), s.acts = [] → ∃ t, exec (.hpPerstNRise p) s = .next t ∧
    (getHost t p).perst = true ∧ (getHost t p).link = (if (getHost s p).link = 0 then 1 else (getHost s p).link) ∧
    (∀ q : HostId, q ≠ p → getHost t q = getHost s q) ∧ { t with hosts := s.hosts } = s) ∧
  (∀ (s : State) (p : HostId), s.acts = [] → linkOn s = true → s.asleep = false → 2 ≤ (getHost s p).link → (getHost s p).link ≠ 5 →
    ∃ t, exec (.hostLinkRetrain p) s = .next t ∧ (getHost t p).link = 5 ∧ (getHost t p).retrainStart = some s.aoncnt ∧
    (∀ q : HostId, q ≠ p → getHost t q = getHost s q) ∧ { t with hosts := s.hosts } = s) ∧
  (∀ (s : State) (p : HostId) (w r : Byte) (n : Nat), s.acts = [] → linkOn s = true → s.ports = [] → (getHost s p).link = 5 →
    (getHost s p).retrainStart = some n → s.aoncnt ≤ n + 5000000 → ∃ t, exec (.hostLinkTrained p w r) s = .next t ∧
    (getHost t p).link = 2 ∧ (getHost t p).width = w.toNat ∧ (getHost t p).rate = r.toNat ∧ (getHost t p).retrainStart = none ∧
    (getHost t p).longest = max (getHost s p).longest (s.aoncnt - n) ∧ ctr t (0x5001 + p) 0x14 = ctr s (0x5001 + p) 0x14 + 1) ∧
  (∀ (s : State) (p : HostId), s.acts = [] → linkOn s = true → (getHost s p).link = 2 ∨ (getHost s p).link = 3 →
    (getHost s p).lastUse + obj s (0x5001 + p) 0x19 5000 ≤ s.aoncnt → (getHost s p).readbacks = [] → (getHost s p).asked = [] →
    (getHost s p).bisnp = [] → ∃ t, exec (.l1IdleExpiry p) s = .next t ∧ (getHost t p).link = 4 ∧
    (∀ q : HostId, q ≠ p → getHost t q = getHost s q) ∧ { t with hosts := s.hosts } = s)

/-- R116, R454, R20, R90, R24, R17, R453: what the droop inputs, gating and the power port do to one cluster, and to no other. -/
def Obligations.ClusterEventsTouchOneCluster : Prop :=
  (∀ (s : State) (c : ClusterId), s.acts = [] → ∃ t, exec (.droopStop c) s = .next t ∧ (getCluster t c).stopped = true ∧
    (∀ d, d ≠ c.val → getCluster t d = getCluster s d) ∧ { t with power.clusters := s.power.clusters } = s) ∧
  (∀ (s : State) (c : ClusterId), s.acts = [] → aonRuns s = true → s.asleep = false → (getCluster s c).stopped = true → RecordsQuietly s →
    (∀ a, 4 * c.val ≤ a → a < 4 * c.val + 4 → (getArr s a).fencing = none) →
    ∃ t, exec (.droopStopPersists c) s = .next t ∧ getCluster t c = { getCluster s c with stopped := false, half := true } ∧
      ctr t 0x4100 7 = ctr s 0x4100 7 + 1 ∧ (∀ d, d ≠ c.val → getCluster t d = getCluster s d) ∧ t.arrays = s.arrays ∧ t.objs = s.objs) ∧
  (∀ (s : State) (c : ClusterId), s.acts = [] → (∀ a, 4 * c.val ≤ a → a < 4 * c.val + 4 → (getArr s a).fencing = none) →
    ∃ t, exec (.droopClear c false) s = .next t ∧
    getCluster t c = { getCluster s c with stopped := false, half := false } ∧
    (∀ d, d ≠ c.val → getCluster t d = getCluster s d) ∧ { t with power.clusters := s.power.clusters } = s) ∧
  (∀ (s : State) (c : ClusterId), s.acts = [] → ∃ t, exec (.droopClear c true) s = .next t ∧
    getCluster t c = { getCluster s c with warned := false } ∧
    (∀ d, d ≠ c.val → getCluster t d = getCluster s d) ∧ { t with power.clusters := s.power.clusters } = s) ∧
  (∀ (s : State) (c : ClusterId), s.acts = [] → ∃ t, exec (.droopWarn c) s = .next t ∧
    getCluster t c = { getCluster s c with warned := true } ∧
    (∀ d, d ≠ c.val → getCluster t d = getCluster s d) ∧ { t with power.clusters := s.power.clusters } = s) ∧
  (∀ (s : State) (c : ClusterId), s.acts = [] → aonRuns s = true → s.asleep = false → (getCluster s c).rowDue ≤ s.aoncnt →
    (∀ a, 4 * c.val ≤ a → a < 4 * c.val + 4 → runningCourse s a = none ∧ (getArr s a).current = false) →
    ∃ t, exec (.clusterIdleExpiry c) s = .next t ∧ getCluster t c = { getCluster s c with gated := true } ∧
    (∀ d, d ≠ c.val → getCluster t d = getCluster s d) ∧ { t with power.clusters := s.power.clusters } = s) ∧
  (∀ (s : State) (c : ClusterId), s.acts = [] → aonRuns s = true → s.asleep = false →
    rowFree s c = true ∨ s.power.pointAt + 500 ≤ s.aoncnt → ∃ t, exec (.powerPointSwitch c) s = .next t ∧
    getCluster t c = { getCluster s c with point := obj s 0x2000 2 1 } ∧
    (∀ d, d ≠ c.val → getCluster t d = getCluster s d) ∧ { t with power.clusters := s.power.clusters } = s) ∧
  (∀ (s : State) (a : ArrayId), s.acts = [] → aonRuns s = true → s.asleep = false →
    (getArr s a).courses.any (startable s) = false → ∃ t, exec (.rampDown a) s = .next t ∧
    getArr t a = { getArr s a with current := false } ∧ (∀ b, b ≠ a.val → getArr t b = getArr s b) ∧
    { t with arrays.arr := s.arrays.arr } = s) ∧
  (∀ (s : State) (g : BitVec 12), s.acts = [] → aonRuns s = true →
    exec (.grantStb g) s = .next { s with power.grant := g.toNat })

/-- R455, R351, R163, R451: the sensors, the trip, retention, self-refresh and a stack PHY's update. R402: a link's margin under traffic moves
its record to STATE 2 or 3; re-equalising takes STATE 3 back to 1. -/
def Obligations.SensorsRetentionAndLinkRecords : Prop :=
  (∀ (s : State) (k : Fin 64) (v : BitVec 12), s.acts = [] → aonRuns s = true → 1000 ≤ v.toInt → RecordsQuietly s →
    ∃ t, exec (.thermtrip k v) s = .next t ∧ t.pins.thermtrip = true ∧
      (s.pins.thermtrip = false → Out.pin "THERMTRIP_N" 0 false ∈ t.out) ∧
      t.objs = s.objs ∧ t.arrays = s.arrays ∧ (s.asleep = false → t.power = s.power ∧ t.ports = s.ports)) ∧
  (∀ (s : State) (temps volts : List (BitVec 12)), s.acts = [] → aonRuns s = true → s.asleep = false → temps.length = 64 → volts.length = 24 →
    (∀ v ∈ temps, v.toInt ≤ (obj s 0x2000 9 840 : Nat) ∧ v.toInt < 1000) → ∃ t, exec (.sensorSample temps volts) s = .next t ∧
      (∀ k (h : k < temps.length), tget 0 t.flt.temps k = temps[k]) ∧ (∀ k (h : k < volts.length), tget 0 t.flt.volts k = volts[k]) ∧
      { t with flt.temps := s.flt.temps, flt.volts := s.flt.volts } = s) ∧
  (∀ (s : State) (n : Fin 192), s.acts = [] → aonRuns s = true → s.asleep = false → tget 64 s.power.loftDue n.val ≤ s.aoncnt →
    exec (.loftIdleExpiry n) s = .next { s with mem.retained := tset false s.mem.retained n.val true }) ∧
  (∀ (s : State) (k : StackId), s.acts = [] → aonRuns s = true → s.asleep = false → (getStack s k).active = true →
    tget 2500 s.power.stackDue k.val ≤ s.aoncnt → ∃ t, exec (.srDelayExpiry k) s = .next t ∧
    getStack t k = { getStack s k with selfRefresh := true } ∧ (∀ j, j ≠ k.val → getStack t j = getStack s j) ∧
    { t with mem.stackRecs := s.mem.stackRecs } = s) ∧
  (∀ (s : State) (k : StackId) (c : Fin 32), s.acts = [] → aonRuns s = true → s.asleep = false → ∃ t, exec (.phyInitiatedUpdate k c true) s = .next t ∧
    c.val ∈ (getStack t k).updating ∧ (∀ j, j ≠ k.val → getStack t j = getStack s j) ∧ { t with mem.stackRecs := s.mem.stackRecs } = s) ∧
  (∀ (s : State) (k : StackId) (c : Fin 32), s.acts = [] → aonRuns s = true → s.asleep = false → ∃ t, exec (.phyInitiatedUpdate k c false) s = .next t ∧
    c.val ∉ (getStack t k).updating ∧ (∀ j, j ≠ k.val → getStack t j = getStack s j) ∧ { t with mem.stackRecs := s.mem.stackRecs } = s) ∧
  (∀ (s : State) (k : StackId), s.acts = [] → aonRuns s = true → (getStack s k).active = true → (getStack s k).fenced = [] →
    s.coh.dev = [] → s.ports = [] → RecordsQuietly s → ∃ t, exec (.stackPgFall k) s = .next t ∧ (getStack t k).pg = false ∧ (getStack t k).fenced = List.range 32 ∧
    ctr t 0x8000 0x16 = ctr s 0x8000 0x16 + 32) ∧
  (∀ (s : State) (l : Fin 14) (m : Byte), s.acts = [] → linkOn s = true → s.asleep = false → (getLink s l).state = 1 →
    ∃ t, exec (.linkMarginCheck l m) s = .next t ∧ (getLink t l).margin = m.toNat ∧
      (getLink t l).state = (if obj s (0x2131 + l) 3 30 ≤ m.toNat then 2 else 3) ∧ (getLink t l).since = s.aoncnt ∧
      nbit t.power.linksProv l = decide (¬ obj s (0x2131 + l) 3 30 ≤ m.toNat) ∧
      ctr t 0x2100 0x0A = ctr s 0x2100 0x0A + 1 ∧ (∀ k, k ≠ l.val → getLink t k = getLink s k)) ∧
  (∀ (s : State) (l : Fin 14), s.acts = [] → linkOn s = true → s.asleep = false → (getLink s l).state = 3 →
    ∃ t, exec (.linkReequalise l) s = .next t ∧ (getLink t l).state = 1 ∧ nbit t.power.linksProv l = true ∧
      (∀ k, k ≠ l.val → getLink t k = getLink s k) ∧ { t with power.links := s.power.links, power.linksProv := s.power.linksProv } = s)

/-- R21, R450, Table 1.6: a wake event starts CLK_FAB and raises every CPn_AWAKE; the idle block falls asleep, its loft retained, its stacks in
self-refresh and every CPn_AWAKE low. -/
def Obligations.SleepAndWake : Prop :=
  (∀ s : State, s.acts = [] → dataOn s = true → s.asleep = true → ∃ t, exec .wakeEvent s = .next t ∧ t.asleep = false ∧
    (∀ p : PortId, (getPort t p).awake = true) ∧ (∀ p, { getPort t p with awake := (getPort s p).awake } = getPort s p) ∧
    { t with ports := s.ports, asleep := s.asleep } = s) ∧
  (∀ s : State, s.acts = [] → fabOn s = true → exec .wakeEvent s = .next s) ∧
  (∀ s : State, s.acts = [] → fabOn s = true → idleLong s = true → s.start.state = 1 → allIdle s = true →
    ∃ t, exec .sleepDelayExpiry s = .next t ∧ t.asleep = true ∧ (∀ p : PortId, (getPort t p).awake = false) ∧
      (∀ k ∈ activeStacks s, (getStack t k).selfRefresh = true) ∧ (∀ n : Fin 192, tget false t.mem.retained n = true) ∧
      t.mem.bytes = s.mem.bytes ∧ t.objs = s.objs ∧ t.sync = s.sync ∧ t.sched = s.sched) ∧
  (∀ (s : State) (p : PortId) (high : Bool), s.acts = [] → fabOn s = true → ∃ t, exec (.cpnWake p high) s = .next t ∧
    getPort t p = { getPort s p with wake := high } ∧ (∀ q, q ≠ p.val → getPort t q = getPort s q) ∧ { t with ports := s.ports } = s) ∧
  (∀ (s : State) (p : PortId), s.acts = [] → dataOn s = true → s.asleep = true → ∃ t, exec (.cpnWake p true) s = .next t ∧
    t.asleep = false ∧ (getPort t p).wake = true ∧ (getPort t p).awake = true)

/-- R404 to R407, R409, R412: a start runs its steps in order: S00 first, or, after a warm reset, its kept entry; a mandatory step that passes
hands over to the next; the last one makes the block READY; a mandatory step that fails both attempts ends in SAFE. -/
def Obligations.StartRunsItsStepsInOrder : Prop :=
  (∀ s : State, s.acts = [] → s.start.due = true → aonRuns s = true → s.start.inReset = false → s.pins.freezeN = true → s.pins.fallen = [] →
    s.start.kind ≤ 1 → ∃ t, exec .startBegin s = .next t ∧ t.start.due = false ∧ t.start.state = 0 ∧ t.start.step = 0 ∧
      t.start.running = [0] ∧ t.start.cur = [] ∧ t.start.forget = s.start.retryMask ∧ t.start.retryMask = 0 ∧
      t.pins.railEn = 0x7FFFFF ∧ ctr t 0x9000 0x0A = ctr s 0x9000 0x0A + 1 ∧ t.objs = s.objs ∧ t.mem = s.mem) ∧
  (∀ s : State, s.acts = [] → s.start.due = true → aonRuns s = true → s.start.inReset = false → s.pins.freezeN = true → s.pins.fallen = [] →
    2 ≤ s.start.kind → ∃ t, exec .startBegin s = .next t ∧ t.start.running = [1] ∧ t.start.step = 1 ∧
      entryStatus (tget 0 t.start.cur 0) = entryStatus (tget 0 s.start.prev 0) ∧ flag (tget 0 t.start.cur 0) 3 = true ∧
      fld (tget 0 t.start.cur 0) 24 8 = 0 ∧ ctr t 0x9000 0x0A = ctr s 0x9000 0x0A + 1 ∧ t.mem = s.mem) ∧
  (∀ (s : State) (r : StepReport), s.acts = [] → aonRuns s = true → s.start.state = 0 → s.start.step = 1 → s.start.running = [1] →
    r.fails.length ≤ 1 → (∀ f ∈ r.fails, unitOk f.1.toNat = true) → ∃ t, exec (.startStepComplete 1 r) s = .next t ∧ entryStatus (tget 0 t.start.cur 1) = 1 ∧
      fld (tget 0 t.start.cur 1) 24 8 = r.fails.length + 1 ∧ t.start.step = 2 ∧ t.start.running = [2] ∧ t.start.state = 0 ∧
      { t with start := s.start } = s) ∧
  (∀ (s : State) (r : StepReport), s.acts = [] → aonRuns s = true → s.start.state = 0 → s.start.step = 23 → s.start.running = [23] →
    r.fails.length ≤ 1 → (∀ f ∈ r.fails, unitOk f.1.toNat = true) → obj s 0x9000 8 0 = 0 → ∃ t, exec (.startStepComplete 23 r) s = .next t ∧ entryStatus (tget 0 t.start.cur 23) = 1 ∧
      t.start.state = 1 ∧ t.start.running = [] ∧ t.start.mirrored = t.start.cur ∧ t.mem = s.mem ∧ t.queues = s.queues) ∧
  (∀ (s : State) (k : Fin 24) (r : StepReport), s.acts = [] → aonRuns s = true → s.start.state = 0 → k.val ∈ s.start.running →
    stepType k = 0 → 2 ≤ r.fails.length → (∀ f ∈ r.fails, unitOk f.1.toNat = true) → ∃ t, exec (.startStepComplete k r) s = .next t ∧ t.start.state = 2 ∧ t.start.running = [] ∧
      entryStatus (tget 0 t.start.cur k) = 2 ∧ t.start.mirrored = t.start.cur ∧ ctr t 0x9000 0x0B = ctr s 0x9000 0x0B + 1 ∧ t.objs = s.objs) ∧
  (∀ (s : State) (r : Fin 24), s.acts = [] → aonRuns s = true → s.start.running = [0] → r.val ≤ 20 → nbit s.pins.railPg r = false →
    ∃ t, exec (.railPgTimeout r) s = .next t ∧ t.start.state = 2 ∧ t.start.running = [] ∧ entryStatus (tget 0 t.start.cur 0) = 2 ∧
      fld (tget 0 t.start.cur 0) 40 8 = 0x23 ∧ ctr t 0x9000 0x0B = ctr s 0x9000 0x0B + 1 ∧ t.objs = s.objs) ∧
  (∀ s : State, s.acts = [] → aonRuns s = true → s.start.state = 0 → s.start.step = 22 → s.start.running = [22] →
    s.start.s22Since + obj s 0x9000 9 1500000000 ≤ s.aoncnt → ∃ t, exec .journalWaitExpiry s = .next t ∧ t.start.step = 23 ∧
      t.start.running = [23] ∧ entryStatus (tget 0 t.start.cur 22) = (if anyHeld s then 4 else 1) ∧ t.queues = s.queues ∧
      { t with start := s.start } = s)

/-- R382, R383, R377, R416, R428: the management processor's own events, and the end of a link hold's quiescing. -/
def Obligations.ManagementProcessorEvents : Prop :=
  (∀ s : State, s.acts = [] → aonRuns s = true → s.asleep = false → s.pins.thermtrip = false → s.mgmt.mpHeld = false → mpStarted s = true →
    s.ftest.run = none → RecordsQuietly s → ∃ t, exec .mpWatchdogExpiry s = .next t ∧ t.mgmt.mpQueue = 0 ∧
      ctr t 0x1100 0x0D = ctr s 0x1100 0x0D + 1 ∧
      (if 2 ≤ (s.mgmt.expiries.filter fun x => s.aoncnt - x < 500000000).length then t.mgmt.mpHeld = true ∧ t.mgmt.mpRestart = none
        else t.mgmt.mpHeld = false ∧ t.mgmt.mpRestart = some (s.aoncnt + 10000000)) ∧ t.objs = s.objs ∧ t.mgmt.owner = s.mgmt.owner) ∧
  (∀ s : State, s.acts = [] → aonRuns s = true → s.mgmt.mpRestart.isSome = true → s.fw.starting = false →
    exec .mpRestarted s = .next { s with mgmt.mpRestart := none }) ∧
  (∀ s : State, s.acts = [] → aonRuns s = true → s.mgmt.mpRestart.isSome = true → s.fw.starting = true → ∃ t, exec .mpRestarted s = .next t ∧
    t.mgmt.mpRestart = none ∧ t.fw.starting = false ∧ t.fw.svn = imageNum s.fw.image 8 1 ∧ t.fw.version = imageNum s.fw.image 4 4 ∧
    t.sec.svn = max s.sec.svn (imageNum s.fw.image 8 1) ∧ { t with mgmt := s.mgmt, fw := s.fw, sec := s.sec } = s) ∧
  (∀ (s : State) (i : BitVec 16) (j : Byte), s.acts = [] → aonRuns s = true → okey i.toNat j.toNat ∈ s.mgmt.mirrorPending →
    s.mgmt.mpRestart = none → s.mgmt.mpHeld = false → ∃ t, exec (.mirrorComplete i j true) s = .next t ∧
      tget none t.mgmt.mirror (okey i.toNat j.toNat) = tget none s.objs (okey i.toNat j.toNat) ∧
      t.mgmt.mirrorPending = s.mgmt.mirrorPending.erase (okey i.toNat j.toNat) ∧ { t with mgmt := s.mgmt } = s) ∧
  (∀ (s : State) (same : Bool), s.acts = [] → aonRuns s = true → s.asleep = false → s.fw.state = 3 → s.start.state ≠ 3 →
    exec (.fwReadBack same) s = .next { s with fw.state := if same then 4 else 6 }) ∧
  (∀ s : State, s.acts = [] → aonRuns s = true → s.freeze.hold = 1 → quiesced s = true → (∀ l, (getPeer s l).state ≠ 3) →
    ∃ t, exec .holdComplete s = .next t ∧ t.freeze = { s.freeze with hold := 2 } ∧
      (∀ p : HostId, (getHost t p).link = if 2 ≤ (getHost s p).link then 6 else (getHost s p).link) ∧
      { t with hosts := s.hosts, freeze := s.freeze } = s) ∧
  (∀ s : State, s.acts = [] → aonRuns s = true → s.freeze.hold = 1 → quiesced s = false → s.freeze.holdSince + 5000000 ≤ s.aoncnt →
    exec .holdComplete s = .next { s with freeze.hold := 3 })

/-- R367 to R370: the heating limit, the patterns' end and the run's time limit. R401, R398: the adaptive monitor's new record, the guard's
fall, and the governor's tick. -/
def Obligations.FieldTestCalibrationAndGovernor : Prop :=
  (∀ (s : State) (r : TestRun), s.acts = [] → aonRuns s = true → s.ftest.run = some r → r.heating = true → r.started + 5000000 ≤ s.aoncnt →
    ∃ t r', exec .heatingLimit s = .next t ∧ t.ftest.run = some r' ∧ r'.heating = false ∧ r'.req = r.req ∧ r'.started = r.started ∧
      { t with ftest.run := s.ftest.run } = s) ∧
  (∀ (s : State) (r : TestRun) (a b c : BitVec 16), s.acts = [] → aonRuns s = true → s.asleep = false → s.ftest.run = some r → r.heating = false →
    RecordsQuietly s → ∃ t, exec (.fieldTestResult a b c) s = .next t ∧ t.ftest.run = none ∧ fld t.ftest.result 0 8 = 0 ∧
      flag t.ftest.result 8 = decide (c = 0) ∧ fld t.ftest.result 24 16 = c.toNat ∧ fld t.ftest.result 40 16 = b.toNat ∧
      fld t.ftest.result 56 16 = a.toNat ∧ ctr t 0x8800 0x0B = ctr s 0x8800 0x0B + 1 ∧
      ctr t 0x8800 0x0C = ctr s 0x8800 0x0C + (if c = 0 then 0 else 1) ∧ t.objs = s.objs ∧ t.ports = s.ports) ∧
  (∀ (s : State) (r : TestRun) (a b c : BitVec 16), s.acts = [] → aonRuns s = true → s.asleep = false → s.ftest.run = some r →
    r.started + imageNum s.ftest.pkg 0x14 4 < s.aoncnt → RecordsQuietly s → ∃ t, exec (.maxTicksExpiry a b c) s = .next t ∧
      t.ftest.run = none ∧ fld t.ftest.result 0 8 = 0x23 ∧ fld t.ftest.result 56 16 = a.toNat ∧
      ctr t 0x8800 0x0B = ctr s 0x8800 0x0B + 1 ∧ t.objs = s.objs ∧ t.ports = s.ports) ∧
  (∀ (s : State) (c : ClusterId) (load : Byte), s.acts = [] → aonRuns s = true → s.asleep = false → (getCluster s c).provisional = true →
    250000000 ≤ (getCluster s c).counted → ∃ t, exec (.adaptTicksReached c load) s = .next t ∧ (getCluster t c).provisional = false ∧
      (getCluster t c).source = 3 ∧ (getCluster t c).load = load.toNat ∧ (getCluster t c).guard = 0 ∧
      (getCluster t c).vNominal = (getCluster s c).vNominal + (getCluster s c).guard ∧ (getCluster t c).taken = s.aoncnt ∧
      ctr t 0x2100 9 = ctr s 0x2100 9 + 1 ∧ (∀ d, d ≠ c.val → getCluster t d = getCluster s d) ∧ t.mem = s.mem) ∧
  (∀ (s : State) (c : ClusterId), s.acts = [] → aonRuns s = true → s.asleep = false → (getCluster s c).provisional = true → 50000000 ≤ (getCluster s c).quiet →
    ∃ t, exec (.guardLower c) s = .next t ∧ getCluster t c = { getCluster s c with guard := (getCluster s c).guard - 5, quiet := 0 } ∧
      (∀ d, d ≠ c.val → getCluster t d = getCluster s d) ∧ { t with power.clusters := s.power.clusters } = s) ∧
  (∀ (s : State) (p : BitVec 12), s.acts = [] → aonRuns s = true → s.asleep = false → ∃ t, exec (.governorTick p []) s = .next t ∧ t.power.limit = limitOf s ∧
    t.power.power = p.toNat ∧
    t.power.issue = (nextIssue s.power.issue s.power.below p.toNat (if hot s then 900 * limitOf s else 1000 * limitOf s)).1 ∧
    ctr t 0x2000 0x0B = ctr s 0x2000 0x0B + (if s.power.issue < 32 then 1 else 0) ∧ t.arrays = s.arrays ∧ t.objs = s.objs)

/-- R385, R386, R390, R391, R452: frames pass along the chain, TOKEN and ADDR_GRANT set the chain address, SPDM bytes collect, and the lower
port gains and loses its partner. -/
def Obligations.ChainFramesAndAddresses : Prop :=
  (∀ (s : State) (n : Fin 257) (f : Frame), s.acts = [] → chainOn s = true → f.crcOk = true → f.typ.val < 0x0D →
    exec (.frameForward false n f) s = .next { s with out := .chain true f :: s.out }) ∧
  (∀ (s : State) (n : Fin 257) (f : Frame), s.acts = [] → chainOn s = true → f.crcOk = false → ∃ t, exec (.frameForward false n f) s = .next t ∧
    ctr t 0x1100 0x0E = ctr s 0x1100 0x0E + 1 ∧ { t with ctrs := s.ctrs, wraps := s.wraps } = s) ∧
  (∀ (s : State) (n : Fin 257) (f : Frame), s.acts = [] → chainOn s = true → f.crcOk = true → f.typ.val < 0x0D → f.typ ≠ 0 →
    s.pins.chainDown = true → f.dest ≠ 0xFF#8 → f.dest.toNat ≠ s.mgmt.chainAddr →
    exec (.frameForward true n f) s = .next { s with out := .chain false f :: s.out, mgmt.mpQueue := n.val }) ∧
  (∀ (s : State) (f : Frame), s.acts = [] → chainOn s = true → f.crcOk = true → f.data.toNat < 254 → ∃ t, exec (.token f) s = .next t ∧
    t.mgmt.chainAddr = f.data.toNat + 1 ∧ t.mgmt.oldAddr = f.data.toNat + 1 ∧
    (s.pins.chainDown = true → t.out = .chain false { f with typ := 0, data := BitVec.ofNat 32 (f.data.toNat + 1) } :: s.out) ∧
    (s.pins.chainDown = false → ∃ g, t.out = .chain true g :: s.out ∧ g.typ = 1 ∧ g.dest = 0 ∧ g.data = BitVec.ofNat 32 (f.data.toNat + 1)) ∧
    { t with out := s.out, mgmt := s.mgmt } = s) ∧
  (∀ (s : State) (f : Frame), s.acts = [] → chainOn s = true → f.crcOk = true → 254 ≤ f.data.toNat → ∃ t, exec (.token f) s = .next t ∧
    t.mgmt.chainAddr = 0 ∧ { t with out := s.out, mgmt := s.mgmt } = s) ∧
  (∀ (s : State) (f : Frame), s.acts = [] → chainOn s = true → f.crcOk = true → f.dest = 0xFF#8 → s.mgmt.nonce = some (fld f.data 8 24) → fld f.data 0 8 ≠ 0xFF →
    ∃ t, exec (.addrGrant f) s = .next t ∧ t.mgmt.chainAddr = fld f.data 0 8 ∧ t.mgmt.oldAddr = fld f.data 0 8 ∧ t.mgmt.nonce = none ∧
      { t with out := s.out, mgmt := s.mgmt } = wakeUp s) ∧
  (∀ (s : State) (f : Frame), ChainRequest f s → ∃ t, exec (.spdmFrame f) s = .next t ∧
    tget [] t.mgmt.spdmIn 0 = tget [] s.mgmt.spdmIn 0 ++ bytesOf 4 f.data ∧ { t with mgmt := s.mgmt } = wakeUp s) ∧
  (∀ s : State, s.acts = [] → exec .chainPartnerLost s = .next { s with pins.chainDown := false }) ∧
  (∀ s : State, s.acts = [] → exec .chainSymbolLock s = .next { s with pins.chainDown := true })

/-- R394, R395, R393: elections, leases and registrations end at their time. -/
def Obligations.OwnershipFollowsTheClaims : Prop :=
  (∀ (s : State) (w m : Nat), s.acts = [] → aonRuns s = true → s.mgmt.owner = none → s.mgmt.electing = some w → w ≤ s.aoncnt → m < 8 →
    candidate s m = true → (∀ k, k < 8 → candidate s k = true → (getMaster s k).claim < (getMaster s m).claim ∨ ((getMaster s k).claim = (getMaster s m).claim ∧ m ≤ k)) →
    ∃ t, exec .electionWindowEnd s = .next t ∧ t.mgmt.owner = some m ∧ t.mgmt.electing = none ∧ t.mgmt.lease = s.aoncnt + 250000000 ∧
      ctr t 0x1100 0x10 = ctr s 0x1100 0x10 + 1 ∧ { t with mgmt := s.mgmt, ctrs := s.ctrs, wraps := s.wraps } = s) ∧
  (∀ (s : State) (w : Nat), s.acts = [] → aonRuns s = true → s.mgmt.owner = none → s.mgmt.electing = some w → w ≤ s.aoncnt →
    (∀ k, k < 8 → candidate s k = false) → exec .electionWindowEnd s = .next { s with mgmt.electing := none }) ∧
  (∀ (s : State) (m : Nat), s.acts = [] → aonRuns s = true → s.mgmt.owner = some m → s.mgmt.lease ≤ s.aoncnt → ∃ t, exec .leaseLapse s = .next t ∧
    t.mgmt.owner = none ∧ (getMaster t m).claim = 0 ∧ ctr t 0x1100 0x11 = ctr s 0x1100 0x11 + 1 ∧
    ((∃ k, k < 8 ∧ k ≠ m ∧ candidate s k = true) → t.mgmt.electing = some (s.aoncnt + obj s 0x1100 6 5000)) ∧
    { t with mgmt := s.mgmt, ctrs := s.ctrs, wraps := s.wraps } = s) ∧
  (∀ (s : State) (m : MasterId), s.acts = [] → aonRuns s = true → (getMaster s m).used = true → (getMaster s m).last + 3000000000 ≤ s.aoncnt →
    ∃ t, exec (.registrationExpiry m) s = .next t ∧ (getMaster t m).used = false ∧ (s.mgmt.owner = some m.val → t.mgmt.owner = none) ∧
      (∀ k, k ≠ m.val → getMaster t k = getMaster s k) ∧ { t with mgmt := s.mgmt } = s)

/-- R387, R389, R393, R394, R395: what a verified request over the chain does. R392: a mailbox command reads a whole object at once, and carries
SPDM bytes. -/
def Obligations.ChainAndMailboxRequestsAreServed : Prop :=
  (∀ (s : State) (n : Fin 257) (f : Frame) (o : Obj) (r : Rec), ChainRequest f s → DictionaryServed { s with mgmt.mpQueue := n.val } → f.session = none → f.index = 0x1000#16 →
    f.seg = 0 → recOf 0x1000 = some r → f.sub ≠ 0xFF#8 → objAt 0x1000 f.sub.toNat = some o → o.acc ≠ .wo → ∃ t g, exec (.chainRead n f) s = .next t ∧
      t.out = .chain true g :: s.out ∧ g.resp = true ∧ g.disp = 0 ∧ g.dest = f.src ∧ g.tag = f.tag ∧
      g.data = BitVec.ofNat 32 (ofLe ((objBytes { s with mgmt.mpQueue := n.val } r 0x1000 f.sub.toNat o).take 4)) ∧ t.objs = s.objs ∧ t.mem = s.mem) ∧
  (∀ (s : State) (n : Fin 257) (f : Frame), ChainRequest f s → DictionaryServed { s with mgmt.mpQueue := n.val } → f.session = none → f.index ≠ 0x1000#16 →
    ∃ t g, exec (.chainRead n f) s = .next t ∧ t.out = .chain true g :: s.out ∧ g.disp = 2 ∧ g.status = 0x13#8 ∧ t.objs = s.objs ∧ t.mem = s.mem) ∧
  (∀ (s : State) (m : Nat) (n : Fin 257) (f : Frame), ChainRequest f s → DictionaryServed { s with mgmt.mpQueue := n.val } → FromMaster m f s → m < 8 →
    ∃ t g, exec (.chainDescribe n f) s = .next t ∧ t.out = .chain true g :: s.out ∧ g.resp = true ∧
      g.data = BitVec.ofNat 32 (ofLe (describe true f.index.toNat f.sub.toNat).data) ∧ (getMaster t m).last = s.aoncnt ∧ t.objs = s.objs) ∧
  (∀ (s : State) (m : Nat) (n : Fin 257) (f : Frame) (r : Rec) (o : Obj), ChainRequest f s → DictionaryServed { s with mgmt.mpQueue := n.val } →
    FromMaster m f s → s.mgmt.owner = some m → recOf f.index.toNat = some r → objAt f.index.toNat f.sub.toNat = some o → (o.acc = .rw ∨ o.acc = .rwp) → o.ty.size = 4 → f.seg = 0 →
    inRange s r.base f.sub.toNat (ofLe (bytesOf 4 f.data)) = true → ¬ ActsWhenWritten r.base f.sub.toNat → o.ty ≠ .bool →
    ∃ t, exec (.chainWrite n f) s = .next t ∧ (∀ d, obj t f.index.toNat f.sub.toNat d = f.data.toNat) ∧
      (o.acc = .rwp → okey f.index.toNat f.sub.toNat ∈ t.mgmt.mirrorPending) ∧ t.mgmt.lease = s.aoncnt + 250000000 ∧ t.mem = s.mem) ∧
  (∀ (s : State) (n : Fin 257) (f : Frame) (x : Session) (m : Nat), ChainRequest f s → DictionaryServed { s with mgmt.mpQueue := n.val } →
    f.session = some x.id → findSession s x.id = some x → x.master = true → verifiedMaster s f = none →
    (∀ k, k < 8 → (getMaster s k).used = true → (getMaster s k).session ≠ x.id) → m < 8 → (getMaster s m).used = false →
    (∀ k, k < m → (getMaster s k).used = true) → ∃ t g, exec (.register 0 n f) s = .next t ∧ (getMaster t m).used = true ∧
      (getMaster t m).session = x.id ∧ (getMaster t m).path = 0 ∧ (getMaster t m).claim = 0 ∧ (getMaster t m).digest = x.digest ∧
      t.out = .chain true g :: s.out ∧ g.data = BitVec.ofNat 32 m ∧ (∀ k, k ≠ m → getMaster t k = getMaster s k)) ∧
  (∀ (s : State) (m : Nat) (n : Fin 257) (f : Frame), ChainRequest f s → s.pins.thermtrip = false → leaseOver s = false → FromMaster m f s → m < 8 → s.mgmt.owner = none → s.mgmt.electing = none →
    fld f.data 0 8 ≠ 0 → ∃ t, exec (.claim 0 n f) s = .next t ∧ (getMaster t m).claim = fld f.data 0 8 ∧
      t.mgmt.electing = some (s.aoncnt + obj s 0x1100 6 5000) ∧ t.mgmt.owner = none ∧ t.objs = s.objs) ∧
  (∀ (s : State) (m : Nat) (n : Fin 257) (f : Frame), ChainRequest f s → leaseOver s = false → FromMaster m f s → m < 8 → s.mgmt.owner = some m →
    fld f.data 0 8 < 8 → candidate s (fld f.data 0 8) = true → ∃ t, exec (.handover 0 n f) s = .next t ∧
      t.mgmt.owner = some (fld f.data 0 8) ∧ t.mgmt.lease = s.aoncnt + 250000000 ∧ t.objs = s.objs) ∧
  (∀ (s : State) (m : Nat) (n : Fin 257) (f : Frame), ChainRequest f s → leaseOver s = false → FromMaster m f s → m < 8 → s.mgmt.owner = some m →
    ∃ t, exec (.ownerRelease 0 n f) s = .next t ∧ t.mgmt.owner = none ∧ (getMaster t m).claim = 0 ∧ t.objs = s.objs) ∧
  (∀ (s : State) (m : Nat) (n : Fin 257) (f : Frame), ChainRequest f s → leaseOver s = false → FromMaster m f s → m < 8 → s.mgmt.owner = some m →
    ∃ t, exec (.renew 0 n f) s = .next t ∧ t.mgmt.owner = some m ∧ t.mgmt.lease = s.aoncnt + 250000000 ∧ t.objs = s.objs) ∧
  (∀ (s : State) (p : HostId) (n : Fin 257) (f : Frame) (r : Rec) (o : Obj), s.acts = [] → s.asleep = false → mailboxOn s p = true →
    DictionaryServed { s with mgmt.mpQueue := n.val } → f.typ = 4 → f.session = none → f.index = 0x1000#16 → f.sub ≠ 0xFF#8 →
    recOf 0x1000 = some r → objAt 0x1000 f.sub.toNat = some o → o.acc ≠ .wo →
    exec (.mailboxDictionary p n f []) s = .next { s with
      out := .mailbox p f ⟨0, .ok, 0, objBytes { s with mgmt.mpQueue := n.val } r 0x1000 f.sub.toNat o⟩ :: s.out, free := s.free + 1, mgmt.mpQueue := n.val }) ∧
  (∀ (s : State) (p : HostId) (n : Fin 257) (f : Frame) (bs : List Byte) (m : Nat) (r : Rec) (o : Obj), s.acts = [] → s.asleep = false → mailboxOn s p = true →
    DictionaryServed { s with mgmt.mpQueue := n.val } → f.typ = 5 → FromMaster m f s → s.mgmt.owner = some m → recOf f.index.toNat = some r →
    objAt f.index.toNat f.sub.toNat = some o → (o.acc = .rw ∨ o.acc = .rwp) → o.ty ≠ .bool → bs.length = o.ty.size →
    inRange s r.base f.sub.toNat (ofLe bs) = true → ¬ ActsWhenWritten r.base f.sub.toNat →
    ∃ t, exec (.mailboxDictionary p n f bs) s = .next t ∧ (∀ d, obj t f.index.toNat f.sub.toNat d = ofLe bs) ∧
      t.out = .mailbox p f ⟨0, .ok, 0, []⟩ :: s.out ∧ t.mem = s.mem) ∧
  (∀ (s : State) (p : HostId) (bs : List Byte), s.acts = [] → s.asleep = false → mailboxOn s p = true → ∃ t, exec (.mailboxSpdm p bs) s = .next t ∧
    tget [] t.mgmt.spdmIn (1 + p) = tget [] s.mgmt.spdmIn (1 + p) ++ bs ∧ { t with mgmt := s.mgmt } = s)

/-- R375, R377, Table 15.3: the owner's write of an object that only stores takes effect whole: the object reads as written, nothing else of the
block changes but the master's own record and the mirror that it owes; anyone else's write is refused. -/
def Obligations.OwnerWriteStoresTheValue : Prop :=
  (∀ (s : State) (m : MasterId) (i : BitVec 16) (j : Byte) (bs : List Byte) (r : Rec) (o : Obj), OwnerServed m s → recOf i.toNat = some r →
    objAt i.toNat j.toNat = some o → o.acc ≠ .const → o.acc ≠ .ro → bs.length = o.ty.size → (o.ty = .bool → ofLe bs < 2) →
    inRange s r.base j.toNat (ofLe bs) = true → ¬ ActsWhenWritten r.base j.toNat →
    ∃ t, exec (.dictionaryWrite m i j bs) s = .next t ∧ (∀ d, obj t i.toNat j.toNat d = ofLe bs) ∧
      (∀ a b d, okey a b ≠ okey i.toNat j.toNat → obj t a b d = obj s a b d) ∧ (o.acc = .rwp → okey i.toNat j.toNat ∈ t.mgmt.mirrorPending) ∧
      AnsweredDone m t ∧ t.mgmt.lease = s.aoncnt + 250000000 ∧ { t with objs := s.objs, out := s.out, mgmt := s.mgmt } = s) ∧
  (∀ (s : State) (m : MasterId) (i : BitVec 16) (j : Byte) (bs : List Byte) (o : Obj), DictionaryServed s → s.asleep = false → s.acts = [] → (getMaster s m).used = true →
    s.mgmt.owner ≠ some m.val → objAt i.toNat j.toNat = some o → ∃ t, exec (.dictionaryWrite m i j bs) s = .next t ∧
      t.out.head? = some (Out.answer m ⟨2, .rightsFault, 0, []⟩) ∧ { t with out := s.out, mgmt := s.mgmt } = s)

/-- R154, R397, R353, R377, R406, R427, R428, R396: the owner's writes that act on the block as a whole. -/
def Obligations.OwnerWritesThatAct : Prop :=
  (∀ (s : State) (m : MasterId) (v : Byte), OwnerServed m s → s.mem.inChange = false → v.toNat ≤ 8 → s.coh.dev = [] → s.coh.near = [] →
    ∃ t, exec (.cacheSteps m v) s = .next t ∧ t.mem.steps = v.toNat ∧ obj t 0x3000 3 4 = v.toNat ∧ okey 0x3000 3 ∈ t.mgmt.mirrorPending ∧
      (∀ a, target a ≠ .scratch → byteAt t a = byteAt s a) ∧
      (∀ a, target a = .scratch → offset a + 64 ≤ 1472 * 2 ^ 20 - max v.toNat s.mem.steps * 2 ^ 26 → byteAt t a = byteAt s a) ∧
      AnsweredDone m t) ∧
  (∀ (s : State) (m : MasterId) (v : Byte), OwnerServed m s → v.toNat ≤ 2 → ∃ t, exec (.pointRequested m v) s = .next t ∧
    obj t 0x2000 1 1 = v.toNat ∧ obj t 0x2000 2 1 = (if v.toNat = 2 ∧ calState s = 1 then 1 else v.toNat) ∧ AnsweredDone m t ∧ t.mem = s.mem) ∧
  (∀ (s : State) (m : MasterId), OwnerServed m s → ∃ t, exec (.firstClear m 1) s = .next t ∧ t.flt.first = 0 ∧ t.flt.firstValid = false ∧
    t.flt.overflow = false ∧ AnsweredDone m t ∧
    { t with out := s.out, mgmt := s.mgmt, flt.first := s.flt.first, flt.firstValid := s.flt.firstValid, flt.overflow := s.flt.overflow } = s) ∧
  (∀ (s : State) (m : MasterId), OwnerServed m s → s.mem.steps = 4 → ∃ t, exec (.restoreDefaults m 1) s = .next t ∧
    (∀ i j d, persistentKeys.contains (okey i j) = true → obj t i j d = d) ∧ AnsweredDone m t ∧ t.mem = s.mem) ∧
  (∀ (s : State) (m : MasterId) (v : BitVec 32), OwnerServed m s → v.toNat < 2 ^ 24 → ∃ t, exec (.retryMask m v) s = .next t ∧
    t.start.retryMask = v.toNat ∧ AnsweredDone m t ∧ { t with out := s.out, mgmt := s.mgmt, start := s.start } = s) ∧
  (∀ (s : State) (m : MasterId), OwnerServed m s → s.sec.confEver = false → ∃ t, exec (.debugUnlock m 1) s = .next t ∧
    obj t 0x9400 0x0B 0 = 1 ∧ t.sec.debugEver = true ∧ AnsweredDone m t ∧ t.mem = s.mem) ∧
  (∀ (s : State) (m : MasterId), OwnerServed m s → s.sec.confEver = true → ∃ t, exec (.debugUnlock m 1) s = .next t ∧
    t.out.head? = some (Out.answer m ⟨2, .rightsFault, 0, []⟩) ∧ { t with out := s.out, mgmt := s.mgmt } = s) ∧
  (∀ (s : State) (m : MasterId), OwnerServed m s → s.freeze.hold = 0 → ∃ t, exec (.linkHold m 1) s = .next t ∧ t.freeze.hold = 1 ∧
    t.freeze.holdSince = s.aoncnt ∧ AnsweredDone m t ∧ t.peers = s.peers ∧ t.hosts = s.hosts) ∧
  (∀ (s : State) (m : MasterId), OwnerServed m s → (∀ l, (getPeer s l).state ≠ 4) → ∃ t, exec (.linkHold m 0) s = .next t ∧ t.freeze.hold = 0 ∧
    (∀ p : HostId, (getHost t p).link = if (getHost s p).link = 6 then 2 else (getHost s p).link) ∧ AnsweredDone m t) ∧
  (∀ (s : State) (m : MasterId) (c : BitVec 16), OwnerServed m s → Idle s → c.toNat < 4096 → ctxState s c.toNat = 1 →
    ∃ t, exec (.ownerKill m c) s = .next t ∧ ctxState t c.toNat = 4 ∧ AnsweredDone m t ∧ t.mem = s.mem)

/-- R123, R124, R244, R277, R358, R189, R248, R359: the owner's fences, peer windows and host decoders. -/
def Obligations.OwnerFencesUnits : Prop :=
  (∀ (s : State) (m : MasterId) (a : ArrayId), OwnerServed m s → Idle s → (getCluster s (a.val / 4)).stopped = false → ∃ t, exec (.arrayFence m a 1) s = .next t ∧ (getArr t a).fenced = true ∧
    (getArr t a).cause = 1 ∧ (∀ b, b ≠ a.val → getArr t b = getArr s b) ∧ t.flt.capacityGen = (s.flt.capacityGen + 1) % 2 ^ 32 ∧
    ctr t 0x8000 0x16 = ctr s 0x8000 0x16 + 1 ∧ AnsweredDone m t) ∧
  (∀ (s : State) (m : MasterId) (a : ArrayId), OwnerServed m s → s.ftest.run = none → s.flt.grace = [] → (getArr s a).fenced = true →
    ∃ t, exec (.arrayFence m a 0) s = .next t ∧ (getArr t a).fenced = false ∧ (∀ b, b ≠ a.val → getArr t b = getArr s b) ∧
    t.flt.capacityGen = (s.flt.capacityGen + 1) % 2 ^ 32 ∧ AnsweredDone m t) ∧
  (∀ (s : State) (m : MasterId) (h : HomeId), OwnerServed m s → Idle s → (∀ k, tget 0 s.coh.homeState k = 0) →
    ∃ t, exec (.homeSliceFence m h 1) s = .next t ∧ tget 0 t.coh.homeState h = 2 ∧ (∀ k, k ≠ h.val → tget 0 t.coh.homeState k = 0) ∧
    t.flt.capacityGen = (s.flt.capacityGen + 1) % 2 ^ 32 ∧ Out.answer m ⟨0, .ok, 0, []⟩ ∈ t.out ∧ t.objs = s.objs) ∧
  (∀ (s : State) (m : MasterId) (e : EngineId), OwnerServed m s → s.flt.grace = [] → (getEngine s e).fenced = false → (getEngine s e).fencing = false →
    (getEngine s e).job = none → (getEngine s e).migrate = none → ∃ t, exec (.engineFence m e 1) s = .next t ∧ (getEngine t e).fenced = true ∧
    (∀ k, k ≠ e.val → getEngine t k = getEngine s k) ∧ t.flt.capacityGen = (s.flt.capacityGen + 1) % 2 ^ 32 ∧ AnsweredDone m t) ∧
  (∀ (s : State) (m : MasterId) (e : EngineId) (j : Nat × Nat), OwnerServed m s → (getEngine s e).fenced = false → (getEngine s e).fencing = false →
    (getEngine s e).job = some j → ∃ t, exec (.engineFence m e 1) s = .next t ∧ (getEngine t e).fenced = false ∧ (getEngine t e).fencing = true ∧
    (getEngine t e).job = some j ∧ AnsweredDone m t ∧ t.mem = s.mem) ∧
  (∀ (s : State) (m : MasterId) (p : PortId), OwnerServed m s → Idle s → ∃ t, exec (.nearFence m (BitVec.ofNat 8 p)) s = .next t ∧
    (getPort t p).nearFenced = true ∧ t.flt.capacityGen = (s.flt.capacityGen + 1) % 2 ^ 32 ∧ AnsweredDone m t ∧ t.objs = s.objs) ∧
  (∀ (s : State) (m : MasterId) (l : PeerId) (w : Fin 64), OwnerServed m s → windowFits s l w = true → confidential s (winCtx s l w) = false →
    ∃ t, exec (.windowControl m l w 1) s = .next t ∧ winPresent t l w = true ∧ winBase t l w = winBase s l w ∧ winPages t l w = winPages s l w ∧
    AnsweredDone m t ∧ t.mem = s.mem) ∧
  (∀ (s : State) (m : MasterId) (l : PeerId) (w : Fin 64), OwnerServed m s → ∃ t, exec (.windowControl m l w 0) s = .next t ∧
    winPresent t l w = false ∧ AnsweredDone m t ∧ { t with objs := s.objs, out := s.out, mgmt := s.mgmt } = s) ∧
  (∀ (s : State) (m : MasterId) (p : HostId) (d : Fin 8) (v : BitVec 16), OwnerServed m s → (tget {} (getHost s p).decoders d).committed = false →
    v.toNat < 4096 → confidential s v.toNat = false → ∃ t, exec (.decContext m p d false v) s = .next t ∧ obj t (0x5001 + p) (2 * d + 1) 0 = v.toNat ∧
    AnsweredDone m t ∧ { t with objs := s.objs, out := s.out, mgmt := s.mgmt } = s) ∧
  (∀ (s : State) (m : MasterId) (p : HostId) (d : Fin 8) (v : BitVec 16), OwnerServed m s → (tget {} (getHost s p).decoders d).committed = false →
    ∃ t, exec (.decContext m p d true v) s = .next t ∧ obj t (0x5001 + p) (2 * d + 2) 0 = v.toNat ∧
    AnsweredDone m t ∧ { t with objs := s.objs, out := s.out, mgmt := s.mgmt } = s) ∧
  (∀ (s : State) (m : MasterId) (p : HostId) (d : Fin 8) (slot : Bool) (v : BitVec 16), OwnerServed m s → (tget {} (getHost s p).decoders d).committed = true →
    ∃ t, exec (.decContext m p d slot v) s = .next t ∧ (∃ r, t.out.head? = some (Out.answer m r) ∧ r.disp = 1) ∧ t.objs = s.objs ∧ t.hosts = s.hosts)

/-- R368, R369, R416, R417: field-test packages and firmware images are loaded, committed and started. That a data write outside loading begins
loading again is the model's choice (log 24). -/
def Obligations.PackagesAndImages : Prop :=
  (∀ (s : State) (m : MasterId), OwnerServed m s → s.ftest.run = none → ∃ t, exec (.pkgOffset m 0) s = .next t ∧ t.ftest.pkg = [] ∧
    t.ftest.offset = 0 ∧ t.ftest.state = 1 ∧ AnsweredDone m t ∧ { t with out := s.out, mgmt := s.mgmt, ftest := s.ftest } = s) ∧
  (∀ (s : State) (m : MasterId) (d : Line), OwnerServed m s → s.ftest.offset + 64 ≤ 2 ^ 20 → ∃ t, exec (.pkgData m d) s = .next t ∧
    t.ftest.pkg = putBytes s.ftest.pkg s.ftest.offset (bytesOf 64 d) ∧ t.ftest.offset = s.ftest.offset + 64 ∧ AnsweredDone m t ∧
    { t with out := s.out, mgmt := s.mgmt, ftest := s.ftest } = s) ∧
  (∀ (s : State) (m : MasterId), OwnerServed m s → s.flt.grace = [] → ∃ t, exec (.pkgCommit m 1) s = .next t ∧
    t.ftest.state = (if packageForm s && packageSigned s then 2 else 3) ∧ t.ftest.pkg = s.ftest.pkg ∧ AnsweredDone m t ∧ t.objs = s.objs) ∧
  (∀ (s : State) (m : MasterId) (r : BitVec 128), OwnerServed m s → s.ftest.run = none → fencedIdle s (runUnit r) = true → runForm s r = true →
    ∃ t x, exec (.testRun m r) s = .next t ∧ t.ftest.run = some x ∧ x.req = r ∧ x.started = s.aoncnt ∧ x.heating = decide (fld r 56 8 ≠ 0) ∧
    AnsweredDone m t ∧ { t with out := s.out, mgmt := s.mgmt, ftest := s.ftest } = s) ∧
  (∀ (s : State) (m : MasterId), OwnerServed m s → ∃ t, exec (.fwOffset m 0) s = .next t ∧ t.fw.image = [] ∧ t.fw.offset = 0 ∧ t.fw.state = 1 ∧
    AnsweredDone m t ∧ { t with out := s.out, mgmt := s.mgmt, fw := s.fw } = s) ∧
  (∀ (s : State) (m : MasterId) (d : Line), OwnerServed m s → s.fw.offset + 64 ≤ imageMax → ∃ t, exec (.fwData m d) s = .next t ∧
    t.fw.image = putBytes s.fw.image s.fw.offset (bytesOf 64 d) ∧ t.fw.offset = s.fw.offset + 64 ∧ AnsweredDone m t ∧
    { t with out := s.out, mgmt := s.mgmt, fw := s.fw } = s) ∧
  (∀ (s : State) (m : MasterId), OwnerServed m s → ∃ t, exec (.fwCommit m 1) s = .next t ∧ t.fw.state = (if imageOk s then 3 else 5) ∧
    t.fw.image = s.fw.image ∧ AnsweredDone m t ∧ t.sec = s.sec) ∧
  (∀ (s : State) (m : MasterId), OwnerServed m s → s.fw.state = 4 → s.ftest.run = none → ∃ t, exec (.fwActivate m 1) s = .next t ∧
    t.fw.starting = true ∧ t.mgmt.mpRestart = some (s.aoncnt + 10000000) ∧ AnsweredDone m t ∧ t.mem = s.mem)

/-- R419, R420: the requests outside a session are answered and change nothing but the held request. R419, R421, R423, R393: sessions open, are
established, renew their keys and end; a request whose check fails is answered with an error and counted. The verdicts of the ciphers are
operands of the commands (log 44). -/
def Obligations.SpdmRequestsAndSessions : Prop :=
  (∀ (s : State) (v : Via), SpdmServed v s → ∃ t, exec (.getVersion v) s = .next t ∧ AnsweredOver v "VERSION" [0x13] s t ∧
    { t with out := s.out, mgmt := s.mgmt } = s) ∧
  (∀ (s : State) (v : Via), SpdmServed v s → ∃ t, exec (.getCapabilities v) s = .next t ∧ AnsweredOver v "CAPABILITIES" [] s t ∧
    { t with out := s.out, mgmt := s.mgmt } = s) ∧
  (∀ (s : State) (v : Via), SpdmServed v s → ∃ t, exec (.negotiateAlgorithms v) s = .next t ∧ AnsweredOver v "ALGORITHMS" [] s t ∧
    { t with out := s.out, mgmt := s.mgmt } = s) ∧
  (∀ (s : State) (v : Via), SpdmServed v s → ∃ t, exec (.getDigests v) s = .next t ∧
    AnsweredOver v "DIGESTS" (bytesOf 48 (Config.sha384 (Config.certChain (measurement s)))) s t ∧ { t with out := s.out, mgmt := s.mgmt } = s) ∧
  (∀ (s : State) (v : Via) (o n : BitVec 16), SpdmServed v s → ∃ t, exec (.getCertificate v o n) s = .next t ∧
    AnsweredOver v "CERTIFICATE" (((Config.certChain (measurement s)).drop o.toNat).take n.toNat) s t ∧ { t with out := s.out, mgmt := s.mgmt } = s) ∧
  (∀ (s : State) (v : Via) (msg : List Byte), SpdmServed v s → ∃ t, exec (.challenge v msg) s = .next t ∧
    AnsweredOver v "CHALLENGE_AUTH" (Config.aliasSign (measurement s) msg) s t ∧ { t with out := s.out, mgmt := s.mgmt } = s) ∧
  (∀ (s : State) (v : Via) (msg : List Byte), SpdmServed v s → ∃ t, exec (.getMeasurements v 3 false msg) s = .next t ∧
    AnsweredOver v "MEASUREMENTS" [BitVec.ofNat 8 (fusedSvn s), BitVec.ofNat 8 s.fw.svn] s t ∧ { t with out := s.out, mgmt := s.mgmt } = s) ∧
  (∀ (s : State) (v : Via) (msg : List Byte), SpdmServed v s → ∃ t, exec (.getMeasurements v 4 true msg) s = .next t ∧
    AnsweredOver v "MEASUREMENTS" ([BitVec.ofNat 8 (obj s 0x9400 0x0B 0), BitVec.ofNat 8 (b2n s.sec.debugEver)] ++
      Config.aliasSign (measurement s) (msg ++ [BitVec.ofNat 8 (obj s 0x9400 0x0B 0), BitVec.ofNat 8 (b2n s.sec.debugEver)])) s t ∧
    { t with out := s.out, mgmt := s.mgmt } = s) ∧
  (∀ (s : State) (v : Via) (msg : List Byte), SpdmServed v s → ∃ t, exec (.getMeasurements v 0 false msg) s = .next t ∧
    AnsweredOver v "MEASUREMENTS" [5] s t ∧ { t with out := s.out, mgmt := s.mgmt } = s) ∧
  (∀ (s : State) (v : Via) (msg : List Byte), SpdmServed v s → s.sec.sessions.length < 64 → ∃ t, exec (.keyExchange v msg) s = .next t ∧
    t.sec.sessions = s.sec.sessions ++ [⟨s.sec.nextSession, 0, false, false, 0, 0, 0⟩] ∧
    AnsweredOver v "KEY_EXCHANGE_RSP" (toLe 4 s.sec.nextSession ++ Config.aliasSign (measurement s) msg) s t ∧
    { t with out := s.out, mgmt := s.mgmt, sec := s.sec } = s) ∧
  (∀ (s : State) (v : Via) (msg : List Byte), SpdmServed v s → 64 ≤ s.sec.sessions.length → ∃ t, exec (.keyExchange v msg) s = .next t ∧
    t.sec = s.sec ∧ AnsweredOver v "ERROR" [3] s t ∧ ctr t 0x9400 0x0D = ctr s 0x9400 0x0D + 1) ∧
  (∀ (s : State) (v : Via) (id : Nat) (d : BitVec 384) (m : Bool), SpdmServed v s → openSession s id = true → ∃ t, exec (.finish v id true d m) s = .next t ∧
    (∃ x, findSession t id = some x ∧ x.digest = d.toNat ∧ x.master = m ∧ x.rx = 0 ∧ x.tx = 0) ∧ (∀ k, k ≠ id → findSession t k = findSession s k) ∧
    AnsweredOver v "FINISH_RSP" [] s t ∧ { t with out := s.out, mgmt := s.mgmt, sec.sessions := s.sec.sessions } = s) ∧
  (∀ (s : State) (v : Via) (id : Nat) (d : BitVec 384) (m : Bool), SpdmServed v s → openSession s id = true → ∃ t, exec (.finish v id false d m) s = .next t ∧
    findSession t id = none ∧ ctr t 0x9400 0x0D = ctr s 0x9400 0x0D + 1 ∧ AnsweredOver v "ERROR" [6] s t ∧ t.mem = s.mem) ∧
  (∀ (s : State) (v : Via) (id : Nat), SpdmServed v s → (findSession s id).isSome = true → ∃ t, exec (.heartbeat v id true) s = .next t ∧
    AnsweredOver v "HEARTBEAT_ACK" [] s t ∧ { t with out := s.out, mgmt := s.mgmt } = s) ∧
  (∀ (s : State) (v : Via) (id : Nat), SpdmServed v s → ∃ t, exec (.heartbeat v id false) s = .next t ∧
    AnsweredOver v "ERROR" [6] s t ∧ ctr t 0x9400 0x0D = ctr s 0x9400 0x0D + 1 ∧ t.sec = s.sec) ∧
  (∀ (s : State) (v : Via) (id : Nat) (x : Session), SpdmServed v s → findSession s id = some x → ∃ t, exec (.keyUpdate v id true) s = .next t ∧
    findSession t id = some { x with keyGen := x.keyGen + 1 } ∧ (∀ l, (getPeer s l).session = some id → (getPeer t l).flits = 0) ∧
    AnsweredOver v "KEY_UPDATE_ACK" [] s t ∧ t.mem = s.mem) ∧
  (∀ (s : State) (v : Via) (id : Nat), SpdmServed v s → (findSession s id).isSome = true → ∃ t, exec (.endSession v id true) s = .next t ∧
    findSession t id = none ∧ (∀ m : Nat, m < 8 → (∀ k, k < 8 → k ≠ m → (getMaster s k).session ≠ id) → (getMaster s m).used = true →
      (getMaster s m).session = id → (getMaster t m).used = false) ∧ AnsweredOver v "END_SESSION_ACK" [] s t ∧ t.mem = s.mem ∧ t.objs = s.objs) ∧
  (∀ (s : State) (p : HostId) (k : Nat), SpdmServed (.doe p) s → ∃ t, exec (.ideKm p k) s = .next t ∧ (getHost t p).ideKey = some k ∧
    (∀ q : HostId, q ≠ p → getHost t q = getHost s q) ∧ { t with hosts := s.hosts } = s)

/-- R425: a tenant makes a confidential context, allows accesses to it, and ends it. The status of a creation while debug is open is the model's
choice (log 26). -/
def Obligations.TenantsOwnTheirContexts : Prop :=
  (∀ (s : State) (v : Via) (id : Nat) (c : CtxId) (x : Session) (slots : List KeySlotId), SpdmServed v s → findSession s id = some x →
    tget none s.sec.conf c = none → obj s 0x9400 0x0B 0 ≠ 1 → ctxState s c = 0 → createOk s c = true → slots.length ≤ 4 →
    (∀ k ∈ slots, (getSlot s k).key = none) → ∃ t, exec (.confCreate v id true c slots) s = .next t ∧ ctxState t c = 1 ∧ confidential t c = true ∧
      t.sec.confEver = true ∧ boundContext t id = some c.val ∧ (∀ k ∈ slots, (getSlot t k).bound = [c.val] ∧ (getSlot t k).conf = true ∧ (getSlot t k).key.isSome = true) ∧
      t.mem.bytes = s.mem.bytes ∧ t.objs = s.objs) ∧
  (∀ (s : State) (v : Via) (id : Nat) (c : CtxId) (slots : List KeySlotId), SpdmServed v s → (findSession s id).isSome = true →
    tget none s.sec.conf c = none → obj s 0x9400 0x0B 0 = 1 → ∃ t, exec (.confCreate v id true c slots) s = .next t ∧
    AnsweredOver v "VENDOR_DEFINED_RESPONSE" [0x13] s t ∧ { t with out := s.out, mgmt := s.mgmt } = s) ∧
  (∀ (s : State) (v : Via) (id c : Nat) (x : ConfCtx) (l : PeerId) (w : Fin 64), SpdmServed v s → (findSession s id).isSome = true →
    boundContext s id = some c → tget none s.sec.conf c = some x → ∃ t, exec (.confAllow v id true (.peerWindow l w)) s = .next t ∧
      tget none t.sec.conf c = some { x with peers := x.peers ++ [(l.val, w.val)] } ∧ (∀ d, d ≠ c → tget none t.sec.conf d = tget none s.sec.conf d) ∧
      AnsweredOver v "VENDOR_DEFINED_RESPONSE" [0] s t ∧ { t with out := s.out, mgmt := s.mgmt, sec.conf := s.sec.conf } = s) ∧
  (∀ (s : State) (v : Via) (id : Nat) (a : ConfAllow), SpdmServed v s → (findSession s id).isSome = true → boundContext s id = none →
    ∃ t, exec (.confAllow v id true a) s = .next t ∧ AnsweredOver v "VENDOR_DEFINED_RESPONSE" [0x13] s t ∧ { t with out := s.out, mgmt := s.mgmt } = s) ∧
  (∀ (s : State) (v : Via) (id : Nat) (c : CtxId), SpdmServed v s → s.ports = [] → (findSession s id).isSome = true → boundContext s id = some c.val →
    ctxState s c = 1 → ∃ t, exec (.confEnd v id true c) s = .next t ∧ ctxState t c = 3 ∧ AnsweredOver v "VENDOR_DEFINED_RESPONSE" [0] s t ∧ t.mem = s.mem)

/-- R215, R249, R433, R293: a host port that reports a link-down, whose interface clock stops or whose retrain passes 100 ms is down, and the
other port carries what it carried. R448, R265: a returned credit releases what a core port held for it; a read-back confirms every write
before it. -/
def Obligations.HostPortsCreditsAndReadbacks : Prop :=
  (∀ (s : State) (p k : HostId), s.acts = [] → linkOn s = true → p ≠ k → hostUp s p = true → hostUp s k = true → s.ports = [] → s.coh.missing = [] →
    s.coh.evicting = [] → RecordsQuietly s → ∃ t, exec (.hostPortDown p) s = .next t ∧
      exec (.interfaceClockStop ⟨p.val, by omega⟩) s = .next t ∧
      (∀ n, (getHost s p).link = 5 → (getHost s p).retrainStart = some n → n + 5000000 < s.aoncnt → exec (.retrainLimit p) s = .next t) ∧
      (getHost t p).link = 0 ∧ hostUp t k = true ∧ (getHost t p).asked = [] ∧ (∀ g ∈ (getHost s p).asked, g ∈ (getHost t k).asked) ∧
      (getHost t p).readbacks = [] ∧ ctr t (0x5001 + p) 0x15 = ctr s (0x5001 + p) 0x15 + 1 ∧ t.objs = s.objs ∧ t.sync = s.sync) ∧
  (∀ (s : State) (p : PortId), s.acts = [] → fabOn s = true → (getPort s p).ops = [] → (getPort s p).held = [] → ∃ t, exec (.creditReturn p false) s = .next t ∧
    getPort t p = { getPort s p with respCredits := (getPort s p).respCredits + 1, seen := [] } ∧ (∀ q, q ≠ p.val → getPort t q = getPort s q) ∧
    { t with ports := s.ports } = s) ∧
  (∀ (s : State) (p : PortId), s.acts = [] → fabOn s = true → (getPort s p).ops = [] → (getPort s p).held = [] → ∃ t, exec (.creditReturn p true) s = .next t ∧
    getPort t p = { getPort s p with eventCredits := (getPort s p).eventCredits + 1, seen := [] } ∧ (∀ q, q ≠ p.val → getPort t q = getPort s q) ∧
    { t with ports := s.ports } = s) ∧
  (∀ (s : State) (p : PortId) (a : Answer) (st : Nat) (tag : BitVec 10), s.acts = [] → fabOn s = true → (getPort s p).ops = [] → (getPort s p).held = [.response a st tag] →
    (getPort s p).respCredits = 0 → ∃ t, exec (.creditReturn p false) s = .next t ∧ t.out = .core p (.response a st tag) :: s.out ∧
    getPort t p = { getPort s p with held := [], respCredits := 0, seen := [] } ∧ { t with ports := s.ports, out := s.out } = s) ∧
  (∀ (s : State) (p : HostId) (n : Nat), s.acts = [] → fabOn s = true → s.ports = [] → s.arrays.arr = [] → s.queues = [] → hostUp s p = true → (getHost s p).link ≠ 5 →
    (getHost s p).readbacks = [n] → ∃ t, exec (.readbackComplete p) s = .next t ∧ (getHost t p).confirmed = max (getHost s p).confirmed n ∧
    (getHost t p).readbacks = [] ∧ ctr t 0x6000 0x0C = ctr s 0x6000 0x0C + 1 ∧ (∀ k : HostId, k ≠ p → getHost t k = getHost s k) ∧
    { t with hosts := s.hosts, ctrs := s.ctrs, wraps := s.wraps } = s) ∧
  (∀ (s : State) (p : HostId), s.acts = [] → fabOn s = true → (getHost s p).link = 5 → exec (.readbackComplete p) s = .next s)

/-- R251, R252, R410: a write of a register stores, in whole or by half; an offset that no chapter lists, a read-only register, a wrong size and
a block that does not serve its registers change nothing and answer with a status. -/
def Obligations.RegisterWritesAreServed : Prop :=
  (∀ (s : State) (w : Requester) (d : Word) (ext : Ext), RegServed s → ∃ t, exec (.registerWrite w 0x041C0020 8 d ext) s = .next t ∧
    t.flt.ring = { s.flt.ring with cons := fld d 0 32 } ∧ RegAnswers w [.ok] s t ∧ { t with out := s.out, flt.ring := s.flt.ring } = s) ∧
  (∀ (s : State) (w : Requester) (d : Word) (ext : Ext), RegServed s → ∃ t, exec (.registerWrite w 0x041C0020 4 d ext) s = .next t ∧
    t.flt.ring = { s.flt.ring with cons := fld d 0 32 } ∧ RegAnswers w [.ok] s t ∧ { t with out := s.out, flt.ring := s.flt.ring } = s) ∧
  (∀ (s : State) (w : Requester) (d : Word) (ext : Ext), RegServed s → ∃ t, exec (.registerWrite w 0x041C0018 8 d ext) s = .next t ∧
    RegAnswers w [.malformed] s t ∧ { t with out := s.out } = s) ∧
  (∀ (s : State) (w : Requester) (o : Fin 0x8000000) (n : Fin 9) (d : Word) (ext : Ext), RegServed s → regAt (o.val / 8 * 8) = none →
    ∃ t, exec (.registerWrite w o n d ext) s = .next t ∧ RegAnswers w [.malformed] s t ∧ { t with out := s.out } = s) ∧
  (∀ (s : State) (w : Requester) (d : Word) (ext : Ext), RegServed s → ∃ t, exec (.registerWrite w 0x041A0000 4 d ext) s = .next t ∧
    RegAnswers w [.malformed] s t ∧ { t with out := s.out } = s) ∧
  (∀ (s : State) (w : Requester) (o : Fin 0x8000000) (n : Fin 9) (d : Word) (ext : Ext), aonRuns s = true → s.start.inReset = false → regStage s = 0 →
    s.asleep = false → s.acts = [] → ∃ t, exec (.registerWrite w o n d ext) s = .next t ∧ RegAnswers w [.deadTarget] s t ∧ { t with out := s.out } = s)

/-- R464, R178, R312, R352: a valid write of a ring's base or size takes effect and starts its indices anew; any other is counted and has no
effect. R253, R254, R258, R259, R274, R283, R296: what the registers of one queue do, and that no other queue changes. -/
def Obligations.RingsAndQueueRegistersAct : Prop :=
  (∀ (s : State) (w : Requester) (d : Word), RegServed s → ringBaseOk [.stacks, .host] (d.toNat % 2 ^ 52) = true → ∃ t, exec (.fringConfig w true d) s = .next t ∧
    t.tu.fring = { s.tu.fring with base := d.toNat % 2 ^ 52, baseSet := true, prod := 0, cons := 0 } ∧ RegAnswers w [.ok] s t ∧
    { t with out := s.out, tu.fring := s.tu.fring } = s) ∧
  (∀ (s : State) (w : Requester) (d : Word), RegServed s → ringBaseOk [.stacks, .host] (d.toNat % 2 ^ 52) = false → ∃ t, exec (.fringConfig w true d) s = .next t ∧
    ctr t 0x5800 0x0C = ctr s 0x5800 0x0C + 1 ∧ RegAnswers w [.malformed] s t ∧ { t with out := s.out, ctrs := s.ctrs, wraps := s.wraps } = s) ∧
  (∀ (s : State) (w : Requester) (d : Word), RegServed s → 6 ≤ d.toNat → d.toNat ≤ 16 → ∃ t, exec (.fringConfig w false d) s = .next t ∧
    t.tu.fring = { s.tu.fring with log2 := d.toNat, logSet := true, prod := 0, cons := 0 } ∧ RegAnswers w [.ok] s t ∧
    { t with out := s.out, tu.fring := s.tu.fring } = s) ∧
  (∀ (s : State) (w : Requester) (d : Word), RegServed s → s.sync.parked = [] → ringBaseOk [.host] (d.toNat % 2 ^ 52) = true → ∃ t, exec (.nringConfig w true d) s = .next t ∧
    t.sync.nring = { s.sync.nring with base := d.toNat % 2 ^ 52, baseSet := true, prod := 0, cons := 0 } ∧ RegAnswers w [.ok] s t ∧
    { t with out := s.out, sync.nring := s.sync.nring } = s) ∧
  (∀ (s : State) (w : Requester) (d : Word), RegServed s → (d.toNat < 6 ∨ 16 < d.toNat) → ∃ t, exec (.nringConfig w false d) s = .next t ∧
    ctr t 0x6800 0x0B = ctr s 0x6800 0x0B + 1 ∧ RegAnswers w [.malformed] s t ∧ { t with out := s.out, ctrs := s.ctrs, wraps := s.wraps } = s) ∧
  (∀ (s : State) (w : Requester) (d : Word), RegServed s → ringBaseOk [.stacks, .scratch, .host] (d.toNat % 2 ^ 52) = true → ∃ t, exec (.fltConfig w true d) s = .next t ∧
    t.flt.ring = { s.flt.ring with base := d.toNat % 2 ^ 52, baseSet := true, prod := 0, cons := 0 } ∧ RegAnswers w [.ok] s t ∧
    { t with out := s.out, flt.ring := s.flt.ring } = s) ∧
  (∀ (s : State) (w : Requester), RegServed s → ∃ t, exec (.fltConfig w false 0) s = .next t ∧
    t.flt.ring = { s.flt.ring with log2 := 0, logSet := true, prod := 0, cons := 0 } ∧ RegAnswers w [.ok] s t ∧
    { t with out := s.out, flt.ring := s.flt.ring } = s) ∧
  (∀ (s : State) (w : Requester) (d : Word), RegServed s → 16 < d.toNat → ∃ t, exec (.fltConfig w false d) s = .next t ∧
    ctr t 0x8000 0x19 = ctr s 0x8000 0x19 + 1 ∧ RegAnswers w [.malformed] s t ∧ { t with out := s.out, ctrs := s.ctrs, wraps := s.wraps } = s) ∧
  (∀ (s : State) (w : Requester) (q : QueueId) (d : Word), RegServed s → doorbellOk q (getQueue s q) d = true → s.freeze.hold = 0 → ∃ t, exec (.doorbell w q d) s = .next t ∧
    (getQueue t q).prod = fld d 0 32 ∧ (getQueue t q).cons = (getQueue s q).cons ∧ ctr t 0x6000 6 = ctr s 0x6000 6 + 1 ∧ RegAnswers w [.ok] s t ∧
    (∀ k, k ≠ q.val → getQueue t k = getQueue s k) ∧ { t with out := s.out, queues := s.queues, ctrs := s.ctrs, wraps := s.wraps } = s) ∧
  (∀ (s : State) (w : Requester) (q : QueueId) (d : Word), RegServed s → doorbellOk q (getQueue s q) d = false →
    (subMod 32 (fld d 0 32) (getQueue s q).prod ≠ 0 ∨ fld d 48 14 ≠ q.val) → ∃ t, exec (.doorbell w q d) s = .next t ∧
    ctr t 0x6000 7 = ctr s 0x6000 7 + 1 ∧ RegAnswers w [.malformed] s t ∧ { t with out := s.out, ctrs := s.ctrs, wraps := s.wraps } = s) ∧
  (∀ (s : State) (w : Requester) (q : QueueId) (d : Word), RegServed s →
    subMod 32 (fld d 0 32) (getQueue s q).cqCons ≤ subMod 32 (getQueue s q).cqProd (getQueue s q).cqCons → ∃ t, exec (.cqCons w q d) s = .next t ∧
    getQueue t q = { getQueue s q with cqCons := fld d 0 32 } ∧ RegAnswers w [.ok] s t ∧ (∀ k, k ≠ q.val → getQueue t k = getQueue s k) ∧
    { t with out := s.out, queues := s.queues } = s) ∧
  (∀ (s : State) (w : Requester) (q : QueueId) (d : Word), RegServed s →
    subMod 32 (getQueue s q).cqProd (getQueue s q).cqCons < subMod 32 (fld d 0 32) (getQueue s q).cqCons → ∃ t, exec (.cqCons w q d) s = .next t ∧
    RegAnswers w [.malformed] s t ∧ { t with out := s.out } = s) ∧
  (∀ (s : State) (w : Requester) (q : QueueId) (d : Word) (ext : Ext) (cfg : BitVec 256), RegServed s → qEnable (getQueue s q).cfg = false → (getQueue s q).state = 0 →
    (getQueue s q).jrn.state ≠ 2 → cfg = BitVec.ofNat 256 (putBits (getQueue s q).cfg.toNat 0 64 (qcfgMask 0 (d ||| 1).toNat)) →
    configOk s { getQueue s q with cfg := cfg } = true → ∃ t, exec (.queueEnable w q d ext) s = .next t ∧ (getQueue t q).cfg = cfg ∧
    qEnable (getQueue t q).cfg = true ∧ (getQueue t q).state = 1 ∧ (getQueue t q).cons = 0 ∧ (getQueue t q).prod = 0 ∧ (getQueue t q).cqProd = 0 ∧
    (getQueue t q).cqCons = 0 ∧ (getQueue t q).epoch = 0 ∧ RegAnswers w [.ok] s t ∧ (∀ k, k ≠ q.val → getQueue t k = getQueue s k) ∧
    { t with out := s.out, queues := s.queues } = s) ∧
  (∀ (s : State) (w : Requester) (q : QueueId) (d : Word) (ext : Ext) (cfg : BitVec 256), RegServed s → qEnable (getQueue s q).cfg = false →
    (getQueue s q).jrn.state ≠ 2 → cfg = BitVec.ofNat 256 (putBits (getQueue s q).cfg.toNat 0 64 (qcfgMask 0 (d ||| 1).toNat)) →
    configOk s { getQueue s q with cfg := cfg } = false → ∃ t, exec (.queueEnable w q d ext) s = .next t ∧ t.queues = s.queues ∧
    ctr t 0x6000 0x0E = ctr s 0x6000 0x0E + 1 ∧ RegAnswers w [.ok] s t ∧ { t with out := s.out, ctrs := s.ctrs, wraps := s.wraps } = s) ∧
  (∀ (s : State) (w : Requester) (q : QueueId) (d : Word), RegServed s → qEnable (getQueue s q).cfg = true → (getQueue s q).state ≠ 0 →
    (getQueue s q).jrn.state ≠ 2 → ∃ t, exec (.queueDisable w q d) s = .next t ∧ qEnable (getQueue t q).cfg = false ∧
    (getQueue t q).state = (if (getQueue s q).cmds = [] then 0 else 3) ∧ (getQueue t q).cmds = (getQueue s q).cmds ∧ RegAnswers w [.ok] s t ∧
    (∀ k, k ≠ q.val → getQueue t k = getQueue s k) ∧ t.mem = s.mem ∧ t.objs = s.objs) ∧
  (∀ (s : State) (w : Requester) (q : QueueId) (d : Word), RegServed s → fld d 0 2 = 1 → (getQueue s q).state = 2 → (getQueue s q).stop ≠ 0x31 →
    (getQueue s q).jrn.state ≠ 2 → ∃ t, exec (.queueResume w q d) s = .next t ∧ (getQueue t q).state = 1 ∧ (getQueue t q).stop = 0 ∧
    (getQueue t q).cons = (getQueue s q).cons ∧ (getQueue t q).head = none ∧ (getQueue t q).rereads = 0 ∧ RegAnswers w [.ok] s t ∧
    (∀ k, k ≠ q.val → getQueue t k = getQueue s k) ∧ { t with out := s.out, queues := s.queues } = s) ∧
  (∀ (s : State) (w : Requester) (q : QueueId) (d : Word), RegServed s → ((getQueue s q).state ≠ 2 ∨ (getQueue s q).stop = 0x31) → ∃ t, exec (.queueResume w q d) s = .next t ∧
    (∀ k, getQueue t k = getQueue s k) ∧ RegAnswers w [.ok] s t) ∧
  (∀ (s : State) (w : Requester) (q : QueueId) (d : Word), RegServed s → qEnable (getQueue s q).cfg = false → (getQueue s q).jrn.state ≠ 2 → ∃ t, exec (.jstage w q d) s = .next t ∧
    (getQueue t q).jrn.stage = BitVec.ofNat 64 (putBits d.toNat 0 20 0) ∧ RegAnswers w [.ok] s t ∧ (∀ k, k ≠ q.val → getQueue t k = getQueue s k) ∧
    { t with out := s.out, queues := s.queues } = s) ∧
  (∀ (s : State) (w : Requester) (q : QueueId) (d : Word), RegServed s → qEnable (getQueue s q).cfg = true → (getQueue s q).jrn.state ≠ 2 → ∃ t, exec (.jstage w q d) s = .next t ∧
    ctr t 0x6000 0x0E = ctr s 0x6000 0x0E + 1 ∧ RegAnswers w [.ok] s t ∧ { t with out := s.out, ctrs := s.ctrs, wraps := s.wraps } = s) ∧
  (∀ (s : State) (w : Requester) (q : QueueId) (d : Word), RegServed s → (getQueue s q).jrn.state = 2 →
    BitVec.ofNat 64 (putBits d.toNat 0 20 0) ≠ (getQueue s q).jrn.keptStage → ∃ t, exec (.jstage w q d) s = .next t ∧
    ctr t 0x6000 0x0E = ctr s 0x6000 0x0E + 1 ∧ RegAnswers w [.ok] s t ∧ { t with out := s.out, ctrs := s.ctrs, wraps := s.wraps } = s) ∧
  (∀ (s : State) (w : Requester) (q : QueueId) (d : Word), RegServed s → fld d 0 2 = 2 → (getQueue s q).jrn.state = 2 → s.arrays.arr = [] → s.sync.watches = [] →
    (∀ c ∈ (getQueue s q).cmds, c.engine = none) → ∃ t, exec (.journalDiscard w q d) s = .next t ∧ (getQueue t q).cmds = [] ∧ (getQueue t q).jrn.state = 0 ∧
    (getQueue t q).jrn.recs = [] ∧ (getQueue t q).jrn.frames = [] ∧ (getQueue t q).state = 0 ∧ qEnable (getQueue t q).cfg = false ∧
    ctr t 0x6400 0x0B = ctr s 0x6400 0x0B + 1 ∧ RegAnswers w [.ok] s t ∧ (∀ k, k ≠ q.val → getQueue t k = getQueue s k) ∧
    { t with out := s.out, queues := s.queues, ctrs := s.ctrs, wraps := s.wraps } = s) ∧
  (∀ (s : State) (w : Requester) (q : QueueId) (d : Word), RegServed s → fld d 0 2 ≠ 2 → ∃ t, exec (.journalDiscard w q d) s = .next t ∧
    RegAnswers w [.ok] s t ∧ { t with out := s.out } = s)

/-- R319: CTX_WRITE stores the fields of one word of one context, and those of words 4 to 7 only while the context is FREE. R320, R322, R153,
R363: the context commands move a context through its states; a command in any other state is counted. -/
def Obligations.ContextsAreWrittenAndMoved : Prop :=
  (∀ (s : State) (w : Requester) (c : CtxId) (d : Word), RegServed s → ∃ t, exec (.ctxWrite w c 3 d) s = .next t ∧
    fld (getCtx t c) 192 64 = d.toNat ∧ (∀ k, k < 8 → k ≠ 3 → fld (getCtx t c) (64 * k) 64 = fld (getCtx s c) (64 * k) 64) ∧
    (∀ k, k ≠ c.val → getCtx t k = getCtx s k) ∧ RegAnswers w [.ok] s t ∧ { t with out := s.out, sched.ctx := s.sched.ctx } = s) ∧
  (∀ (s : State) (w : Requester) (c : CtxId) (d : Word), RegServed s → ctxState s c = 0 → ∃ t, exec (.ctxWrite w c 4 d) s = .next t ∧
    fld (getCtx t c) 262 58 = fld d 6 58 ∧ (∀ k, k < 8 → k ≠ 4 → fld (getCtx t c) (64 * k) 64 = fld (getCtx s c) (64 * k) 64) ∧
    (∀ k, k ≠ c.val → getCtx t k = getCtx s k) ∧ RegAnswers w [.ok] s t ∧ { t with out := s.out, sched.ctx := s.sched.ctx } = s) ∧
  (∀ (s : State) (w : Requester) (c : CtxId) (k : Fin 8) (d : Word), RegServed s → ctxState s c ≠ 0 → 4 ≤ k.val → ∃ t, exec (.ctxWrite w c k d) s = .next t ∧
    ctr t 0x6C00 0x10 = ctr s 0x6C00 0x10 + 1 ∧ RegAnswers w [.ok] s t ∧ { t with out := s.out, ctrs := s.ctrs, wraps := s.wraps } = s) ∧
  (∀ (s : State) (w : Requester) (c : CtxId) (k : Fin 8) (d : Word), RegServed s → (k = 0 ∨ k = 2) → ∃ t, exec (.ctxWrite w c k d) s = .next t ∧
    RegAnswers w [.ok] s t ∧ { t with out := s.out } = s) ∧
  (∀ (s : State) (w : Requester) (c : CtxId), RegServed s → ctxState s c = 0 → createOk s c = true → ∃ t, exec (.ctxCreate w c) s = .next t ∧
    ctxState t c = 1 ∧ confidential t c = false ∧ getAcct t c = {} ∧ (∀ k, k ≠ c.val → getCtx t k = getCtx s k) ∧ RegAnswers w [.ok] s t ∧
    { t with out := s.out, sched := s.sched } = s) ∧
  (∀ (s : State) (w : Requester) (c : CtxId), RegServed s → (ctxState s c ≠ 0 ∨ createOk s c = false) → ∃ t, exec (.ctxCreate w c) s = .next t ∧
    ctr t 0x6C00 0x10 = ctr s 0x6C00 0x10 + 1 ∧ RegAnswers w [.ok] s t ∧ { t with out := s.out, ctrs := s.ctrs, wraps := s.wraps } = s) ∧
  (∀ (s : State) (w : Requester) (c : CtxId), RegServed s → ctxState s c = 1 → ∃ t, exec (.ctxSuspend w c) s = .next t ∧ ctxState t c = 2 ∧
    (∀ k, k ≠ c.val → getCtx t k = getCtx s k) ∧ RegAnswers w [.ok] s t ∧ t.mem = s.mem ∧ t.queues = s.queues ∧ t.ports = s.ports ∧ t.objs = s.objs) ∧
  (∀ (s : State) (w : Requester) (c : CtxId), RegServed s → s.ports = [] → ctxState s c = 2 → ∃ t, exec (.ctxResume w c) s = .next t ∧ ctxState t c = 1 ∧
    (∀ k, k ≠ c.val → getCtx t k = getCtx s k) ∧ RegAnswers w [.ok] s t ∧ { t with out := s.out, sched.ctx := s.sched.ctx } = s) ∧
  (∀ (s : State) (w : Requester) (c : CtxId), RegServed s → s.ports = [] → ctxState s c = 1 ∨ ctxState s c = 2 → ∃ t, exec (.ctxEnd w c) s = .next t ∧
    ctxState t c = 3 ∧ (∀ k, k ≠ c.val → getCtx t k = getCtx s k) ∧ RegAnswers w [.ok] s t ∧ { t with out := s.out, sched.ctx := s.sched.ctx } = s) ∧
  (∀ (s : State) (w : Requester) (c : CtxId), RegServed s → s.ports = [] → s.queues = [] → s.arrays.arr = [] → ctxState s c = 1 ∨ ctxState s c = 2 ∨ ctxState s c = 3 →
    ∃ t, exec (.ctxKill w c) s = .next t ∧ ctxState t c = 4 ∧ fld (getCtx t c) 56 8 = 0x31 ∧ (∀ kv ∈ t.sched.seqs, sqState kv.2 = 0 ∨ sqCtx kv.2 ≠ c.val) ∧
    (∀ k, k ≠ c.val → getCtx t k = getCtx s k) ∧ RegAnswers w [.ok] s t ∧ { t with out := s.out, sched := s.sched } = s) ∧
  (∀ (s : State) (w : Requester) (c : CtxId), RegServed s → ctxState s c = 1 ∨ ctxState s c = 2 → ∃ t, exec (.ctxRestartSteps w c) s = .next t ∧
    stepStatus t c = 0 ∧ ctxState t c = ctxState s c ∧ RegAnswers w [.ok] s t ∧ { t with out := s.out, sched.ctx := s.sched.ctx } = s) ∧
  (∀ (s : State) (c : CtxId), fabOn s = true → s.acts = [] → ctxState s c = 3 → ctxBusy s c = false → ∃ t, exec (.contextEndingDrained c) s = .next t ∧
    ctxState t c = 4 ∧ fld (getCtx t c) 56 8 = 0 ∧ (∀ kv ∈ t.sched.seqs, sqState kv.2 = 0 ∨ sqCtx kv.2 ≠ c.val) ∧ { t with sched := s.sched } = s) ∧
  (∀ (s : State) (c : CtxId), fabOn s = true → s.acts = [] → ctxState s c = 3 → ctxBusy s c = true → exec (.contextEndingDrained c) s = .next s) ∧
  (∀ (s : State) (c : CtxId), fabOn s = true → s.acts = [] → ctxState s c = 4 → s.sync.watches = [] → s.sync.ctrl = [] → s.mem.slots = [] → s.peers = [] →
    ∃ t, exec (.contextRelease c) s = .next t ∧ ctxState t c = 0 ∧ (∀ g, tagIs t g c = false) ∧ (∀ a ∈ t.accums, a.ctx ≠ c.val) ∧
    (∀ a, (getArr t a).store.ctx ≠ some c.val) ∧ t.mem.bytes = s.mem.bytes ∧ t.objs = s.objs ∧ ctr t 0x3000 0x0C = ctr s 0x3000 0x0C + 1)

/-- R322, R323: sequence commands move a sequence through Table 13.5 and set SEQ_STATUS; a sequence ends once nothing is bound to it. -/
def Obligations.SequenceCommandsMoveTheSequence : Prop :=
  (∀ (s : State) (w : Requester) (raw : BitVec 128) (ext : Ext) (e : BitVec 512), RegServed s → target (fld raw 82 46 * 64) = .host →
    e = ofBytes 512 ((List.range 64).map fun i => extByte s ext (fld raw 82 46 * 64 + i)) → sqState (getSeq s (fld raw 46 18)) = 0 → fld e 46 18 = fld raw 46 18 →
    imageZero e = true → fld e 128 32 < fld e 160 32 → sqCtx e = fld raw 34 12 → ctxState s (fld raw 34 12) = 1 → ∃ t, exec (.seqCreate w raw ext) s = .next t ∧
    getSeq t (fld raw 46 18) = putSeq [(28, 3, 1), (80, 16, 0xFFFF)] e ∧ t.sched.seqLast = 0 ∧ (∀ k, k ≠ fld raw 46 18 → getSeq t k = getSeq s k) ∧
    RegAnswers w [.ok, .ok] s t ∧ { t with out := s.out, latch := s.latch, sched := s.sched } = s) ∧
  (∀ (s : State) (w : Requester) (raw : BitVec 128) (ext : Ext), RegServed s → target (fld raw 82 46 * 64) = .host → sqState (getSeq s (fld raw 46 18)) ≠ 0 →
    ∃ t, exec (.seqCreate w raw ext) s = .next t ∧ t.sched.seqLast = 0x10 ∧ t.sched.seqs = s.sched.seqs ∧ RegAnswers w [.ok, .ok] s t ∧
    { t with out := s.out, latch := s.latch, sched := s.sched } = s) ∧
  (∀ (s : State) (w : Requester) (raw : BitVec 128) (ext : Ext), RegServed s → target (fld raw 82 46 * 64) = .host → LinksCarry s → proxyAlive s = true →
    sqState (getSeq s (fld raw 46 18)) ≠ 0 → sqCtx (getSeq s (fld raw 46 18)) = fld raw 34 12 → ∃ t, exec (.seqRead w raw ext) s = .next t ∧
    (∃ p, Out.hostWrite p (fld raw 82 46 * 64) (bytesOf 64 (getSeq s (fld raw 46 18))) false ∈ t.out) ∧ t.sched.seqLast = 0 ∧ t.sched.seqs = s.sched.seqs ∧
    ctr t 0x6000 0x0C = ctr s 0x6000 0x0C + 1 ∧ t.mem = s.mem) ∧
  (∀ (s : State) (w : Requester) (raw : BitVec 128) (ext : Ext), RegServed s → sqState (getSeq s (fld raw 46 18)) = 1 → sqCtx (getSeq s (fld raw 46 18)) = fld raw 34 12 →
    tokenDue (getSeq s (fld raw 46 18)) = false → ∃ t, exec (.seqPark w raw ext) s = .next t ∧ sqState (getSeq t (fld raw 46 18)) = 2 ∧ t.sched.seqLast = 0 ∧
    t.sched.seqDone = (s.sched.seqDone + 1) % 2 ^ 32 ∧ (∀ k, k ≠ fld raw 46 18 → getSeq t k = getSeq s k) ∧ RegAnswers w [.ok, .ok] s t ∧
    { t with out := s.out, latch := s.latch, sched := s.sched } = s) ∧
  (∀ (s : State) (w : Requester) (raw : BitVec 128) (ext : Ext), RegServed s → sqState (getSeq s (fld raw 46 18)) = 1 → sqCtx (getSeq s (fld raw 46 18)) = fld raw 34 12 →
    tokenDue (getSeq s (fld raw 46 18)) = true → ∃ t, exec (.seqPark w raw ext) s = .next t ∧ sqState (getSeq t (fld raw 46 18)) = 1 ∧
    flag (getSeq t (fld raw 46 18)) 20 = true ∧ t.sched.seqLast = 0 ∧ RegAnswers w [.ok, .ok] s t ∧ { t with out := s.out, latch := s.latch, sched := s.sched } = s) ∧
  (∀ (s : State) (w : Requester) (raw : BitVec 128) (ext : Ext), RegServed s → sqState (getSeq s (fld raw 46 18)) = 2 → sqCtx (getSeq s (fld raw 46 18)) = fld raw 34 12 →
    ∃ t, exec (.seqUnpark w raw ext) s = .next t ∧ sqState (getSeq t (fld raw 46 18)) = 1 ∧ t.sched.seqLast = 0 ∧ (∀ k, k ≠ fld raw 46 18 → getSeq t k = getSeq s k) ∧
    RegAnswers w [.ok, .ok] s t ∧ { t with out := s.out, latch := s.latch, sched := s.sched } = s) ∧
  (∀ (s : State) (w : Requester) (raw : BitVec 128) (ext : Ext), RegServed s → sqState (getSeq s (fld raw 46 18)) = 1 ∨ sqState (getSeq s (fld raw 46 18)) = 2 →
    sqCtx (getSeq s (fld raw 46 18)) = fld raw 34 12 → ∃ t, exec (.seqEnd w raw ext) s = .next t ∧ sqState (getSeq t (fld raw 46 18)) = 3 ∧
    fld (getSeq t (fld raw 46 18)) 21 3 = 4 ∧ t.sched.seqLast = 0 ∧ (∀ k, k ≠ fld raw 46 18 → getSeq t k = getSeq s k) ∧
    ctr t 0x6C00 0x0A = ctr s 0x6C00 0x0A + (if tokenDue (getSeq s (fld raw 46 18)) then 1 else 0) ∧ RegAnswers w [.ok, .ok] s t ∧ t.mem = s.mem) ∧
  (∀ (s : State) (w : Requester) (raw : BitVec 128) (ext : Ext), RegServed s → sqState (getSeq s (fld raw 46 18)) = 4 → sqCtx (getSeq s (fld raw 46 18)) = fld raw 34 12 →
    ∃ t, exec (.seqFree w raw ext) s = .next t ∧ getSeq t (fld raw 46 18) = 0 ∧ t.sched.seqLast = 0 ∧ (∀ k, k ≠ fld raw 46 18 → getSeq t k = getSeq s k) ∧
    RegAnswers w [.ok, .ok] s t ∧ { t with out := s.out, latch := s.latch, sched := s.sched } = s) ∧
  (∀ (s : State) (w : Requester) (raw : BitVec 128) (ext : Ext), RegServed s → sqState (getSeq s (fld raw 46 18)) = 1 → sqCtx (getSeq s (fld raw 46 18)) ≠ fld raw 34 12 →
    ∃ t, exec (.seqPark w raw ext) s = .next t ∧ t.sched.seqs = s.sched.seqs ∧ t.sched.seqLast = 0x13 ∧ { t with out := s.out, latch := s.latch, sched := s.sched } = s) ∧
  (∀ (s : State) (q : SeqId), fabOn s = true → s.acts = [] → sqState (getSeq s q) = 3 → seqBusy s q = false → flag (getSeq s q) 401 = false →
    ∃ t, exec (.sequenceDone q) s = .next t ∧ sqState (getSeq t q) = 4 ∧ (∀ k, k ≠ q.val → getSeq t k = getSeq s k) ∧ { t with sched.seqs := s.sched.seqs } = s) ∧
  (∀ (s : State) (q : SeqId), fabOn s = true → s.acts = [] → sqState (getSeq s q) = 3 → seqBusy s q = true → exec (.sequenceDone q) s = .next s)

/-- R324, R325: an accepted token record moves its sequence on by one step and gives the verdict that Table 13.4 fixes; any other record is
counted and changes nothing. R337, Table 13.11: a snapshot writes the context's counters as one record of 128 bytes, with AONCNT and its
CRC. -/
def Obligations.TokensAndSnapshots : Prop :=
  (∀ (s : State) (p : HostId) (d : Word), RegServed s → tokenOk (getSeq s (fld d 0 18)) d none = true → ∃ t, exec (.seqToken (.host p) d) s = .next t ∧
    sqDone (getSeq t (fld d 0 18)) = sqDone (getSeq s (fld d 0 18)) + 1 ∧ fld (getSeq t (fld d 0 18)) 96 32 = fld d 32 32 ∧
    fld (getSeq t (fld d 0 18)) 128 32 = (fld (getSeq s (fld d 0 18)) 128 32 + 1) % 2 ^ 32 ∧
    (flag d 29 = true → sqState (getSeq t (fld d 0 18)) = 3 ∧ fld (getSeq t (fld d 0 18)) 21 3 = 3 ∧ ctr t 0x6C00 0x0A = ctr s 0x6C00 0x0A + 1) ∧
    (flag d 29 = false → fld (getSeq s (fld d 0 18)) 24 4 = 0 → (fld (getSeq s (fld d 0 18)) 128 32 + 1) % 2 ^ 32 = fld (getSeq s (fld d 0 18)) 160 32 →
      sqState (getSeq t (fld d 0 18)) = 3 ∧ fld (getSeq t (fld d 0 18)) 21 3 = 2) ∧
    (flag d 29 = false → fld (getSeq s (fld d 0 18)) 24 4 = 0 → (fld (getSeq s (fld d 0 18)) 128 32 + 1) % 2 ^ 32 ≠ fld (getSeq s (fld d 0 18)) 160 32 →
      flag (getSeq s (fld d 0 18)) 20 = false → sqState (getSeq t (fld d 0 18)) = 1 ∧ ctr t 0x6C00 9 = ctr s 0x6C00 9 + 1) ∧
    (∀ k, k ≠ fld d 0 18 → getSeq t k = getSeq s k) ∧ { t with sched.seqs := s.sched.seqs, ctrs := s.ctrs, wraps := s.wraps } = s) ∧
  (∀ (s : State) (w : Requester) (d : Word), RegServed s → tokenOk (getSeq s (fld d 0 18)) d (coreCtx w) = false → ∃ t, exec (.seqToken w d) s = .next t ∧
    ctr t 0x6C00 0x0B = ctr s 0x6C00 0x0B + 1 ∧ RegAnswers w [.malformed] s t ∧ { t with out := s.out, ctrs := s.ctrs, wraps := s.wraps } = s) ∧
  (∀ (s : State) (w : Requester) (raw : BitVec 128), RegServed s → target (fld raw 64 45 * 128) = .host → LinksCarry s → proxyAlive s = true → flag raw 0 = false → flag raw 46 = false →
    ∃ t p bs, exec (.acctSnap w raw) s = .next t ∧ Out.hostWrite p (fld raw 64 45 * 128) bs false ∈ t.out ∧ bs.length = 128 ∧
    bs.take 8 = toLe 8 (getAcct s (fld raw 34 12)).engineTime ∧ (bs.drop 0x60).take 8 = toLe 8 s.aoncnt ∧ (bs.drop 0x6A).take 2 = toLe 2 (fld raw 34 12) ∧
    bs.drop 0x7C = toLe 4 (crc32c (bs.take 0x7C)) ∧ t.sched = s.sched ∧ t.mem = s.mem ∧ ctr t 0x6000 0x0C = ctr s 0x6000 0x0C + 1)

/-- R302: VALUE and CTRL of a counter are written, and not while a watch is registered on it; BASELINE is taken as BOUND rises. -/
def Obligations.CounterRegistersAct : Prop :=
  (∀ (s : State) (w : Requester) (c : CounterId) (d : Word), RegServed s → watched s c = false → ∃ t, exec (.counterValue w c d) s = .next t ∧
    valueOf t.sync c = fld d 0 32 ∧ (∀ k, k ≠ c.val → valueOf t.sync k = valueOf s.sync k) ∧ RegAnswers w [.ok] s t ∧
    { t with out := s.out, sync.value := s.sync.value } = s) ∧
  (∀ (s : State) (w : Requester) (c : CounterId) (d : Word), RegServed s → watched s c = false → ∃ t, exec (.counterCtrl w c d) s = .next t ∧
    flag (ctrlOf t.sync c) 0 = flag d 0 ∧ flag (ctrlOf t.sync c) 1 = flag d 1 ∧ fld (ctrlOf t.sync c) 8 12 = fld d 8 12 ∧ fld (ctrlOf t.sync c) 20 12 = fld d 20 12 ∧
    fld (ctrlOf t.sync c) 32 32 = (if flag d 0 && !flag (ctrlOf s.sync c) 0 then valueOf s.sync c else fld (ctrlOf s.sync c) 32 32) ∧
    (∀ k, k ≠ c.val → ctrlOf t.sync k = ctrlOf s.sync k) ∧ RegAnswers w [.ok] s t ∧ { t with out := s.out, sync.ctrl := s.sync.ctrl } = s) ∧
  (∀ (s : State) (w : Requester) (c : CounterId) (d : Word), RegServed s → watched s c = true → ∃ t, exec (.counterValue w c d) s = .next t ∧
    exec (.counterCtrl w c d) s = .next t ∧ ctr t 0x6800 0x0B = ctr s 0x6800 0x0B + 1 ∧ RegAnswers w [.ok] s t ∧
    { t with out := s.out, ctrs := s.ctrs, wraps := s.wraps } = s)

/-- R300, R304, R306, R310, R312: the sync requests of a host and what each leaves of its counter and its watches; the host's results are held
as notification records. R304, R305, R448: a core's sync request is performed in its port and answered on its event channel. That a watch
takes the lowest free slot is the model's choice (log 13). -/
def Obligations.SyncRequestsAct : Prop :=
  (∀ (s : State) (p : HostId) (raw : BitVec 128) (c x n : Nat), HostSync 0 raw c x n s → fld raw 17 3 < 6 → valueOf s.sync c + n < 2 ^ 32 →
    ∃ t, exec (.syncSignal (.host p) raw) s = .next t ∧ valueOf t.sync c = valueOf s.sync c + n ∧ (∀ k, k ≠ c → valueOf t.sync k = valueOf s.sync k) ∧
    ctr t 0x6800 6 = ctr s 0x6800 6 + 1 ∧ { t with latch := s.latch, sync.value := s.sync.value, ctrs := s.ctrs, wraps := s.wraps } = s) ∧
  (∀ (s : State) (p : HostId) (raw : BitVec 128) (c x n : Nat), HostSync 1 raw c x n s → n ≤ valueOf s.sync c → ∃ t r, exec (.syncTake (.host p) raw) s = .next t ∧
    valueOf t.sync c = valueOf s.sync c - n ∧ (∀ k, k ≠ c → valueOf t.sync k = valueOf s.sync k) ∧ ctr t 0x6800 7 = ctr s 0x6800 7 + 1 ∧
    t.sync.held = s.sync.held ++ [r] ∧ fld r 0 8 = 0 ∧ fld r 11 3 = 3 ∧ fld r 64 64 = s.aoncnt % 2 ^ 64 ∧ t.mem = s.mem) ∧
  (∀ (s : State) (p : HostId) (raw : BitVec 128) (c x n : Nat), HostSync 2 raw c x n s → n ≤ valueOf s.sync c → ∃ t, exec (.waitConsume (.host p) raw) s = .next t ∧
    valueOf t.sync c = valueOf s.sync c - n ∧ t.sync.watches = [] ∧ ctr t 0x6800 8 = ctr s 0x6800 8 + 1 ∧ t.mem = s.mem) ∧
  (∀ (s : State) (p : HostId) (raw : BitVec 128) (c x n : Nat), HostSync 2 raw c x n s → valueOf s.sync c < n → 0 < obj s 0x6800 5 16384 →
    ∃ t, exec (.waitConsume (.host p) raw) s = .next t ∧
    t.sync.watches = [⟨0, c, n, true, if fld raw 96 32 = 0 then none else some (s.aoncnt + fld raw 96 32), fld raw 38 26, 0, .host, x⟩] ∧
    { t with latch := s.latch, sync.watches := s.sync.watches } = s) ∧
  (∀ (s : State) (p : HostId) (raw : BitVec 128) (c x n : Nat), HostSync 3 raw c x n s → n ≤ valueOf s.sync c → ∃ t, exec (.waitObserve (.host p) raw) s = .next t ∧
    (∀ k, valueOf t.sync k = valueOf s.sync k) ∧ t.sync.watches = [] ∧ ctr t 0x6800 8 = ctr s 0x6800 8 + 1 ∧ t.mem = s.mem) ∧
  (∀ (s : State) (p : HostId) (raw : BitVec 128), RegServed s → heldResults s < 64 → ∃ t r, exec (.syncRead (.host p) raw) s = .next t ∧
    t.sync.held = s.sync.held ++ [r] ∧ fld r 0 8 = 0x10 ∧ fld r 11 3 = 3 ∧ { t with latch := s.latch, sync.held := s.sync.held } = s) ∧
  (∀ (s : State) (p : HostId) (raw : BitVec 128) (wt : Watch), RegServed s → heldResults s < 64 → syncMalformed (syncWord raw 5) true = false → ctxState s (fld raw 20 12) = 1 →
    s.sync.watches = [wt] → wt.slot = fld raw 64 18 → wt.slot < 229376 → wt.counter = fld raw 0 17 → wt.ctx = fld raw 20 12 →
    ∃ t, exec (.cancel (.host p) raw) s = .next t ∧ t.sync.watches = [] ∧ (∀ k, valueOf t.sync k = valueOf s.sync k) ∧ t.sync.held = s.sync.held ∧ t.mem = s.mem) ∧
  (∀ (s : State) (p : HostId) (raw : BitVec 128), RegServed s → 64 ≤ heldResults s → ∃ t, exec (.syncTake (.host p) raw) s = .next t ∧
    ctr t 0x6800 0x0B = ctr s 0x6800 0x0B + 1 ∧ { t with latch := s.latch, ctrs := s.ctrs, wraps := s.wraps } = s) ∧
  (∀ (s : State) (p : PortId) (st : Fin 64) (ctx : CtxId) (raw : BitVec 128), RegServed s → (getPort s p).ops = [] → (getPort s p).held = [] → 0 < (getPort s p).eventCredits →
    syncMalformed (syncWord raw 4) false = false → ctxState s (fld raw 20 12) = 1 → ∃ t v, exec (.syncRead (.core p st ctx) raw) s = .next t ∧
      t.out = .core p (.event 2 v) :: s.out ∧ (getPort t p).ops = [] ∧ (getPort t p).eventCredits + 1 = (getPort s p).eventCredits ∧
      (boundTo s.sync (fld raw 0 17) (fld raw 20 12) = true → fld v 0 8 = 0 ∧ fld v 11 3 = 4 ∧ fld v 32 32 = valueOf s.sync (fld raw 0 17)) ∧
      (boundTo s.sync (fld raw 0 17) (fld raw 20 12) = false → fld v 0 8 = 0x13 ∧ fld v 11 3 = 4 ∧ fld v 32 32 = 0) ∧
      { t with out := s.out, ports := s.ports } = s)

/-- R309, R312: a watch whose deadline has come ends TIMED_OUT, and the oldest held record goes to the ring, with its message. -/
def Obligations.WatchesEndAndRecordsGoOut : Prop :=
  (∀ (s : State) (w : Watch) (d : Nat), fabOn s = true → s.acts = [] → s.sync.watches = [w] → w.deadline = some d → d ≤ s.aoncnt → w.dest = .host →
    ∃ t r, exec .watchTimeout s = .next t ∧ t.sync.watches = [] ∧ t.sync.held = s.sync.held ++ [r] ∧ fld r 0 8 = 0x23 ∧ fld r 11 3 = 1 ∧
    fld r 14 18 = w.slot % 2 ^ 18 ∧ fld r 38 26 = w.cookie % 2 ^ 26 ∧ ctr t 0x6800 9 = ctr s 0x6800 9 + 1 ∧ (∀ k, valueOf t.sync k = valueOf s.sync k) ∧ t.mem = s.mem) ∧
  (∀ (s : State) (img : BitVec 128) (rest : List (BitVec 128)), fabOn s = true → s.acts = [] → s.sync.held = img :: rest → ringReady s s.sync.nring = true →
    target s.sync.nring.base = .host → target (ringAddr s.sync.nring 16) = .host → LinksCarry s → nbit s.sync.nring.ctr 17 = false → ∃ t, exec .notificationRecord s = .next t ∧ t.sync.held = rest ∧
    t.sync.nring = { s.sync.nring with prod := (s.sync.nring.prod + 1) % 2 ^ 32 } ∧
    (∃ p q, t.out = .msix q (nbits s.sync.nring.vec 0 11) :: .hostWrite p (ringAddr s.sync.nring 16)
      (bytesOf 16 (BitVec.ofNat 128 (putBits img.toNat 10 1 (ringPhase s.sync.nring)))) false :: s.out) ∧ ctr t 0x6000 0x0C = ctr s 0x6000 0x0C + 1 ∧ t.mem = s.mem) ∧
  (∀ s : State, fabOn s = true → s.acts = [] → ringReady s s.sync.nring = false → exec .notificationRecord s = .next s)

/-- R424, R158: KEY_CMD loads, binds, unbinds and destroys the key of a slot, and refuses what R424 forbids. -/
def Obligations.KeyCommandsAct : Prop :=
  (∀ (s : State) (w : Requester) (c : CtxId) (k : KeySlotId), RegServed s → slotConf s k = false → confidential s c = false → (getSlot s k).key = none →
    ∃ t, exec (.loadFresh w c k) s = .next t ∧ getSlot t k = ⟨some (s.mem.keySerial + 1), [c.val], false, false⟩ ∧ t.mem.keySerial = s.mem.keySerial + 1 ∧
    (∀ j, j ≠ k.val → getSlot t j = getSlot s j) ∧ t.sec.keyLast = 0 ∧ t.sec.keyDone = (s.sec.keyDone + 1) % 2 ^ 32 ∧ RegAnswers w [.ok, .ok] s t ∧
    { t with out := s.out, latch := s.latch, mem.slots := s.mem.slots, mem.keySerial := s.mem.keySerial, sec := s.sec } = s) ∧
  (∀ (s : State) (w : Requester) (c : CtxId) (k : KeySlotId), RegServed s → slotConf s k = false → (getSlot s k).key = none →
    ∃ t, exec (.loadDriver w c k) s = .next t ∧ getSlot t k = ⟨some (s.mem.keySerial + 1), [], true, false⟩ ∧ (∀ j, j ≠ k.val → getSlot t j = getSlot s j) ∧
    t.sec.keyLast = 0 ∧ RegAnswers w [.ok, .ok] s t ∧ t.mem.bytes = s.mem.bytes ∧ t.objs = s.objs) ∧
  (∀ (s : State) (w : Requester) (c : CtxId) (k : KeySlotId), RegServed s → slotConf s k = false → confidential s c = false → (getSlot s k).key.isSome = true →
    (getSlot s k).bound.contains c.val = false → (getSlot s k).bound.length < 16 → ∃ t, exec (.bind w c k) s = .next t ∧
    getSlot t k = { getSlot s k with bound := (getSlot s k).bound ++ [c.val] } ∧ (∀ j, j ≠ k.val → getSlot t j = getSlot s j) ∧ t.sec.keyLast = 0 ∧
    RegAnswers w [.ok, .ok] s t ∧ t.mem.bytes = s.mem.bytes) ∧
  (∀ (s : State) (w : Requester) (c : CtxId) (k : KeySlotId), RegServed s → slotConf s k = false → confidential s c = false → (getSlot s k).bound.contains c.val = true →
    ∃ t, exec (.unbind w c k) s = .next t ∧ getSlot t k = { getSlot s k with bound := (getSlot s k).bound.erase c.val } ∧ (∀ j, j ≠ k.val → getSlot t j = getSlot s j) ∧
    t.sec.keyLast = 0 ∧ RegAnswers w [.ok, .ok] s t ∧ t.mem.bytes = s.mem.bytes) ∧
  (∀ (s : State) (w : Requester) (c : CtxId) (k : KeySlotId), RegServed s → s.coh.dev = [] → s.coh.dir = [] → s.ports = [] → slotConf s k = false →
    (getSlot s k).key.isSome = true → ((getSlot s k).driver = true ∨ ∀ d ∈ (getSlot s k).bound, ctxRunning s d = false) → ∃ t, exec (.destroy w c k) s = .next t ∧
    getSlot t k = {} ∧ (∀ j, j ≠ k.val → getSlot t j = getSlot s j) ∧ t.sec.keyLast = 0 ∧ RegAnswers w [.ok, .ok] s t ∧ t.mem.bytes = s.mem.bytes ∧ t.objs = s.objs) ∧
  (∀ (s : State) (w : Requester) (c : CtxId) (k : KeySlotId), RegServed s → slotConf s k = false → confidential s c = false → (getSlot s k).key.isSome = true →
    ∃ t, exec (.loadFresh w c k) s = .next t ∧ t.mem = s.mem ∧ t.sec.keyLast = 0x12 ∧ ctr t 0x9400 0x0E = ctr s 0x9400 0x0E + 1 ∧ RegAnswers w [.ok, .ok] s t) ∧
  (∀ (s : State) (w : Requester) (c : CtxId) (k : KeySlotId), RegServed s → slotConf s k = true → ∃ t, exec (.unbind w c k) s = .next t ∧ t.mem = s.mem ∧
    t.sec.keyLast = 0x13 ∧ ctr t 0x9400 0x0E = ctr s 0x9400 0x0E + 1)

/-- R166, R182, R184, R186, R187: address spaces, resolutions of page faults and invalidations. -/
def Obligations.TranslationRegistersAct : Prop :=
  (∀ (s : State) (w : Requester) (a : Fin 4096) (raw : BitVec 128), RegServed s → flag (getSpace s a) 0 = false → flag raw 0 = true → ∃ t, exec (.spaceEntry w a raw) s = .next t ∧
    flag (getSpace t a) 0 = true ∧ fld (getSpace t a) 2 2 = fld raw 2 2 ∧ fld (getSpace t a) 20 12 = fld raw 20 12 ∧ fld (getSpace t a) 32 32 = fld raw 32 32 ∧
    (∀ b, b ≠ a.val → getSpace t b = getSpace s b) ∧ RegAnswers w [.ok, .ok] s t ∧
    { t with out := s.out, latch := s.latch, tu.spaces := s.tu.spaces, tu.closing := s.tu.closing } = s) ∧
  (∀ (s : State) (w : Requester) (a : Fin 4096) (raw : BitVec 128), RegServed s → flag (getSpace s a) 0 = false → flag raw 0 = false → ∃ t, exec (.spaceEntry w a raw) s = .next t ∧
    flag (getSpace t a) 0 = false ∧ (∀ x ∈ t.tu.tlb, x.space ≠ a.val) ∧ (∀ b, b ≠ a.val → getSpace t b = getSpace s b) ∧ RegAnswers w [.ok, .ok] s t ∧
    { t with out := s.out, latch := s.latch, tu := s.tu } = s) ∧
  (∀ (s : State) (w : Requester) (raw : BitVec 128) (c id : Nat) (r : PfRec), RegServed s → fld raw 8 12 = id → getRec s id = some r → r.space = fld raw 20 12 →
    r.va / 4096 = fld raw 44 44 → r.waiters = [.ds c] → (getRun s c).waitRec = some id → s.tu.starved = [] → ∃ t, exec (.resolveRetry w raw) s = .next t ∧ getRec t id = none ∧ (getRun t c).waitRec = none ∧
    (∀ k, k ≠ id → getRec t k = getRec s k) ∧ (∀ x ∈ t.tu.copies, x.1 ≠ id) ∧ RegAnswers w [.ok, .ok] s t ∧ t.mem = s.mem ∧ t.objs = s.objs) ∧
  (∀ (s : State) (w : Requester) (raw : BitVec 128) (c id : Nat) (r : PfRec), RegServed s → RecordsQuietly s → fld raw 8 12 = id → getRec s id = some r → r.space = fld raw 20 12 →
    r.va / 4096 = fld raw 44 44 → r.waiters = [.ds c] → (getRun s c).waitRec = some id → s.tu.starved = [] → ∃ t, exec (.resolveFail w raw) s = .next t ∧ getRec t id = none ∧ stepStatus t c = r.failStatus.code ∧
    (getRun t c).issuing = none ∧ (∀ k, k ≠ id → getRec t k = getRec s k) ∧ t.objs = s.objs) ∧
  (∀ (s : State) (w : Requester) (raw : BitVec 128), RegServed s → getRec s (fld raw 8 12) = none → ∃ t, exec (.resolveRetry w raw) s = .next t ∧
    ctr t 0x5800 0x0C = ctr s 0x5800 0x0C + 1 ∧ RegAnswers w [.ok, .ok] s t ∧ { t with out := s.out, latch := s.latch, ctrs := s.ctrs, wraps := s.wraps } = s) ∧
  (∀ (s : State) (w : Requester) (raw : BitVec 128) (id : Nat) (r : PfRec), RegServed s → s.arrays.arr = [] → s.queues = [] → s.ports = [] → s.engines = [] → fld raw 8 12 = id →
    getRec s id = some r → r.space = fld raw 20 12 → r.va / 4096 = fld raw 44 44 → r.kind = 2 → r.copied = false → r.moving = none → target (fld raw 88 40 * 4096) = .stacks →
    fld raw 88 40 % grainPages (getSpace s r.space) = 0 → offset (fld raw 88 40 * 4096) + r.grainPages * 4096 ≤ stackBytes s → ∃ t, exec (.migrateCopy w raw) s = .next t ∧
    (∃ r', getRec t id = some r' ∧ r'.moving = some (fld raw 88 40 * 4096) ∧ r'.drain = [] ∧ r'.copied = false) ∧ (getEngine t 0).migrate = some id ∧
    (∀ k, k ≠ id → getRec t k = getRec s k) ∧ RegAnswers w [.ok, .ok] s t ∧ t.mem = s.mem) ∧
  (∀ (s : State) (w : Requester) (raw : BitVec 128), RegServed s → s.arrays.arr = [] → s.queues = [] → s.ports = [] → invMalformed raw = false → ∃ t, exec (.inval w raw) s = .next t ∧
    t.tu.issued = (s.tu.issued + 1) % 2 ^ 32 ∧ t.tu.invDone = s.tu.invDone ∧ t.tu.invals = s.tu.invals ++ [⟨(s.tu.issued + 1) % 2 ^ 32, raw, []⟩] ∧
    (∀ x, x ∈ t.tu.tlb ↔ x ∈ s.tu.tlb ∧ invCovers raw x.space (reStart x.entry) (reLength x.entry) = false) ∧ RegAnswers w [.ok, .ok] s t ∧
    { t with out := s.out, latch := s.latch, tu := s.tu } = s) ∧
  (∀ (s : State) (w : Requester) (raw : BitVec 128), RegServed s → s.tu.invals = [] → invMalformed raw = true → ∃ t, exec (.inval w raw) s = .next t ∧
    t.tu.issued = (s.tu.issued + 1) % 2 ^ 32 ∧ t.tu.invDone = (s.tu.issued + 1) % 2 ^ 32 ∧ t.tu.tlb = s.tu.tlb ∧ ctr t 0x5800 0x0C = ctr s 0x5800 0x0C + 1 ∧ t.mem = s.mem) ∧
  (∀ (s : State) (i : InvalCmd), fabOn s = true → s.acts = [] → s.tu.invals = [i] → i.holders = [] → ∃ t, exec .invalComplete s = .next t ∧ t.tu.invals = [] ∧
    t.tu.invDone = i.seq ∧ ctr t 0x5800 0x0A = ctr s 0x5800 0x0A + 1 ∧ { t with tu := s.tu, ctrs := s.ctrs, wraps := s.wraps } = s)

/-- R174, R175, R178, R183, R184: walks, copies of page-fault records, their time limit and the end of a migration copy. -/
def Obligations.TranslationUnitActs : Prop :=
  (∀ (s : State) (w : Waiter) (a : Fin 4096) (va : BitVec 56) (k : Nat), fabOn s = true → s.acts = [] → spaceOn (getSpace s a) = true → tlbFind s (waiterTlbs w) a va.toNat = none →
    walkInFlight s a va.toNat = false → freeWalker s = some k → ∃ t, exec (.walk w a va) s = .next t ∧ tget none t.tu.walks k = some ⟨a, va.toNat, [w], false⟩ ∧
    ctr t 0x5800 6 = ctr s 0x5800 6 + 1 ∧ { t with tu.walks := s.tu.walks, ctrs := s.ctrs, wraps := s.wraps } = s) ∧
  (∀ (s : State) (w : Waiter) (a : Fin 4096) (va : BitVec 56), fabOn s = true → s.acts = [] → walkInFlight s a va.toNat = true → ∃ t, exec (.walk w a va) s = .next t ∧
    { t with tu.walks := s.tu.walks } = s) ∧
  (∀ (s : State) (k : WalkerId) (sp va c : Nat) (e : BitVec 256), fabOn s = true → s.acts = [] → s.mem.flaws = [] → s.coh.dev = [] → s.tu.closing = [] →
    s.tu.walks = [(k.val, some ⟨sp, va, [.ds c], false⟩)] → walk s sp va = .found e →
    ∃ t, exec (.walkComplete k) s = .next t ∧ ⟨240, sp, va / 2 ^ 40, e⟩ ∈ t.tu.tlb ∧ tget none t.tu.walks k = none ∧ (getRun t c).waitRec = none ∧
    t.tu.recs = s.tu.recs ∧ t.mem.bytes = s.mem.bytes ∧ t.objs = s.objs) ∧
  (∀ (s : State) (k : WalkerId) (sp va c : Nat), fabOn s = true → s.acts = [] → s.mem.flaws = [] → s.coh.dev = [] → s.tu.closing = [] →
    s.tu.walks = [(k.val, some ⟨sp, va, [.ds c], false⟩)] → walk s sp va = .absent →
    ∃ t, exec (.walkComplete k) s = .next t ∧ t.tu.tlb = s.tu.tlb ∧ tget none t.tu.walks k = none ∧ (getRun t c).waitRec = none ∧
    t.tu.recs = s.tu.recs ∧ t.mem.bytes = s.mem.bytes ∧ t.objs = s.objs) ∧
  (∀ (s : State) (id due : Nat) (r : PfRec), fabOn s = true → s.acts = [] → s.tu.copies = [(id, due)] → due ≤ s.aoncnt → ringReady s s.tu.fring = true → getRec s id = some r →
    target s.tu.fring.base = .host → target (ringAddr s.tu.fring 64) = .host → LinksCarry s → proxyAlive s = true → s.sync.watches = [] → valueOf s.sync (nbits s.tu.fring.ctr 0 17) + 1 < 2 ^ 32 → ∃ t, exec .faultRecordCopy s = .next t ∧ t.tu.copies = [] ∧
    t.tu.fring = { s.tu.fring with prod := (s.tu.fring.prod + 1) % 2 ^ 32 } ∧
    (∃ p, t.out = .hostWrite p (ringAddr s.tu.fring 64) (bytesOf 64 (pfImage r id (ringPhase s.tu.fring))) false :: s.out) ∧
    (∃ r', getRec t id = some r' ∧ r'.written = true ∧ r'.waiters = r.waiters) ∧
    valueOf t.sync (nbits s.tu.fring.ctr 0 17) = valueOf s.sync (nbits s.tu.fring.ctr 0 17) + 1 ∧ t.mem = s.mem) ∧
  (∀ (s : State) (id : RecordId) (r : PfRec) (c : Nat), fabOn s = true → s.acts = [] → RecordsQuietly s → getRec s id = some r → r.timeout ≠ 0 → r.raised + r.timeout ≤ s.aoncnt →
    r.waiters = [.ds c] → (getRun s c).waitRec = some id.val → s.tu.starved = [] → ∃ t, exec (.faultTimeoutExpiry id) s = .next t ∧ getRec t id = none ∧ stepStatus t c = r.failStatus.code ∧ ctr t 0x5800 0x0B = ctr s 0x5800 0x0B + 1) ∧
  (∀ (s : State) (id : RecordId) (r : PfRec), fabOn s = true → s.acts = [] → getRec s id = some r → (r.timeout = 0 ∨ s.aoncnt < r.raised + r.timeout) →
    exec (.faultTimeoutExpiry id) s = .next s) ∧
  (∀ (s : State) (e : Fin 16) (st : Status) (ext : Ext) (id dest : Nat) (r : PfRec), fabOn s = true → s.acts = [] → st ≠ .ok → (getEngine s e).migrate = some id →
    getRec s id = some r → r.moving = some dest → r.drain = [] → (getEngine s e).fencing = false → ∃ t, exec (.migrationCopyDone e st ext) s = .next t ∧
    getRec t id = some { r with copied := true, copyStatus := st.code } ∧ t.tu.copies = dueCopy id s.aoncnt s.tu.copies ∧ (getEngine t e).migrate = none ∧
    ctr t 0x5800 9 = ctr s 0x5800 9 + 1 ∧ t.mem = s.mem) ∧
  (∀ (s : State) (e : Fin 16) (ext : Ext) (id dest : Nat) (r : PfRec), fabOn s = true → s.acts = [] → proxyAlive s = true → (getEngine s e).migrate = some id →
    getRec s id = some r → r.moving = some dest → r.drain = [] → (getEngine s e).fencing = false → s.xfers = [] → s.mem.flaws = [] → s.coh.dev = [] →
    target dest = .stacks → dest % 4096 = 0 → offset dest + r.grainPages * 4096 ≤ stackBytes s →
    WayClear s [] [⟨0, dest, r.grainPages * 4096, blockSlot, 0, false, false⟩] → ∃ t, exec (.migrationCopyDone e .ok ext) s = .next t ∧
    (∀ a, dest ≤ a → a < dest + r.grainPages * 4096 → byteAt t a = extByte s ext (r.paOld + (a - dest))) ∧
    (∀ a, a < dest ∨ dest + r.grainPages * 4096 ≤ a → byteAt t a = byteAt s a) ∧
    getRec t id = some { r with copied := true, copyStatus := 0 } ∧ t.tu.copies = dueCopy id s.aoncnt s.tu.copies ∧ (getEngine t e).migrate = none ∧
    ctr t 0x5800 9 = ctr s 0x5800 9 + 1 ∧ t.objs = s.objs)

/-- R348, R349, R353, R354, R355: an event is counted at its source, recorded under the next serial number, latched as the first error when none
is, and starts the grace timer of its class; a timer that expires takes its action, and an acknowledgement ends it. -/
def Obligations.FaultEventsAreRecorded : Prop :=
  (∀ (s : State) (ev : EventReport), s.acts = [] → aonRuns s = true → s.asleep = false → stepReached 1 s = true → 1 ≤ ev.cls.val → ev.cls.val ≤ 0x11 →
    unitOk ev.unit.toNat = true → underTest s ev.unit.toNat = false → RecordsQuietly s → ∃ t, exec (.faultEvent ev) s = .next t ∧ t.flt.serial = (s.flt.serial + 1) % 2 ^ 32 ∧
    fld t.flt.last 184 8 = ev.cls.val ∧ fld t.flt.last 272 16 = ev.unit.toNat ∧ fld t.flt.last 168 8 = ev.status.code ∧ fld t.flt.last 320 32 = s.flt.serial % 2 ^ 32 ∧
    fld t.flt.last 416 64 = s.aoncnt % 2 ^ 64 ∧ ctr t (0x8000 + ev.cls) 5 = ctr s (0x8000 + ev.cls) 5 + 1 ∧ t.objs = s.objs ∧ t.sched = s.sched ∧ t.ports = s.ports) ∧
  (∀ (s : State) (ev : EventReport), s.acts = [] → aonRuns s = true → s.asleep = false → stepReached 1 s = true → ev.cls = 2 → unitOk ev.unit.toNat = true → underTest s ev.unit.toNat = false →
    RecordsQuietly s → obj s 0x8000 2 2 ≤ 2 → actionOf s 2 ≠ 0 → ∃ t, exec (.faultEvent ev) s = .next t ∧
    (s.flt.firstValid = false → t.flt.first = t.flt.last ∧ t.flt.firstValid = true ∧ t.flt.overflow = s.flt.overflow) ∧
    (s.flt.firstValid = true → t.flt.first = s.flt.first ∧ t.flt.firstValid = true ∧ t.flt.overflow = true) ∧
    t.flt.grace = s.flt.grace ++ [⟨s.flt.serial, s.aoncnt + graceOf s 2, actionOf s 2, ev.unit.toNat, ev.ctx.map (·.val)⟩]) ∧
  (∀ (s : State) (g : Grace) (k : WalkerId), s.acts = [] → aonRuns s = true → s.asleep = false → stepReached 3 s = true → s.flt.grace = [g] → g.deadline ≤ s.aoncnt → g.action = 1 →
    g.unit = 0x7000 + k.val → tget false s.tu.walkerFenced k = false → s.tu.walks = [] → ∃ t, exec .graceExpiry s = .next t ∧ t.flt.grace = [] ∧ ctr t 0x8000 0x0F = ctr s 0x8000 0x0F + 1 ∧
    tget false t.tu.walkerFenced k = true ∧ (∀ j, j ≠ k.val → tget false t.tu.walkerFenced j = tget false s.tu.walkerFenced j) ∧ t.flt.capacityGen = (s.flt.capacityGen + 1) % 2 ^ 32 ∧
    ctr t 0x8000 0x16 = ctr s 0x8000 0x16 + 1 ∧ t.objs = s.objs) ∧
  (∀ s : State, s.acts = [] → aonRuns s = true → s.asleep = false → (∀ g ∈ s.flt.grace, s.aoncnt < g.deadline) → exec .graceExpiry s = .next s) ∧
  (∀ (s : State) (w : Requester) (n : BitVec 32) (g : Grace), RegServed s → s.flt.grace = [g] → g.serial = n.toNat → ∃ t, exec (.ackHold w n) s = .next t ∧ t.flt.grace = [] ∧
    ctr t 0x8000 0x10 = ctr s 0x8000 0x10 + 1 ∧ RegAnswers w [.ok] s t ∧ { t with out := s.out, flt.grace := s.flt.grace, ctrs := s.ctrs, wraps := s.wraps } = s) ∧
  (∀ (s : State) (w : Requester) (n : BitVec 32) (g : Grace) (k : WalkerId), RegServed s → s.flt.grace = [g] → g.serial = n.toNat → g.action = 1 → g.unit = 0x7000 + k.val →
    tget false s.tu.walkerFenced k = false → s.tu.walks = [] → ∃ t, exec (.ackAct w n) s = .next t ∧ t.flt.grace = [] ∧ ctr t 0x8000 0x10 = ctr s 0x8000 0x10 + 1 ∧
    tget false t.tu.walkerFenced k = true ∧ t.flt.capacityGen = (s.flt.capacityGen + 1) % 2 ^ 32 ∧ t.objs = s.objs) ∧
  (∀ (s : State) (w : Requester) (n : BitVec 32), RegServed s → s.flt.grace = [] → ∃ t, exec (.ackAct w n) s = .next t ∧ exec (.ackHold w n) s = .next t ∧
    ctr t 0x8000 0x19 = ctr s 0x8000 0x19 + 1 ∧ RegAnswers w [.ok] s t ∧ { t with out := s.out, ctrs := s.ctrs, wraps := s.wraps } = s)

/-- R192, R194, R195, R346: a load binds what its context reads of the granule; a malformed request changes nothing and says so. R195, R196,
R229: a store waits in the store buffer, acknowledged at once in an EARLY range; it is performed in the owned line. Where the bytes stand in
a response is the model's reading (log 17). -/
def Obligations.LoadsAndStoresUseTheGranule : Prop :=
  (∀ (s : State) (r : CoreReq) (x : Extent), SoundAccess r x s → atOp r.attr = opLoad → (getNear s r.port (x.pa / 64)).st ≠ .i →
    (target x.pa = .scratch → (getNear s r.port (x.pa / 64)).ctx = atCtx r.attr) → nearPoison s (atCtx r.attr) (x.pa / 64) = false →
    ∃ t, exec (.portLoad r .clean) s = .next t ∧ Responds r .ok false (namedBytes r (granuleData s (atCtx r.attr) x.keySlot (x.pa / 64))) s t ∧
    (getPort t r.port).ops = [] ∧ t.mem.bytes = s.mem.bytes ∧ t.coh = s.coh ∧ t.objs = s.objs) ∧
  (∀ (s : State) (r : CoreReq) (c : Instr), CorePortFree r.port s → reqMalformed r = true →
    c ∈ [.portLoad r .clean, .portStore r .clean, .portRload r .clean, .portCstore r .clean, .portAtomic r .clean, .portBarrier r] →
    ∃ t, exec c s = .next t ∧ Responds r .malformed false 0 s t ∧ (getPort t r.port).ops = [] ∧ { t with out := s.out, ports := s.ports } = s) ∧
  (∀ (s : State) (r : CoreReq) (x : Extent), SoundAccess r x s → atOp r.attr = opStore → (getNear s r.port (x.pa / 64)).st = .i →
    s.coh.wbs.contains (r.port.val, x.pa / 64) = false →
    ∃ t o, exec (.portStore r .clean) s = .next t ∧ (getPort t r.port).ops = [o] ∧ o.req = r ∧ o.pa = x.pa ∧ o.phase = .buffered ∧ o.answered = x.early ∧
    (if x.early then Responds r .ok false 0 s t else t.out = s.out) ∧
    t.coh.fabric = s.coh.fabric ++ [.request .rdX (cohReqOf r.port o false) noData 0 0] ∧ t.mem = s.mem ∧ t.objs = s.objs) ∧
  (∀ (s : State) (p : PortId) (o : PortOp), CorePortFree p { s with ports := tset {} s.ports p { getPort s p with ops := [] } } →
    (getPort s p).ops = [o] → o.phase = .buffered → opCode o = opStore → o.what = .mem → o.answer = none → o.answered = false → o.flushed = false →
    (target o.pa = .stacks ∨ target o.pa = .scratch) → o.cache ≠ 2 → lineOwned s p (o.pa / 64) = true → QuietStorage s → 
    ∃ t, exec (.writePerformed p o.id) s = .next t ∧
    OnlyGranule (o.pa / 64) (lineByte (mergeLine (granuleData s (opCtx o) o.keySlot (o.pa / 64)) o.req.data o.req.mask)) s t ∧
    t.out = .core p (.response ⟨.ok, false, 0⟩ (opStream o) o.req.tag) :: s.out ∧ (getPort t p).ops = [] ∧ (getNear t p (o.pa / 64)).st = .m ∧ t.objs = s.objs)

/-- R208 to R211: a reserved load sets its stream's reservation and opens the hold window; a conditional store takes place only under it, and
clears it. R207, R216: an atomic returns the old bytes and stores the new; a barrier with nothing before it completes; a completion of
CXL.io answers the request that waits for it. That a hold window's end clears its reservation is read from R209 (log 29). -/
def Obligations.ReservationsAndAtomics : Prop :=
  (∀ (s : State) (r : CoreReq) (x : Extent), SoundAccess r x s → atOp r.attr = opRload → lineOwned s r.port (x.pa / 64) = true →
    nearPoison s (atCtx r.attr) (x.pa / 64) = false →
    ∃ t, exec (.portRload r .clean) s = .next t ∧ Responds r .ok false (namedBytes r (granuleData s (atCtx r.attr) x.keySlot (x.pa / 64))) s t ∧
    tget none (getPort t r.port).resv (atStream r.attr) = some ⟨x.pa / 64, atCtx r.attr⟩ ∧ (getPort t r.port).hold = [(x.pa / 64, atStream r.attr)] ∧
    t.mem.bytes = s.mem.bytes ∧ t.coh = s.coh ∧ t.objs = s.objs) ∧
  (∀ (s : State) (r : CoreReq) (x : Extent), SoundAccess r x s → atOp r.attr = opCstore → lineOwned s r.port (x.pa / 64) = true → QuietStorage s → 
    tget none (getPort s r.port).resv (atStream r.attr) = some ⟨x.pa / 64, atCtx r.attr⟩ →
    ∃ t, exec (.portCstore r .clean) s = .next t ∧ Responds r .ok false 0 s t ∧
    OnlyGranule (x.pa / 64) (lineByte (mergeLine (granuleData s (atCtx r.attr) x.keySlot (x.pa / 64)) r.data r.mask)) s t ∧
    tget none (getPort t r.port).resv (atStream r.attr) = none ∧ ctr t 0x3880 5 = ctr s 0x3880 5 + 1 ∧ t.objs = s.objs) ∧
  (∀ (s : State) (r : CoreReq) (x : Extent), SoundAccess r x s → atOp r.attr = opCstore → tget none (getPort s r.port).resv (atStream r.attr) = none →
    ∃ t, exec (.portCstore r .clean) s = .next t ∧ Responds r .ok true 0 s t ∧
    tget none (getPort t r.port).resv (atStream r.attr) = none ∧ ctr t 0x3880 6 = ctr s 0x3880 6 + 1 ∧
    { t with out := s.out, ports := s.ports, ctrs := s.ctrs, wraps := s.wraps } = s) ∧
  (∀ (s : State) (p : PortId) (w : Nat × Nat) (rest : List (Nat × Nat)), fabOn s = true → s.acts = [] → (getPort s p).ops = [] → (getPort s p).deferred = [] →
    (getPort s p).hold = w :: rest → ∃ t, exec (.holdWindowExpiry p) s = .next t ∧ (getPort t p).hold = rest ∧
    tget none (getPort t p).resv w.2 = none ∧ ctr t 0x3880 8 = ctr s 0x3880 8 + 1 ∧ { t with ports := s.ports, ctrs := s.ctrs, wraps := s.wraps } = s) ∧
  (∀ (s : State) (r : CoreReq) (x : Extent), SoundAccess r x s → atOp r.attr = opAtomic → (reqLen r = 16 → atAop r.attr ≤ 1) →
    lineOwned s r.port (x.pa / 64) = true → nearPoison s (atCtx r.attr) (x.pa / 64) = false → QuietStorage s → 
    ∃ t, exec (.portAtomic r .clean) s = .next t ∧ Responds r .ok false (namedBytes r (granuleData s (atCtx r.attr) x.keySlot (x.pa / 64))) s t ∧
    (∀ i, i < 64 → maskBit r.mask i = true → byteAt t (x.pa / 64 * 64 + i) =
      lineByte (atomicLine (atAop r.attr) (reqLen r) (reqOff r) (granuleData s (atCtx r.attr) x.keySlot (x.pa / 64)) r.data) i) ∧
    (∀ a, a < x.pa / 64 * 64 ∨ x.pa / 64 * 64 + 64 ≤ a → byteAt t a = byteAt s a) ∧ t.objs = s.objs) ∧
  (∀ (s : State) (r : CoreReq), CorePortFree r.port s → reqMalformed r = false → atOp r.attr = opBarrier →
    ∃ t, exec (.portBarrier r) s = .next t ∧ Responds r .ok false 0 s t ∧ (getPort t r.port).ops = [] ∧ ctr t 0x3880 2 = ctr s 0x3880 2 + 1 ∧
    { t with out := s.out, ports := s.ports, ctrs := s.ctrs, wraps := s.wraps } = s) ∧
  (∀ (s : State) (p : PortId) (o : PortOp) (d : Line), CorePortFree p { s with ports := tset {} s.ports p { getPort s p with ops := [] } } →
    (getPort s p).ops = [o] → o.phase = .io → o.what = .mem → o.answer = none → o.answered = false → o.need0 = 0 → o.need1 = 0 →
    hostUp s (hostPortOf s o.pa) = true → ∃ t, exec (.cxlIoCompletion p o.id d false) s = .next t ∧ t.out = .core p (.response ⟨.ok, false, namedBytes o.req (if opCode o = opAtomic then d else underQueue s (o.pa / 64) d)⟩ (opStream o) o.req.tag) :: s.out ∧
    (getPort t p).ops = [] ∧ { t with out := s.out, ports := s.ports, hosts := s.hosts } = s)

/-- R448, R449: two halves of one stream and context make a course, which its array takes; a first half that is not followed by its second
completes MALFORMED. R104 to R107, R320: an issued course is examined: it becomes ready with its ridge and footprint, or ends MALFORMED; a
context that admits no work ends it RIGHTS_FAULT, and a suspended one makes it wait. The declared ridge is judged before it is clamped (log
28). -/
def Obligations.HalvesBecomeExaminedCourses : Prop :=
  (∀ (s : State) (p : PortId) (st : Fin 64) (c : CtxId) (h : BitVec 512), fabOn s = true → s.acts = [] → (getPort s p).ops = [] → (getPort s p).half = none →
    ∃ t, exec (.courseHalf p st c h false) s = .next t ∧ (getPort t p).half = some (h, st.val, c.val) ∧ { t with ports := s.ports } = s) ∧
  (∀ (s : State) (p : PortId) (st : Fin 64) (c : CtxId) (lo hi : BitVec 512), fabOn s = true → s.acts = [] → (getPort s p).ops = [] →
    (getPort s p).deferred = [] → (getPort s p).half = some (lo, st.val, c.val) → (getArr s p).fenced = false → ∃ (t : State) (k : Course), exec (.courseHalf p st c hi true) s = .next t ∧
    (getArr t p).courses = (getArr s p).courses ++ [k] ∧ k.raw = (hi ++ lo : BitVec 1024) ∧ k.ctx = c.val ∧ k.stage = .issued ∧ k.stream = p.val ∧ k.reissued = false ∧
    (getPort t p).half = none ∧ t.mem = s.mem ∧ t.objs = s.objs ∧ t.queues = s.queues) ∧
  (∀ (s : State) (p : PortId) (st st' : Fin 64) (c : CtxId) (lo hi : BitVec 512), fabOn s = true → s.acts = [] → (getPort s p).ops = [] → (getPort s p).held = [] →
    0 < (getPort s p).eventCredits → (getPort s p).half = some (lo, st'.val, c.val) → st ≠ st' → ∃ t, exec (.courseHalf p st c hi true) s = .next t ∧
    t.out = .core p (.event 0 halfResult) :: s.out ∧ (getPort t p).half = none ∧ (getPort t p).ops = [] ∧ ctr t 0x4100 6 = ctr s 0x4100 6 + 1 ∧
    { t with out := s.out, ports := s.ports, ctrs := s.ctrs, wraps := s.wraps } = s) ∧
  (∀ (s : State) (a : ArrayId) (c : Course) (i : Instr) (n p id : Nat) (hx foot : List Extent), (i, n) ∈ [(.course a [], 1), (.ridgeScan a [], 2), (.diagonal a [], 3)] →
    fabOn s = true → s.acts = [] → QuietStorage s → (getArr s a).courses = [c] → c.stage = .issued → c.src = .core p id → cdOp c.raw = n → ctxState s c.ctx = 1 → Acceptable a c hx foot s →
    ∃ t k, exec i s = .next t ∧ (getArr t a).courses = [k] ∧ k.stage = .ready ∧ k.foot = foot ∧ k.opS = readOd (afterHeads a c hx s) (queueExt s) c hx (cdStreamOp c.raw) ∧
    k.opT = readOd (afterHeads a c hx s) (queueExt s) c hx (cdStatOp c.raw) ∧ k.opO = readOd (afterHeads a c hx s) (queueExt s) c hx (cdOutOp c.raw) ∧ k.raw = c.raw ∧ k.id = c.id ∧ k.ctx = c.ctx ∧
    k.ridge = courseRidge (operandRidge (afterHeads a c hx s) [] c foot k.opS).1 (if hasStat c.raw then (operandRidge (afterHeads a c hx s) [] c foot k.opT).1 else 0) ∧
    (getArr t a).run = (getArr s a).run ∧ t.mem.bytes = s.mem.bytes ∧ t.ports = s.ports ∧ t.queues = s.queues) ∧
  (∀ (s : State) (a : ArrayId) (c : Course) (i : Instr) (n q idx : Nat) (k : Cmd) (ext : Ext), (i, n) ∈ [(.course a ext, 1), (.ridgeScan a ext, 2), (.diagonal a ext, 3)] →
    RunsAlone a c q idx k { s with arrays.arr := tset {} s.arrays.arr a { getArr s a with run := some c.id } } → (getArr s a).run = none → c.stage = .issued → cdOp c.raw = n →
    (ctxState s c.ctx = 1 → structureOk c.raw = false → ∃ t, exec i s = .next t ∧ CourseEnded a 0 c q .malformed (-512) s t ∧ t.mem = s.mem) ∧
    (ctxState s c.ctx = 0 → ∃ t, exec i s = .next t ∧ CourseEnded a 0 c q (if structureOk c.raw then .rightsFault else .malformed) (-512) s t ∧ t.mem = s.mem) ∧
    (ctxState s c.ctx = 2 → exec i s = .next s)) ∧
  (∀ (s : State) (a : ArrayId) (c : Course) (q idx : Nat) (k : Cmd) (ext : Ext),
    RunsAlone a c q idx k { s with arrays.arr := tset {} s.arrays.arr a { getArr s a with run := some c.id } } → (getArr s a).run = none → c.stage = .issued →
    (cdOp c.raw = 0 ∨ 4 ≤ cdOp c.raw) → ctxState s c.ctx = 1 → ∃ t, exec (.course a ext) s = .next t ∧ CourseEnded a 0 c q .malformed (-512) s t ∧ t.mem = s.mem)

/-- R107, R110 to R112, R116, R126, R330: a free array starts or resumes the course that it picks, makes room in its continuation store, and
takes verdicts for the rows bound to a step, none of it while its clock is stopped. -/
def Obligations.CoursesStartAndResume : Prop :=
  (∀ (s : State) (a : ArrayId) (c : Course) (i : Instr), i ∈ [.footprintReady (.array a c.id) [], .engineChoose (Fin.castLE (by decide) a)] → fabOn s = true → s.acts = [] → QuietStorage s →
    pickCourse s a = some c → c.stage = .ready → c.strict = false → needsSpill s a c = false → storeVerdict s a c = true → (∀ x ∈ runReads s a c, target x.pa ≠ .peer) →
    (∀ d ∈ (getArr s a).courses, d.id = c.id → d = c) →
    ∃ t k, exec i s = .next t ∧ (getArr t a).run = some c.id ∧ findCourse t a c.id = some k ∧ k.stage = .running ∧ k.raw = c.raw ∧
    k.foot = c.foot ∧ k.ridge = c.ridge ∧ (getSlice t a).ctx = some c.ctx ∧ t.mem.bytes = s.mem.bytes ∧ t.ports = s.ports ∧ t.queues = s.queues ∧ t.out = s.out) ∧
  (∀ (s : State) (a : ArrayId) (c : Course) (bs : List Byte) (s1 : State) (foot : List Extent), ArrayRuns a s → QuietStorage s → pickCourse s a = some c → c.stage = .saved →
    (∀ d ∈ (getArr s a).courses, d.id = c.id → d = c) →
    (∀ i ∈ s.tu.invals, Waiter.array a c.id ∉ i.holders) → accessVerdict s c.ctx blockSlot (saveAddr s c.ctx c.savedOn) 4096 = .ok →
    homeRead c.ctx blockSlot (saveAddr s c.ctx c.savedOn) 4096 2 (beginSlice a c.ctx s) = (bs, s1) → ofLe (bs.drop 0xFFC) = crc32c (bs.take 0xFFC) →
    runPoison s1 c.ctx (saveAddr s c.ctx c.savedOn) 4096 = false →
    checkFootprint (tlbsOfArray a) true (fld (getCtx s1 c.ctx) 116 12) (courseSegs c.raw c.opS c.opT c.opO) s1 = (.good foot, s1) →
    needsSpill s a c = false → needsSpill s1 a c = false → (∀ x ∈ runReads s1 a { c with foot := foot }, target x.pa ≠ .peer) →
    ∃ t k, exec (.courseResume a) s = .next t ∧ (getArr t a).run = some c.id ∧ findCourse t a c.id = some k ∧ k.stage = .running ∧ k.foot = foot ∧
    k.resume = (if rowPairs c then min (cdRows c.raw) (2 * ofLe ((bs.drop 0x80).take 4)) else ofLe ((bs.drop 0x80).take 4)) ∧ k.pass = ofLe ((bs.drop 0x85).take 1) ∧
    k.intake = (if cdFlat c.raw then ofLe ((bs.drop 0x84).take 1) else 0) ∧ (k.intake ≠ 0 → k.part = (List.range (cdHeld c.raw)).map fun h => { savedGutter bs h with sat := (c.part.getD h {}).sat }) ∧ k.ridge = signOf 10 (nbits (ofLe ((bs.drop 0x86).take 2)) 0 10) ∧ k.raw = c.raw ∧ t.mem.bytes = s.mem.bytes) ∧
  (∀ (s : State) (a : ArrayId) (c : Course) (o : Nat) (foot : List Extent), ArrayRuns a s → s.mem.flaws = [] → pickCourse s a = some c → usesStore s a c = true →
    (getArr s a).store.ctx = some o → (getArr s a).store.unsure = false → spillKey o (getArr s a).store.home ≠ spillKey c.ctx c.home →
    tget none (getArr s a).spills (spillKey c.ctx c.home) = none → (spillArea a o (getArr s a).store.home needW s).1 = some foot → WayClear s [] foot →
    (∀ x ∈ foot, target x.pa ≠ .peer) → ∃ t, exec (.chainSpill a) s = .next t ∧ (getArr t a).store = {} ∧
    tget none (getArr t a).spills (spillKey o (getArr s a).store.home) = some (getArr s a).store ∧ (getArr t a).courses = (getArr s a).courses ∧ ctr t 0x4100 0x0B = ctr s 0x4100 0x0B + 1) ∧
  (∀ (s : State) (a : ArrayId) (q : SeqId) (b : BitVec 32), fabOn s = true → s.acts = [] → (getCluster s (a / 4)).stopped = true → exec (.seqVerdict a q b) s = .next s) ∧
  (∀ (s : State) (a : ArrayId) (q : SeqId) (b : BitVec 32) (c : Course) (v : Nat), ArrayRuns a s → (getArr s a).courses = [c] → c.bound = [(q.val, b.toNat, v)] →
    let k : Course := { c with bound := [(q.val, b.toNat, if v = 0 then verdictOf (getSeq s q) b.toNat else v)] }
    let n := endedOutputs k fun m => rowVerdict c m = 0
    ∃ t, exec (.seqVerdict a q b) s = .next t ∧ (getArr t a).courses = [k] ∧ ctr t 0x4800 9 = ctr s 0x4800 9 + BitVec.ofNat 64 n ∧
    (getAcct t c.ctx).sqOutputs = (getAcct s c.ctx).sqOutputs + n ∧ t.mem = s.mem ∧ t.out = s.out ∧ (n = 0 → { t with arrays.arr := s.arrays.arr } = s))

/-- R46, R73, R103, R109, R127, R130, R133: a course completes only once no verdict is pending; a ridge scan folds its elements into its record,
a forwarding course keeps its sums in the continuation store, and a course writes the rounded value of its gutter. -/
def Obligations.CoursesComplete : Prop :=
  (∀ (s : State) (a : ArrayId) (c : Course) (r : RunLog), ArrayRuns a s → runningCourse s a = some c → c.stage = .running →
    (∃ b ∈ c.bound, b.2.2 = 0) → exec (.courseComplete a r) s = .next s) ∧
  (∀ (s : State) (a : ArrayId) (c : Course) (r : RunLog) (q idx : Nat) (k : Cmd) (x : Extent), RunsAlone a c q idx k s → c.stage = .running → c.blocked = false → blocksOut s a = false →
    cdOp c.raw = 2 → cdFromImage c.raw = false → cdSeqMode c.raw = 0 → s.mem.flaws = [] → WayClear s (runReads s a c) (courseWrites s c) →
    hostInputsDead s c = false → footVerdict s c.ctx c.foot = .ok → outputsFree s (viewExt s a c r.ext) a c = false → (∀ va, footPoison s c.ctx c.foot va = false) →
    extentOf c.foot (odRecord c.opO) = some x → (x.pa + (odRecord c.opO - x.va)) % 8 = 0 → keyIs s ((x.pa + (odRecord c.opO - x.va)) / 64) x.keySlot = true →
    target ((x.pa + (odRecord c.opO - x.va)) / 64 * 64) = .stacks → target (x.pa + (odRecord c.opO - x.va)) = .stacks →
    ∃ t, exec (.courseComplete a r) s = .next t ∧ CourseEnded a (0x4000 + a) c q .ok (-512) s t ∧
    bytesAt t (x.pa + (odRecord c.opO - x.va)) 8 = toLe 8 (((List.range (cdRows c.raw)).flatMap fun m => (List.range (odCols c.opS)).map fun n =>
      elemVal (footByte s (viewExt s a c r.ext) c.ctx c.foot) c.opS (!(odOrient c.opS)) m n).foldl foldRidge
      (ofLe (footBytes s [] c.ctx c.foot (odRecord c.opO) 8))) ∧
    (∀ b, b < x.pa + (odRecord c.opO - x.va) ∨ x.pa + (odRecord c.opO - x.va) + 8 ≤ b → byteAt t b = byteAt s b)) ∧
  (∀ (s : State) (a : ArrayId) (c : Course) (r : RunLog) (q idx : Nat) (k : Cmd), RunsAlone a c q idx k s → c.stage = .running → c.blocked = false → blocksOut s a = false → cdOp c.raw = 1 →
    cdForward c.raw = true → cdAccumulate c.raw = false → cdFromImage c.raw = false → cdSeqMode c.raw = 0 → c.intake = 0 → WayClear s (runReads s a c) (courseWrites s c) →
    hostInputsDead s c = false → footVerdict s c.ctx c.foot = .ok → outputsFree s (viewExt s a c r.ext) a c = false → (∀ va, footPoison s c.ctx c.foot va = false) →
    (if cdFlat c.raw then (outShape c.raw c.opS c.opT).1 ≤ 16 else (outShape c.raw c.opS c.opT).2 ≤ 128) →
    ∃ t obs, exec (.courseComplete a r) s = .next t ∧ CourseEnded a (0x4000 + a) c q .ok obs s t ∧ (getArr t a).store.ctx = some c.ctx ∧ (getArr t a).store.chain = true ∧
    (getArr t a).store.ridge = c.ridge ∧ (getArr t a).store.home = c.home ∧ (getArr t a).store.members = [{ c with work := ⟨0, 0, 0, 0, 0, 0⟩ }] ∧
    (∀ m n, m < (outShape c.raw c.opS c.opT).1 → n < (outShape c.raw c.opS c.opT).2 → tget none (getArr t a).store.entries (storeIndex c.raw m n) =
      some (courseGutter (footByte s (viewExt s a c r.ext) c.ctx c.foot) c.raw c.opS c.opT c.ridge {} 0 (kUsed c.raw c.opT) m n)) ∧ t.mem = s.mem) ∧
  (∀ (s : State) (a : ArrayId) (c : Course) (r : RunLog) (q idx : Nat) (k : Cmd) (x : Extent) (pa : Nat), RunsAlone a c q idx k s → c.stage = .running → c.blocked = false → blocksOut s a = false → outputsFree s (viewExt s a c r.ext) a c = false →
    cdOp c.raw = 1 → cdForward c.raw = false → cdAccumulate c.raw = false → cdFromImage c.raw = false → cdSeqMode c.raw = 0 → c.strict = false → c.resume = 0 → c.intake = 0 →
    s.mem.flaws = [] → WayClear s (runReads s a c) (courseWrites s c) → footVerdict s c.ctx c.foot = .ok → outAddr c.opO 0 0 % (fmtBits (odFmt c.opO) / 8) = 0 →
    outShape c.raw c.opS c.opT = (1, 1) → odFmt c.opO ∈ [5, 6, 7, 8, 9] → odMx c.opO = false → odRec c.opO = false →
    (∀ y ∈ c.foot, target y.pa = .stacks) → (∀ va, footPoison s c.ctx c.foot va = false) →
    extentOf c.foot (outAddr c.opO 0 0) = some x → pa = x.pa + (outAddr c.opO 0 0 - x.va) → pa % (fmtBits (odFmt c.opO) / 8) = 0 → target pa = .stacks →
    target (pa / 64 * 64) = .stacks → keyIs s (pa / 64) x.keySlot = true →
    let g := courseGutter (footByte s (viewExt s a c r.ext) c.ctx c.foot) c.raw c.opS c.opT c.ridge {} 0 (kUsed c.raw c.opT) 0 0
    let v := roundVal (odFmt c.opO) c.round c.sat (srValue (cdSeed c.raw) (cdTensor c.raw) (elemIndex c.raw c.opO 0 0)) (gutterVal c.ridge g)
    ∃ t, exec (.courseComplete a r) s = .next t ∧
      CourseEnded a (0x4000 + a) c q (if c.breachSoFar || g.breach then .inexact else .ok) (max c.obsSoFar g.obs) s t ∧
      bytesAt t pa (fmtBits (odFmt c.opO) / 8) = toLe (fmtBits (odFmt c.opO) / 8) v ∧
      (∀ b, b < pa ∨ pa + fmtBits (odFmt c.opO) / 8 ≤ b → byteAt t b = byteAt s b))

/-- R43, R110, R113, R114, R117, R331, R333, R334: what stops or repeats a running course. -/
def Obligations.RunningCoursesAreStoppedAndRepeated : Prop :=
  (∀ (s : State) (a : ArrayId) (c : Course) (r : RunLog) (st : Status) (q idx : Nat) (k : Cmd), RunsAlone a c q idx k s → c.stage = .running → st = .crcExhausted →
    QuietStorage s → NoPeers a c s → (∀ x ∈ c.foot, target x.pa ≠ .host ∨ x.flushed = false) → (r.rows = 0 ∨ WayClear s [] (courseWrites s c)) →
    (c.faultRun = false → ∃ t x, exec (.courseFault a st r) s = .next t ∧ (getArr t a).courses = [x] ∧ x.faultRun = true ∧ x.resume = 0 ∧ x.stage = .running ∧ x.raw = c.raw ∧
      (getArr t a).run = some c.id ∧ ctr t 0x4100 9 = ctr s 0x4100 9 + 1 ∧ ctr t (0x4101 + a) 6 = ctr s (0x4101 + a) 6 + 1 ∧ (r.rows = 0 → t.mem.bytes = s.mem.bytes)) ∧
    (c.faultRun = true → ∃ t, exec (.courseFault a st r) s = .next t ∧ CourseEnded a (0x4000 + a) c q st (-512) s t ∧ (r.rows = 0 → t.mem = s.mem))) ∧
  (∀ (s : State) (a : ArrayId) (c : Course) (r : RunLog) (q idx : Nat) (k : Cmd), RunsAlone a c q idx k s → c.stage = .running → c.strict = true → c.strictRun = false →
    cdOp c.raw = 1 → QuietStorage s → WayClear s (runReads s a c) [] → NoPeers a c s →
    let gs := (List.range (outShape c.raw c.opS c.opT).1).flatMap fun m => (List.range (outShape c.raw c.opS c.opT).2).map fun n => outGutter s (viewExt s a c r.ext) a c m n
    (gs.any (·.breach) = true → ∃ t x, exec (.strictRerun a r) s = .next t ∧ (getArr t a).courses = [x] ∧ x.strictRun = true ∧ x.resume = 0 ∧
      x.ridge = gs.foldl (fun o g => max o g.obs) (-512) ∧ t.mem.bytes = s.mem.bytes) ∧
    (gs.any (·.breach) = false → exec (.strictRerun a r) s = .next s)) ∧
  (∀ (s : State) (a : ArrayId) (c : Course) (row : BitVec 32) (i : Byte) (p : Fin 28) (q idx : Nat) (k : Cmd), RunsAlone a c q idx k s → c.stage = .running →
    c.resume ≤ row.toNat → row.toNat ≤ cdRows c.raw →
    ((getArr s a).ask = true → (pairStart c row.toNat = row.toNat ∨ row.toNat = cdRows c.raw) → ∃ t, exec (.preemption a row i p) s = .next t ∧
      (getArr t a).courses = [{ c with stage := .draining row.toNat (if cdFlat c.raw then i.toNat else 0) (if multiPass c then p.val else 0) }] ∧ { t with arrays.arr := s.arrays.arr } = s) ∧
    ((getArr s a).ask = true → pairStart c row.toNat ≠ row.toNat → row.toNat ≠ cdRows c.raw → exec (.preemption a row i p) s = .next s) ∧
    ((getArr s a).ask = false → exec (.preemption a row i p) s = .next s)) ∧
  (∀ (s : State) (a : ArrayId) (c : Course) (r : RunLog) (row i p q idx : Nat) (k : Cmd), RunsAlone a c q idx k s → c.stage = .draining row i p → c.blocked = false → blocksOut s a = false → cdOp c.raw = 2 →
    cdFlat c.raw = false → odCols c.opT = 0 → odOrient c.opT = false → cdSeqMode c.raw = 0 → cdFromImage c.raw = false → s.mem.flaws = [] → WayClear s (runReads s a c) (courseWrites s c ++ saveExtent s c.ctx a) →
    hostInputsDead s c = false → footVerdict s c.ctx c.foot = .ok → accessVerdict s c.ctx blockSlot (saveAddr s c.ctx a) 4096 = .ok → ∃ t x, exec (.preemptSave a r) s = .next t ∧ (getArr t a).courses = [x] ∧ x.stage = .saved ∧ x.resume = row ∧ x.savedOn = a ∧ x.raw = c.raw ∧
    (getArr t a).run = none ∧ (getArr t a).ask = false ∧ ctr t 0x4100 0x0A = ctr s 0x4100 0x0A + 1 ∧ ctr t 0x6C00 0x0C = ctr s 0x6C00 0x0C + 1 ∧
    (∀ b, b < saveAddr s c.ctx a ∨ saveAddr s c.ctx a + 4096 ≤ b → byteAt t b = byteAt s b)) ∧
  (∀ (s : State) (a : ArrayId) (c : Course) (r : RunLog) (row i p q idx : Nat) (k : Cmd), RunsAlone a c q idx k s → c.stage = .draining row i p → c.faultRun = false →
    s.mem.flaws = [] → NoPeers a c s → (r.rows = 0 ∨ WayClear s [] (courseWrites s c)) → accessVerdict s c.ctx blockSlot (saveAddr s c.ctx a) 4096 = .ok →
    ∃ t x, exec (.courseFault a .crcExhausted r) s = .next t ∧ (getArr t a).courses = [x] ∧ x.stage = .saved ∧ x.faultRun = true ∧ x.resume = 0 ∧ x.savedOn = a ∧
    x.obsSoFar = -512 ∧ x.raw = c.raw ∧ (getArr t a).run = none ∧ (getArr t a).ask = false ∧ ctr t 0x4100 9 = ctr s 0x4100 9 + 1 ∧
    ctr t 0x4100 0x0A = ctr s 0x4100 0x0A + 1 ∧
    (r.rows = 0 → ∀ b, b < saveAddr s c.ctx a ∨ saveAddr s c.ctx a + 4096 ≤ b → byteAt t b = byteAt s b)) ∧
  (∀ (s : State) (a : ArrayId) (c : Course), fabOn s = true → s.acts = [] → runningCourse s a = some c → (getSlice s a).ctx = some c.ctx → (getSlice s a).endedAt = none →
    (getSlice s a).start + sliceLength s a c.ctx ≤ s.aoncnt →
    ((waitingCtxs s a).any (fun d => d ≠ c.ctx && !(outranks s c.ctx d)) = true → ∃ t, exec (.sliceEnd (Fin.castLE (by decide) a)) s = .next t ∧ (getArr t a).ask = true ∧
      (getSlice t a).endedAt = some ((getSlice s a).start + sliceLength s a c.ctx) ∧ { t with arrays.arr := s.arrays.arr, sched.slices := s.sched.slices } = s) ∧
    ((waitingCtxs s a).any (fun d => d ≠ c.ctx && !(outranks s c.ctx d)) = false → ∃ t, exec (.sliceEnd (Fin.castLE (by decide) a)) s = .next t ∧
      (getSlice t a).start = s.aoncnt ∧ (getSlice t a).short = 0 ∧ { t with sched.slices := s.sched.slices } = s)) ∧
  (∀ (s : State) (a : ArrayId) (c : Course) (l : PeerId) (r : PeerReq), fabOn s = true → s.acts = [] → runningCourse s a = some c → s.peers = [(l.val, { out := [r] })] →
    r.waiter = .array a c.id → r.landed = false → r.remote = false → r.op = 0 → 1 ≤ s.sched.remoteFree → (∃ d ∈ waitingCtxs s a, d ≠ c.ctx) →
    ∃ t, exec (.remoteWait (Fin.castLE (by decide) a)) s = .next t ∧ t.peers = [(l.val, { out := [{ r with remote := true }] })] ∧
    t.sched.remoteFree = s.sched.remoteFree - 1 ∧ (getArr t a).ask = true ∧ ctr t 0x6C00 0x0D = ctr s 0x6C00 0x0D + 1 ∧
    { t with peers := s.peers, sched.remoteFree := s.sched.remoteFree, arrays.arr := s.arrays.arr, ctrs := s.ctrs, wraps := s.wraps } = s)

/-- R118, R341, R343, R360: a block whose check passes changes nothing; one that fails is asked for again, at most four times; a duplicated
state machine that differs fences its unit. R326 to R329: a scan builds the list that is due and binds its sequences; the step's courses are
then issued in program order. -/
def Obligations.ChecksAndStepLists : Prop :=
  (∀ (s : State) (rc sn : BitVec 16) (g : Nat) (w : Bool) (r : RunLog), s.acts = [] → exec (.blockCheck rc sn g true w r) s = .next s) ∧
  (∀ (s : State) (rc sn : BitVec 16) (g : Nat) (w : Bool) (r : RunLog), fabOn s = true → s.acts = [] → UnitRuns rc.toNat s → unitOk rc.toNat = true → unitOk sn.toNat = true → findXfer s rc.toNat sn.toNat g = none →
    arrayReceiver s rc.toNat g = none →
    ∃ t, exec (.blockCheck rc sn g false w r) s = .next t ∧ t.xfers = s.xfers ++ [⟨rc.toNat, sn.toNat, g, w, 0⟩] ∧ { t with xfers := s.xfers } = s) ∧
  (∀ (s : State) (rc sn : BitVec 16) (g : Nat) (x : Transfer) (r : RunLog), fabOn s = true → s.acts = [] → UnitRuns rc.toNat s → unitOk rc.toNat = true → unitOk sn.toNat = true →
    findXfer s rc.toNat sn.toNat g = some x → x.fails < 3 →
    ∃ t, exec (.blockResend rc sn g false r) s = .next t ∧ t.xfers = s.xfers.erase x ++ [{ x with fails := x.fails + 1 }] ∧
    ctr t 0x8000 0x13 = ctr s 0x8000 0x13 + 1 ∧ { t with xfers := s.xfers, ctrs := s.ctrs, wraps := s.wraps } = s) ∧
  (∀ (s : State) (rc sn : BitVec 16) (g : Nat) (x : Transfer) (r : RunLog), fabOn s = true → s.acts = [] → UnitRuns rc.toNat s → unitOk rc.toNat = true → unitOk sn.toNat = true → RecordsQuietly s → findXfer s rc.toNat sn.toNat g = some x →
    arrayReceiver s rc.toNat g = none → ∃ t, exec (.blockResend rc sn g true r) s = .next t ∧ t.xfers = s.xfers.erase x ∧
    t.flt.serial = (s.flt.serial + 1) % 2 ^ 32 ∧ fld t.flt.last 184 8 = 1 ∧ t.coh = s.coh ∧ t.ports = s.ports ∧ t.objs = s.objs) ∧
  (∀ (s : State) (a : ArrayId) (r : RunLog), ArrayRuns a s → RecordsTwice s → (getArr s a).fenced = false → (getArr s a).courses = [] → (getArr s a).run = none →
    ∃ t, exec (.sequencerMismatch a r) s = .next t ∧ (getArr t a).fenced = true ∧ (getArr t a).cause = 2 ∧
    ctr t 0x4100 8 = ctr s 0x4100 8 + 1 ∧ ctr t (0x4101 + a) 8 = ctr s (0x4101 + a) 8 + 1 ∧ (∀ b, b ≠ a.val → (getArr t b).fenced = (getArr s b).fenced) ∧ t.ports = s.ports) ∧
  (∀ (s : State) (a : ArrayId) (r : RunLog), ArrayRuns a s → (getArr s a).fenced = true → exec (.sequencerMismatch a r) s = .next s) ∧
  (∀ (s : State) (e : EngineId), fabOn s = true → s.acts = [] → RecordsTwice s → getEngine s e = {} → (∀ kv ∈ s.queues, kv.2.cmds = []) → ∃ t, exec (.smMismatch (0x8000#16 + BitVec.ofNat 16 e)) s = .next t ∧
    (getEngine t e).fenced = true ∧ (∀ d, d ≠ e.val → getEngine t d = getEngine s d) ∧ t.flt.capacityGen = (s.flt.capacityGen + 1) % 2 ^ 32 ∧ t.queues = s.queues ∧ t.ports = s.ports) ∧
  (∀ (s : State) (k : WalkerId), fabOn s = true → s.acts = [] → RecordsTwice s → tget false s.tu.walkerFenced k = false → tget none s.tu.walks k = none →
    ∃ t, exec (.smMismatch (0x7000#16 + BitVec.ofNat 16 k)) s = .next t ∧ tget false t.tu.walkerFenced k = true ∧ t.tu.tlb = s.tu.tlb ∧ t.ports = s.ports) ∧
  (∀ (s : State), fabOn s = true → s.acts = [] → (∀ k, k < 4096 → buildDue s k = false) → exec .listScan s = .next s) ∧
  (∀ (s : State) (c : CtxId) (qs : List Nat), fabOn s = true → s.acts = [] → s.mem.flaws = [] → (∀ k, k < 4096 → buildDue s k = decide (k = c.val)) →
    qs = (ranked s c).take (fld (getCtx s c) 352 16) → qs ≠ [] → ∃ t, exec .listScan s = .next t ∧ (getRun t c).built = (getRun s c).built + 1 ∧
    (getRun t c).issuing = some ((getRun s c).built + 1) ∧ (getRun t c).gate = 0 ∧ ctr t 0x6C00 8 = ctr s 0x6C00 8 + 1 ∧
    (∀ q, getSeq t q = if sqState (getSeq s q) ≠ 0 ∧ sqCtx (getSeq s q) = c then (match qs.idxOf? q with
      | some r => putSeq [(80, 16, r), (224, 32, sqBound (getSeq s q) + 1)] (getSeq s q)
      | none => putSeq [(80, 16, 0xFFFF)] (getSeq s q)) else getSeq s q) ∧
    (∀ b, b < bankAddr s c (((getRun s c).built + 1) % 2) ∨ bankAddr s c (((getRun s c).built + 1) % 2) + 81920 ≤ b → byteAt t b = byteAt s b)) ∧
  (∀ (s : State) (c : CtxId), fabOn s = true → s.acts = [] → (getRun s c).issuing = none → exec (.stepIssue c) s = .next s) ∧
  (∀ (s : State) (c : CtxId) (n a : Nat) (foot : List Extent), fabOn s = true → s.acts = [] → QuietStorage s → ctxState s c = 1 → (getRun s c).issuing = some n → (getRun s c).waitRec = none →
    (flag (getCtx s c) 262 = false ∨ (getRun s c).gate = 2) → progCourses s c = 1 →
    checkFootprint tlbsOfService false (fld (getCtx s c) 116 12) [⟨fld (getCtx s c) 384 56, 128, needR⟩] s = (.good foot, s) →
    (∀ x ∈ foot, accessVerdict s c x.keySlot x.pa x.len = .ok ∧ runPoison s c x.pa x.len = false) → leastArray s = some a →
    cdAccumulate (stepCourse s c n (ofBytes 1024 (footBytes s [] c foot (fld (getCtx s c) 384 56) 128))) = false →
    ∃ (t : State) (k : Course), exec (.stepIssue c) s = .next t ∧ (getArr t a).courses = (getArr s a).courses ++ [k] ∧
    k.raw = stepCourse s c n (ofBytes 1024 (footBytes s [] c foot (fld (getCtx s c) 384 56) 128)) ∧ k.src = .ds c ∧ k.ctx = c ∧ k.stage = .issued ∧
    getRun t c = { getRun s c with issuing := none, gate := 0, waitRec := none } ∧ t.mem.bytes = s.mem.bytes ∧ t.ports = s.ports)

/-- R257, R262, R264, R269, R332: a command of a slot starts as its opcode says, and a malformed one completes MALFORMED. -/
def Obligations.QueueCommandsStart : Prop :=
  (∀ (s : State) (q : QueueId) (v : BitVec 2048), SlotReady q v s → slOp v = 1 → ∃ t, exec (.queueNop q) s = .next t ∧ Started q v (some .ok) s t ∧
    { t with queues := s.queues } = s) ∧
  (∀ (s : State) (q : QueueId) (v : BitVec 2048) (i : Instr), SlotWaits q v s → slotMalformed (confidential s (queueCtx s q)) v = true →
    i ∈ [.queueNop q, .courseSlot q, .queueCopy q, .queueFill q, .queueInlineWrite q, .queueFlashing q, .queueSignal q, .queueWait q, .digestOpen q, .digestRegion q [],
      .digestRead q, .digestClose q] → ∃ t, exec i s = .next t ∧ Started q v (some .malformed) s t ∧ { t with queues := s.queues } = s) ∧
  (∀ (s : State) (q : QueueId) (v : BitVec 2048), SlotReady q v s → slOp v = 2 → slArg v < 192 → (getArr s (slArg v)).fenced = false →
    ∃ (t : State) (k : Course), exec (.courseSlot q) s = .next t ∧ Started q v none s t ∧ (getArr t (slArg v)).courses = (getArr s (slArg v)).courses ++ [k] ∧
    k.raw = BitVec.ofNat 1024 (slBody v 0 1024) ∧ k.src = .queue q (getQueue s q).cons ∧ k.ctx = queueCtx s q ∧ k.stage = .issued ∧ t.mem = s.mem ∧ t.ports = s.ports) ∧
  (∀ (s : State) (q : QueueId) (v : BitVec 2048) (foot : List Extent) (i : Instr) (n : Nat), (i, n) ∈ [(.queueCopy q, 3), (.queueFill q, 4), (.queueInlineWrite q, 5)] →
    SlotReady q v s → slOp v = n → copyVerdict v = .ok → s.engines = [] → s.peers = [] → (∀ kv ∈ s.queues, kv.1 ≠ q.val → kv.2.cmds = []) →
    FootOk q v ((if n = 3 then [⟨(copyTerms v).2.1, (copyTerms v).2.2, needR⟩] else []) ++ [⟨(copyTerms v).1, (copyTerms v).2.2, needW⟩]) foot s →
    (target (footPa foot (copyTerms v).1) = .stacks ∨ target (footPa foot (copyTerms v).1) = .scratch) →
    ∃ t c, exec i s = .next t ∧ Started q v none s t ∧ (getQueue t q).cmds = [c] ∧ c.foot = foot ∧ c.footOk = true ∧ c.engine = some 0 ∧
    (getEngine t 0).job = some (q.val, (getQueue s q).cons) ∧ t.mem = s.mem ∧ t.out = s.out) ∧
  (∀ (s : State) (q : QueueId) (v : BitVec 2048) (i : Instr) (n : Nat), (i, n) ∈ [(.queueCopy q, 3), (.queueFill q, 4), (.queueInlineWrite q, 5)] →
    SlotReady q v s → slOp v = n → copyVerdict v ≠ .ok → ∃ t, exec i s = .next t ∧ Started q v (some (copyVerdict v)) s t ∧ { t with queues := s.queues } = s) ∧
  (∀ (s : State) (q : QueueId) (v : BitVec 2048), SlotReady q v s → slOp v = 6 → ∃ t c, exec (.queueFlashing q) s = .next t ∧ Started q v (some .ok) s t ∧
    (getQueue t q).cmds = [c] ∧ c.need0 = (getHost s 0).wseq ∧ c.need1 = (getHost s 1).wseq ∧
    ((getHost s 0).confirmed < (getHost s 0).wseq → ∃ n ∈ (getHost t 0).readbacks, (getHost s 0).wseq ≤ n) ∧ t.mem = s.mem) ∧
  (∀ (s : State) (q : QueueId) (v : BitVec 2048) (c n : Nat), SlotReady q v s → slOp v = 7 → syncBodyBad v = false → slBody v 0 17 = c → slBody v 64 32 = n → n ≠ 0 →
    boundTo s.sync c (queueCtx s q) = true → s.sync.watches = [] → valueOf s.sync c + n < 2 ^ 32 → ∃ t, exec (.queueSignal q) s = .next t ∧ Started q v (some .ok) s t ∧
    valueOf t.sync c = valueOf s.sync c + n ∧ (∀ k, k ≠ c → valueOf t.sync k = valueOf s.sync k) ∧ ctr t 0x6800 6 = ctr s 0x6800 6 + 1 ∧ t.mem = s.mem) ∧
  (∀ (s : State) (q : QueueId) (v : BitVec 2048) (c n : Nat), SlotReady q v s → slOp v = 8 → syncBodyBad v = false → slBody v 0 17 = c → slBody v 64 32 = n → n ≠ 0 →
    boundTo s.sync c (queueCtx s q) = true → s.sync.watches = [] →
    (n ≤ valueOf s.sync c → ∃ t, exec (.queueWait q) s = .next t ∧ Started q v (some .ok) s t ∧
      valueOf t.sync c = (if slBody v 17 1 = 1 then valueOf s.sync c else valueOf s.sync c - n) ∧ t.sync.watches = [] ∧ t.mem = s.mem) ∧
    (valueOf s.sync c < n → ∃ t, exec (.queueWait q) s = .next t ∧ Started q v none s t ∧ t.sync.watches = [⟨229376 + q, c, n, !(slBody v 17 1 = 1),
      if slBody v 96 32 = 0 then none else some (s.aoncnt + slBody v 96 32), 0, 0, .queue q, queueCtx s q⟩] ∧ t.mem = s.mem))

/-- R261, R262: the read of the slot at CONS makes it visible, waits for a re-read, or stops the queue. R363 to R366: the DIGEST commands open,
fold, read and close an agreement accumulator. -/
def Obligations.SlotsAreReadAndDigestsKept : Prop :=
  (∀ (s s1 : State) (q : QueueId) (ext : Ext) (bs : List Byte), fabOn s = true → s.acts = [] → (getQueue s q).reading = true → (getQueue s q).state = 1 →
    accessVerdict s (qCtx (getQueue s q).cfg) (qKey (getQueue s q).cfg) (slotPlace s q) 256 = .ok →
    s.mem.flaws = [] → WayClear s (slotExtent s q) (cqExtent s q) → (granulesOf (slotPlace s q) 256).any (unchecked s 0xA000) = false →
    slotBytes s q ext = (bs, false, s1) → confidential s (qCtx (getQueue s q).cfg) = false →
    (slotVisible (qRingLog2 (getQueue s q).cfg) (getQueue s q).cons (ofBytes 2048 bs) = true → ∃ t, exec (.slotReadReturn q ext none) s = .next t ∧
      (getQueue t q).head = some (ofBytes 2048 bs) ∧ (getQueue t q).reading = false ∧ (getQueue t q).rereads = 0 ∧ (getQueue t q).cons = (getQueue s q).cons ∧ t.mem.bytes = s.mem.bytes) ∧
    (slotVisible (qRingLog2 (getQueue s q).cfg) (getQueue s q).cons (ofBytes 2048 bs) = false → (getQueue s q).rereads < 8 → ∃ t, exec (.slotReadReturn q ext none) s = .next t ∧
      (getQueue t q).head = (getQueue s q).head ∧ (getQueue t q).rereadDue = some (s.aoncnt + 50 * 2 ^ (getQueue s q).rereads) ∧ (getQueue t q).reading = false ∧ t.mem.bytes = s.mem.bytes) ∧
    (slotVisible (qRingLog2 (getQueue s q).cfg) (getQueue s q).cons (ofBytes 2048 bs) = false → (getQueue s q).rereads = 8 → s.coh.fresh = [] → ∃ t, exec (.slotReadReturn q ext none) s = .next t ∧
      (getQueue t q).state = 2 ∧ (getQueue t q).stop = 0x11 ∧ ctr t 0x6000 9 = ctr s 0x6000 9 + 1)) ∧
  (∀ (s : State) (q : QueueId) (ext : Ext) (st : Status), fabOn s = true → s.acts = [] → (getQueue s q).reading = true → (getQueue s q).state = 1 → WayClear s [] (cqExtent s q) →
    ∃ t, exec (.slotReadReturn q ext (some st)) s = .next t ∧ (getQueue t q).state = 2 ∧ (getQueue t q).stop = st.code) ∧
  (∀ (s : State) (q : QueueId) (due : Nat), fabOn s = true → s.acts = [] → (getQueue s q).rereadDue = some due → due ≤ s.aoncnt → (getQueue s q).state = 1 →
    ∃ t, exec (.slotReread q) s = .next t ∧ (getQueue t q).reading = true ∧ (getQueue t q).rereads = (getQueue s q).rereads + 1 ∧ (getQueue t q).rereadDue = none ∧
    ctr t 0x6000 8 = ctr s 0x6000 8 + 1 ∧ { t with queues := s.queues, ctrs := s.ctrs, wraps := s.wraps } = s) ∧
  (∀ (s : State) (q : QueueId) (due : Nat), s.acts = [] → (getQueue s q).rereadDue = some due → s.aoncnt < due → exec (.slotReread q) s = .next s) ∧
  (∀ (s : State) (q : QueueId) (v : BitVec 2048), SlotReady q v s → slOp v = 9 → slBody v 0 4 = 1 → digestBad v = false →
    (findAccum s (queueCtx s q) (slBody v 32 32) = none → s.accums.length < 8192 → ∃ t, exec (.digestOpen q) s = .next t ∧ Started q v (some .ok) s t ∧
      t.accums = s.accums ++ [⟨queueCtx s q, slBody v 32 32, 0, 0⟩] ∧ { t with queues := s.queues, accums := s.accums } = s) ∧
    (∀ (a : Accum), findAccum s (queueCtx s q) (slBody v 32 32) = some a → ∃ t, exec (.digestOpen q) s = .next t ∧ Started q v (some .ok) s t ∧
      findAccum t (queueCtx s q) (slBody v 32 32) = some ⟨queueCtx s q, slBody v 32 32, 0, 0⟩ ∧ { t with queues := s.queues, accums := s.accums } = s)) ∧
  (∀ (s : State) (q : QueueId) (v : BitVec 2048) (a : Accum) (foot : List Extent) (ext : Ext), SlotReady q v s → slOp v = 9 → slBody v 0 4 = 2 → digestBad v = false →
    findAccum s (queueCtx s q) (slBody v 32 32) = some a → slBody v 200 56 + slBody v 152 40 ≤ 2 ^ 56 → FootOk q v [⟨slBody v 200 56, slBody v 152 40, needR⟩] foot s →
    (∀ x ∈ foot, runPoison s (queueCtx s q) x.pa x.len = false) →
    s.mem.flaws = [] → WayClear s foot [] → (∀ x ∈ foot, (granulesOf x.pa x.len).any (unchecked s 0xA000) = false) →
    let ds := regionDigests (footByte s (queueExt s ++ outsideExt s ext) (queueCtx s q) foot) (slBody v 200 56) (slBody v 152 40) (slBody v 146 6) (slBody v 64 64)
    ∃ t, exec (.digestRegion q ext) s = .next t ∧ Started q v (some .ok) s t ∧
      findAccum t (queueCtx s q) (slBody v 32 32) = some { a with digest := ds.foldl (· ^^^ ·) a.digest, tiles := a.tiles + ds.length } ∧ t.mem.bytes = s.mem.bytes ∧ t.objs = s.objs) ∧
  (∀ (s : State) (q : QueueId) (v : BitVec 2048) (a : Accum) (x : Extent), SlotReady q v s → slOp v = 9 → slBody v 0 4 = 3 → digestBad v = false →
    findAccum s (queueCtx s q) (slBody v 32 32) = some a → FootOk q v [⟨slBody v 200 56, 32, needW⟩] [x] s → x.va = slBody v 200 56 → x.len = 32 → x.pa % 32 = 0 →
    s.mem.flaws = [] → WayClear s [] [x] →
    ∃ t, exec (.digestRead q) s = .next t ∧ Started q v (some .ok) s t ∧ bytesAt t x.pa 32 = bytesOf 32 (accumRecord a) ∧
      (∀ b, b < x.pa / 64 * 64 ∨ x.pa / 64 * 64 + 64 ≤ b → byteAt t b = byteAt s b) ∧ t.accums = s.accums) ∧
  (∀ (s : State) (q : QueueId) (v : BitVec 2048) (a : Accum), SlotReady q v s → slOp v = 9 → slBody v 0 4 = 4 → digestBad v = false →
    findAccum s (queueCtx s q) (slBody v 32 32) = some a → ∃ t, exec (.digestClose q) s = .next t ∧ Started q v (some .ok) s t ∧
      findAccum t (queueCtx s q) (slBody v 32 32) = none ∧ (∀ c k, (c, k) ≠ (queueCtx s q, slBody v 32 32) → findAccum t c k = findAccum s c k) ∧
      { t with queues := s.queues, accums := s.accums } = s)

/-- R270, R272, R273, R275: a burst writes its bytes, a faulted command runs once more on another engine, and a finished command leaves with its
completion record, which in host memory counts once it has been read back. -/
def Obligations.EnginesAndCompletions : Prop :=
  (∀ (s : State) (q : QueueId) (e : EngineId) (c : Cmd) (x : Extent) (ext : Ext), fabOn s = true → s.acts = [] → s.peers = [] → isJournaled s q = false →
    (getEngine s e).job = some (q.val, c.idx) → (getEngine s e).fencing = false → (getQueue s q).cmds = [c] → c.engine = some e.val → c.recheck = false → (slOp c.slot = 4 ∨ slOp c.slot = 5) → c.burst = 0 → c.fin = none → c.foot = [x] →
    x.va = (copyTerms c.slot).1 → x.len = (copyTerms c.slot).2.2 → x.len ≤ 2 ^ 20 → x.len ≠ 0 → x.pa % 64 = x.va % 64 → target x.pa = .stacks → x.pa + x.len ≤ 2 ^ 48 →
    s.mem.flaws = [] → WayClear s [] [x] → footVerdict s (queueCtx s q) [x] = .ok → s.xfers.any (fun y => y.receiver = 0x8000 + e.val && !y.write) = false →
    ∃ t k, exec (.burstComplete e ext) s = .next t ∧ (∀ i, i < x.len → byteAt t (x.pa + i) =
      (if slOp c.slot = 4 then BitVec.ofNat 8 (slBody c.slot (288 + 8 * (i % 4)) 8) else BitVec.ofNat 8 (slBody c.slot (8 * i) 8))) ∧
    (∀ a, a < x.pa / 64 * 64 ∨ (x.pa + x.len + 63) / 64 * 64 ≤ a → byteAt t a = byteAt s a) ∧ (getQueue t q).cmds = [k] ∧ k.fin = some .ok ∧ k.engine = none ∧
    (getEngine t e).job = none ∧ ctr t (0x6001 + e) 3 = ctr s (0x6001 + e) 3 + 1 ∧ ctr t (0x6001 + e) 4 = ctr s (0x6001 + e) 4 + BitVec.ofNat 64 x.len) ∧
  (∀ (s : State) (q : QueueId) (e e' : EngineId) (c : Cmd) (st : Status), fabOn s = true → s.acts = [] → s.peers = [] → st ≠ .ok → (getEngine s e).job = some (q.val, c.idx) →
    (getEngine s e).migrate = none → (getEngine s e).fencing = false → (∀ kv ∈ s.queues, kv.1 ≠ q.val → kv.2.cmds = []) → c.engine = some e.val → c.fin = none → c.recheck = false → c.oldPart = false →
    (getQueue s q).cmds = [c] → c.reruns = 0 → slOp c.slot = 4 → (engineClass c.slot c.foot).1 ≤ e' → e'.val < (engineClass c.slot c.foot).1 + (engineClass c.slot c.foot).2 → e' ≠ e →
    engineIdle s e' = true → (∀ d : Nat, (engineClass c.slot c.foot).1 ≤ d → d < e'.val → d ≠ e.val → engineIdle s d = false) →
    ∃ t k, exec (.engineFault e st) s = .next t ∧ (getQueue t q).cmds = [k] ∧ k.reruns = 1 ∧ k.burst = c.committed ∧ k.engine = some e'.val ∧ k.reissued = true ∧ k.avoid = some e.val ∧ k.fin = none ∧
    (getEngine t e).job = none ∧ (getEngine t e').job = some (q.val, c.idx) ∧ ctr t (0x6001 + e) 5 = ctr s (0x6001 + e) 5 + 1 ∧ t.mem = s.mem) ∧
  (∀ (s : State) (q : QueueId) (e : EngineId) (c : Cmd) (st : Status), fabOn s = true → s.acts = [] → st ≠ .ok → (getEngine s e).job = some (q.val, c.idx) →
    (getEngine s e).migrate = none → (getEngine s e).fencing = false → c.engine = some e.val →
    (getQueue s q).cmds = [c] → c.reruns ≠ 0 → c.fin = none → ∃ t k, exec (.engineFault e st) s = .next t ∧ (getQueue t q).cmds = [k] ∧ k.fin = some st ∧ k.engine = none ∧
    k.detail = BitVec.ofNat 128 (pack [(16, 0x8000 + e), (1, b2n c.poison), (1, b2n c.reissued)]) ∧ (getEngine t e).job = none ∧ ctr t (0x6001 + e) 3 = ctr s (0x6001 + e) 3 + 1 ∧
    { t with queues := s.queues, engines := s.engines, ctrs := s.ctrs, wraps := s.wraps } = s) ∧
  (∀ (s : State) (q : QueueId) (c : Cmd) (pa : Nat), fabOn s = true → s.acts = [] → (getQueue s q).cmds = [c] → recordReady s q c = true → c.cqAt = none → c.doneNum = none → slOp c.slot ≠ 6 → slOp c.slot ≠ 8 →
    (getQueue s q).state = 1 → (getQueue s q).jrn.state = 0 → (getQueue s q).jrn.closing = false → (getQueue s q).cqProd < 2 ^ 32 → WayClear s [] (cqExtent s q) → qCqSignal (getQueue s q).cfg = false → pa = qCq (getQueue s q).cfg + 32 * ((getQueue s q).cqProd % 2 ^ qCqLog2 (getQueue s q).cfg) → pa % 32 = 0 →
    target pa = .stacks → accessVerdict s (qCtx (getQueue s q).cfg) (qKey (getQueue s q).cfg) pa 32 = .ok → s.mem.flaws = [] → ∃ t, exec (.completionRecord q c.idx) s = .next t ∧ (getQueue t q).cmds = [] ∧ (getQueue t q).cqProd = ((getQueue s q).cqProd + 1) % 2 ^ 32 ∧
    bytesAt t pa 32 = toLe 32 (pack [(8, (c.fin.getD .ok).code), (8, slOp c.slot), (1, slotPhase (qCqLog2 (getQueue s q).cfg) (getQueue s q).cqProd), (1, 0), (14, q.val), (32, c.idx % 2 ^ 32),
      (64, slTag c.slot), (128, c.detail.toNat)]) ∧ (∀ b, b < pa / 64 * 64 ∨ pa / 64 * 64 + 64 ≤ b → byteAt t b = byteAt s b) ∧ ctr t 0x6000 0x0B = ctr s 0x6000 0x0B + 1) ∧
  (∀ (s : State) (q : QueueId) (c : Cmd), fabOn s = true → s.acts = [] → (getQueue s q).cmds = [c] → recordReady s q c = true → c.cqAt = none → c.doneNum = none →
    (getQueue s q).jrn.state = 0 → (getQueue s q).cqProd < 2 ^ 32 → target (cqPlace (getQueue s q)) = .host → proxyAlive s = true → LinksCarry s →
    ∃ t p, exec (.completionRecord q c.idx) s = .next t ∧ (getQueue t q).cmds = [{ c with cqAt := some ((getQueue s q).cqProd, p, (getHost t p).wseq) }] ∧
    (getHost t p).wseq = (getHost s p).wseq + 1 ∧ (getQueue t q).cqProd = (getQueue s q).cqProd ∧ t.mem = s.mem ∧
    Out.hostWrite p (cqPlace (getQueue s q)) (toLe 32 (pack [(8, (c.fin.getD .ok).code), (8, slOp c.slot), (1, slotPhase (qCqLog2 (getQueue s q).cfg) (getQueue s q).cqProd), (1, 0), (14, q.val),
      (32, c.idx % 2 ^ 32), (64, slTag c.slot), (128, c.detail.toNat)])) false ∈ t.out) ∧
  (∀ (s : State) (q : QueueId) (c : Cmd) (p n : Nat), fabOn s = true → s.acts = [] → (getQueue s q).cmds = [c] → c.cqAt = some ((getQueue s q).cqProd, p, n) → c.doneNum = none →
    (n ≤ (getHost s p).confirmed → slOp c.slot ≠ 6 → slOp c.slot ≠ 8 → (getQueue s q).state = 1 → qCqSignal (getQueue s q).cfg = false → (getQueue s q).jrn.closing = false →
      ∃ t, exec (.completionRecord q c.idx) s = .next t ∧ (getQueue t q).cmds = [] ∧ (getQueue t q).cqProd = ((getQueue s q).cqProd + 1) % 2 ^ 32 ∧
      ctr t 0x6000 0x0B = ctr s 0x6000 0x0B + 1 ∧ { t with queues := s.queues, ctrs := s.ctrs, wraps := s.wraps } = s) ∧
    ((getHost s p).confirmed < n → p < 2 → ∃ t, exec (.completionRecord q c.idx) s = .next t ∧ (∃ m ∈ (getHost t p).readbacks, n ≤ m ∨ m = (getHost s p).wseq) ∧
      { t with hosts := s.hosts, out := s.out, stalled := s.stalled } = s)) ∧
  (∀ (s : State) (q : QueueId) (c : Cmd), s.acts = [] → findCmd s q c.idx = some c → c.cqAt = none → c.fin = none → exec (.completionRecord q c.idx) s = .next s)

/-- R284 to R290, R295, R296: a journaled command's ACCEPT, INTENT, COMMIT and DONE records are written in turn, and what each stands for
follows once a read-back has confirmed it; a recovery that runs past its limit leaves the queue HELD and stopped. That what follows a record
waits for a later command is the model's form of R286 (log 20). -/
def Obligations.JournalRecordsAreWritten : Prop :=
  (∀ (s : State) (q : QueueId) (v : BitVec 2048), fabOn s = true → s.acts = [] → s.mem.flaws = [] → proxyAlive s = true → LinksCarry s → isJournaled s q = true → (getQueue s q).state = 1 →
    (getQueue s q).jrn.state = 1 → (getQueue s q).head = some v → (getQueue s q).cmds = [] → cqRoom (getQueue s q) = true → slotMalformed (confidential s (queueCtx s q)) v = false →
    256 ≤ shadowFree s → (getQueue s q).jrn.recs = [] → 8 ≤ qJLog2 (getQueue s q).cfg → ∃ t c r, exec (.journalAccept q) s = .next t ∧ (getQueue t q).cmds = [c] ∧ c.slot = v ∧
    c.idx = (getQueue s q).cons ∧ c.started = false ∧ c.accepted = false ∧ c.fin = none ∧ c.acceptNum = some (getQueue s q).jrn.jprod ∧ (getQueue t q).jrn.recs = [r] ∧
    r.num = (getQueue s q).jrn.jprod ∧ r.confirmed = false ∧ r.seq = (getHost s r.port).wseq + 1 ∧
    RecordSent q 1 ((getQueue s q).epoch * 2 ^ 32 + (getQueue s q).cons) 0 1 .ok s t ∧ (getQueue t q).cons = ((getQueue s q).cons + 1) % 2 ^ 32 ∧ (getQueue t q).head = none) ∧
  (∀ (s : State) (q : QueueId) (c : Cmd) (n : Nat), fabOn s = true → s.acts = [] → (getQueue s q).jrn.state ≠ 2 → (getQueue s q).head = none → (getQueue s q).cmds = [c] → c.accepted = false →
    c.acceptNum = some n → recConfirmed (getQueue s q) n = true → ∃ t, exec (.journalAccept q) s = .next t ∧ (getQueue t q).cmds = [{ c with accepted := true }] ∧
    ctr t 0x6400 4 = ctr s 0x6400 4 + 1 ∧ { t with queues := s.queues, ctrs := s.ctrs, wraps := s.wraps } = s) ∧
  (∀ (s : State) (q : QueueId) (p : HostId) (c : Cmd) (r : JRecord) (n : Nat) (x : Queue), dataOn s = true → s.asleep = false → s.acts = [] → s.ports = [] → s.arrays.arr = [] →
    hostCarries s p = true → (getHost s p).readbacks = [n] → s.queues = [(q.val, x)] → x.cmds = [c] → x.jrn.state = 1 → x.jrn.recs = [r] → r.confirmed = false → r.port = p → r.seq ≠ 0 →
    r.seq ≤ n → c.doneRec = false →
    (fld r.raw 8 4 = 1 → c.acceptNum = some r.num → c.doneNum = none → ∃ t, exec (.readbackComplete p) s = .next t ∧ (getHost t p).readbacks = [] ∧
      (getQueue t q).jrn.recs = [{ r with confirmed := true }] ∧ (getQueue t q).cmds = [c] ∧ t.mem = s.mem) ∧
    (fld r.raw 8 4 = 4 → c.doneNum = some r.num → ∃ t, exec (.readbackComplete p) s = .next t ∧ (getHost t p).readbacks = [] ∧
      (getQueue t q).jrn.recs = [] ∧ (getQueue t q).cmds = [{ c with doneRec := true }] ∧ t.mem = s.mem)) ∧
  (∀ (s : State) (q : QueueId) (c : Cmd) (r : JRecord) (f : Nat) (fs : List Nat), JournalRuns q c r s → fld r.raw 8 4 = 1 → c.acceptNum = some r.num → c.intent = none →
    c.frames = f :: fs → c.fin = some .ok → ∃ t k, exec (.journalIntent q c.idx) s = .next t ∧ (getQueue t q).cmds = [k] ∧ k.intent = some f ∧ k.performed = false ∧
    k.intentNum = (getQueue s q).jrn.jprod ∧ RecordSent q 2 c.ext c.committed ((unitBytes c c.committed).length - 1 + f * 2 ^ 20) .ok s t ∧ t.mem = s.mem) ∧
  (∀ (s : State) (q : QueueId) (c : Cmd) (r : JRecord) (f va : Nat) (b : Byte) (x : Extent), JournalRuns q c r s → c.intent = some f → c.intentNum = r.num → c.performed = false →
    unitBytes c c.committed = [(va, b)] → target (frameAddr (getQueue s q) f) = .scratch →
    lineByte (granuleData s (queueCtx s q) 0 (frameAddr (getQueue s q) f / 64)) (frameAddr (getQueue s q) f % 64) = b →
    granulePoison s (queueCtx s q) (frameAddr (getQueue s q) f / 64) = false → x.va = va → target x.pa = .host → x.flushed = true → x.len ≠ 0 →
    checkFootprint tlbsOfService false (fld (getCtx s (queueCtx s q)) 116 12) [⟨va, 1, needW⟩] s = (.good [x], s) → footVerdict s (queueCtx s q) [x] = .ok →
    ∃ t k p, exec (.journalIntent q c.idx) s = .next t ∧ (getQueue t q).cmds = [k] ∧ k.performed = true ∧ k.intent = some f ∧
    t.out.head? = some (.hostWrite p x.pa [b] false) ∧ t.mem = s.mem) ∧
  (∀ (s : State) (q : QueueId) (c : Cmd) (r : JRecord) (f : Nat), JournalRuns q c r s → c.intent = some f → c.performed = true →
    (c.commitNum = none → fld r.raw 8 4 = 2 → c.intentNum = r.num → c.need0 ≤ (getHost s 0).confirmed → c.need1 ≤ (getHost s 1).confirmed →
      ∃ t, exec (.journalCommit q c.idx) s = .next t ∧ (getQueue t q).cmds = [{ c with commitNum := some (getQueue s q).jrn.jprod }] ∧
      RecordSent q 3 c.ext c.committed (f * 2 ^ 20) .ok s t ∧ t.mem = s.mem) ∧
    (c.commitNum = some r.num → fld r.raw 8 4 = 3 → c.frames = [f] → c.staged.length ≤ (c.committed + 1) * 2 ^ 20 → ∃ t k, exec (.journalCommit q c.idx) s = .next t ∧
      (getQueue t q).cmds = [k] ∧ k.intent = none ∧ k.committed = c.committed + 1 ∧ k.frames = [] ∧ k.fin = c.fin ∧ (getQueue t q).jrn.recs = [] ∧
      (getQueue t q).jrn.frames = (getQueue s q).jrn.frames.erase f ∧ ctr t 0x6400 5 = ctr s 0x6400 5 + 1 ∧ t.mem = s.mem ∧ t.out = s.out)) ∧
  (∀ (s : State) (q : QueueId) (c : Cmd) (r : JRecord), JournalRuns q c r s → fld r.raw 8 4 = 1 → c.acceptNum = some r.num → c.intent = none → c.staged = [] → c.fin = some .ok →
    ∃ t k, exec (.queueDone q c.idx) s = .next t ∧ (getQueue t q).cmds = [k] ∧ k.doneMark = true ∧ k.doneRec = false ∧ k.doneNum = some (getQueue s q).jrn.jprod ∧ k.fin = some .ok ∧
    RecordSent q 4 c.ext (slTag c.slot) (c.committed % 2 ^ 32) .ok s t ∧ t.mem = s.mem ∧ t.accums = s.accums) ∧
  (∀ (s : State) (q : QueueId) (n : Nat), fabOn s = true → s.acts = [] → (getQueue s q).jrn.state = 3 → (getQueue s q).jrn.limit = some n → n ≤ s.aoncnt →
    ∃ t, exec (.recoverLimitExpiry q) s = .next t ∧ (getQueue t q).jrn.state = 2 ∧ (getQueue t q).jrn.recStatus = 0x23 ∧ (getQueue t q).state = 2 ∧ (getQueue t q).stop = 0x23 ∧
    (∀ k, k ≠ q.val → getQueue t k = getQueue s k) ∧ { t with queues := s.queues } = s) ∧
  (∀ (s : State) (q : QueueId) (n : Nat), s.acts = [] → (getQueue s q).jrn.limit = some n → s.aoncnt < n → exec (.recoverLimitExpiry q) s = .next s)

/-- R231 to R234, Tables 9.4, 9.5: what a home answers to each request for a granule that no cache holds; a granule with an open transaction
answers RETRY. -/
def Obligations.HomesServeRequests : Prop :=
  (∀ (s : State) (r : CohReq) (i : Instr), NearRequest r s → (getPort s r.agent).nearFenced = false → i ∈ [.rdS r, .rdX r, .upg r] → ∃ t x, exec i s = .next t ∧
    Msg.data r.agent (r.pa / 64) .e (granuleData s r.ctx r.keySlot (r.pa / 64)) false false ∈ t.coh.fabric ∧ getDir t (r.pa / 64) = ⟨.exclusive, [r.agent], none⟩ ∧
    getTxn t (r.pa / 64) = some x ∧ x.doneWait = true ∧ x.req = r ∧ t.mem.bytes = s.mem.bytes ∧ t.coh.near = s.coh.near ∧ t.ports = s.ports) ∧
  (∀ (s : State) (r : CohReq), NearRequest r s → ∃ t, exec (.rdNc r) s = .next t ∧
    Msg.data r.agent (r.pa / 64) .none (granuleData s r.ctx r.keySlot (r.pa / 64)) false false ∈ t.coh.fabric ∧ t.coh.dir = [] ∧ t.coh.txns = [] ∧
    t.mem.bytes = s.mem.bytes ∧ t.coh.near = s.coh.near ∧ t.ports = s.ports) ∧
  (∀ (s : State) (r : CohReq) (d : CohData), NearRequest r s → ∃ t, exec (.wrNc r d) s = .next t ∧ Msg.cmp r.agent (r.pa / 64) 0 false ∈ t.coh.fabric ∧
    t.coh.dir = [] ∧ t.coh.txns = [] ∧ WrittenUnder (r.pa / 64) d.data d.mask s t ∧ poisonAt t (r.pa / 64) = d.poison ∧ t.coh.near = s.coh.near ∧ t.ports = s.ports) ∧
  (∀ (s : State) (r : CohReq) (d : CohData) (aop : Fin 10) (n : Fin 3), NearRequest r s → r.pa % (4 * 2 ^ n.val) = 0 → ∃ t, exec (.atomH r d aop n) s = .next t ∧
    Msg.cmp r.agent (r.pa / 64) (granuleData s r.ctx r.keySlot (r.pa / 64)) false ∈ t.coh.fabric ∧ t.coh.dir = [] ∧ t.coh.txns = [] ∧
    WrittenUnder (r.pa / 64) (atomicLine aop (4 * 2 ^ n.val) (r.pa % 64) (granuleData s r.ctx r.keySlot (r.pa / 64)) d.data) (maskOf (r.pa % 64) (4 * 2 ^ n.val)) s t) ∧
  (∀ (s : State) (r : CohReq), NearRequest r s → ∃ t, exec (.zeroL r) s = .next t ∧ Msg.cmp r.agent (r.pa / 64) 0 false ∈ t.coh.fabric ∧ t.coh.dir = [] ∧ t.coh.txns = [] ∧
    (∀ i, i < 256 → byteAt t (r.pa / 64 / 4 * 4 * 64 + i) = 0) ∧
    (∀ a, a < r.pa / 64 / 4 * 4 * 64 ∨ r.pa / 64 / 4 * 4 * 64 + 256 ≤ a → byteAt t a = byteAt s a)) ∧
  (∀ (s : State) (r : CohReq) (d : CohData) (aop : Fin 10) (n : Fin 3) (i : Instr), fabOn s = true → s.acts = [] → r.agent < 192 → r.aged = false → r.retry.val < 9 →
    (getTxn s (r.pa / 64)).isSome = true → recalling s (r.pa / 64) = false → (s.xfers.all fun y => !y.write) = true → i ∈ [.rdS r, .rdX r, .upg r, .rdNc r, .wrNc r d, .atomH r d aop n, .zeroL r] → ∃ t, exec i s = .next t ∧
    Msg.retry r.agent (r.pa / 64) r.retry.val ∈ t.coh.fabric ∧ ctr t 0x3800 9 = ctr s 0x3800 9 + 1 ∧
    { t with coh.fabric := s.coh.fabric, ctrs := s.ctrs, wraps := s.wraps } = s)

/-- R231, R238, R239, R241, Table 9.4: how a holder answers each snoop, and what it keeps. -/
def Obligations.HoldersAnswerSnoops : Prop :=
  (∀ (s : State) (p : PortId) (g q : Nat) (i : Instr) (k : SnpKind), (i, k) ∈ [(.snpFwdS p g q, .fwdS), (.snpFwdX p g q, .fwdX), (.snpGetS p g q, .getS), (.snpGetI p g q, .getI),
    (.snpCur p g q, .cur), (.snpInv p g q, .inv)] → Holds p g {} s → ∃ t, exec i s = .next t ∧ t.coh.fabric = s.coh.fabric.erase (.snoop k p g q) ++ [.answer k p g false false false] ∧
    { t with coh.fabric := s.coh.fabric } = s) ∧
  (∀ (s : State) (p : PortId) (g q : Nat) (l : NearLine), Holds p g l s → l.st ≠ .i → ∃ t, exec (.snpFwdS p g q) s = .next t ∧ getNear t p g = { l with st := .s } ∧
    Msg.answer .fwdS p g true (l.st = .m) false ∈ t.coh.fabric ∧ Msg.data q g .f (granuleData s (txnView s g).1 (txnView s g).2.1 g) (nearPoison s (txnView s g).1 g) true ∈ t.coh.fabric ∧
    { t with coh.fabric := s.coh.fabric, coh.near := s.coh.near } = s) ∧
  (∀ (s : State) (p : PortId) (g q : Nat) (l : NearLine), Holds p g l s → l.st ≠ .i → ∃ t, exec (.snpFwdX p g q) s = .next t ∧ (getNear t p g).st = .i ∧
    Msg.answer .fwdX p g true (l.st = .m) false ∈ t.coh.fabric ∧
    Msg.data q g (if l.st = .m then .m else .e) (granuleData s (txnView s g).1 (txnView s g).2.1 g) (nearPoison s (txnView s g).1 g) true ∈ t.coh.fabric ∧
    (∀ k v, tget none (getPort t p).resv k = some v → v.granule ≠ g) ∧ t.mem = s.mem) ∧
  (∀ (s : State) (p : PortId) (g q : Nat) (l : NearLine), Holds p g l s → l.st ≠ .i → ∃ t, exec (.snpGetS p g q) s = .next t ∧ getNear t p g = { l with st := .s } ∧
    Msg.answer .getS p g true (l.st = .m) false ∈ t.coh.fabric ∧ { t with coh.fabric := s.coh.fabric, coh.near := s.coh.near } = s) ∧
  (∀ (s : State) (p : PortId) (g q : Nat) (l : NearLine), Holds p g l s → l.st ≠ .i → ∃ t, exec (.snpGetI p g q) s = .next t ∧ (getNear t p g).st = .i ∧
    Msg.answer .getI p g true (l.st = .m) false ∈ t.coh.fabric ∧ (∀ k v, tget none (getPort t p).resv k = some v → v.granule ≠ g) ∧ t.mem = s.mem) ∧
  (∀ (s : State) (p : PortId) (g q : Nat) (l : NearLine), Holds p g l s → l.st ≠ .i → ∃ t, exec (.snpCur p g q) s = .next t ∧
    Msg.answer .cur p g true (l.st = .m) false ∈ t.coh.fabric ∧ { t with coh.fabric := s.coh.fabric } = s) ∧
  (∀ (s : State) (p : PortId) (g q : Nat) (l : NearLine), Holds p g l s → l.st ≠ .i → ∃ t, exec (.snpInv p g q) s = .next t ∧ (getNear t p g).st = .i ∧
    Msg.answer .inv p g false false false ∈ t.coh.fabric ∧ (∀ k v, tget none (getPort t p).resv k = some v → v.granule ≠ g) ∧ t.mem = s.mem)

/-- R232, R236 to R239, Table 9.5: a home takes the answer that it waits for and finishes the transaction; a writeback is applied at once. R231,
R234, R241, R242: a requester takes its line or its completion; a RETRY makes it ask again; a dead near cache holds nothing and is never
asked again. -/
def Obligations.AnswersAreTaken : Prop :=
  (∀ (s : State) (p : PortId) (g : Nat) (x : Txn), Awaits g p .rdX x s → (x.fwd = none ∨ x.fwd = some p.val) → (getNear s p g).st = .i → ∃ t y, exec (.rspI p g) s = .next t ∧ getDir t g = ⟨.exclusive, [x.req.agent], none⟩ ∧
    Msg.data x.req.agent g .e (granuleData s x.req.ctx x.req.keySlot g) false false ∈ t.coh.fabric ∧ getTxn t g = some y ∧ y.doneWait = true ∧ t.mem.bytes = s.mem.bytes) ∧
  (∀ (s : State) (p : PortId) (g : Nat) (x : Txn) (b : Bool), Awaits g p .rdS x s → x.fwd = some p.val → getDir s g = ⟨.exclusive, [p.val], none⟩ → ∃ t y, exec (.rspFwdS p g b) s = .next t ∧
    getDir t g = ⟨.shared, [p.val, x.req.agent], some x.req.agent⟩ ∧ getTxn t g = some y ∧ y.doneWait = true ∧ t.mem.bytes = s.mem.bytes ∧ t.coh.near = s.coh.near) ∧
  (∀ (s : State) (p : PortId) (g : Nat) (x : Txn) (b : Bool), Awaits g p .rdX x s → x.fwd = some p.val → ∃ t y, exec (.rspFwdI p g b) s = .next t ∧
    getDir t g = ⟨.exclusive, [x.req.agent], none⟩ ∧ getTxn t g = some y ∧ y.doneWait = true ∧ t.mem.bytes = s.mem.bytes ∧ t.coh.near = s.coh.near) ∧
  (∀ (s : State) (p : PortId) (g : Nat) (x : Txn) (b : Bool), Awaits g p .rdNc x s → x.fwd = none → ∃ t, exec (.rspData p g b) s = .next t ∧ getDir t g = getDir s g ∧
    Msg.data x.req.agent g .none (granuleData s x.req.ctx x.req.keySlot g) false false ∈ t.coh.fabric ∧ getTxn t g = none ∧ t.mem.bytes = s.mem.bytes ∧ t.coh.near = s.coh.near) ∧
  (∀ (s : State) (p : PortId) (g : Nat) (x : Txn), Awaits g p .rdX x s → getDir s g = ⟨.exclusive, [p.val], none⟩ → (getNear s p g).st = .m → ∃ t, exec (.rspWbif p g) s = .next t ∧
    getTxn t g = some { x with asked := [], fwd := if x.fwd = some p.val then none else x.fwd, wbWait := some p.val } ∧ { t with coh.txns := s.coh.txns, coh.fabric := s.coh.fabric } = s) ∧
  (∀ (s : State) (r : CohReq), fabOn s = true → s.acts = [] → r.agent < 192 → (getNear s r.agent (r.pa / 64)).st = .m → (getPort s r.agent).nearFenced = false →
    blockOut s (r.pa / 64) = false → getDir s (r.pa / 64) = ⟨.exclusive, [r.agent], none⟩ → getTxn s (r.pa / 64) = none → (Msg.wb r.agent (r.pa / 64) ∈ s.coh.fabric → (r.agent, r.pa / 64) ∈ s.coh.wbs) →
    ∃ t, exec (.writeback r false) s = .next t ∧ (Msg.wb r.agent (r.pa / 64) ∉ s.coh.fabric → (getNear t r.agent (r.pa / 64)).st = .i) ∧
    getDir t (r.pa / 64) = {} ∧ Msg.wbAck r.agent (r.pa / 64) ∈ t.coh.fabric ∧ (r.agent, r.pa / 64) ∈ t.coh.wbs ∧ t.mem.bytes = s.mem.bytes ∧ t.objs = s.objs) ∧
  (∀ (s : State) (a g : Nat), fabOn s = true → s.acts = [] → ∃ t, exec (.cmpFwd a g) s = .next t ∧ t.coh.fabric = s.coh.fabric.erase (.cmpFwd a g) ∧ { t with coh.fabric := s.coh.fabric } = s) ∧
  (∀ (s : State) (a g : Nat), fabOn s = true → s.acts = [] → (getPort s a).ops = [] → (getPort s a).deferred = [] → ∃ t, exec (.wbAck a g) s = .next t ∧ t.coh.wbs = s.coh.wbs.erase (a, g) ∧
    t.coh.fabric = s.coh.fabric.erase (.wbAck a g) ∧ (getNear t a g).st = (getNear s a g).st ∧ (∀ b k, nearKey b k ≠ nearKey a g → getNear t b k = getNear s b k) ∧
    { t with coh.fabric := s.coh.fabric, coh.wbs := s.coh.wbs, coh.near := s.coh.near, ports := s.ports } = s) ∧
  (∀ (s : State) (a g : Nat) (x : Txn), fabOn s = true → s.acts = [] → getTxn s g = some x → x.doneWait = true → x.req.agent = a → s.coh.queued = [] → g ∉ s.coh.through → (∀ kv ∈ s.coh.homeState, kv.2 ≠ 1) → ∃ t,
    exec (.doneMessage a g) s = .next t ∧ getTxn t g = none ∧ (∀ k, k ≠ g → getTxn t k = getTxn s k) ∧ { t with coh.fabric := s.coh.fabric, coh.txns := s.coh.txns } = s) ∧
  (∀ (s : State) (p : PortId) (g : Nat) (x : Grant) (line : Line) (bad : Bool) (i : Instr), i ∈ [.dataMessage p g x line bad, .dataFwdMessage p g x line bad] → fabOn s = true → s.acts = [] →
    x ≠ .none → (getPort s p).nearFenced = false → (getPort s p).ops = [] → (getPort s p).deferred = [] → nearVictim s p g = none → unchecked s (0x3000 + p.val) g = false → ∃ t, exec i s = .next t ∧ (getNear t p g).st = nearOf x ∧ Msg.done p g ∈ t.coh.fabric ∧
    (∀ a b, nearKey a b ≠ nearKey p g → getNear t a b = getNear s a b) ∧ { t with coh.fabric := s.coh.fabric, coh.near := s.coh.near, ports := s.ports } = s) ∧
  (∀ (s : State) (g : Nat) (line : Line) (bad : Bool), fabOn s = true → s.acts = [] → LinksCarry s → ∃ t, exec (.dataMessage 0xF0 g .none line bad) s = .next t ∧
    t.out = .memRsp (memPort s g) (g * 64) "MemData,Cmp" (some line) bad :: s.out ∧ t.mem = s.mem ∧ t.coh.near = s.coh.near) ∧
  (∀ (s : State) (p : PortId) (g : Nat), fabOn s = true → s.acts = [] → (getPort s p).nearFenced = false → (getPort s p).ops = [] → (getPort s p).deferred = [] →
    nearVictim s p g = none → ∃ t, exec (.gntX p g) s = .next t ∧
    getNear t p g = { getNear s p g with st := .e } ∧ Msg.done p g ∈ t.coh.fabric ∧ { t with coh.fabric := s.coh.fabric, coh.near := s.coh.near, ports := s.ports } = s) ∧
  (∀ (s : State) (p : PortId) (g : Nat) (o : PortOp) (old : Line), CorePortFree p { s with ports := tset {} s.ports p { getPort s p with ops := [] } } → (getPort s p).ops = [o] →
    o.phase = .home → o.what = .mem → opGranule o = g → opCode o = opStore ∨ opCode o = opAtomic → o.answer = none → o.answered = false → o.flushed = false →
    ∃ t, exec (.cmpMessage p g old false) s = .next t ∧ (getPort t p).ops = [] ∧
    t.out = .core p (.response ⟨.ok, false, if opCode o = opAtomic then namedBytes o.req old else 0⟩ (opStream o) o.req.tag) :: s.out ∧ t.mem = s.mem) ∧
  (∀ (s : State) (p : PortId) (g : Nat) (o : PortOp) (n : Fin 16), fabOn s = true → s.acts = [] → (getPort s p).ops = [o] → o.sent = true → o.phase = .line → opGranule o = g →
    opCode o = opLoad → ∃ t, exec (.retryMessage p g n) s = .next t ∧
    t.coh.fabric = s.coh.fabric.erase (.retry p g n) ++ [.request .rdS { cohReqOf p o false with retry := Fin.ofNat 16 (if 9 ≤ n.val then n.val else n.val + 1) } noData 0 0] ∧
    { t with coh.fabric := s.coh.fabric } = s) ∧
  (∀ (s : State) (p : PortId), fabOn s = true → s.acts = [] → RecordsTwice s → (getPort s p).nearFenced = false → (getPort s p).ops = [] → s.coh.dir = [] → s.coh.txns = [] →
    s.sync.watches = [] → ∃ t, exec (.agentDeath (some p)) s = .next t ∧ (getPort t p).nearFenced = true ∧ (∀ g, g < 2 ^ 46 → (getNear t p g).st = .i) ∧
    (getPort t p).resv = [] ∧ ctr t 0x3800 0x12 = ctr s 0x3800 0x12 + 1 ∧ (∀ q g, q ≠ p.val → g < 2 ^ 46 → getNear t q g = getNear s q g) ∧ t.objs = s.objs) ∧
  (∀ (s : State) (p : PortId), fabOn s = true → s.acts = [] → (getPort s p).nearFenced = true → exec (.agentDeath (some p)) s = .next s) ∧
  (∀ (s : State), fabOn s = true → s.acts = [] → proxyAlive s = true → exec (.agentDeath none) s = .next s)

/-- R245, R246, Table 9.10: how the device cache answers the host's snoops, and what a host's answer leaves. R247, R248, Table 9.11: the host's
requests of the stacks: a decoder maps them, the home orders them, and what no decoder maps is refused; back-invalidate answers let the
waiting request go on. Where a decoder places its first byte in the stacks is presumed (log 18). -/
def Obligations.HostSnoopsAndRequests : Prop :=
  (∀ (s : State) (p : HostId) (g : Nat) (d : DevLine), HostLine g d s → shingleOf s g = .m →
    (∃ t, exec (.snpdata p g) s = .next t ∧ t.out = .snoopRsp p (g * 64) "RspSFwdM" (some (lineAt s g)) (heldPoison s g) :: s.out ∧ shingleOf t g = .s ∧ ctr t 0x5000 2 = ctr s 0x5000 2 + 1 ∧ t.mem = s.mem) ∧
    (∃ t, exec (.snpinv p g) s = .next t ∧ t.out = .snoopRsp p (g * 64) "RspIFwdM" (some (lineAt s g)) (heldPoison s g) :: s.out ∧ shingleOf t g = .i ∧ ctr t 0x5000 2 = ctr s 0x5000 2 + 1 ∧ t.mem = s.mem) ∧
    (∃ t, exec (.snpcur p g) s = .next t ∧ t.out = .snoopRsp p (g * 64) "RspVFwdV" (some (lineAt s g)) (heldPoison s g) :: s.out ∧ shingleOf t g = .m ∧ ctr t 0x5000 2 = ctr s 0x5000 2 + 1 ∧ { t with out := s.out, ctrs := s.ctrs, wraps := s.wraps } = s)) ∧
  (∀ (s : State) (p : HostId) (g : Nat) (d : DevLine), HostLine g d s → shingleOf s g = .e →
    (∃ t, exec (.snpdata p g) s = .next t ∧ t.out = .snoopRsp p (g * 64) "RspSHitSE" none false :: s.out ∧ shingleOf t g = .s ∧ ctr t 0x5000 2 = ctr s 0x5000 2 + 1 ∧ t.mem = s.mem) ∧
    (∃ t, exec (.snpinv p g) s = .next t ∧ t.out = .snoopRsp p (g * 64) "RspIHitSE" none false :: s.out ∧ shingleOf t g = .i ∧ ctr t 0x5000 2 = ctr s 0x5000 2 + 1 ∧ t.mem = s.mem) ∧
    (∃ t, exec (.snpcur p g) s = .next t ∧ t.out = .snoopRsp p (g * 64) "RspVHitV" none false :: s.out ∧ shingleOf t g = .e ∧ ctr t 0x5000 2 = ctr s 0x5000 2 + 1 ∧ { t with out := s.out, ctrs := s.ctrs, wraps := s.wraps } = s)) ∧
  (∀ (s : State) (p : HostId) (g : Nat) (d : DevLine), HostLine g d s → shingleOf s g = .s →
    (∃ t, exec (.snpdata p g) s = .next t ∧ t.out = .snoopRsp p (g * 64) "RspSHitSE" none false :: s.out ∧ shingleOf t g = .s ∧ ctr t 0x5000 2 = ctr s 0x5000 2 + 1 ∧ t.mem = s.mem) ∧
    (∃ t, exec (.snpinv p g) s = .next t ∧ t.out = .snoopRsp p (g * 64) "RspIHitSE" none false :: s.out ∧ shingleOf t g = .i ∧ ctr t 0x5000 2 = ctr s 0x5000 2 + 1 ∧ t.mem = s.mem) ∧
    (∃ t, exec (.snpcur p g) s = .next t ∧ t.out = .snoopRsp p (g * 64) "RspVHitV" none false :: s.out ∧ shingleOf t g = .s ∧ ctr t 0x5000 2 = ctr s 0x5000 2 + 1 ∧ { t with out := s.out, ctrs := s.ctrs, wraps := s.wraps } = s)) ∧
  (∀ (s : State) (p : HostId) (g : Nat) (i : Instr), fabOn s = true → s.acts = [] → LinksCarry s → getDir s g = {} → shingleOf s g = .i → getTxn s g = none → (∀ q ∈ s.coh.queued, q.req.pa / 64 ≠ g) → i ∈ [.snpdata p g, .snpinv p g, .snpcur p g] →
    ∃ t, exec i s = .next t ∧ t.out = .snoopRsp p (g * 64) "RspIHitI" none false :: s.out ∧ shingleOf t g = .i ∧ ctr t 0x5000 2 = ctr s 0x5000 2 + 1 ∧ t.mem = s.mem) ∧
  (∀ (s : State) (p : HostId) (g : Nat) (d : DevLine) (rsp : H2d) (line : Line), HostLine g d s → hostUp s p = true → s.coh.missing = [(g / 4, g)] → s.coh.queued = [] → (∀ i, i < 4 → getTxn s (g / 4 * 4 + i) = none) → rsp ≠ .pull →
    ∃ t, exec (.h2dResponse p g rsp (some line) false) s = .next t ∧ t.coh.missing = [] ∧ (∀ i, i < 64 → byteAt t (g * 64 + i) = lineByte line i) ∧
    (∀ a, a < g * 64 ∨ g * 64 + 64 ≤ a → byteAt t a = byteAt s a) ∧ (shingleOfGrant rsp ≠ .i → shingleOf t g = shingleOfGrant rsp) ∧ t.out = s.out) ∧
  (∀ (s : State) (p : HostId) (g : Nat) (rsp : H2d), fabOn s = true → s.acts = [] → hostUp s p = true → s.coh.missing = [] → ∃ t, exec (.h2dResponse p g rsp none false) s = .next t ∧
    t.coh.evicting = s.coh.evicting.filter (fun e => e.1 ≠ g) ∧ { t with coh.evicting := s.coh.evicting } = s) ∧
  (∀ (s : State) (p : HostId) (d : Fin 8) (base size dpa : Nat) (ways : Fin 2) (gran : Fin 7), fabOn s = true → s.acts = [] → dpa + size / (ways.val + 1) ≤ stackBytes s →
    ∃ t, exec (.hdmDecoderCommit p d true base size dpa ways gran) s = .next t ∧ tget {} (getHost t p).decoders d = ⟨true, base, size, ways.val + 1, 256 * 2 ^ gran.val, dpa⟩ ∧
    (∀ k, k ≠ d.val → tget {} (getHost t p).decoders k = tget {} (getHost s p).decoders k) ∧ { t with hosts := s.hosts } = s) ∧
  (∀ (s : State) (p : HostId) (d : Fin 8) (base size dpa : Nat) (ways : Fin 2) (gran : Fin 7), fabOn s = true → s.acts = [] → stackBytes s < dpa + size / (ways.val + 1) →
    exec (.hdmDecoderCommit p d true base size dpa ways gran) s = .next s) ∧
  (∀ (s : State) (p : HostId) (d : Fin 8) (base size dpa : Nat) (ways : Fin 2) (gran : Fin 7), fabOn s = true → s.acts = [] →
    ∃ t, exec (.hdmDecoderCommit p d false base size dpa ways gran) s = .next t ∧ (tget {} (getHost t p).decoders d).committed = false ∧ { t with hosts := s.hosts } = s) ∧
  (∀ (s : State) (p : HostId) (hpa : Nat) (mv : Meta) (d : CohData), fabOn s = true → s.acts = [] → LinksCarry s → decoderOf s p hpa = none →
    (∃ t, exec (.memrd p hpa mv) s = .next t ∧ t.out = .memRsp p hpa "MemData,Cmp" none true :: s.out ∧ ctr t 0x5000 4 = ctr s 0x5000 4 + 1 ∧
      { t with out := s.out, ctrs := s.ctrs, wraps := s.wraps } = s) ∧
    (∃ t, exec (.memwr p hpa d mv) s = .next t ∧ exec (.meminv p hpa mv) s = .next t ∧ t.out = .memRsp p hpa "Cmp" none false :: s.out ∧
      ctr t 0x5000 4 = ctr s 0x5000 4 + 1 ∧ { t with out := s.out, ctrs := s.ctrs, wraps := s.wraps } = s)) ∧
  (∀ (s : State) (p : HostId) (hpa g c k : Nat), HomesQuiet s → c < 4096 → k < 4096 → hdmTarget s p hpa = some (g, c, k) → target (g * 64) = .stacks → poisonAt s g = false →
    (∃ t, exec (.memrd p hpa .invalid) s = .next t ∧ Msg.data 0xF0 g .none (granuleData s c k g) false false ∈ t.coh.fabric ∧ t.coh.dir = [] ∧ g ∈ (getHost t p).asked ∧ t.mem.bytes = s.mem.bytes) ∧
    (∃ t, exec (.memrd p hpa .any) s = .next t ∧ Msg.data 0xF0 g .e (granuleData s c k g) false false ∈ t.coh.fabric ∧ getDir t g = ⟨.exclusive, [0xF0], none⟩ ∧ t.mem.bytes = s.mem.bytes) ∧
    (∃ t, exec (.memrd p hpa .shared) s = .next t ∧ Msg.data 0xF0 g .s (granuleData s c k g) false false ∈ t.coh.fabric ∧ getDir t g = ⟨.shared, [0xF0], none⟩ ∧ t.mem.bytes = s.mem.bytes)) ∧
  (∀ (s : State) (p : HostId) (hpa g c k : Nat), HomesQuiet s → c < 4096 → k < 4096 → hdmTarget s p hpa = some (g, c, k) → target (g * 64) = .stacks → poisonAt s g = false →
    ∃ t, exec (.meminv p hpa .any) s = .next t ∧ Msg.gntX 0xF0 g ∈ t.coh.fabric ∧ getDir t g = ⟨.exclusive, [0xF0], none⟩ ∧ g ∈ (getHost t p).asked ∧ t.mem.bytes = s.mem.bytes) ∧
  (∀ (s : State) (p : HostId) (hpa g c k : Nat) (d : CohData), HomesQuiet s → c < 4096 → k < 4096 → hdmTarget s p hpa = some (g, c, k) → target (g * 64) = .stacks →
    (∀ b ∈ (getHost s p).bisnp, b.1 ≠ g) → (d.poison = true → ringOn s.flt.ring = false) → ∃ t, exec (.memwr p hpa d .invalid) s = .next t ∧ Msg.cmp 0xF0 g 0 false ∈ t.coh.fabric ∧ t.coh.dir = [] ∧ WrittenUnder g d.data d.mask s t) ∧
  (∀ (s : State) (p : HostId) (g : Nat) (k : SnpKind) (x : Txn) (rsp : BiRsp), fabOn s = true → s.acts = [] → (getHost s p).bisnp = [(g, k)] → getTxn s g = some x → x.asked = [0xF0, 0] →
    ∃ t y, exec (.birsp p g rsp) s = .next t ∧ (getHost t p).bisnp = [] ∧ getTxn t g = some y ∧ y.asked = [0] ∧ t.mem = s.mem ∧ t.out = s.out) ∧
  (∀ (s : State) (p : HostId) (g : Nat) (k : SnpKind), fabOn s = true → s.acts = [] → LinksCarry s → (g, k) ∈ (getHost s p).bisnp → ∃ t, exec (.biconflict p g) s = .next t ∧
    t.out = .biConflict p (g * 64) :: s.out ∧ { t with out := s.out } = s)

/-- R443, R444, R446: what each flit of an active link does. R444, R215: the events of a link's training and end. The link that goes down loses
what it held. -/
def Obligations.PeerLinksAndFlits : Prop :=
  (∀ (s : State) (l : PeerId) (p : PeerLink) (f : PeerFlit), LinkActive l p s → f.crcOk = true → f.tagOk = true → f.seq.toNat = p.recvSeq → f.slots = 1 →
    pmBlocks (f.body.extractLsb' 0 256) = 0 → ∃ t a, exec (.peerNormal l f) s = .next t ∧ t.out = .peerFlit l 0 a :: s.out ∧ a.ack = f.seq ∧
    (getPeer t l).inbox = p.inbox ++ [(f.body.extractLsb' 0 256, [])] ∧ (getPeer t l).recvSeq = (p.recvSeq + 1) % 65536 ∧
    (getPeer t l).reqCredits = p.reqCredits + f.reqCredits ∧ (getPeer t l).dataCredits = p.dataCredits + f.dataCredits ∧ t.ctrs = s.ctrs ∧ OnlyLink l s t) ∧
  (∀ (s : State) (l : PeerId) (p : PeerLink) (f : PeerFlit), LinkActive l p s → f.crcOk = false → ∃ t a, exec (.peerNormal l f) s = .next t ∧
    t.out = .peerFlit l 2 a :: s.out ∧ a.ack = BitVec.ofNat 16 ((p.recvSeq + 65535) % 65536) ∧ (getPeer t l).inbox = p.inbox ∧ (getPeer t l).recvSeq = p.recvSeq ∧
    ctr t (0x5401 + l) 4 = ctr s (0x5401 + l) 4 + 1 ∧ OnlyLink l s t) ∧
  (∀ (s : State) (l : PeerId) (p : PeerLink) (f : PeerFlit), LinkActive l p s → f.crcOk = true → f.tagOk = true → f.seq.toNat ≠ p.recvSeq →
    ∃ t, exec (.peerNormal l f) s = .next t ∧ (if p.nakSent then t = s else ∃ a, t.out = .peerFlit l 2 a :: s.out) ∧ (getPeer t l).inbox = p.inbox ∧
    (getPeer t l).recvSeq = p.recvSeq ∧ t.ctrs = s.ctrs ∧ OnlyLink l s t) ∧
  (∀ (s : State) (l : PeerId) (p : PeerLink) (f : PeerFlit), LinkActive l p s → f.crcOk = true → f.tagOk = false → p.tagRun = 2 → s.ports = [] → p.out = [] → RecordsQuietly s →
    ∃ t, exec (.peerNormal l f) s = .next t ∧ getPeer t l = {} ∧ ctr t (0x5401 + l) 5 = ctr s (0x5401 + l) 5 + 1 ∧ ctr t (0x5401 + l) 6 = ctr s (0x5401 + l) 6 + 1) ∧
  (∀ (s : State) (l : PeerId) (p : PeerLink) (f : PeerFlit), LinkActive l p s → f.crcOk = true → ∃ t, exec (.peerIdle l f) s = .next t ∧
    exec (.peerNak l f) s = .next t ∧
    getPeer t l = { p with reqCredits := p.reqCredits + f.reqCredits, dataCredits := p.dataCredits + f.dataCredits } ∧ t.out = s.out ∧ t.ctrs = s.ctrs ∧ OnlyLink l s t) ∧
  (∀ (s : State) (l : PeerId) (p : PeerLink) (f g : PeerFlit) (n : Nat), LinkActive l { p with replay := [] } { s with peers := tset {} s.peers l { p with replay := [] } } →
    getPeer s l = p → p.replay = [(n, g)] → f.crcOk = true → serialGe 16 f.ack.toNat g.seq.toNat = true → ∃ t, exec (.peerIdle l f) s = .next t ∧
    getPeer t l = { p with replay := [], rounds := 0, reqCredits := p.reqCredits + f.reqCredits, dataCredits := p.dataCredits + f.dataCredits } ∧ OnlyLink l s t) ∧
  (∀ (s : State) (l : PeerId) (p : PeerLink) (f g : PeerFlit) (n : Nat), LinkActive l { p with replay := [] } { s with peers := tset {} s.peers l { p with replay := [] } } →
    getPeer s l = p → p.replay = [(n, g)] → f.crcOk = true → serialGe 16 f.ack.toNat g.seq.toNat = false → p.rounds < 8 → RecordsQuietly s →
    ∃ t, exec (.peerNak l f) s = .next t ∧ Out.peerFlit l 1 g ∈ t.out ∧ (getPeer t l).replay = p.replay ∧ (getPeer t l).rounds = p.rounds + 1 ∧
    ctr t (0x5401 + l) 3 = ctr s (0x5401 + l) 3 + 1 ∧ (∀ k, k ≠ l.val → getPeer t k = getPeer s k) ∧ t.objs = s.objs) ∧
  (∀ (s : State) (l : PeerId) (p : PeerLink) (f : PeerFlit), LinkActive l p s → f.crcOk = true → ∃ t a, exec (.peerHold l f) s = .next t ∧ t.out = .peerFlit l 0 a :: s.out ∧
    (getPeer t l).state = 4 ∧ (getPeer t l).heldSince = s.aoncnt ∧ (getPeer t l).out = p.out ∧ (getPeer t l).inbox = p.inbox ∧ t.ctrs = s.ctrs ∧ OnlyLink l s t) ∧
  (∀ (s : State) (l : PeerId) (p : PeerLink) (f : PeerFlit), linkOn s = true → s.acts = [] → getPeer s l = p → p.state = 4 → p.outq = [] → f.crcOk = true →
    ∃ t, exec (.peerHoldExit l f) s = .next t ∧ getPeer t l = { p with state := 3, out := p.out.map fun r => { r with issued := r.issued + (s.aoncnt - p.heldSince) } } ∧
    t.out = s.out ∧ t.ctrs = s.ctrs ∧ OnlyLink l s t) ∧
  (∀ (s : State) (l : PeerId) (lanes : Fin 65), linkOn s = true → s.acts = [] → (getPeer s l).state ≤ 1 → ∃ t, exec (.peerLinkTrained l lanes) s = .next t ∧
    getPeer t l = { out := (getPeer s l).out, state := 2, lanes := lanes } ∧ (∀ k, k ≠ l.val → getPeer t k = getPeer s k) ∧
    (getLink t (l + 2)).state = 1 ∧ t.out = s.out ∧ t.ctrs = s.ctrs ∧ { t with peers := s.peers, power.links := s.power.links, power.linksProv := s.power.linksProv } = s) ∧
  (∀ (s : State) (l : PeerId) (p : PeerLink), linkOn s = true → s.acts = [] → getPeer s l = p → p.state ≠ 0 → p.out = [] → s.ports = [] → RecordsQuietly s →
    ∃ t, exec (.peerLinkDown l) s = .next t ∧ getPeer t l = {} ∧ ctr t (0x5401 + l) 6 = ctr s (0x5401 + l) 6 + 1 ∧ (getLink t (l + 2)).state = 0 ∧
    (∀ k, k ≠ l.val → getPeer t k = getPeer s k) ∧ t.objs = s.objs ∧
    (∀ n f rest, p.state = 3 → p.replay = (n, f) :: rest → n + 5000 ≤ s.aoncnt → exec (.ackTimeout l) s = .next t)) ∧
  (∀ (s : State) (l : PeerId), linkOn s = true → s.acts = [] → (∀ n f rest, (getPeer s l).replay = (n, f) :: rest → s.aoncnt < n + 5000) → exec (.ackTimeout l) s = .next s)

/-- R188, R189, R303, R445: a peer's requests act inside their window, as its context and with its key slot, and are answered. What an ATOMIC
leaves of a stack granule that was never written under the key is free beside its operand (log 12). -/
def Obligations.PeerRequestsAreServed : Prop :=
  (∀ (s : State) (l : PeerId) (m : BitVec 256) (data : List Byte) (pa : Nat), PeerAsks l 1 needR m data pa s → ∃ t, exec (.peerRead l) s = .next t ∧
    PeerAnswered l 0x81 m .ok 1 ((List.range (pmSize m + 1)).map fun i => lineByte (windowLine s l m pa) (pa % 64 + i)) s t ∧
    t.mem.bytes = s.mem.bytes ∧ t.coh.near = s.coh.near ∧ t.coh.dir = s.coh.dir ∧ t.objs = s.objs ∧ t.ports = s.ports) ∧
  (∀ (s : State) (l : PeerId) (m : BitVec 256) (data : List Byte) (pa : Nat), PeerAsks l 2 needW m data pa s → pmBlocks m = 1 → data.length = 64 → pmPoison m = 0 →
    ∃ t, exec (.peerWrite l) s = .next t ∧ PeerAnswered l 0x82 m .ok 0 [] s t ∧
    OnlyGranule (pa / 64) (lineByte (mergeLine (windowLine s l m pa) (BitVec.ofNat 512 (ofLe (data.take (pmSize m + 1)) * 2 ^ (8 * (pa % 64)))) (maskOf (pa % 64) (pmSize m + 1)))) s t ∧
    t.objs = s.objs ∧ t.ports = s.ports) ∧
  (∀ (s : State) (l : PeerId) (m : BitVec 256) (data : List Byte) (pa : Nat) (n : Nat), PeerAsks l 3 needRWA m data pa s → n = pmSize m + 1 → (n = 4 ∨ n = 8) →
    pmOffset m % n = 0 → pmAop m < 10 → pmBlocks m = 1 → data.length = 64 → ∃ t old, exec (.peerAtomic l) s = .next t ∧
    old = (List.range n).map (fun i => lineByte (windowLine s l m pa) (pa % 64 + i)) ∧ PeerAnswered l 0x83 m .ok 1 old s t ∧
    ((target pa = .stacks → keyIs s (pa / 64) (winSlot s l (pmWindow m)) = true) → OnlyGranule (pa / 64) (lineByte (mergeLine (windowLine s l m pa)
      (BitVec.ofNat 512 (atomicNew (pmAop m) (8 * n) (ofLe old) (ofLe (data.take n)) (pmOperand m % 2 ^ (8 * n)) * 2 ^ (8 * (pa % 64)))) (maskOf (pa % 64) n))) s t) ∧
    t.objs = s.objs ∧ t.ports = s.ports) ∧
  (∀ (s : State) (l : PeerId) (m : BitVec 256) (data : List Byte) (p : PeerLink) (st : Status), LinkActive l p s → p.inbox = [(m, data)] → pmSize m < 256 → st ≠ .ok →
    (pmOp m = 1 → windowVerdict s l (pmWindow m) (pmOffset m) (pmSize m + 1) needR false = st → ∃ t, exec (.peerRead l) s = .next t ∧ PeerAnswered l 0x81 m st 0 [] s t ∧
      ctr t 0x5400 2 = ctr s 0x5400 2 + 1 ∧ ctr t (0x5410 + 64 * l + pmWindow m) 6 = ctr s (0x5410 + 64 * l + pmWindow m) 6 + 1 ∧ OnlyLink l s t) ∧
    (pmOp m = 2 → pmBlocks m = blocksOf (pmSize m + 1) → windowVerdict s l (pmWindow m) (pmOffset m) (pmSize m + 1) needW false = st →
      ∃ t, exec (.peerWrite l) s = .next t ∧ PeerAnswered l 0x82 m st 0 [] s t ∧ ctr t 0x5400 2 = ctr s 0x5400 2 + 1 ∧ OnlyLink l s t)) ∧
  (∀ (s : State) (l : PeerId) (m : BitVec 256) (data : List Byte) (p : PeerLink) (st : Status), LinkActive l p s → p.inbox = [(m, data)] → pmOp m = 4 →
    windowVerdict s l (pmWindow m) (pmOffset m) (pmOperand m % 2 ^ 40 + 1) (pmAop m % 8) true = st → ∃ t, exec (.peerProbe l) s = .next t ∧ PeerAnswered l 0x84 m st 0 [] s t ∧
    (st = .ok → pmWindow m ∈ (getPeer t l).grants ∧ t.ctrs = s.ctrs) ∧ (st ≠ .ok → (getPeer t l).grants = p.grants ∧ ctr t 0x5400 2 = ctr s 0x5400 2 + 1) ∧ OnlyLink l s t) ∧
  (∀ (s : State) (l : PeerId) (m : BitVec 256) (data : List Byte) (p : PeerLink) (c n : Nat), LinkActive l p s → p.inbox = [(m, data)] → pmOp m = 5 →
    c = nbits (pmOperand m) 32 17 → n = pmOperand m % 2 ^ 32 →
    (flag (ctrlOf s.sync c) 0 = true → flag (ctrlOf s.sync c) (8 + l) = true → s.sync.watches = [] → n ≠ 0 → valueOf s.sync c + n < 2 ^ 32 →
      boundTo s.sync c (fld (ctrlOf s.sync c) 20 12) = true →
      ∃ t, exec (.peerSync l) s = .next t ∧ PeerAnswered l 0x85 m .ok 0 [] s t ∧ valueOf t.sync c = valueOf s.sync c + n ∧ (∀ k, k ≠ c → valueOf t.sync k = valueOf s.sync k) ∧
      ctr t 0x6800 6 = ctr s 0x6800 6 + 1 ∧ t.mem = s.mem ∧ t.objs = s.objs) ∧
    (flag (ctrlOf s.sync c) (8 + l) = false → ∃ t, exec (.peerSync l) s = .next t ∧ PeerAnswered l 0x85 m .rightsFault 0 [] s t ∧ t.ctrs = s.ctrs ∧ OnlyLink l s t)) ∧
  (∀ (s : State) (l : PeerId) (m : BitVec 256) (data : List Byte) (p : PeerLink) (k : Nat) (i : Instr) (op : Nat), linkOn s = true → s.acts = [] → getPeer s l = p → p.state = 2 → p.outq = [] →
    p.inbox = [(m, data)] → pmOp m = op → (i, op) ∈ [(.peerSpdm l [] (some k), 0x06), (.spdmRsp l [] (some k), 0x86)] → ∃ t, exec i s = .next t ∧ (getPeer t l).state = 3 ∧
    (getPeer t l).session = some k ∧ (getPeer t l).inbox = [] ∧ t.ctrs = s.ctrs ∧ OnlyLink l s t)

/-- R188, R215, R445: the response of a peer ends the operation that asked; a response whose request is gone is discarded; a request without a
response ends TIMEOUT. -/
def Obligations.PeerResponsesEndTheirRequests : Prop :=
  (∀ (s : State) (l : PeerId) (p : PortId) (o : PortOp) (r : PeerReq) (m : BitVec 256) (data : List Byte), PeerAwaits l p o r m data s → opCode o = opLoad → r.op = 0 → pmOp m = 0x81 →
    pmTag m = r.slot → pmStatus m = 0 → pmPoison m = 0 → ∃ t, exec (.readRsp l) s = .next t ∧
    PeerEnded l p o ⟨.ok, false, BitVec.ofNat 512 (ofLe (data.take r.len) * 2 ^ (8 * reqOff o.req))⟩ s t) ∧
  (∀ (s : State) (l : PeerId) (p : PortId) (o : PortOp) (r : PeerReq) (m : BitVec 256) (data : List Byte), PeerAwaits l p o r m data s → opCode o = opStore → r.op = 1 → pmOp m = 0x82 →
    pmTag m = r.slot → pmStatus m = 0 → ∃ t, exec (.writeAck l) s = .next t ∧ PeerEnded l p o ⟨.ok, false, 0⟩ s t) ∧
  (∀ (s : State) (l : PeerId) (p : PortId) (o : PortOp) (r : PeerReq) (m : BitVec 256) (data : List Byte), PeerAwaits l p o r m data s → opCode o = opAtomic → r.op = 2 → pmOp m = 0x83 →
    pmTag m = r.slot → pmStatus m = 0 → ∃ t, exec (.atomicRsp l) s = .next t ∧
    PeerEnded l p o ⟨.ok, false, BitVec.ofNat 512 (ofLe (data.take r.len) * 2 ^ (8 * reqOff o.req))⟩ s t) ∧
  (∀ (s : State) (l : PeerId) (p : PortId) (o : PortOp) (r : PeerReq) (m : BitVec 256) (data : List Byte) (slot : BitVec 16), PeerAwaits l p o r m data s → opCode o = opLoad →
    slot.toNat = r.slot → (getPeer s l).state ≠ 4 → r.issued + r.limit ≤ s.aoncnt → ∃ t, exec (.peerTimeout l slot) s = .next t ∧ PeerEnded l p o ⟨.timeout, false, 0⟩ s t) ∧
  (∀ (s : State) (l : PeerId) (slot : BitVec 16), fabOn s = true → s.acts = [] → (∀ r ∈ (getPeer s l).out, r.slot = slot.toNat → s.aoncnt < r.issued + r.limit) →
    exec (.peerTimeout l slot) s = .next s) ∧
  (∀ (s : State) (l : PeerId) (m : BitVec 256) (data : List Byte) (i : Instr) (op : Nat), fabOn s = true → s.acts = [] → (getPeer s l).inbox = [(m, data)] → (getPeer s l).out = [] →
    pmOp m = op → (i, op) ∈ [(.readRsp l, 0x81), (.writeAck l, 0x82), (.atomicRsp l, 0x83), (.probeRsp l, 0x84), (.syncRsp l, 0x85)] →
    ∃ t, exec i s = .next t ∧ getPeer t l = { getPeer s l with inbox := [] } ∧ t.ctrs = s.ctrs ∧ t.out = s.out ∧ OnlyLink l s t) ∧
  (∀ (s : State) (l : PeerId) (m : BitVec 256) (data : List Byte) (r : PeerReq) (a id : Nat), fabOn s = true → s.acts = [] → (getPeer s l).inbox = [(m, data)] → (getPeer s l).out = [r] →
    r.waiter = .array a id → r.op = 4 → r.landed = false → r.remote = false → pmOp m = 0x84 → pmTag m = r.slot → pmStatus m = 0 → ∃ t, exec (.probeRsp l) s = .next t ∧
    getPeer t l = { getPeer s l with inbox := [], out := [] } ∧ t.arrays = s.arrays ∧ t.out = s.out ∧ OnlyLink l s t) ∧
  (∀ (s : State) (l : PeerId) (m : BitVec 256) (data : List Byte) (r : PeerReq) (a id : Nat), fabOn s = true → s.acts = [] → (getPeer s l).inbox = [(m, data)] → (getPeer s l).out = [r] →
    r.waiter = .array a id → r.op = 0 → r.landed = false → r.remote = true → pmOp m = 0x81 → pmTag m = r.slot → pmStatus m = 0 → ∃ t, exec (.remoteResponseLand l) s = .next t ∧
    getPeer t l = { getPeer s l with inbox := [], out := [{ r with landed := true, data := data.take r.len, bad := pmPoison m ≠ 0 }] } ∧ t.arrays = s.arrays ∧ (pmPoison m = 0 → OnlyLink l s t))

/-- R433: a stopped interface clock is a link-down of its host port or of its peer link. -/
def Obligations.AStoppedClockIsALinkDown : Prop :=
  (∀ (s : State) (p : HostId), exec (.interfaceClockStop ⟨p.val, by omega⟩) s = exec (.hostPortDown p) s) ∧
  (∀ (s : State) (l : PeerId), exec (.interfaceClockStop ⟨l.val + 2, by omega⟩) s = exec (.peerLinkDown l) s)

/-- R307: what a SIGNAL releases, in its order, and what it leaves. -/
def Obligations.ASignalReleasesInOrder : Prop :=
  ∀ (u : SyncUnit) (c n : Nat), valueOf u c + n ≤ 0xFFFFFFFF → ∃ u' seen used queue, signalUnit c n u = some (u', seen ++ used) ∧
    queue = u.watches.filter (fun w => w.counter = c && w.consuming) ∧
    (∀ w, w ∈ seen ↔ w ∈ u.watches ∧ w.counter = c ∧ w.consuming = false ∧ w.n ≤ valueOf u c + n) ∧
    used <+: queue ∧ u'.watches.filter (fun w => w.counter = c && w.consuming) = queue.drop used.length ∧
    valueOf u' c + (used.map (·.n)).sum = valueOf u c + n ∧ (∀ w, (queue.drop used.length).head? = some w → valueOf u' c < w.n) ∧
    (∀ w ∈ u.watches, w.counter = c → w.consuming = false → valueOf u c + n < w.n → w ∈ u'.watches) ∧
    (∀ k, k ≠ c → valueOf u' k = valueOf u k ∧ u'.watches.filter (fun w => w.counter = k) = u.watches.filter (fun w => w.counter = k))

/-- R301: how a counter operation fails. -/
def Obligations.CounterErrorsAreReported : Prop :=
  ∀ (s : State) (x c n : Nat), underTest s 0x9000 = false →
    (∃ t, signalFor x c 0 s = (t, .malformed) ∧ takeFor x c 0 s = (t, .malformed) ∧
      (∀ ob lim ck st d k, waitFor x c 0 ob lim ck st d k s = (t, .refused .malformed)) ∧ CounterError s t) ∧
    (boundTo s.sync c x = true → 0xFFFFFFFF < valueOf s.sync c + n → n ≠ 0 → ∃ t, signalFor x c n s = (t, .boundFault) ∧ CounterError s t) ∧
    (boundTo s.sync c x = true → valueOf s.sync c < n → ∃ t, takeFor x c n s = (t, .boundFault) ∧ CounterError s t)

/-- R36, R54: in the integer formats and in the narrow floating-point formats without MX scaling, a product that does not breach loses no bit to
the grid, whatever ridges the operands declare. R33, R34, R37, R53: a gutter's contents do not depend on the order of the products of a row,
nor on how the rows are split over courses that are joined, nor on their order, while no sum leaves the 176 bits; a product of the opposite
sign adds the opposite. -/
def Obligations.ProductsAndSumsAreExact : Prop :=
  (∀ (f g x y : Nat) (ra rb n e m k r : Int), ((f ∈ [0, 1] ∧ g ∈ [0, 1]) ∨ (f ∈ [2, 3, 4, 5, 6] ∧ g ∈ [2, 3, 4, 5, 6])) → x < 2 ^ fmtBits f → y < 2 ^ fmtBits g →
    decodeElem f false x = .fin n e → decodeElem g false y = .fin m k → r = courseRidge (clampRidge f false ra).1 (clampRidge g false rb).1 →
    n * m ≠ 0 → log2Val (n * m) (e + k) ≤ r → r - 126 ≤ e + k ∧ productUnits r false (n * m) (e + k) = n * m * 2 ^ (e + k - (r - 126)).toNat) ∧
  (∀ (r : Int) (w : Bool) (ps qs : List Val), ps.Perm qs → rowPart r w ps = rowPart r w qs) ∧
  (∀ (r : Int) (w : Bool) (ps qs : List Val), (ps ++ qs).length ≤ 2 ^ 48 → rowPart r w (ps ++ qs) = joinGutter (rowPart r w ps) (rowPart r w qs)) ∧
  (∀ (r : Int) (w : Bool) (rows more : List (List Val)), (rows.flatten ++ more.flatten).length ≤ 2 ^ 48 → rows.Perm more →
    (rows.map (rowPart r w)).foldl joinGutter {} = (more.map (rowPart r w)).foldl joinGutter {}) ∧
  (∀ (r : Int) (w : Bool) (rows : List (List Val)), rows.flatten.length ≤ 2 ^ 48 →
    (rows.map (rowPart r w)).foldl joinGutter {} = rowPart r w rows.flatten) ∧
  (∀ (r : Int) (w : Bool) (n e : Int), n ≠ 0 → productUnits r w (-n) e = -productUnits r w n e)

/-- R49, R50: of the neighbours `a` and `b` of the sum in the output format, the rounding mode picks the one that Table 2.10 names. The
stochastic value r is an operand here. -/
def Obligations.RoundingFollowsTheMode : Prop :=
  ∀ (f mode r32 : Nat) (sat : Bool) (n e : Int) (S a b : ℚ), f ∈ [5, 6, 7, 8, 9] → mode ≤ 4 → n ≠ 0 → S = n * (2 : ℚ) ^ e →
    IsValue f a → a ≤ S → (∀ w, IsValue f w → w ≤ S → w ≤ a) → IsValue f b → S ≤ b → (∀ w, IsValue f w → S ≤ w → b ≤ w) →
    ∃ code m k v, roundTo f mode sat r32 n e = code ∧ code < 2 ^ fmtBits f ∧ decodeElem f false code = .fin m k ∧ v = m * (2 : ℚ) ^ k ∧
    (a = b → v = S) ∧
    (a ≠ b → mode = 0 → (2 * S < a + b → v = a) ∧ (a + b < 2 * S → v = b) ∧ (2 * S = a + b → (v = a ∨ v = b) ∧ code % 2 = 0)) ∧
    (a ≠ b → mode = 1 → v = if 0 < S then a else b) ∧ (a ≠ b → mode = 2 → v = b) ∧ (a ≠ b → mode = 3 → v = a) ∧
    (a ≠ b → mode = 4 → v = if (r32 : ℤ) < ⌊(S - a) / (b - a) * 2 ^ 32⌋ then b else a)

end
end

