-- ==== Sys2Proof/Laws/Bits.lean ====
section
/-! SUPPORT. Laws of bit fields: a field reads as it was put, and every field beside it reads as before. -/

namespace Sys2Proof.Machine

/-- A number split at a field: above it, the field, below it. -/
theorem split_at_field (v lo n : Nat) :
    v = v / 2 ^ (lo + n) * 2 ^ (lo + n) + nbits v lo n * 2 ^ lo + v % 2 ^ lo := by
  have h1 := Nat.div_add_mod v (2 ^ lo)
  have h2 := Nat.div_add_mod (v / 2 ^ lo) (2 ^ n)
  have h3 : v / 2 ^ (lo + n) = v / 2 ^ lo / 2 ^ n := by rw [Nat.pow_add, Nat.div_div_eq_div_mul]
  unfold nbits
  rw [h3, Nat.pow_add]
  calc v = 2 ^ lo * (v / 2 ^ lo) + v % 2 ^ lo := h1.symm
    _ = 2 ^ lo * (2 ^ n * (v / 2 ^ lo / 2 ^ n) + v / 2 ^ lo % 2 ^ n) + v % 2 ^ lo := by rw [h2]
    _ = _ := by ring

/-- What putting a field makes of a number: above and below it stay. -/
theorem putBits_eq (v lo n x : Nat) :
    putBits v lo n x = v / 2 ^ (lo + n) * 2 ^ (lo + n) + x % 2 ^ n * 2 ^ lo + v % 2 ^ lo := by
  have h := split_at_field v lo n
  unfold putBits
  omega

theorem putBits_div (v lo n x : Nat) : putBits v lo n x / 2 ^ lo = v / 2 ^ (lo + n) * 2 ^ n + x % 2 ^ n := by
  rw [putBits_eq, Nat.pow_add]
  have : v / (2 ^ lo * 2 ^ n) * (2 ^ lo * 2 ^ n) + x % 2 ^ n * 2 ^ lo + v % 2 ^ lo
      = (v / (2 ^ lo * 2 ^ n) * 2 ^ n + x % 2 ^ n) * 2 ^ lo + v % 2 ^ lo := by ring
  rw [this, Nat.add_div_of_dvd_right (Dvd.intro_left _ rfl), Nat.mul_div_cancel _ (Nat.two_pow_pos lo),
    Nat.div_eq_of_lt (Nat.mod_lt _ (Nat.two_pow_pos lo)), Nat.add_zero]

/-- A field reads as it was put. -/
@[simp] theorem nbits_putBits_same (v lo n x : Nat) : nbits (putBits v lo n x) lo n = x % 2 ^ n := by
  rw [nbits, putBits_div, Nat.add_comm, Nat.add_mul_mod_self_right, Nat.mod_mod]

theorem putBits_mod (v lo n x : Nat) : putBits v lo n x % 2 ^ lo = v % 2 ^ lo := by
  rw [putBits_eq, Nat.pow_add]
  have : v / (2 ^ lo * 2 ^ n) * (2 ^ lo * 2 ^ n) + x % 2 ^ n * 2 ^ lo + v % 2 ^ lo
      = v % 2 ^ lo + (v / (2 ^ lo * 2 ^ n) * 2 ^ n + x % 2 ^ n) * 2 ^ lo := by ring
  rw [this, Nat.add_mul_mod_self_right, Nat.mod_mod]

theorem putBits_top (v lo n x : Nat) : putBits v lo n x / 2 ^ (lo + n) = v / 2 ^ (lo + n) := by
  rw [Nat.pow_add, ← Nat.div_div_eq_div_mul, putBits_div, Nat.add_comm,
    Nat.add_mul_div_right _ _ (Nat.two_pow_pos n), Nat.div_eq_of_lt (Nat.mod_lt _ (Nat.two_pow_pos n)), Nat.zero_add, Nat.pow_add]

/-- A field above the one that was put reads as before. -/
theorem nbits_putBits_above (v lo n x a m : Nat) (h : lo + n ≤ a) : nbits (putBits v lo n x) a m = nbits v a m := by
  obtain ⟨k, rfl⟩ := Nat.exists_eq_add_of_le h
  unfold nbits
  rw [Nat.pow_add (n := k), ← Nat.div_div_eq_div_mul, ← Nat.div_div_eq_div_mul, putBits_top]

/-- A field below the one that was put reads as before. -/
theorem nbits_putBits_below (v lo n x a m : Nat) (h : a + m ≤ lo) : nbits (putBits v lo n x) a m = nbits v a m := by
  have key : ∀ w : Nat, nbits w a m = nbits (w % 2 ^ lo) a m := by
    intro w
    obtain ⟨k, rfl⟩ := Nat.exists_eq_add_of_le h
    unfold nbits
    rw [Nat.add_assoc, Nat.pow_add 2 a, Nat.mod_mul_right_div_self, Nat.pow_add, Nat.mod_mul_right_mod]
  rw [key, putBits_mod, ← key]

/-- One bit, as a field of one bit. -/
theorem nbit_eq (v i : Nat) : nbit v i = decide (nbits v i 1 = 1) := by simp [nbit, nbits]

theorem nbit_putBits_same (v i x : Nat) : nbit (putBits v i 1 x) i = decide (x % 2 = 1) := by
  rw [nbit_eq, nbits_putBits_same]; simp

theorem nbit_putBits_ne (v i x j : Nat) (h : j ≠ i) : nbit (putBits v i 1 x) j = nbit v j := by
  rw [nbit_eq, nbit_eq]
  rcases Nat.lt_or_gt_of_ne h with h | h
  · rw [nbits_putBits_below _ _ _ _ _ _ (by omega)]
  · rw [nbits_putBits_above _ _ _ _ _ _ (by omega)]

/-- The fields of a packed structure: the first one, and those after it. -/
theorem nbits_pack_first (w v : Nat) (fs : List (Nat × Nat)) : nbits (pack ((w, v) :: fs)) 0 w = v % 2 ^ w := by
  simp [nbits, pack]

theorem nbits_pack_next (w v lo n : Nat) (fs : List (Nat × Nat)) : nbits (pack ((w, v) :: fs)) (w + lo) n = nbits (pack fs) lo n := by
  unfold nbits
  rw [show pack ((w, v) :: fs) = v % 2 ^ w + 2 ^ w * pack fs from rfl, Nat.pow_add, ← Nat.div_div_eq_div_mul, Nat.add_mul_div_left _ _ (Nat.two_pow_pos w),
    Nat.div_eq_of_lt (Nat.mod_lt _ (Nat.two_pow_pos w)), Nat.zero_add]

end Sys2Proof.Machine
end

