-- ==== Sys2Proof/Laws/State.lean ====
section
/-! SUPPORT. Laws of the named updates of the state: each leaves every other field of the state as it is. One lemma per update
and field, each true by unfolding once, so that no later proof unfolds a record update. -/

namespace Sys2Proof.Machine

@[simp] theorem emit_pending (o : Out) (s : State) : (emit o s).pending = s.pending := rfl
@[simp] theorem emit_free (o : Out) (s : State) : (emit o s).free = s.free := rfl
@[simp] theorem emit_acts (o : Out) (s : State) : (emit o s).acts = s.acts := rfl
@[simp] theorem emit_aoncnt (o : Out) (s : State) : (emit o s).aoncnt = s.aoncnt := rfl
@[simp] theorem emit_stalled (o : Out) (s : State) : (emit o s).stalled = s.stalled := rfl
@[simp] theorem emit_latch (o : Out) (s : State) : (emit o s).latch = s.latch := rfl
@[simp] theorem emit_objs (o : Out) (s : State) : (emit o s).objs = s.objs := rfl
@[simp] theorem emit_ctrs (o : Out) (s : State) : (emit o s).ctrs = s.ctrs := rfl
@[simp] theorem emit_wraps (o : Out) (s : State) : (emit o s).wraps = s.wraps := rfl
@[simp] theorem emit_mem (o : Out) (s : State) : (emit o s).mem = s.mem := rfl
@[simp] theorem emit_tu (o : Out) (s : State) : (emit o s).tu = s.tu := rfl
@[simp] theorem emit_ports (o : Out) (s : State) : (emit o s).ports = s.ports := rfl
@[simp] theorem emit_coh (o : Out) (s : State) : (emit o s).coh = s.coh := rfl
@[simp] theorem emit_hosts (o : Out) (s : State) : (emit o s).hosts = s.hosts := rfl
@[simp] theorem emit_peers (o : Out) (s : State) : (emit o s).peers = s.peers := rfl
@[simp] theorem emit_arrays (o : Out) (s : State) : (emit o s).arrays = s.arrays := rfl
@[simp] theorem emit_xfers (o : Out) (s : State) : (emit o s).xfers = s.xfers := rfl
@[simp] theorem emit_queues (o : Out) (s : State) : (emit o s).queues = s.queues := rfl
@[simp] theorem emit_engines (o : Out) (s : State) : (emit o s).engines = s.engines := rfl
@[simp] theorem emit_sync (o : Out) (s : State) : (emit o s).sync = s.sync := rfl
@[simp] theorem emit_sched (o : Out) (s : State) : (emit o s).sched = s.sched := rfl
@[simp] theorem emit_flt (o : Out) (s : State) : (emit o s).flt = s.flt := rfl
@[simp] theorem emit_accums (o : Out) (s : State) : (emit o s).accums = s.accums := rfl
@[simp] theorem emit_ftest (o : Out) (s : State) : (emit o s).ftest = s.ftest := rfl
@[simp] theorem emit_pins (o : Out) (s : State) : (emit o s).pins = s.pins := rfl
@[simp] theorem emit_start (o : Out) (s : State) : (emit o s).start = s.start := rfl
@[simp] theorem emit_freeze (o : Out) (s : State) : (emit o s).freeze = s.freeze := rfl
@[simp] theorem emit_sec (o : Out) (s : State) : (emit o s).sec = s.sec := rfl
@[simp] theorem emit_fw (o : Out) (s : State) : (emit o s).fw = s.fw := rfl
@[simp] theorem emit_mgmt (o : Out) (s : State) : (emit o s).mgmt = s.mgmt := rfl
@[simp] theorem emit_power (o : Out) (s : State) : (emit o s).power = s.power := rfl
@[simp] theorem emit_asleep (o : Out) (s : State) : (emit o s).asleep = s.asleep := rfl

@[simp] theorem owe_pending (a : Act) (s : State) : (owe a s).pending = s.pending := rfl
@[simp] theorem owe_free (a : Act) (s : State) : (owe a s).free = s.free := rfl
@[simp] theorem owe_out (a : Act) (s : State) : (owe a s).out = s.out := rfl
@[simp] theorem owe_aoncnt (a : Act) (s : State) : (owe a s).aoncnt = s.aoncnt := rfl
@[simp] theorem owe_stalled (a : Act) (s : State) : (owe a s).stalled = s.stalled := rfl
@[simp] theorem owe_latch (a : Act) (s : State) : (owe a s).latch = s.latch := rfl
@[simp] theorem owe_objs (a : Act) (s : State) : (owe a s).objs = s.objs := rfl
@[simp] theorem owe_ctrs (a : Act) (s : State) : (owe a s).ctrs = s.ctrs := rfl
@[simp] theorem owe_wraps (a : Act) (s : State) : (owe a s).wraps = s.wraps := rfl
@[simp] theorem owe_mem (a : Act) (s : State) : (owe a s).mem = s.mem := rfl
@[simp] theorem owe_tu (a : Act) (s : State) : (owe a s).tu = s.tu := rfl
@[simp] theorem owe_ports (a : Act) (s : State) : (owe a s).ports = s.ports := rfl
@[simp] theorem owe_coh (a : Act) (s : State) : (owe a s).coh = s.coh := rfl
@[simp] theorem owe_hosts (a : Act) (s : State) : (owe a s).hosts = s.hosts := rfl
@[simp] theorem owe_peers (a : Act) (s : State) : (owe a s).peers = s.peers := rfl
@[simp] theorem owe_arrays (a : Act) (s : State) : (owe a s).arrays = s.arrays := rfl
@[simp] theorem owe_xfers (a : Act) (s : State) : (owe a s).xfers = s.xfers := rfl
@[simp] theorem owe_queues (a : Act) (s : State) : (owe a s).queues = s.queues := rfl
@[simp] theorem owe_engines (a : Act) (s : State) : (owe a s).engines = s.engines := rfl
@[simp] theorem owe_sync (a : Act) (s : State) : (owe a s).sync = s.sync := rfl
@[simp] theorem owe_sched (a : Act) (s : State) : (owe a s).sched = s.sched := rfl
@[simp] theorem owe_flt (a : Act) (s : State) : (owe a s).flt = s.flt := rfl
@[simp] theorem owe_accums (a : Act) (s : State) : (owe a s).accums = s.accums := rfl
@[simp] theorem owe_ftest (a : Act) (s : State) : (owe a s).ftest = s.ftest := rfl
@[simp] theorem owe_pins (a : Act) (s : State) : (owe a s).pins = s.pins := rfl
@[simp] theorem owe_start (a : Act) (s : State) : (owe a s).start = s.start := rfl
@[simp] theorem owe_freeze (a : Act) (s : State) : (owe a s).freeze = s.freeze := rfl
@[simp] theorem owe_sec (a : Act) (s : State) : (owe a s).sec = s.sec := rfl
@[simp] theorem owe_fw (a : Act) (s : State) : (owe a s).fw = s.fw := rfl
@[simp] theorem owe_mgmt (a : Act) (s : State) : (owe a s).mgmt = s.mgmt := rfl
@[simp] theorem owe_power (a : Act) (s : State) : (owe a s).power = s.power := rfl
@[simp] theorem owe_asleep (a : Act) (s : State) : (owe a s).asleep = s.asleep := rfl

@[simp] theorem takeFree_pending (s : State) : (takeFree s).pending = s.pending := rfl
@[simp] theorem takeFree_out (s : State) : (takeFree s).out = s.out := rfl
@[simp] theorem takeFree_acts (s : State) : (takeFree s).acts = s.acts := rfl
@[simp] theorem takeFree_aoncnt (s : State) : (takeFree s).aoncnt = s.aoncnt := rfl
@[simp] theorem takeFree_stalled (s : State) : (takeFree s).stalled = s.stalled := rfl
@[simp] theorem takeFree_latch (s : State) : (takeFree s).latch = s.latch := rfl
@[simp] theorem takeFree_objs (s : State) : (takeFree s).objs = s.objs := rfl
@[simp] theorem takeFree_ctrs (s : State) : (takeFree s).ctrs = s.ctrs := rfl
@[simp] theorem takeFree_wraps (s : State) : (takeFree s).wraps = s.wraps := rfl
@[simp] theorem takeFree_mem (s : State) : (takeFree s).mem = s.mem := rfl
@[simp] theorem takeFree_tu (s : State) : (takeFree s).tu = s.tu := rfl
@[simp] theorem takeFree_ports (s : State) : (takeFree s).ports = s.ports := rfl
@[simp] theorem takeFree_coh (s : State) : (takeFree s).coh = s.coh := rfl
@[simp] theorem takeFree_hosts (s : State) : (takeFree s).hosts = s.hosts := rfl
@[simp] theorem takeFree_peers (s : State) : (takeFree s).peers = s.peers := rfl
@[simp] theorem takeFree_arrays (s : State) : (takeFree s).arrays = s.arrays := rfl
@[simp] theorem takeFree_xfers (s : State) : (takeFree s).xfers = s.xfers := rfl
@[simp] theorem takeFree_queues (s : State) : (takeFree s).queues = s.queues := rfl
@[simp] theorem takeFree_engines (s : State) : (takeFree s).engines = s.engines := rfl
@[simp] theorem takeFree_sync (s : State) : (takeFree s).sync = s.sync := rfl
@[simp] theorem takeFree_sched (s : State) : (takeFree s).sched = s.sched := rfl
@[simp] theorem takeFree_flt (s : State) : (takeFree s).flt = s.flt := rfl
@[simp] theorem takeFree_accums (s : State) : (takeFree s).accums = s.accums := rfl
@[simp] theorem takeFree_ftest (s : State) : (takeFree s).ftest = s.ftest := rfl
@[simp] theorem takeFree_pins (s : State) : (takeFree s).pins = s.pins := rfl
@[simp] theorem takeFree_start (s : State) : (takeFree s).start = s.start := rfl
@[simp] theorem takeFree_freeze (s : State) : (takeFree s).freeze = s.freeze := rfl
@[simp] theorem takeFree_sec (s : State) : (takeFree s).sec = s.sec := rfl
@[simp] theorem takeFree_fw (s : State) : (takeFree s).fw = s.fw := rfl
@[simp] theorem takeFree_mgmt (s : State) : (takeFree s).mgmt = s.mgmt := rfl
@[simp] theorem takeFree_power (s : State) : (takeFree s).power = s.power := rfl
@[simp] theorem takeFree_asleep (s : State) : (takeFree s).asleep = s.asleep := rfl

@[simp] theorem setObj_pending (i j v : Nat) (s : State) : (setObj i j v s).pending = s.pending := rfl
@[simp] theorem setObj_free (i j v : Nat) (s : State) : (setObj i j v s).free = s.free := rfl
@[simp] theorem setObj_out (i j v : Nat) (s : State) : (setObj i j v s).out = s.out := rfl
@[simp] theorem setObj_acts (i j v : Nat) (s : State) : (setObj i j v s).acts = s.acts := rfl
@[simp] theorem setObj_aoncnt (i j v : Nat) (s : State) : (setObj i j v s).aoncnt = s.aoncnt := rfl
@[simp] theorem setObj_stalled (i j v : Nat) (s : State) : (setObj i j v s).stalled = s.stalled := rfl
@[simp] theorem setObj_latch (i j v : Nat) (s : State) : (setObj i j v s).latch = s.latch := rfl
@[simp] theorem setObj_ctrs (i j v : Nat) (s : State) : (setObj i j v s).ctrs = s.ctrs := rfl
@[simp] theorem setObj_wraps (i j v : Nat) (s : State) : (setObj i j v s).wraps = s.wraps := rfl
@[simp] theorem setObj_mem (i j v : Nat) (s : State) : (setObj i j v s).mem = s.mem := rfl
@[simp] theorem setObj_tu (i j v : Nat) (s : State) : (setObj i j v s).tu = s.tu := rfl
@[simp] theorem setObj_ports (i j v : Nat) (s : State) : (setObj i j v s).ports = s.ports := rfl
@[simp] theorem setObj_coh (i j v : Nat) (s : State) : (setObj i j v s).coh = s.coh := rfl
@[simp] theorem setObj_hosts (i j v : Nat) (s : State) : (setObj i j v s).hosts = s.hosts := rfl
@[simp] theorem setObj_peers (i j v : Nat) (s : State) : (setObj i j v s).peers = s.peers := rfl
@[simp] theorem setObj_arrays (i j v : Nat) (s : State) : (setObj i j v s).arrays = s.arrays := rfl
@[simp] theorem setObj_xfers (i j v : Nat) (s : State) : (setObj i j v s).xfers = s.xfers := rfl
@[simp] theorem setObj_queues (i j v : Nat) (s : State) : (setObj i j v s).queues = s.queues := rfl
@[simp] theorem setObj_engines (i j v : Nat) (s : State) : (setObj i j v s).engines = s.engines := rfl
@[simp] theorem setObj_sync (i j v : Nat) (s : State) : (setObj i j v s).sync = s.sync := rfl
@[simp] theorem setObj_sched (i j v : Nat) (s : State) : (setObj i j v s).sched = s.sched := rfl
@[simp] theorem setObj_flt (i j v : Nat) (s : State) : (setObj i j v s).flt = s.flt := rfl
@[simp] theorem setObj_accums (i j v : Nat) (s : State) : (setObj i j v s).accums = s.accums := rfl
@[simp] theorem setObj_ftest (i j v : Nat) (s : State) : (setObj i j v s).ftest = s.ftest := rfl
@[simp] theorem setObj_pins (i j v : Nat) (s : State) : (setObj i j v s).pins = s.pins := rfl
@[simp] theorem setObj_start (i j v : Nat) (s : State) : (setObj i j v s).start = s.start := rfl
@[simp] theorem setObj_freeze (i j v : Nat) (s : State) : (setObj i j v s).freeze = s.freeze := rfl
@[simp] theorem setObj_sec (i j v : Nat) (s : State) : (setObj i j v s).sec = s.sec := rfl
@[simp] theorem setObj_fw (i j v : Nat) (s : State) : (setObj i j v s).fw = s.fw := rfl
@[simp] theorem setObj_mgmt (i j v : Nat) (s : State) : (setObj i j v s).mgmt = s.mgmt := rfl
@[simp] theorem setObj_power (i j v : Nat) (s : State) : (setObj i j v s).power = s.power := rfl
@[simp] theorem setObj_asleep (i j v : Nat) (s : State) : (setObj i j v s).asleep = s.asleep := rfl

@[simp] theorem countN_pending (i j n : Nat) (s : State) : (countN i j n s).pending = s.pending := rfl
@[simp] theorem countN_free (i j n : Nat) (s : State) : (countN i j n s).free = s.free := rfl
@[simp] theorem countN_out (i j n : Nat) (s : State) : (countN i j n s).out = s.out := rfl
@[simp] theorem countN_acts (i j n : Nat) (s : State) : (countN i j n s).acts = s.acts := rfl
@[simp] theorem countN_aoncnt (i j n : Nat) (s : State) : (countN i j n s).aoncnt = s.aoncnt := rfl
@[simp] theorem countN_stalled (i j n : Nat) (s : State) : (countN i j n s).stalled = s.stalled := rfl
@[simp] theorem countN_latch (i j n : Nat) (s : State) : (countN i j n s).latch = s.latch := rfl
@[simp] theorem countN_objs (i j n : Nat) (s : State) : (countN i j n s).objs = s.objs := rfl
@[simp] theorem countN_mem (i j n : Nat) (s : State) : (countN i j n s).mem = s.mem := rfl
@[simp] theorem countN_tu (i j n : Nat) (s : State) : (countN i j n s).tu = s.tu := rfl
@[simp] theorem countN_ports (i j n : Nat) (s : State) : (countN i j n s).ports = s.ports := rfl
@[simp] theorem countN_coh (i j n : Nat) (s : State) : (countN i j n s).coh = s.coh := rfl
@[simp] theorem countN_hosts (i j n : Nat) (s : State) : (countN i j n s).hosts = s.hosts := rfl
@[simp] theorem countN_peers (i j n : Nat) (s : State) : (countN i j n s).peers = s.peers := rfl
@[simp] theorem countN_arrays (i j n : Nat) (s : State) : (countN i j n s).arrays = s.arrays := rfl
@[simp] theorem countN_xfers (i j n : Nat) (s : State) : (countN i j n s).xfers = s.xfers := rfl
@[simp] theorem countN_queues (i j n : Nat) (s : State) : (countN i j n s).queues = s.queues := rfl
@[simp] theorem countN_engines (i j n : Nat) (s : State) : (countN i j n s).engines = s.engines := rfl
@[simp] theorem countN_sync (i j n : Nat) (s : State) : (countN i j n s).sync = s.sync := rfl
@[simp] theorem countN_sched (i j n : Nat) (s : State) : (countN i j n s).sched = s.sched := rfl
@[simp] theorem countN_flt (i j n : Nat) (s : State) : (countN i j n s).flt = s.flt := rfl
@[simp] theorem countN_accums (i j n : Nat) (s : State) : (countN i j n s).accums = s.accums := rfl
@[simp] theorem countN_ftest (i j n : Nat) (s : State) : (countN i j n s).ftest = s.ftest := rfl
@[simp] theorem countN_pins (i j n : Nat) (s : State) : (countN i j n s).pins = s.pins := rfl
@[simp] theorem countN_start (i j n : Nat) (s : State) : (countN i j n s).start = s.start := rfl
@[simp] theorem countN_freeze (i j n : Nat) (s : State) : (countN i j n s).freeze = s.freeze := rfl
@[simp] theorem countN_sec (i j n : Nat) (s : State) : (countN i j n s).sec = s.sec := rfl
@[simp] theorem countN_fw (i j n : Nat) (s : State) : (countN i j n s).fw = s.fw := rfl
@[simp] theorem countN_mgmt (i j n : Nat) (s : State) : (countN i j n s).mgmt = s.mgmt := rfl
@[simp] theorem countN_power (i j n : Nat) (s : State) : (countN i j n s).power = s.power := rfl
@[simp] theorem countN_asleep (i j n : Nat) (s : State) : (countN i j n s).asleep = s.asleep := rfl

@[simp] theorem count_pending (i j : Nat) (s : State) : (count i j s).pending = s.pending := rfl
@[simp] theorem count_free (i j : Nat) (s : State) : (count i j s).free = s.free := rfl
@[simp] theorem count_out (i j : Nat) (s : State) : (count i j s).out = s.out := rfl
@[simp] theorem count_acts (i j : Nat) (s : State) : (count i j s).acts = s.acts := rfl
@[simp] theorem count_aoncnt (i j : Nat) (s : State) : (count i j s).aoncnt = s.aoncnt := rfl
@[simp] theorem count_stalled (i j : Nat) (s : State) : (count i j s).stalled = s.stalled := rfl
@[simp] theorem count_latch (i j : Nat) (s : State) : (count i j s).latch = s.latch := rfl
@[simp] theorem count_objs (i j : Nat) (s : State) : (count i j s).objs = s.objs := rfl
@[simp] theorem count_mem (i j : Nat) (s : State) : (count i j s).mem = s.mem := rfl
@[simp] theorem count_tu (i j : Nat) (s : State) : (count i j s).tu = s.tu := rfl
@[simp] theorem count_ports (i j : Nat) (s : State) : (count i j s).ports = s.ports := rfl
@[simp] theorem count_coh (i j : Nat) (s : State) : (count i j s).coh = s.coh := rfl
@[simp] theorem count_hosts (i j : Nat) (s : State) : (count i j s).hosts = s.hosts := rfl
@[simp] theorem count_peers (i j : Nat) (s : State) : (count i j s).peers = s.peers := rfl
@[simp] theorem count_arrays (i j : Nat) (s : State) : (count i j s).arrays = s.arrays := rfl
@[simp] theorem count_xfers (i j : Nat) (s : State) : (count i j s).xfers = s.xfers := rfl
@[simp] theorem count_queues (i j : Nat) (s : State) : (count i j s).queues = s.queues := rfl
@[simp] theorem count_engines (i j : Nat) (s : State) : (count i j s).engines = s.engines := rfl
@[simp] theorem count_sync (i j : Nat) (s : State) : (count i j s).sync = s.sync := rfl
@[simp] theorem count_sched (i j : Nat) (s : State) : (count i j s).sched = s.sched := rfl
@[simp] theorem count_flt (i j : Nat) (s : State) : (count i j s).flt = s.flt := rfl
@[simp] theorem count_accums (i j : Nat) (s : State) : (count i j s).accums = s.accums := rfl
@[simp] theorem count_ftest (i j : Nat) (s : State) : (count i j s).ftest = s.ftest := rfl
@[simp] theorem count_pins (i j : Nat) (s : State) : (count i j s).pins = s.pins := rfl
@[simp] theorem count_start (i j : Nat) (s : State) : (count i j s).start = s.start := rfl
@[simp] theorem count_freeze (i j : Nat) (s : State) : (count i j s).freeze = s.freeze := rfl
@[simp] theorem count_sec (i j : Nat) (s : State) : (count i j s).sec = s.sec := rfl
@[simp] theorem count_fw (i j : Nat) (s : State) : (count i j s).fw = s.fw := rfl
@[simp] theorem count_mgmt (i j : Nat) (s : State) : (count i j s).mgmt = s.mgmt := rfl
@[simp] theorem count_power (i j : Nat) (s : State) : (count i j s).power = s.power := rfl
@[simp] theorem count_asleep (i j : Nat) (s : State) : (count i j s).asleep = s.asleep := rfl

@[simp] theorem modPort_pending (p : Nat) (f : Port → Port) (s : State) : (modPort p f s).pending = s.pending := rfl
@[simp] theorem modPort_free (p : Nat) (f : Port → Port) (s : State) : (modPort p f s).free = s.free := rfl
@[simp] theorem modPort_out (p : Nat) (f : Port → Port) (s : State) : (modPort p f s).out = s.out := rfl
@[simp] theorem modPort_acts (p : Nat) (f : Port → Port) (s : State) : (modPort p f s).acts = s.acts := rfl
@[simp] theorem modPort_aoncnt (p : Nat) (f : Port → Port) (s : State) : (modPort p f s).aoncnt = s.aoncnt := rfl
@[simp] theorem modPort_stalled (p : Nat) (f : Port → Port) (s : State) : (modPort p f s).stalled = s.stalled := rfl
@[simp] theorem modPort_latch (p : Nat) (f : Port → Port) (s : State) : (modPort p f s).latch = s.latch := rfl
@[simp] theorem modPort_objs (p : Nat) (f : Port → Port) (s : State) : (modPort p f s).objs = s.objs := rfl
@[simp] theorem modPort_ctrs (p : Nat) (f : Port → Port) (s : State) : (modPort p f s).ctrs = s.ctrs := rfl
@[simp] theorem modPort_wraps (p : Nat) (f : Port → Port) (s : State) : (modPort p f s).wraps = s.wraps := rfl
@[simp] theorem modPort_mem (p : Nat) (f : Port → Port) (s : State) : (modPort p f s).mem = s.mem := rfl
@[simp] theorem modPort_tu (p : Nat) (f : Port → Port) (s : State) : (modPort p f s).tu = s.tu := rfl
@[simp] theorem modPort_coh (p : Nat) (f : Port → Port) (s : State) : (modPort p f s).coh = s.coh := rfl
@[simp] theorem modPort_hosts (p : Nat) (f : Port → Port) (s : State) : (modPort p f s).hosts = s.hosts := rfl
@[simp] theorem modPort_peers (p : Nat) (f : Port → Port) (s : State) : (modPort p f s).peers = s.peers := rfl
@[simp] theorem modPort_arrays (p : Nat) (f : Port → Port) (s : State) : (modPort p f s).arrays = s.arrays := rfl
@[simp] theorem modPort_xfers (p : Nat) (f : Port → Port) (s : State) : (modPort p f s).xfers = s.xfers := rfl
@[simp] theorem modPort_queues (p : Nat) (f : Port → Port) (s : State) : (modPort p f s).queues = s.queues := rfl
@[simp] theorem modPort_engines (p : Nat) (f : Port → Port) (s : State) : (modPort p f s).engines = s.engines := rfl
@[simp] theorem modPort_sync (p : Nat) (f : Port → Port) (s : State) : (modPort p f s).sync = s.sync := rfl
@[simp] theorem modPort_sched (p : Nat) (f : Port → Port) (s : State) : (modPort p f s).sched = s.sched := rfl
@[simp] theorem modPort_flt (p : Nat) (f : Port → Port) (s : State) : (modPort p f s).flt = s.flt := rfl
@[simp] theorem modPort_accums (p : Nat) (f : Port → Port) (s : State) : (modPort p f s).accums = s.accums := rfl
@[simp] theorem modPort_ftest (p : Nat) (f : Port → Port) (s : State) : (modPort p f s).ftest = s.ftest := rfl
@[simp] theorem modPort_pins (p : Nat) (f : Port → Port) (s : State) : (modPort p f s).pins = s.pins := rfl
@[simp] theorem modPort_start (p : Nat) (f : Port → Port) (s : State) : (modPort p f s).start = s.start := rfl
@[simp] theorem modPort_freeze (p : Nat) (f : Port → Port) (s : State) : (modPort p f s).freeze = s.freeze := rfl
@[simp] theorem modPort_sec (p : Nat) (f : Port → Port) (s : State) : (modPort p f s).sec = s.sec := rfl
@[simp] theorem modPort_fw (p : Nat) (f : Port → Port) (s : State) : (modPort p f s).fw = s.fw := rfl
@[simp] theorem modPort_mgmt (p : Nat) (f : Port → Port) (s : State) : (modPort p f s).mgmt = s.mgmt := rfl
@[simp] theorem modPort_power (p : Nat) (f : Port → Port) (s : State) : (modPort p f s).power = s.power := rfl
@[simp] theorem modPort_asleep (p : Nat) (f : Port → Port) (s : State) : (modPort p f s).asleep = s.asleep := rfl

@[simp] theorem modHost_pending (p : Nat) (f : HostPort → HostPort) (s : State) : (modHost p f s).pending = s.pending := rfl
@[simp] theorem modHost_free (p : Nat) (f : HostPort → HostPort) (s : State) : (modHost p f s).free = s.free := rfl
@[simp] theorem modHost_out (p : Nat) (f : HostPort → HostPort) (s : State) : (modHost p f s).out = s.out := rfl
@[simp] theorem modHost_acts (p : Nat) (f : HostPort → HostPort) (s : State) : (modHost p f s).acts = s.acts := rfl
@[simp] theorem modHost_aoncnt (p : Nat) (f : HostPort → HostPort) (s : State) : (modHost p f s).aoncnt = s.aoncnt := rfl
@[simp] theorem modHost_stalled (p : Nat) (f : HostPort → HostPort) (s : State) : (modHost p f s).stalled = s.stalled := rfl
@[simp] theorem modHost_latch (p : Nat) (f : HostPort → HostPort) (s : State) : (modHost p f s).latch = s.latch := rfl
@[simp] theorem modHost_objs (p : Nat) (f : HostPort → HostPort) (s : State) : (modHost p f s).objs = s.objs := rfl
@[simp] theorem modHost_ctrs (p : Nat) (f : HostPort → HostPort) (s : State) : (modHost p f s).ctrs = s.ctrs := rfl
@[simp] theorem modHost_wraps (p : Nat) (f : HostPort → HostPort) (s : State) : (modHost p f s).wraps = s.wraps := rfl
@[simp] theorem modHost_mem (p : Nat) (f : HostPort → HostPort) (s : State) : (modHost p f s).mem = s.mem := rfl
@[simp] theorem modHost_tu (p : Nat) (f : HostPort → HostPort) (s : State) : (modHost p f s).tu = s.tu := rfl
@[simp] theorem modHost_ports (p : Nat) (f : HostPort → HostPort) (s : State) : (modHost p f s).ports = s.ports := rfl
@[simp] theorem modHost_coh (p : Nat) (f : HostPort → HostPort) (s : State) : (modHost p f s).coh = s.coh := rfl
@[simp] theorem modHost_peers (p : Nat) (f : HostPort → HostPort) (s : State) : (modHost p f s).peers = s.peers := rfl
@[simp] theorem modHost_arrays (p : Nat) (f : HostPort → HostPort) (s : State) : (modHost p f s).arrays = s.arrays := rfl
@[simp] theorem modHost_xfers (p : Nat) (f : HostPort → HostPort) (s : State) : (modHost p f s).xfers = s.xfers := rfl
@[simp] theorem modHost_queues (p : Nat) (f : HostPort → HostPort) (s : State) : (modHost p f s).queues = s.queues := rfl
@[simp] theorem modHost_engines (p : Nat) (f : HostPort → HostPort) (s : State) : (modHost p f s).engines = s.engines := rfl
@[simp] theorem modHost_sync (p : Nat) (f : HostPort → HostPort) (s : State) : (modHost p f s).sync = s.sync := rfl
@[simp] theorem modHost_sched (p : Nat) (f : HostPort → HostPort) (s : State) : (modHost p f s).sched = s.sched := rfl
@[simp] theorem modHost_flt (p : Nat) (f : HostPort → HostPort) (s : State) : (modHost p f s).flt = s.flt := rfl
@[simp] theorem modHost_accums (p : Nat) (f : HostPort → HostPort) (s : State) : (modHost p f s).accums = s.accums := rfl
@[simp] theorem modHost_ftest (p : Nat) (f : HostPort → HostPort) (s : State) : (modHost p f s).ftest = s.ftest := rfl
@[simp] theorem modHost_pins (p : Nat) (f : HostPort → HostPort) (s : State) : (modHost p f s).pins = s.pins := rfl
@[simp] theorem modHost_start (p : Nat) (f : HostPort → HostPort) (s : State) : (modHost p f s).start = s.start := rfl
@[simp] theorem modHost_freeze (p : Nat) (f : HostPort → HostPort) (s : State) : (modHost p f s).freeze = s.freeze := rfl
@[simp] theorem modHost_sec (p : Nat) (f : HostPort → HostPort) (s : State) : (modHost p f s).sec = s.sec := rfl
@[simp] theorem modHost_fw (p : Nat) (f : HostPort → HostPort) (s : State) : (modHost p f s).fw = s.fw := rfl
@[simp] theorem modHost_mgmt (p : Nat) (f : HostPort → HostPort) (s : State) : (modHost p f s).mgmt = s.mgmt := rfl
@[simp] theorem modHost_power (p : Nat) (f : HostPort → HostPort) (s : State) : (modHost p f s).power = s.power := rfl
@[simp] theorem modHost_asleep (p : Nat) (f : HostPort → HostPort) (s : State) : (modHost p f s).asleep = s.asleep := rfl

@[simp] theorem modPeer_pending (l : Nat) (f : PeerLink → PeerLink) (s : State) : (modPeer l f s).pending = s.pending := rfl
@[simp] theorem modPeer_free (l : Nat) (f : PeerLink → PeerLink) (s : State) : (modPeer l f s).free = s.free := rfl
@[simp] theorem modPeer_out (l : Nat) (f : PeerLink → PeerLink) (s : State) : (modPeer l f s).out = s.out := rfl
@[simp] theorem modPeer_acts (l : Nat) (f : PeerLink → PeerLink) (s : State) : (modPeer l f s).acts = s.acts := rfl
@[simp] theorem modPeer_aoncnt (l : Nat) (f : PeerLink → PeerLink) (s : State) : (modPeer l f s).aoncnt = s.aoncnt := rfl
@[simp] theorem modPeer_stalled (l : Nat) (f : PeerLink → PeerLink) (s : State) : (modPeer l f s).stalled = s.stalled := rfl
@[simp] theorem modPeer_latch (l : Nat) (f : PeerLink → PeerLink) (s : State) : (modPeer l f s).latch = s.latch := rfl
@[simp] theorem modPeer_objs (l : Nat) (f : PeerLink → PeerLink) (s : State) : (modPeer l f s).objs = s.objs := rfl
@[simp] theorem modPeer_ctrs (l : Nat) (f : PeerLink → PeerLink) (s : State) : (modPeer l f s).ctrs = s.ctrs := rfl
@[simp] theorem modPeer_wraps (l : Nat) (f : PeerLink → PeerLink) (s : State) : (modPeer l f s).wraps = s.wraps := rfl
@[simp] theorem modPeer_mem (l : Nat) (f : PeerLink → PeerLink) (s : State) : (modPeer l f s).mem = s.mem := rfl
@[simp] theorem modPeer_tu (l : Nat) (f : PeerLink → PeerLink) (s : State) : (modPeer l f s).tu = s.tu := rfl
@[simp] theorem modPeer_ports (l : Nat) (f : PeerLink → PeerLink) (s : State) : (modPeer l f s).ports = s.ports := rfl
@[simp] theorem modPeer_coh (l : Nat) (f : PeerLink → PeerLink) (s : State) : (modPeer l f s).coh = s.coh := rfl
@[simp] theorem modPeer_hosts (l : Nat) (f : PeerLink → PeerLink) (s : State) : (modPeer l f s).hosts = s.hosts := rfl
@[simp] theorem modPeer_arrays (l : Nat) (f : PeerLink → PeerLink) (s : State) : (modPeer l f s).arrays = s.arrays := rfl
@[simp] theorem modPeer_xfers (l : Nat) (f : PeerLink → PeerLink) (s : State) : (modPeer l f s).xfers = s.xfers := rfl
@[simp] theorem modPeer_queues (l : Nat) (f : PeerLink → PeerLink) (s : State) : (modPeer l f s).queues = s.queues := rfl
@[simp] theorem modPeer_engines (l : Nat) (f : PeerLink → PeerLink) (s : State) : (modPeer l f s).engines = s.engines := rfl
@[simp] theorem modPeer_sync (l : Nat) (f : PeerLink → PeerLink) (s : State) : (modPeer l f s).sync = s.sync := rfl
@[simp] theorem modPeer_sched (l : Nat) (f : PeerLink → PeerLink) (s : State) : (modPeer l f s).sched = s.sched := rfl
@[simp] theorem modPeer_flt (l : Nat) (f : PeerLink → PeerLink) (s : State) : (modPeer l f s).flt = s.flt := rfl
@[simp] theorem modPeer_accums (l : Nat) (f : PeerLink → PeerLink) (s : State) : (modPeer l f s).accums = s.accums := rfl
@[simp] theorem modPeer_ftest (l : Nat) (f : PeerLink → PeerLink) (s : State) : (modPeer l f s).ftest = s.ftest := rfl
@[simp] theorem modPeer_pins (l : Nat) (f : PeerLink → PeerLink) (s : State) : (modPeer l f s).pins = s.pins := rfl
@[simp] theorem modPeer_start (l : Nat) (f : PeerLink → PeerLink) (s : State) : (modPeer l f s).start = s.start := rfl
@[simp] theorem modPeer_freeze (l : Nat) (f : PeerLink → PeerLink) (s : State) : (modPeer l f s).freeze = s.freeze := rfl
@[simp] theorem modPeer_sec (l : Nat) (f : PeerLink → PeerLink) (s : State) : (modPeer l f s).sec = s.sec := rfl
@[simp] theorem modPeer_fw (l : Nat) (f : PeerLink → PeerLink) (s : State) : (modPeer l f s).fw = s.fw := rfl
@[simp] theorem modPeer_mgmt (l : Nat) (f : PeerLink → PeerLink) (s : State) : (modPeer l f s).mgmt = s.mgmt := rfl
@[simp] theorem modPeer_power (l : Nat) (f : PeerLink → PeerLink) (s : State) : (modPeer l f s).power = s.power := rfl
@[simp] theorem modPeer_asleep (l : Nat) (f : PeerLink → PeerLink) (s : State) : (modPeer l f s).asleep = s.asleep := rfl

@[simp] theorem modQueue_pending (q : Nat) (f : Queue → Queue) (s : State) : (modQueue q f s).pending = s.pending := rfl
@[simp] theorem modQueue_free (q : Nat) (f : Queue → Queue) (s : State) : (modQueue q f s).free = s.free := rfl
@[simp] theorem modQueue_out (q : Nat) (f : Queue → Queue) (s : State) : (modQueue q f s).out = s.out := rfl
@[simp] theorem modQueue_acts (q : Nat) (f : Queue → Queue) (s : State) : (modQueue q f s).acts = s.acts := rfl
@[simp] theorem modQueue_aoncnt (q : Nat) (f : Queue → Queue) (s : State) : (modQueue q f s).aoncnt = s.aoncnt := rfl
@[simp] theorem modQueue_stalled (q : Nat) (f : Queue → Queue) (s : State) : (modQueue q f s).stalled = s.stalled := rfl
@[simp] theorem modQueue_latch (q : Nat) (f : Queue → Queue) (s : State) : (modQueue q f s).latch = s.latch := rfl
@[simp] theorem modQueue_objs (q : Nat) (f : Queue → Queue) (s : State) : (modQueue q f s).objs = s.objs := rfl
@[simp] theorem modQueue_ctrs (q : Nat) (f : Queue → Queue) (s : State) : (modQueue q f s).ctrs = s.ctrs := rfl
@[simp] theorem modQueue_wraps (q : Nat) (f : Queue → Queue) (s : State) : (modQueue q f s).wraps = s.wraps := rfl
@[simp] theorem modQueue_mem (q : Nat) (f : Queue → Queue) (s : State) : (modQueue q f s).mem = s.mem := rfl
@[simp] theorem modQueue_tu (q : Nat) (f : Queue → Queue) (s : State) : (modQueue q f s).tu = s.tu := rfl
@[simp] theorem modQueue_ports (q : Nat) (f : Queue → Queue) (s : State) : (modQueue q f s).ports = s.ports := rfl
@[simp] theorem modQueue_coh (q : Nat) (f : Queue → Queue) (s : State) : (modQueue q f s).coh = s.coh := rfl
@[simp] theorem modQueue_hosts (q : Nat) (f : Queue → Queue) (s : State) : (modQueue q f s).hosts = s.hosts := rfl
@[simp] theorem modQueue_peers (q : Nat) (f : Queue → Queue) (s : State) : (modQueue q f s).peers = s.peers := rfl
@[simp] theorem modQueue_arrays (q : Nat) (f : Queue → Queue) (s : State) : (modQueue q f s).arrays = s.arrays := rfl
@[simp] theorem modQueue_xfers (q : Nat) (f : Queue → Queue) (s : State) : (modQueue q f s).xfers = s.xfers := rfl
@[simp] theorem modQueue_engines (q : Nat) (f : Queue → Queue) (s : State) : (modQueue q f s).engines = s.engines := rfl
@[simp] theorem modQueue_sync (q : Nat) (f : Queue → Queue) (s : State) : (modQueue q f s).sync = s.sync := rfl
@[simp] theorem modQueue_sched (q : Nat) (f : Queue → Queue) (s : State) : (modQueue q f s).sched = s.sched := rfl
@[simp] theorem modQueue_flt (q : Nat) (f : Queue → Queue) (s : State) : (modQueue q f s).flt = s.flt := rfl
@[simp] theorem modQueue_accums (q : Nat) (f : Queue → Queue) (s : State) : (modQueue q f s).accums = s.accums := rfl
@[simp] theorem modQueue_ftest (q : Nat) (f : Queue → Queue) (s : State) : (modQueue q f s).ftest = s.ftest := rfl
@[simp] theorem modQueue_pins (q : Nat) (f : Queue → Queue) (s : State) : (modQueue q f s).pins = s.pins := rfl
@[simp] theorem modQueue_start (q : Nat) (f : Queue → Queue) (s : State) : (modQueue q f s).start = s.start := rfl
@[simp] theorem modQueue_freeze (q : Nat) (f : Queue → Queue) (s : State) : (modQueue q f s).freeze = s.freeze := rfl
@[simp] theorem modQueue_sec (q : Nat) (f : Queue → Queue) (s : State) : (modQueue q f s).sec = s.sec := rfl
@[simp] theorem modQueue_fw (q : Nat) (f : Queue → Queue) (s : State) : (modQueue q f s).fw = s.fw := rfl
@[simp] theorem modQueue_mgmt (q : Nat) (f : Queue → Queue) (s : State) : (modQueue q f s).mgmt = s.mgmt := rfl
@[simp] theorem modQueue_power (q : Nat) (f : Queue → Queue) (s : State) : (modQueue q f s).power = s.power := rfl
@[simp] theorem modQueue_asleep (q : Nat) (f : Queue → Queue) (s : State) : (modQueue q f s).asleep = s.asleep := rfl

@[simp] theorem modEngine_pending (e : Nat) (f : Engine → Engine) (s : State) : (modEngine e f s).pending = s.pending := rfl
@[simp] theorem modEngine_free (e : Nat) (f : Engine → Engine) (s : State) : (modEngine e f s).free = s.free := rfl
@[simp] theorem modEngine_out (e : Nat) (f : Engine → Engine) (s : State) : (modEngine e f s).out = s.out := rfl
@[simp] theorem modEngine_acts (e : Nat) (f : Engine → Engine) (s : State) : (modEngine e f s).acts = s.acts := rfl
@[simp] theorem modEngine_aoncnt (e : Nat) (f : Engine → Engine) (s : State) : (modEngine e f s).aoncnt = s.aoncnt := rfl
@[simp] theorem modEngine_stalled (e : Nat) (f : Engine → Engine) (s : State) : (modEngine e f s).stalled = s.stalled := rfl
@[simp] theorem modEngine_latch (e : Nat) (f : Engine → Engine) (s : State) : (modEngine e f s).latch = s.latch := rfl
@[simp] theorem modEngine_objs (e : Nat) (f : Engine → Engine) (s : State) : (modEngine e f s).objs = s.objs := rfl
@[simp] theorem modEngine_ctrs (e : Nat) (f : Engine → Engine) (s : State) : (modEngine e f s).ctrs = s.ctrs := rfl
@[simp] theorem modEngine_wraps (e : Nat) (f : Engine → Engine) (s : State) : (modEngine e f s).wraps = s.wraps := rfl
@[simp] theorem modEngine_mem (e : Nat) (f : Engine → Engine) (s : State) : (modEngine e f s).mem = s.mem := rfl
@[simp] theorem modEngine_tu (e : Nat) (f : Engine → Engine) (s : State) : (modEngine e f s).tu = s.tu := rfl
@[simp] theorem modEngine_ports (e : Nat) (f : Engine → Engine) (s : State) : (modEngine e f s).ports = s.ports := rfl
@[simp] theorem modEngine_coh (e : Nat) (f : Engine → Engine) (s : State) : (modEngine e f s).coh = s.coh := rfl
@[simp] theorem modEngine_hosts (e : Nat) (f : Engine → Engine) (s : State) : (modEngine e f s).hosts = s.hosts := rfl
@[simp] theorem modEngine_peers (e : Nat) (f : Engine → Engine) (s : State) : (modEngine e f s).peers = s.peers := rfl
@[simp] theorem modEngine_arrays (e : Nat) (f : Engine → Engine) (s : State) : (modEngine e f s).arrays = s.arrays := rfl
@[simp] theorem modEngine_xfers (e : Nat) (f : Engine → Engine) (s : State) : (modEngine e f s).xfers = s.xfers := rfl
@[simp] theorem modEngine_queues (e : Nat) (f : Engine → Engine) (s : State) : (modEngine e f s).queues = s.queues := rfl
@[simp] theorem modEngine_sync (e : Nat) (f : Engine → Engine) (s : State) : (modEngine e f s).sync = s.sync := rfl
@[simp] theorem modEngine_sched (e : Nat) (f : Engine → Engine) (s : State) : (modEngine e f s).sched = s.sched := rfl
@[simp] theorem modEngine_flt (e : Nat) (f : Engine → Engine) (s : State) : (modEngine e f s).flt = s.flt := rfl
@[simp] theorem modEngine_accums (e : Nat) (f : Engine → Engine) (s : State) : (modEngine e f s).accums = s.accums := rfl
@[simp] theorem modEngine_ftest (e : Nat) (f : Engine → Engine) (s : State) : (modEngine e f s).ftest = s.ftest := rfl
@[simp] theorem modEngine_pins (e : Nat) (f : Engine → Engine) (s : State) : (modEngine e f s).pins = s.pins := rfl
@[simp] theorem modEngine_start (e : Nat) (f : Engine → Engine) (s : State) : (modEngine e f s).start = s.start := rfl
@[simp] theorem modEngine_freeze (e : Nat) (f : Engine → Engine) (s : State) : (modEngine e f s).freeze = s.freeze := rfl
@[simp] theorem modEngine_sec (e : Nat) (f : Engine → Engine) (s : State) : (modEngine e f s).sec = s.sec := rfl
@[simp] theorem modEngine_fw (e : Nat) (f : Engine → Engine) (s : State) : (modEngine e f s).fw = s.fw := rfl
@[simp] theorem modEngine_mgmt (e : Nat) (f : Engine → Engine) (s : State) : (modEngine e f s).mgmt = s.mgmt := rfl
@[simp] theorem modEngine_power (e : Nat) (f : Engine → Engine) (s : State) : (modEngine e f s).power = s.power := rfl
@[simp] theorem modEngine_asleep (e : Nat) (f : Engine → Engine) (s : State) : (modEngine e f s).asleep = s.asleep := rfl

@[simp] theorem modStack_pending (k : Nat) (f : Stack → Stack) (s : State) : (modStack k f s).pending = s.pending := rfl
@[simp] theorem modStack_free (k : Nat) (f : Stack → Stack) (s : State) : (modStack k f s).free = s.free := rfl
@[simp] theorem modStack_out (k : Nat) (f : Stack → Stack) (s : State) : (modStack k f s).out = s.out := rfl
@[simp] theorem modStack_acts (k : Nat) (f : Stack → Stack) (s : State) : (modStack k f s).acts = s.acts := rfl
@[simp] theorem modStack_aoncnt (k : Nat) (f : Stack → Stack) (s : State) : (modStack k f s).aoncnt = s.aoncnt := rfl
@[simp] theorem modStack_stalled (k : Nat) (f : Stack → Stack) (s : State) : (modStack k f s).stalled = s.stalled := rfl
@[simp] theorem modStack_latch (k : Nat) (f : Stack → Stack) (s : State) : (modStack k f s).latch = s.latch := rfl
@[simp] theorem modStack_objs (k : Nat) (f : Stack → Stack) (s : State) : (modStack k f s).objs = s.objs := rfl
@[simp] theorem modStack_ctrs (k : Nat) (f : Stack → Stack) (s : State) : (modStack k f s).ctrs = s.ctrs := rfl
@[simp] theorem modStack_wraps (k : Nat) (f : Stack → Stack) (s : State) : (modStack k f s).wraps = s.wraps := rfl
@[simp] theorem modStack_tu (k : Nat) (f : Stack → Stack) (s : State) : (modStack k f s).tu = s.tu := rfl
@[simp] theorem modStack_ports (k : Nat) (f : Stack → Stack) (s : State) : (modStack k f s).ports = s.ports := rfl
@[simp] theorem modStack_coh (k : Nat) (f : Stack → Stack) (s : State) : (modStack k f s).coh = s.coh := rfl
@[simp] theorem modStack_hosts (k : Nat) (f : Stack → Stack) (s : State) : (modStack k f s).hosts = s.hosts := rfl
@[simp] theorem modStack_peers (k : Nat) (f : Stack → Stack) (s : State) : (modStack k f s).peers = s.peers := rfl
@[simp] theorem modStack_arrays (k : Nat) (f : Stack → Stack) (s : State) : (modStack k f s).arrays = s.arrays := rfl
@[simp] theorem modStack_xfers (k : Nat) (f : Stack → Stack) (s : State) : (modStack k f s).xfers = s.xfers := rfl
@[simp] theorem modStack_queues (k : Nat) (f : Stack → Stack) (s : State) : (modStack k f s).queues = s.queues := rfl
@[simp] theorem modStack_engines (k : Nat) (f : Stack → Stack) (s : State) : (modStack k f s).engines = s.engines := rfl
@[simp] theorem modStack_sync (k : Nat) (f : Stack → Stack) (s : State) : (modStack k f s).sync = s.sync := rfl
@[simp] theorem modStack_sched (k : Nat) (f : Stack → Stack) (s : State) : (modStack k f s).sched = s.sched := rfl
@[simp] theorem modStack_flt (k : Nat) (f : Stack → Stack) (s : State) : (modStack k f s).flt = s.flt := rfl
@[simp] theorem modStack_accums (k : Nat) (f : Stack → Stack) (s : State) : (modStack k f s).accums = s.accums := rfl
@[simp] theorem modStack_ftest (k : Nat) (f : Stack → Stack) (s : State) : (modStack k f s).ftest = s.ftest := rfl
@[simp] theorem modStack_pins (k : Nat) (f : Stack → Stack) (s : State) : (modStack k f s).pins = s.pins := rfl
@[simp] theorem modStack_start (k : Nat) (f : Stack → Stack) (s : State) : (modStack k f s).start = s.start := rfl
@[simp] theorem modStack_freeze (k : Nat) (f : Stack → Stack) (s : State) : (modStack k f s).freeze = s.freeze := rfl
@[simp] theorem modStack_sec (k : Nat) (f : Stack → Stack) (s : State) : (modStack k f s).sec = s.sec := rfl
@[simp] theorem modStack_fw (k : Nat) (f : Stack → Stack) (s : State) : (modStack k f s).fw = s.fw := rfl
@[simp] theorem modStack_mgmt (k : Nat) (f : Stack → Stack) (s : State) : (modStack k f s).mgmt = s.mgmt := rfl
@[simp] theorem modStack_power (k : Nat) (f : Stack → Stack) (s : State) : (modStack k f s).power = s.power := rfl
@[simp] theorem modStack_asleep (k : Nat) (f : Stack → Stack) (s : State) : (modStack k f s).asleep = s.asleep := rfl

@[simp] theorem modCluster_pending (c : Nat) (f : Cluster → Cluster) (s : State) : (modCluster c f s).pending = s.pending := rfl
@[simp] theorem modCluster_free (c : Nat) (f : Cluster → Cluster) (s : State) : (modCluster c f s).free = s.free := rfl
@[simp] theorem modCluster_out (c : Nat) (f : Cluster → Cluster) (s : State) : (modCluster c f s).out = s.out := rfl
@[simp] theorem modCluster_acts (c : Nat) (f : Cluster → Cluster) (s : State) : (modCluster c f s).acts = s.acts := rfl
@[simp] theorem modCluster_aoncnt (c : Nat) (f : Cluster → Cluster) (s : State) : (modCluster c f s).aoncnt = s.aoncnt := rfl
@[simp] theorem modCluster_stalled (c : Nat) (f : Cluster → Cluster) (s : State) : (modCluster c f s).stalled = s.stalled := rfl
@[simp] theorem modCluster_latch (c : Nat) (f : Cluster → Cluster) (s : State) : (modCluster c f s).latch = s.latch := rfl
@[simp] theorem modCluster_objs (c : Nat) (f : Cluster → Cluster) (s : State) : (modCluster c f s).objs = s.objs := rfl
@[simp] theorem modCluster_ctrs (c : Nat) (f : Cluster → Cluster) (s : State) : (modCluster c f s).ctrs = s.ctrs := rfl
@[simp] theorem modCluster_wraps (c : Nat) (f : Cluster → Cluster) (s : State) : (modCluster c f s).wraps = s.wraps := rfl
@[simp] theorem modCluster_mem (c : Nat) (f : Cluster → Cluster) (s : State) : (modCluster c f s).mem = s.mem := rfl
@[simp] theorem modCluster_tu (c : Nat) (f : Cluster → Cluster) (s : State) : (modCluster c f s).tu = s.tu := rfl
@[simp] theorem modCluster_ports (c : Nat) (f : Cluster → Cluster) (s : State) : (modCluster c f s).ports = s.ports := rfl
@[simp] theorem modCluster_coh (c : Nat) (f : Cluster → Cluster) (s : State) : (modCluster c f s).coh = s.coh := rfl
@[simp] theorem modCluster_hosts (c : Nat) (f : Cluster → Cluster) (s : State) : (modCluster c f s).hosts = s.hosts := rfl
@[simp] theorem modCluster_peers (c : Nat) (f : Cluster → Cluster) (s : State) : (modCluster c f s).peers = s.peers := rfl
@[simp] theorem modCluster_arrays (c : Nat) (f : Cluster → Cluster) (s : State) : (modCluster c f s).arrays = s.arrays := rfl
@[simp] theorem modCluster_xfers (c : Nat) (f : Cluster → Cluster) (s : State) : (modCluster c f s).xfers = s.xfers := rfl
@[simp] theorem modCluster_queues (c : Nat) (f : Cluster → Cluster) (s : State) : (modCluster c f s).queues = s.queues := rfl
@[simp] theorem modCluster_engines (c : Nat) (f : Cluster → Cluster) (s : State) : (modCluster c f s).engines = s.engines := rfl
@[simp] theorem modCluster_sync (c : Nat) (f : Cluster → Cluster) (s : State) : (modCluster c f s).sync = s.sync := rfl
@[simp] theorem modCluster_sched (c : Nat) (f : Cluster → Cluster) (s : State) : (modCluster c f s).sched = s.sched := rfl
@[simp] theorem modCluster_flt (c : Nat) (f : Cluster → Cluster) (s : State) : (modCluster c f s).flt = s.flt := rfl
@[simp] theorem modCluster_accums (c : Nat) (f : Cluster → Cluster) (s : State) : (modCluster c f s).accums = s.accums := rfl
@[simp] theorem modCluster_ftest (c : Nat) (f : Cluster → Cluster) (s : State) : (modCluster c f s).ftest = s.ftest := rfl
@[simp] theorem modCluster_pins (c : Nat) (f : Cluster → Cluster) (s : State) : (modCluster c f s).pins = s.pins := rfl
@[simp] theorem modCluster_start (c : Nat) (f : Cluster → Cluster) (s : State) : (modCluster c f s).start = s.start := rfl
@[simp] theorem modCluster_freeze (c : Nat) (f : Cluster → Cluster) (s : State) : (modCluster c f s).freeze = s.freeze := rfl
@[simp] theorem modCluster_sec (c : Nat) (f : Cluster → Cluster) (s : State) : (modCluster c f s).sec = s.sec := rfl
@[simp] theorem modCluster_fw (c : Nat) (f : Cluster → Cluster) (s : State) : (modCluster c f s).fw = s.fw := rfl
@[simp] theorem modCluster_mgmt (c : Nat) (f : Cluster → Cluster) (s : State) : (modCluster c f s).mgmt = s.mgmt := rfl
@[simp] theorem modCluster_asleep (c : Nat) (f : Cluster → Cluster) (s : State) : (modCluster c f s).asleep = s.asleep := rfl

@[simp] theorem setLinkState_pending (l x : Nat) (s : State) : (setLinkState l x s).pending = s.pending := rfl
@[simp] theorem setLinkState_free (l x : Nat) (s : State) : (setLinkState l x s).free = s.free := rfl
@[simp] theorem setLinkState_out (l x : Nat) (s : State) : (setLinkState l x s).out = s.out := rfl
@[simp] theorem setLinkState_acts (l x : Nat) (s : State) : (setLinkState l x s).acts = s.acts := rfl
@[simp] theorem setLinkState_aoncnt (l x : Nat) (s : State) : (setLinkState l x s).aoncnt = s.aoncnt := rfl
@[simp] theorem setLinkState_stalled (l x : Nat) (s : State) : (setLinkState l x s).stalled = s.stalled := rfl
@[simp] theorem setLinkState_latch (l x : Nat) (s : State) : (setLinkState l x s).latch = s.latch := rfl
@[simp] theorem setLinkState_objs (l x : Nat) (s : State) : (setLinkState l x s).objs = s.objs := rfl
@[simp] theorem setLinkState_ctrs (l x : Nat) (s : State) : (setLinkState l x s).ctrs = s.ctrs := rfl
@[simp] theorem setLinkState_wraps (l x : Nat) (s : State) : (setLinkState l x s).wraps = s.wraps := rfl
@[simp] theorem setLinkState_mem (l x : Nat) (s : State) : (setLinkState l x s).mem = s.mem := rfl
@[simp] theorem setLinkState_tu (l x : Nat) (s : State) : (setLinkState l x s).tu = s.tu := rfl
@[simp] theorem setLinkState_ports (l x : Nat) (s : State) : (setLinkState l x s).ports = s.ports := rfl
@[simp] theorem setLinkState_coh (l x : Nat) (s : State) : (setLinkState l x s).coh = s.coh := rfl
@[simp] theorem setLinkState_hosts (l x : Nat) (s : State) : (setLinkState l x s).hosts = s.hosts := rfl
@[simp] theorem setLinkState_peers (l x : Nat) (s : State) : (setLinkState l x s).peers = s.peers := rfl
@[simp] theorem setLinkState_arrays (l x : Nat) (s : State) : (setLinkState l x s).arrays = s.arrays := rfl
@[simp] theorem setLinkState_xfers (l x : Nat) (s : State) : (setLinkState l x s).xfers = s.xfers := rfl
@[simp] theorem setLinkState_queues (l x : Nat) (s : State) : (setLinkState l x s).queues = s.queues := rfl
@[simp] theorem setLinkState_engines (l x : Nat) (s : State) : (setLinkState l x s).engines = s.engines := rfl
@[simp] theorem setLinkState_sync (l x : Nat) (s : State) : (setLinkState l x s).sync = s.sync := rfl
@[simp] theorem setLinkState_sched (l x : Nat) (s : State) : (setLinkState l x s).sched = s.sched := rfl
@[simp] theorem setLinkState_flt (l x : Nat) (s : State) : (setLinkState l x s).flt = s.flt := rfl
@[simp] theorem setLinkState_accums (l x : Nat) (s : State) : (setLinkState l x s).accums = s.accums := rfl
@[simp] theorem setLinkState_ftest (l x : Nat) (s : State) : (setLinkState l x s).ftest = s.ftest := rfl
@[simp] theorem setLinkState_pins (l x : Nat) (s : State) : (setLinkState l x s).pins = s.pins := rfl
@[simp] theorem setLinkState_start (l x : Nat) (s : State) : (setLinkState l x s).start = s.start := rfl
@[simp] theorem setLinkState_freeze (l x : Nat) (s : State) : (setLinkState l x s).freeze = s.freeze := rfl
@[simp] theorem setLinkState_sec (l x : Nat) (s : State) : (setLinkState l x s).sec = s.sec := rfl
@[simp] theorem setLinkState_fw (l x : Nat) (s : State) : (setLinkState l x s).fw = s.fw := rfl
@[simp] theorem setLinkState_mgmt (l x : Nat) (s : State) : (setLinkState l x s).mgmt = s.mgmt := rfl
@[simp] theorem setLinkState_asleep (l x : Nat) (s : State) : (setLinkState l x s).asleep = s.asleep := rfl

end Sys2Proof.Machine
end

