-- ==== Sys2Proof/Laws/Table.lean ====
section
/-! SUPPORT. Laws of the sparse tables: a read after a store, and the canonical form that every store keeps. -/

namespace Sys2Proof.Machine

variable {α : Type} [DecidableEq α]

omit [DecidableEq α] in
/-- An empty table reads its default. -/
@[simp] theorem tget_nil (d : α) (k : Nat) : tget d [] k = d := rfl

/-- The canonical form of a table's tail, above its first key. -/
theorem twfFrom_cons {d : α} {lo : Option Nat} {a : Nat} {v : α} {m : Table α} :
    twfFrom d lo ((a, v) :: m) = true ↔ (∀ b, lo = some b → b < a) ∧ v ≠ d ∧ twfFrom d (some a) m = true := by
  cases lo <;> simp [twfFrom, and_assoc]

/-- A canonical table above a bound is canonical above every lower one. -/
theorem twfFrom_mono {d : α} {m : Table α} {a b : Nat} (h : twfFrom d (some b) m = true) (hab : a ≤ b) :
    twfFrom d (some a) m = true := by
  cases m with
  | nil => rfl
  | cons x m =>
    obtain ⟨k, v⟩ := x
    rw [twfFrom_cons] at h ⊢
    exact ⟨fun c hc => by have := h.1 b rfl; cases hc; omega, h.2⟩

/-- A canonical table above a bound reads its default at and below the bound. -/
theorem tget_below {d : α} {m : Table α} {b k : Nat} (h : twfFrom d (some b) m = true) (hk : k ≤ b) : tget d m k = d := by
  induction m generalizing b with
  | nil => rfl
  | cons x m ih =>
    obtain ⟨a, v⟩ := x
    rw [twfFrom_cons] at h
    have hb := h.1 b rfl
    have : a ≠ k := by omega
    simp [tget, this, ih h.2.2 (by omega)]

/-- Storing the default below a canonical table's bound changes nothing. -/
theorem tset_below {d : α} {m : Table α} {b k : Nat} (h : twfFrom d (some b) m = true) (hk : k ≤ b) : tset d m k d = m := by
  induction m generalizing b with
  | nil => simp [tset]
  | cons x m ih =>
    obtain ⟨a, w⟩ := x
    have hc := twfFrom_cons.1 h
    have hb := hc.1 b rfl
    simp [tset, show ¬ k = a by omega, ih hc.2.2 (by omega)]

/-- Above a key, a canonical table has no entry of it to drop. -/
theorem twfFrom_drop_key {d : α} {m : Table α} {lo : Option Nat} {k : Nat} (hk : ∀ b, lo = some b → b < k)
    (h : twfFrom d (some k) m = true) : twfFrom d lo (tset d m k d) = true := by
  rw [tset_below h (Nat.le_refl k)]
  cases lo with
  | none =>
    cases m with
    | nil => rfl
    | cons y m => exact twfFrom_cons.2 ⟨nofun, (twfFrom_cons.1 h).2⟩
  | some b => exact twfFrom_mono h (Nat.le_of_lt (hk b rfl))

/-- A store keeps the canonical form above every bound below its key. -/
theorem twfFrom_tset {d : α} {m : Table α} {lo : Option Nat} {k : Nat} {v : α} (h : twfFrom d lo m = true)
    (hk : ∀ b, lo = some b → b < k) : twfFrom d lo (tset d m k v) = true := by
  induction m generalizing lo with
  | nil =>
    unfold tset
    split
    · exact h
    · rw [twfFrom_cons]; exact ⟨hk, ‹_›, rfl⟩
  | cons x m ih =>
    obtain ⟨a, w⟩ := x
    have hc := twfFrom_cons.1 h
    unfold tset
    split
    · next hv =>
      simp only [Bool.and_eq_true, decide_eq_true_eq] at hv
      rw [twfFrom_cons]
      exact ⟨hk, hv.2, twfFrom_cons.2 ⟨fun b hb => by cases hb; exact hv.1, hc.2⟩⟩
    · split
      · next hka =>
        subst hka
        split
        · next hv => subst hv; exact twfFrom_drop_key hk hc.2.2
        · exact twfFrom_cons.2 ⟨hk, ‹_›, hc.2.2⟩
      · next hv hne =>
        by_cases hlt : a < k
        · exact twfFrom_cons.2 ⟨hc.1, hc.2.1, ih hc.2.2 (fun b hb => by cases hb; omega)⟩
        · have hvd : v = d := by
            by_contra hv'
            exact hv (by simp [hv', show k < a by omega])
          subst hvd
          exact twfFrom_cons.2 ⟨hc.1, hc.2.1, by rw [tset_below hc.2.2 (by omega)]; exact hc.2.2⟩

/-- A store keeps a table's canonical form. -/
theorem twf_tset {d : α} {m : Table α} (h : twf d m = true) (k : Nat) (v : α) : twf d (tset d m k v) = true :=
  twfFrom_tset h nofun

/-- A read after a store: the stored value at its key, and the old value at every other key, whatever the table's form. -/
theorem tget_tset (d : α) (m : Table α) (k j : Nat) (v : α) :
    tget d (tset d m k v) j = if j = k then v else tget d m j := by
  induction m with
  | nil =>
    by_cases hj : j = k
    · subst hj; unfold tset; split
      · next hv => simp [tget, hv]
      · simp [tget]
    · have hk : ¬ k = j := fun e => hj e.symm
      unfold tset; split <;> simp [tget, hk]
  | cons x m ih =>
    obtain ⟨a, w⟩ := x
    unfold tset
    split
    · by_cases hj : j = k
      · subst hj; simp [tget]
      · simp [tget, hj, show ¬ k = j from fun e => hj e.symm]
    · split
      · next hka =>
        subst hka
        split
        · rw [ih]
          by_cases hj : j = k
          · simp [hj]
          · simp [tget, hj, show ¬ k = j from fun e => hj e.symm]
        · by_cases hj : j = k
          · subst hj; simp [tget]
          · simp [tget, hj, show ¬ k = j from fun e => hj e.symm]
      · next hka =>
        by_cases hj : a = j
        · subst hj; simp [tget, show ¬ a = k from fun e => hka e.symm]
        · simp [tget, hj, ih]

/-- A read of the key just stored. -/
@[simp] theorem tget_tset_same (d : α) (m : Table α) (k : Nat) (v : α) : tget d (tset d m k v) k = v := by
  simp [tget_tset]

/-- A store leaves every other key as it reads. -/
theorem tget_tset_ne (d : α) (m : Table α) {k j : Nat} (v : α) (h : j ≠ k) : tget d (tset d m k v) j = tget d m j := by
  simp [tget_tset, h]

/-- A change of the value at a key. -/
theorem tget_tmod (d : α) (m : Table α) (k j : Nat) (f : α → α) :
    tget d (tmod d m k f) j = if j = k then f (tget d m k) else tget d m j := tget_tset d m k j _

omit [DecidableEq α] in
/-- Dropping keys: they read as the default, every other key as before. -/
theorem tget_filter_key (d : α) (m : Table α) (p : Nat → Bool) (j : Nat) :
    tget d (m.filter fun kv => p kv.1) j = if p j then tget d m j else d := by
  induction m with
  | nil => simp [tget]
  | cons x m ih =>
    obtain ⟨a, w⟩ := x
    by_cases hj : a = j
    · subst hj
      cases hp : p a <;> simp_all [tget]
    · cases hp : p a <;> simp_all [tget]

/-- Dropping entries keeps the canonical form above every bound. -/
theorem twfFrom_tdrop {d : α} {m : Table α} {lo : Option Nat} (p : Nat → α → Bool) (h : twfFrom d lo m = true) :
    twfFrom d lo (tdrop m p) = true := by
  induction m generalizing lo with
  | nil => exact h
  | cons x m ih =>
    obtain ⟨a, w⟩ := x
    have hc := twfFrom_cons.1 h
    cases hp : p a w with
    | false =>
      have : tdrop ((a, w) :: m) p = (a, w) :: tdrop m p := by simp [tdrop, hp]
      rw [this]; exact twfFrom_cons.2 ⟨hc.1, hc.2.1, ih hc.2.2⟩
    | true =>
      have : tdrop ((a, w) :: m) p = tdrop m p := by simp [tdrop, hp]
      rw [this]
      cases lo with
      | none =>
        have := ih (lo := some a) hc.2.2
        revert this
        cases tdrop m p with
        | nil => intro; rfl
        | cons y l => intro h'; exact twfFrom_cons.2 ⟨nofun, (twfFrom_cons.1 h').2⟩
      | some b => exact twfFrom_mono (ih hc.2.2) (Nat.le_of_lt (hc.1 b rfl))

/-- Dropping entries keeps a table's canonical form. -/
theorem twf_tdrop {d : α} {m : Table α} (p : Nat → α → Bool) (h : twf d m = true) : twf d (tdrop m p) = true :=
  twfFrom_tdrop p h

/-- Storing a run of bytes keeps device memory in its canonical form. -/
theorem putBytes_wf {m : Table Byte} (h : Memory.wf m = true) (pa : Nat) (bs : List Byte) :
    Memory.wf (putBytes m pa bs) = true := by
  induction bs generalizing m pa with
  | nil => exact h
  | cons b bs ih => exact ih (twf_tset h pa b) (pa + 1)

/-- Dropping bytes keeps device memory in its canonical form. -/
theorem tdrop_bytes_wf {m : Table Byte} (p : Nat → Byte → Bool) (h : Memory.wf m = true) : Memory.wf (tdrop m p) = true :=
  twf_tdrop p h

/-- A store of a run of bytes leaves every byte outside the run. -/
theorem tget_putBytes_outside (m : Table Byte) (pa : Nat) (bs : List Byte) (a : Nat) (h : a < pa ∨ pa + bs.length ≤ a) :
    tget 0 (putBytes m pa bs) a = tget 0 m a := by
  induction bs generalizing m pa with
  | nil => rfl
  | cons b bs ih =>
    simp only [List.length_cons] at h
    rw [putBytes, ih _ (pa + 1) (by omega), tget_tset_ne 0 m b (by omega)]

/-- After a store of a run of bytes: byte `i` of the run stands at `pa + i`. -/
theorem tget_putBytes_inside (m : Table Byte) (pa : Nat) (bs : List Byte) (i : Nat) (h : i < bs.length) :
    tget 0 (putBytes m pa bs) (pa + i) = bs[i] := by
  induction bs generalizing m pa i with
  | nil => simp at h
  | cons b bs ih =>
    cases i with
    | zero =>
      rw [putBytes, Nat.add_zero, tget_putBytes_outside _ _ _ _ (by omega), tget_tset]
      simp
    | succ i =>
      have := ih (tset 0 m pa b) (pa + 1) i (by simpa using h)
      rw [putBytes, show pa + (i + 1) = pa + 1 + i by omega, this]
      simp

/-- An access wakes a slice or a stack and changes no byte. -/
@[simp] theorem touch_bytes (g : Nat) (s : State) : (touch g s).mem.bytes = s.mem.bytes := by
  unfold touch
  split <;> first | rfl | (split <;> rfl)

/-- An error that a read finds changes no byte. -/
@[simp] theorem meetFlaw_bytes (c : Option Nat) (op g : Nat) (s : State) : (meetFlaw c op g s).mem.bytes = s.mem.bytes := by
  unfold meetFlaw
  cases flawAt s g <;> dsimp only <;> first | rfl | (split <;> rfl)

/-- What a write does to the code of a granule changes no byte. -/
@[simp] theorem meetWrite_bytes (c : Option Nat) (g : Nat) (full : Bool) (s : State) : (meetWrite c g full s).mem.bytes = s.mem.bytes := by
  unfold meetWrite
  split
  · rfl
  · split
    · rfl
    · exact meetFlaw_bytes c 2 g s

/-- A write of a granule keeps device memory in its canonical form. -/
theorem writeGranule_wf (c k g : Nat) (data : Line) (mask : Word) (poison : Bool) (s : State) (h : Memory.wf s.mem.bytes = true) :
    Memory.wf (writeGranule c k g data mask poison s).mem.bytes = true := by
  unfold writeGranule
  cases target (g * 64) <;> dsimp only <;> exact putBytes_wf h _ _

/-- A write of the block for no context keeps device memory in its canonical form. -/
theorem writeRaw_wf (pa : Nat) (bs : List Byte) (s : State) (h : Memory.wf s.mem.bytes = true) :
    Memory.wf (writeRaw pa bs s).mem.bytes = true := by
  unfold writeRaw
  generalize rangeFrom (pa / 64) ((pa + bs.length + 63) / 64 - pa / 64) = l
  have fold (step : State → Nat → State) (hs : ∀ st g, (step st g).mem.bytes = st.mem.bytes) (s' : State)
      (hw : Memory.wf s'.mem.bytes = true) : Memory.wf (l.foldl step s').mem.bytes = true := by
    induction l generalizing s' with
    | nil => exact hw
    | cons g l ih => exact ih _ (by rw [hs]; exact hw)
  exact fold _ (fun st g => by dsimp only; split <;> rw [touch_bytes, meetWrite_bytes]) _ (putBytes_wf h pa bs)

/-- A write of a run of bytes keeps device memory in its canonical form. -/
theorem writeRun_wf (c k pa : Nat) (bs : List Byte) (poison : Bool) (s : State) (h : Memory.wf s.mem.bytes = true) :
    Memory.wf (writeRun c k pa bs poison s).mem.bytes = true := by
  unfold writeRun
  generalize granulesOf pa bs.length = l
  induction l generalizing s with
  | nil => exact h
  | cons g l ih => exact ih _ (writeGranule_wf _ _ _ _ _ _ _ (by rw [touch_bytes, meetWrite_bytes]; exact h))

end Sys2Proof.Machine
end

