-- ==== Sys2Proof/Laws/Ops.lean ====
section
/-! SUPPORT. Laws of the named operations: what a part of the block reads as after a change of one of its kind, objects and
counters after a write, and what raising a fault record leaves as it is. -/

namespace Sys2Proof.Machine

/-! ### Parts of the block -/

@[simp] theorem getPort_modPort (p j : Nat) (f : Port → Port) (s : State) :
    getPort (modPort p f s) j = if j = p then f (getPort s p) else getPort s j := tget_tmod _ _ _ _ _
@[simp] theorem getHost_modHost (p j : Nat) (f : HostPort → HostPort) (s : State) :
    getHost (modHost p f s) j = if j = p then f (getHost s p) else getHost s j := tget_tmod _ _ _ _ _
@[simp] theorem getPeer_modPeer (l j : Nat) (f : PeerLink → PeerLink) (s : State) :
    getPeer (modPeer l f s) j = if j = l then f (getPeer s l) else getPeer s j := tget_tmod _ _ _ _ _
@[simp] theorem getQueue_modQueue (q j : Nat) (f : Queue → Queue) (s : State) :
    getQueue (modQueue q f s) j = if j = q then f (getQueue s q) else getQueue s j := tget_tmod _ _ _ _ _
@[simp] theorem getEngine_modEngine (e j : Nat) (f : Engine → Engine) (s : State) :
    getEngine (modEngine e f s) j = if j = e then f (getEngine s e) else getEngine s j := tget_tmod _ _ _ _ _
@[simp] theorem getStack_modStack (k j : Nat) (f : Stack → Stack) (s : State) :
    getStack (modStack k f s) j = if j = k then f (getStack s k) else getStack s j := tget_tmod _ _ _ _ _
@[simp] theorem getCluster_modCluster (c j : Nat) (f : Cluster → Cluster) (s : State) :
    getCluster (modCluster c f s) j = if j = c then f (getCluster s c) else getCluster s j := tget_tmod _ _ _ _ _

@[simp] theorem getPort_modHost (p : Nat) (f : HostPort → HostPort) (j : Nat) (s : State) : getPort (modHost p f s) j = getPort s j := rfl
@[simp] theorem getPort_modPeer (l : Nat) (f : PeerLink → PeerLink) (j : Nat) (s : State) : getPort (modPeer l f s) j = getPort s j := rfl
@[simp] theorem getPort_modQueue (q : Nat) (f : Queue → Queue) (j : Nat) (s : State) : getPort (modQueue q f s) j = getPort s j := rfl
@[simp] theorem getPort_modEngine (e : Nat) (f : Engine → Engine) (j : Nat) (s : State) : getPort (modEngine e f s) j = getPort s j := rfl
@[simp] theorem getPort_modStack (k : Nat) (f : Stack → Stack) (j : Nat) (s : State) : getPort (modStack k f s) j = getPort s j := rfl
@[simp] theorem getPort_modCluster (c : Nat) (f : Cluster → Cluster) (j : Nat) (s : State) : getPort (modCluster c f s) j = getPort s j := rfl
@[simp] theorem getPort_countN (i k n : Nat) (j : Nat) (s : State) : getPort (countN i k n s) j = getPort s j := rfl
@[simp] theorem getPort_count (i k : Nat) (j : Nat) (s : State) : getPort (count i k s) j = getPort s j := rfl
@[simp] theorem getPort_setObj (i k v : Nat) (j : Nat) (s : State) : getPort (setObj i k v s) j = getPort s j := rfl
@[simp] theorem getPort_emit (o : Out) (j : Nat) (s : State) : getPort (emit o s) j = getPort s j := rfl
@[simp] theorem getPort_owe (a : Act) (j : Nat) (s : State) : getPort (owe a s) j = getPort s j := rfl
@[simp] theorem getHost_modPort (p : Nat) (f : Port → Port) (j : Nat) (s : State) : getHost (modPort p f s) j = getHost s j := rfl
@[simp] theorem getHost_modPeer (l : Nat) (f : PeerLink → PeerLink) (j : Nat) (s : State) : getHost (modPeer l f s) j = getHost s j := rfl
@[simp] theorem getHost_modQueue (q : Nat) (f : Queue → Queue) (j : Nat) (s : State) : getHost (modQueue q f s) j = getHost s j := rfl
@[simp] theorem getHost_modEngine (e : Nat) (f : Engine → Engine) (j : Nat) (s : State) : getHost (modEngine e f s) j = getHost s j := rfl
@[simp] theorem getHost_modStack (k : Nat) (f : Stack → Stack) (j : Nat) (s : State) : getHost (modStack k f s) j = getHost s j := rfl
@[simp] theorem getHost_modCluster (c : Nat) (f : Cluster → Cluster) (j : Nat) (s : State) : getHost (modCluster c f s) j = getHost s j := rfl
@[simp] theorem getHost_countN (i k n : Nat) (j : Nat) (s : State) : getHost (countN i k n s) j = getHost s j := rfl
@[simp] theorem getHost_count (i k : Nat) (j : Nat) (s : State) : getHost (count i k s) j = getHost s j := rfl
@[simp] theorem getHost_setObj (i k v : Nat) (j : Nat) (s : State) : getHost (setObj i k v s) j = getHost s j := rfl
@[simp] theorem getHost_emit (o : Out) (j : Nat) (s : State) : getHost (emit o s) j = getHost s j := rfl
@[simp] theorem getHost_owe (a : Act) (j : Nat) (s : State) : getHost (owe a s) j = getHost s j := rfl
@[simp] theorem getPeer_modPort (p : Nat) (f : Port → Port) (j : Nat) (s : State) : getPeer (modPort p f s) j = getPeer s j := rfl
@[simp] theorem getPeer_modHost (p : Nat) (f : HostPort → HostPort) (j : Nat) (s : State) : getPeer (modHost p f s) j = getPeer s j := rfl
@[simp] theorem getPeer_modQueue (q : Nat) (f : Queue → Queue) (j : Nat) (s : State) : getPeer (modQueue q f s) j = getPeer s j := rfl
@[simp] theorem getPeer_modEngine (e : Nat) (f : Engine → Engine) (j : Nat) (s : State) : getPeer (modEngine e f s) j = getPeer s j := rfl
@[simp] theorem getPeer_modStack (k : Nat) (f : Stack → Stack) (j : Nat) (s : State) : getPeer (modStack k f s) j = getPeer s j := rfl
@[simp] theorem getPeer_modCluster (c : Nat) (f : Cluster → Cluster) (j : Nat) (s : State) : getPeer (modCluster c f s) j = getPeer s j := rfl
@[simp] theorem getPeer_countN (i k n : Nat) (j : Nat) (s : State) : getPeer (countN i k n s) j = getPeer s j := rfl
@[simp] theorem getPeer_count (i k : Nat) (j : Nat) (s : State) : getPeer (count i k s) j = getPeer s j := rfl
@[simp] theorem getPeer_setObj (i k v : Nat) (j : Nat) (s : State) : getPeer (setObj i k v s) j = getPeer s j := rfl
@[simp] theorem getPeer_emit (o : Out) (j : Nat) (s : State) : getPeer (emit o s) j = getPeer s j := rfl
@[simp] theorem getPeer_owe (a : Act) (j : Nat) (s : State) : getPeer (owe a s) j = getPeer s j := rfl
@[simp] theorem getQueue_modPort (p : Nat) (f : Port → Port) (j : Nat) (s : State) : getQueue (modPort p f s) j = getQueue s j := rfl
@[simp] theorem getQueue_modHost (p : Nat) (f : HostPort → HostPort) (j : Nat) (s : State) : getQueue (modHost p f s) j = getQueue s j := rfl
@[simp] theorem getQueue_modPeer (l : Nat) (f : PeerLink → PeerLink) (j : Nat) (s : State) : getQueue (modPeer l f s) j = getQueue s j := rfl
@[simp] theorem getQueue_modEngine (e : Nat) (f : Engine → Engine) (j : Nat) (s : State) : getQueue (modEngine e f s) j = getQueue s j := rfl
@[simp] theorem getQueue_modStack (k : Nat) (f : Stack → Stack) (j : Nat) (s : State) : getQueue (modStack k f s) j = getQueue s j := rfl
@[simp] theorem getQueue_modCluster (c : Nat) (f : Cluster → Cluster) (j : Nat) (s : State) : getQueue (modCluster c f s) j = getQueue s j := rfl
@[simp] theorem getQueue_countN (i k n : Nat) (j : Nat) (s : State) : getQueue (countN i k n s) j = getQueue s j := rfl
@[simp] theorem getQueue_count (i k : Nat) (j : Nat) (s : State) : getQueue (count i k s) j = getQueue s j := rfl
@[simp] theorem getQueue_setObj (i k v : Nat) (j : Nat) (s : State) : getQueue (setObj i k v s) j = getQueue s j := rfl
@[simp] theorem getQueue_emit (o : Out) (j : Nat) (s : State) : getQueue (emit o s) j = getQueue s j := rfl
@[simp] theorem getQueue_owe (a : Act) (j : Nat) (s : State) : getQueue (owe a s) j = getQueue s j := rfl
@[simp] theorem getEngine_modPort (p : Nat) (f : Port → Port) (j : Nat) (s : State) : getEngine (modPort p f s) j = getEngine s j := rfl
@[simp] theorem getEngine_modHost (p : Nat) (f : HostPort → HostPort) (j : Nat) (s : State) : getEngine (modHost p f s) j = getEngine s j := rfl
@[simp] theorem getEngine_modPeer (l : Nat) (f : PeerLink → PeerLink) (j : Nat) (s : State) : getEngine (modPeer l f s) j = getEngine s j := rfl
@[simp] theorem getEngine_modQueue (q : Nat) (f : Queue → Queue) (j : Nat) (s : State) : getEngine (modQueue q f s) j = getEngine s j := rfl
@[simp] theorem getEngine_modStack (k : Nat) (f : Stack → Stack) (j : Nat) (s : State) : getEngine (modStack k f s) j = getEngine s j := rfl
@[simp] theorem getEngine_modCluster (c : Nat) (f : Cluster → Cluster) (j : Nat) (s : State) : getEngine (modCluster c f s) j = getEngine s j := rfl
@[simp] theorem getEngine_countN (i k n : Nat) (j : Nat) (s : State) : getEngine (countN i k n s) j = getEngine s j := rfl
@[simp] theorem getEngine_count (i k : Nat) (j : Nat) (s : State) : getEngine (count i k s) j = getEngine s j := rfl
@[simp] theorem getEngine_setObj (i k v : Nat) (j : Nat) (s : State) : getEngine (setObj i k v s) j = getEngine s j := rfl
@[simp] theorem getEngine_emit (o : Out) (j : Nat) (s : State) : getEngine (emit o s) j = getEngine s j := rfl
@[simp] theorem getEngine_owe (a : Act) (j : Nat) (s : State) : getEngine (owe a s) j = getEngine s j := rfl
@[simp] theorem getStack_modPort (p : Nat) (f : Port → Port) (j : Nat) (s : State) : getStack (modPort p f s) j = getStack s j := rfl
@[simp] theorem getStack_modHost (p : Nat) (f : HostPort → HostPort) (j : Nat) (s : State) : getStack (modHost p f s) j = getStack s j := rfl
@[simp] theorem getStack_modPeer (l : Nat) (f : PeerLink → PeerLink) (j : Nat) (s : State) : getStack (modPeer l f s) j = getStack s j := rfl
@[simp] theorem getStack_modQueue (q : Nat) (f : Queue → Queue) (j : Nat) (s : State) : getStack (modQueue q f s) j = getStack s j := rfl
@[simp] theorem getStack_modEngine (e : Nat) (f : Engine → Engine) (j : Nat) (s : State) : getStack (modEngine e f s) j = getStack s j := rfl
@[simp] theorem getStack_modCluster (c : Nat) (f : Cluster → Cluster) (j : Nat) (s : State) : getStack (modCluster c f s) j = getStack s j := rfl
@[simp] theorem getStack_countN (i k n : Nat) (j : Nat) (s : State) : getStack (countN i k n s) j = getStack s j := rfl
@[simp] theorem getStack_count (i k : Nat) (j : Nat) (s : State) : getStack (count i k s) j = getStack s j := rfl
@[simp] theorem getStack_setObj (i k v : Nat) (j : Nat) (s : State) : getStack (setObj i k v s) j = getStack s j := rfl
@[simp] theorem getStack_emit (o : Out) (j : Nat) (s : State) : getStack (emit o s) j = getStack s j := rfl
@[simp] theorem getStack_owe (a : Act) (j : Nat) (s : State) : getStack (owe a s) j = getStack s j := rfl
@[simp] theorem getCluster_modPort (p : Nat) (f : Port → Port) (j : Nat) (s : State) : getCluster (modPort p f s) j = getCluster s j := rfl
@[simp] theorem getCluster_modHost (p : Nat) (f : HostPort → HostPort) (j : Nat) (s : State) : getCluster (modHost p f s) j = getCluster s j := rfl
@[simp] theorem getCluster_modPeer (l : Nat) (f : PeerLink → PeerLink) (j : Nat) (s : State) : getCluster (modPeer l f s) j = getCluster s j := rfl
@[simp] theorem getCluster_modQueue (q : Nat) (f : Queue → Queue) (j : Nat) (s : State) : getCluster (modQueue q f s) j = getCluster s j := rfl
@[simp] theorem getCluster_modEngine (e : Nat) (f : Engine → Engine) (j : Nat) (s : State) : getCluster (modEngine e f s) j = getCluster s j := rfl
@[simp] theorem getCluster_modStack (k : Nat) (f : Stack → Stack) (j : Nat) (s : State) : getCluster (modStack k f s) j = getCluster s j := rfl
@[simp] theorem getCluster_countN (i k n : Nat) (j : Nat) (s : State) : getCluster (countN i k n s) j = getCluster s j := rfl
@[simp] theorem getCluster_count (i k : Nat) (j : Nat) (s : State) : getCluster (count i k s) j = getCluster s j := rfl
@[simp] theorem getCluster_setObj (i k v : Nat) (j : Nat) (s : State) : getCluster (setObj i k v s) j = getCluster s j := rfl
@[simp] theorem getCluster_emit (o : Out) (j : Nat) (s : State) : getCluster (emit o s) j = getCluster s j := rfl
@[simp] theorem getCluster_owe (a : Act) (j : Nat) (s : State) : getCluster (owe a s) j = getCluster s j := rfl

@[simp] theorem getPort_takeFree (j : Nat) (s : State) : getPort (takeFree s) j = getPort s j := rfl
@[simp] theorem getQueue_takeFree (j : Nat) (s : State) : getQueue (takeFree s) j = getQueue s j := rfl

/-! ### Objects and counters -/

/-- The keys of two objects differ when their indices or their subindices do. -/
theorem okey_inj {i j a b : Nat} (hj : j < 256) (hb : b < 256) : okey i j = okey a b ↔ i = a ∧ j = b := by
  unfold okey; omega

/-- A written object reads as written, and every other object as before. -/
theorem obj_setObj (i k v a b d : Nat) (s : State) :
    obj (setObj i k v s) a b d = if okey a b = okey i k then v else obj s a b d := by
  unfold obj setObj
  simp only [tget_tset]
  split <;> rfl

@[simp] theorem obj_setObj_same (i k v d : Nat) (s : State) : obj (setObj i k v s) i k d = v := by simp [obj_setObj]

/-- A counted counter has gone up by `n`, modulo 2^64, and every other counter reads as before. -/
theorem ctr_countN (i k n a b : Nat) (s : State) :
    ctr (countN i k n s) a b = if okey a b = okey i k then ctr s i k + BitVec.ofNat 64 n else ctr s a b := by
  unfold ctr countN
  simp only [tget_tset]
  split
  · apply BitVec.eq_of_toNat_eq; simp [BitVec.toNat_add, ctr]
  · rfl

theorem ctr_count (i k a b : Nat) (s : State) :
    ctr (count i k s) a b = if okey a b = okey i k then ctr s i k + 1 else ctr s a b := ctr_countN i k 1 a b s

@[simp] theorem ctr_count_same (i k : Nat) (s : State) : ctr (count i k s) i k = ctr s i k + 1 := by simp [ctr_count]

@[simp] theorem ctr_modPort (p : Nat) (f : Port → Port) (i j : Nat) (s : State) : ctr (modPort p f s) i j = ctr s i j := rfl
@[simp] theorem ctr_modHost (p : Nat) (f : HostPort → HostPort) (i j : Nat) (s : State) : ctr (modHost p f s) i j = ctr s i j := rfl
@[simp] theorem ctr_modPeer (l : Nat) (f : PeerLink → PeerLink) (i j : Nat) (s : State) : ctr (modPeer l f s) i j = ctr s i j := rfl
@[simp] theorem ctr_modQueue (q : Nat) (f : Queue → Queue) (i j : Nat) (s : State) : ctr (modQueue q f s) i j = ctr s i j := rfl
@[simp] theorem ctr_modEngine (e : Nat) (f : Engine → Engine) (i j : Nat) (s : State) : ctr (modEngine e f s) i j = ctr s i j := rfl
@[simp] theorem ctr_modStack (k : Nat) (f : Stack → Stack) (i j : Nat) (s : State) : ctr (modStack k f s) i j = ctr s i j := rfl
@[simp] theorem ctr_modCluster (c : Nat) (f : Cluster → Cluster) (i j : Nat) (s : State) : ctr (modCluster c f s) i j = ctr s i j := rfl
@[simp] theorem ctr_setObj (i' k v : Nat) (i j : Nat) (s : State) : ctr (setObj i' k v s) i j = ctr s i j := rfl
@[simp] theorem ctr_emit (o : Out) (i j : Nat) (s : State) : ctr (emit o s) i j = ctr s i j := rfl
@[simp] theorem ctr_owe (a : Act) (i j : Nat) (s : State) : ctr (owe a s) i j = ctr s i j := rfl
@[simp] theorem obj_modPort (p : Nat) (f : Port → Port) (a b d : Nat) (s : State) : obj (modPort p f s) a b d = obj s a b d := rfl
@[simp] theorem obj_modHost (p : Nat) (f : HostPort → HostPort) (a b d : Nat) (s : State) : obj (modHost p f s) a b d = obj s a b d := rfl
@[simp] theorem obj_modPeer (l : Nat) (f : PeerLink → PeerLink) (a b d : Nat) (s : State) : obj (modPeer l f s) a b d = obj s a b d := rfl
@[simp] theorem obj_modQueue (q : Nat) (f : Queue → Queue) (a b d : Nat) (s : State) : obj (modQueue q f s) a b d = obj s a b d := rfl
@[simp] theorem obj_modEngine (e : Nat) (f : Engine → Engine) (a b d : Nat) (s : State) : obj (modEngine e f s) a b d = obj s a b d := rfl
@[simp] theorem obj_modStack (k : Nat) (f : Stack → Stack) (a b d : Nat) (s : State) : obj (modStack k f s) a b d = obj s a b d := rfl
@[simp] theorem obj_modCluster (c : Nat) (f : Cluster → Cluster) (a b d : Nat) (s : State) : obj (modCluster c f s) a b d = obj s a b d := rfl
@[simp] theorem obj_countN (i k n : Nat) (a b d : Nat) (s : State) : obj (countN i k n s) a b d = obj s a b d := rfl
@[simp] theorem obj_count (i k : Nat) (a b d : Nat) (s : State) : obj (count i k s) a b d = obj s a b d := rfl
@[simp] theorem obj_emit (o : Out) (a b d : Nat) (s : State) : obj (emit o s) a b d = obj s a b d := rfl
@[simp] theorem obj_owe (x : Act) (a b d : Nat) (s : State) : obj (owe x s) a b d = obj s a b d := rfl

end Sys2Proof.Machine
end

