-- ==== Sys2Proof/Laws/Faults.lean ====
section
/-! SUPPORT. Laws of the fault collector: raising a record wakes the block, changes the collector, counters, what the block sends
and the host port that carries the record; where the ring lies in device memory, also the record's bytes and the copies of its
granule. It owes an action only when 64 grace timers run already. -/

namespace Sys2Proof.Machine

/-- The parts of the state that raising a record leaves as they are, as one record. -/
def outsideRaise (s : State) : State :=
  { s with ctrs := [], wraps := [], flt := {}, hosts := [], out := [], stalled := [], acts := [], asleep := false, ports := [], coh := {}, mem := {},
           power.loftDue := [], power.stackDue := [] }

/-- The parts that it leaves as they are too while the block is awake and its fault ring lies in no device memory. -/
def outsideRaiseAway (s : State) : State := { s with ctrs := [], wraps := [], flt := {}, hosts := [], out := [], stalled := [], acts := [] }

/-- The block is awake, and its fault ring, where it has one, lies in host memory. -/
def RingAway (s : State) : Prop := s.asleep = false ∧ target (ringAddr s.flt.ring 64) = .host

@[simp] theorem outsideRaise_countN (i j n : Nat) (s : State) : outsideRaise (countN i j n s) = outsideRaise s := rfl
@[simp] theorem outsideRaise_count (i j : Nat) (s : State) : outsideRaise (count i j s) = outsideRaise s := rfl
@[simp] theorem outsideRaise_emit (o : Out) (s : State) : outsideRaise (emit o s) = outsideRaise s := rfl
@[simp] theorem outsideRaise_owe (a : Act) (s : State) : outsideRaise (owe a s) = outsideRaise s := rfl
@[simp] theorem outsideRaise_modHost (p : Nat) (f : HostPort → HostPort) (s : State) :
    outsideRaise (modHost p f s) = outsideRaise s := rfl
@[simp] theorem outsideRaise_modFlt (f : FaultUnit → FaultUnit) (s : State) : outsideRaise (modFlt f s) = outsideRaise s := rfl

/-- What neither the outputs, the stalled traffic nor the host ports decide is as it was after a send at a host port. -/
theorem portSend_away {α : Type} (f : State → α) (hout : ∀ (l : List Out) (x : State), f { x with out := l } = f x)
    (hst : ∀ (l : List (Nat × Out)) (x : State), f { x with stalled := l } = f x) (p : Nat) (o : Out) (s : State) :
    f (portSend p o s) = f s := by
  unfold portSend
  split
  · exact hst _ _
  · exact hout _ _

/-- The same after a write of host memory, -/
theorem hostPost_away {α : Type} (f : State → α) (hout : ∀ (l : List Out) (x : State), f { x with out := l } = f x)
    (hst : ∀ (l : List (Nat × Out)) (x : State), f { x with stalled := l } = f x)
    (hh : ∀ (h : Table HostPort) (x : State), f { x with hosts := h } = f x) (pa : Nat) (bs : List Byte) (poison : Bool) (s : State) :
    f (hostPost pa bs poison s) = f s := by
  unfold hostPost hostPostOn
  split
  · exact (portSend_away f hout hst _ _ _).trans (hh _ _)
  · rfl

/-- and after an interrupt. -/
theorem msix_away {α : Type} (f : State → α) (hout : ∀ (l : List Out) (x : State), f { x with out := l } = f x)
    (hst : ∀ (l : List (Nat × Out)) (x : State), f { x with stalled := l } = f x) (v : Nat) (s : State) : f (msix v s) = f s := by
  unfold msix
  split
  · exact portSend_away f hout hst _ _ _
  · rfl

theorem outsideRaise_portSend (p : Nat) (o : Out) (s : State) : outsideRaise (portSend p o s) = outsideRaise s :=
  portSend_away _ (fun _ _ => rfl) (fun _ _ => rfl) p o s

theorem outsideRaise_hostPost (pa : Nat) (bs : List Byte) (poison : Bool) (s : State) :
    outsideRaise (hostPost pa bs poison s) = outsideRaise s :=
  hostPost_away _ (fun _ _ => rfl) (fun _ _ => rfl) (fun _ _ => rfl) pa bs poison s

theorem outsideRaise_msix (v : Nat) (s : State) : outsideRaise (msix v s) = outsideRaise s :=
  msix_away _ (fun _ _ => rfl) (fun _ _ => rfl) v s

@[simp] theorem outsideRaise_modPort (p : Nat) (f : Port → Port) (s : State) : outsideRaise (modPort p f s) = outsideRaise s := rfl

/-- A fold of steps that raising a record may take leaves the rest as it is. -/
theorem outsideRaise_foldl {α : Type} (f : State → α → State) (h : ∀ s x, outsideRaise (f s x) = outsideRaise s) (l : List α) (s : State) :
    outsideRaise (l.foldl f s) = outsideRaise s := by
  induction l generalizing s with
  | nil => rfl
  | cons x l ih => rw [List.foldl_cons, ih, h]

@[simp] theorem outsideRaise_wakeUp (s : State) : outsideRaise (wakeUp s) = outsideRaise s := by
  unfold wakeUp setAwake
  split
  · exact (outsideRaise_foldl _ (fun st p => outsideRaise_modPort p _ st) _ _).trans rfl
  · rfl

theorem outsideRaise_setNear (p g : Nat) (l : NearLine) (s : State) : outsideRaise (setNear p g l s) = outsideRaise s := by
  unfold setNear clearResv
  simp only
  split <;> rfl

theorem outsideRaise_dropCopies (g : Nat) (s : State) : outsideRaise (dropCopies g s) = outsideRaise s := by
  unfold dropCopies
  have hd (g : Nat) (e : DirEntry) (x : State) : outsideRaise (setDir g e x) = outsideRaise x := rfl
  simp only
  rw [hd, outsideRaise_foldl]
  · split <;> rfl
  · intro x p
    split
    · exact outsideRaise_setNear _ _ _ _
    · rw [outsideRaise_count, outsideRaise_portSend]

theorem outsideRaise_touch (g : Nat) (s : State) : outsideRaise (touch g s) = outsideRaise s := by
  unfold touch
  split <;> first | rfl | (split <;> rfl)

theorem outsideRaise_meetWrite (c : Option Nat) (g : Nat) (full : Bool) (s : State) : outsideRaise (meetWrite c g full s) = outsideRaise s := by
  unfold meetWrite meetFlaw
  split
  · rfl
  · split
    · rfl
    · cases flawAt s g <;> dsimp only <;> first | rfl | (split <;> rfl)

theorem outsideRaise_writeRaw (pa : Nat) (bs : List Byte) (s : State) : outsideRaise (writeRaw pa bs s) = outsideRaise s := by
  unfold writeRaw
  rw [outsideRaise_foldl]
  · rfl
  · intro x g
    have hp (f : MemUnit → MemUnit) (y : State) : outsideRaise { y with mem := f y.mem } = outsideRaise y := rfl
    dsimp only
    split
    · exact (hp (fun m => { m with poison := tset false m.poison g false }) _).trans
        ((outsideRaise_touch _ _).trans (outsideRaise_meetWrite _ _ _ _))
    · rw [outsideRaise_touch, outsideRaise_meetWrite]

theorem outsideRaise_writeRecord (pa : Nat) (bs : List Byte) (s : State) :
    outsideRaise (writeRecord pa bs s) = outsideRaise s := by
  unfold writeRecord; split
  · rw [outsideRaise_count, outsideRaise_hostPost]
  · rw [outsideRaise_writeRaw]
    unfold dropRun
    exact outsideRaise_foldl _ (fun x g => outsideRaise_dropCopies g x) _ _

theorem outsideRaise_ringRecord (img : BitVec 512) (s : State) : outsideRaise (ringRecord img s) = outsideRaise s := by
  unfold ringRecord
  simp only [apply_ite outsideRaise, outsideRaise_msix, outsideRaise_modFlt, outsideRaise_writeRecord, outsideRaise_count, ite_self]

theorem outsideRaise_oweAction (a u : Nat) (c : Option Nat) (s : State) : outsideRaise (oweAction a u c s) = outsideRaise s := by
  unfold oweAction
  split
  · rfl
  · split <;> rfl
  · rfl
  · rfl

theorem outsideRaise_startGrace (e : Event) (n : Nat) (s : State) : outsideRaise (startGrace e n s) = outsideRaise s := by
  unfold startGrace
  simp only [apply_ite outsideRaise, outsideRaise_oweAction, outsideRaise_modFlt, outsideRaise_count, ite_self]

theorem outsideRaise_raiseRecord (e : Event) (sev seen : Nat) (esc timed : Bool) (s : State) :
    outsideRaise (raiseRecord e sev seen esc timed s) = outsideRaise s := by
  unfold raiseRecord
  simp only [apply_ite outsideRaise, outsideRaise_startGrace, outsideRaise_ringRecord, outsideRaise_modFlt, outsideRaise_count, ite_self]

/-- Raising a record leaves everything outside the collector, the counters, the record's way out and what waking changes as it is. -/
theorem outsideRaise_raise (e : Event) (s : State) : outsideRaise (raise e s) = outsideRaise s := by
  unfold raise
  simp only
  split
  · rw [outsideRaise_raiseRecord, outsideRaise_wakeUp]
  · simp only [apply_ite outsideRaise, outsideRaise_raiseRecord, outsideRaise_modFlt, outsideRaise_count, ite_self, outsideRaise_wakeUp]

@[simp] theorem raise_pending (e : Event) (s : State) : (raise e s).pending = s.pending :=
  (congrArg State.pending (outsideRaise_raise e s) :)
@[simp] theorem raise_free (e : Event) (s : State) : (raise e s).free = s.free :=
  (congrArg State.free (outsideRaise_raise e s) :)
@[simp] theorem raise_aoncnt (e : Event) (s : State) : (raise e s).aoncnt = s.aoncnt :=
  (congrArg State.aoncnt (outsideRaise_raise e s) :)
@[simp] theorem raise_latch (e : Event) (s : State) : (raise e s).latch = s.latch :=
  (congrArg State.latch (outsideRaise_raise e s) :)
@[simp] theorem raise_objs (e : Event) (s : State) : (raise e s).objs = s.objs :=
  (congrArg State.objs (outsideRaise_raise e s) :)
@[simp] theorem raise_tu (e : Event) (s : State) : (raise e s).tu = s.tu :=
  (congrArg State.tu (outsideRaise_raise e s) :)
@[simp] theorem raise_peers (e : Event) (s : State) : (raise e s).peers = s.peers :=
  (congrArg State.peers (outsideRaise_raise e s) :)
@[simp] theorem raise_arrays (e : Event) (s : State) : (raise e s).arrays = s.arrays :=
  (congrArg State.arrays (outsideRaise_raise e s) :)
@[simp] theorem raise_xfers (e : Event) (s : State) : (raise e s).xfers = s.xfers :=
  (congrArg State.xfers (outsideRaise_raise e s) :)
@[simp] theorem raise_queues (e : Event) (s : State) : (raise e s).queues = s.queues :=
  (congrArg State.queues (outsideRaise_raise e s) :)
@[simp] theorem raise_engines (e : Event) (s : State) : (raise e s).engines = s.engines :=
  (congrArg State.engines (outsideRaise_raise e s) :)
@[simp] theorem raise_sync (e : Event) (s : State) : (raise e s).sync = s.sync :=
  (congrArg State.sync (outsideRaise_raise e s) :)
@[simp] theorem raise_sched (e : Event) (s : State) : (raise e s).sched = s.sched :=
  (congrArg State.sched (outsideRaise_raise e s) :)
@[simp] theorem raise_accums (e : Event) (s : State) : (raise e s).accums = s.accums :=
  (congrArg State.accums (outsideRaise_raise e s) :)
@[simp] theorem raise_ftest (e : Event) (s : State) : (raise e s).ftest = s.ftest :=
  (congrArg State.ftest (outsideRaise_raise e s) :)
@[simp] theorem raise_pins (e : Event) (s : State) : (raise e s).pins = s.pins :=
  (congrArg State.pins (outsideRaise_raise e s) :)
@[simp] theorem raise_start (e : Event) (s : State) : (raise e s).start = s.start :=
  (congrArg State.start (outsideRaise_raise e s) :)
@[simp] theorem raise_freeze (e : Event) (s : State) : (raise e s).freeze = s.freeze :=
  (congrArg State.freeze (outsideRaise_raise e s) :)
@[simp] theorem raise_sec (e : Event) (s : State) : (raise e s).sec = s.sec :=
  (congrArg State.sec (outsideRaise_raise e s) :)
@[simp] theorem raise_fw (e : Event) (s : State) : (raise e s).fw = s.fw :=
  (congrArg State.fw (outsideRaise_raise e s) :)
@[simp] theorem raise_mgmt (e : Event) (s : State) : (raise e s).mgmt = s.mgmt :=
  (congrArg State.mgmt (outsideRaise_raise e s) :)
@[simp] theorem getPeer_raise (e : Event) (j : Nat) (s : State) : getPeer (raise e s) j = getPeer s j := by simp [getPeer]
@[simp] theorem getQueue_raise (e : Event) (j : Nat) (s : State) : getQueue (raise e s) j = getQueue s j := by simp [getQueue]
@[simp] theorem getEngine_raise (e : Event) (j : Nat) (s : State) : getEngine (raise e s) j = getEngine s j := by simp [getEngine]
@[simp] theorem raise_clusters (e : Event) (s : State) : (raise e s).power.clusters = s.power.clusters :=
  (congrArg (fun x : State => x.power.clusters) (outsideRaise_raise e s) :)
@[simp] theorem getCluster_raise (e : Event) (j : Nat) (s : State) : getCluster (raise e s) j = getCluster s j := by simp [getCluster]
@[simp] theorem raise_links (e : Event) (s : State) : (raise e s).power.links = s.power.links :=
  (congrArg (fun x : State => x.power.links) (outsideRaise_raise e s) :)
@[simp] theorem getLink_raise (e : Event) (j : Nat) (s : State) : getLink (raise e s) j = getLink s j := by simp [getLink]
@[simp] theorem obj_raise (e : Event) (i j d : Nat) (s : State) : obj (raise e s) i j d = obj s i j d := by simp [obj]

/-! ### A ring in host memory, and an awake block -/

theorem wakeUp_awake {s : State} (h : s.asleep = false) : wakeUp s = s := by
  unfold wakeUp
  rw [h]
  rfl

/-- The fault ring is where it was. -/
theorem ring_count (i j : Nat) (s : State) : (count i j s).flt = s.flt := rfl

theorem ringRecord_away {α : Type} (f : State → α) (hp : ∀ pa bs x, f (count 0x6000 0x0C (hostPost pa bs false x)) = f x)
    (hd : ∀ x, f (count 0x8000 0x0D x) = f x) (hr : ∀ r x, f (modFlt (fun y => { y with ring := r }) x) = f x)
    (hm : ∀ v x, f (msix v x) = f x) (img : BitVec 512) {s : State} (ha : target (ringAddr s.flt.ring 64) = .host) :
    f (ringRecord img s) = f s := by
  unfold ringRecord
  simp only
  split
  · rfl
  · split
    · exact hd s
    · unfold writeRecord
      rw [if_pos ha]
      split
      · rw [hm, hr, hp]
      · rw [hr, hp]

/-- The latches of a record leave the ring's place. -/
theorem latchRecord_ring (l : BitVec 512) (a b : Bool) (f : FaultUnit) : (latchRecord l a b f).ring = f.ring := by
  cases a <;> cases b <;> rfl

/-- A state about which a record's way out to a host ring changes nothing, whether or not it is written. -/
theorem ringRecord_if {α : Type} (f : State → α)
    (hw : ∀ (img : BitVec 512) (x : State), target (ringAddr x.flt.ring 64) = .host → f (ringRecord img x) = f x) (c : Prop) [Decidable c]
    (img : BitVec 512) (x : State) (ha : target (ringAddr x.flt.ring 64) = .host) : f (if c then ringRecord img x else x) = f x := by
  split
  · exact hw img x ha
  · rfl

theorem outsideRaiseAway_ringRecord (img : BitVec 512) {s : State} (ha : target (ringAddr s.flt.ring 64) = .host) :
    outsideRaiseAway (ringRecord img s) = outsideRaiseAway s :=
  ringRecord_away outsideRaiseAway (fun pa bs x => hostPost_away outsideRaiseAway (fun _ _ => rfl) (fun _ _ => rfl) (fun _ _ => rfl) pa bs false x) (fun _ => rfl) (fun _ _ => rfl)
    (fun v x => msix_away _ (fun _ _ => rfl) (fun _ _ => rfl) v x) img ha

theorem outsideRaiseAway_startGrace (e : Event) (n : Nat) (s : State) : outsideRaiseAway (startGrace e n s) = outsideRaiseAway s := by
  unfold startGrace oweAction
  simp only
  split
  · rfl
  · split
    · rfl
    · split
      · rfl
      · split <;> rfl
      · rfl
      · rfl

theorem outsideRaiseAway_raiseRecord (e : Event) (sev seen : Nat) (esc timed : Bool) {s : State}
    (ha : target (ringAddr s.flt.ring 64) = .host) : outsideRaiseAway (raiseRecord e sev seen esc timed s) = outsideRaiseAway s := by
  have hg (c : Prop) [Decidable c] (n : Nat) (x : State) : outsideRaiseAway (if c then startGrace e n x else x) = outsideRaiseAway x := by
    split
    · exact outsideRaiseAway_startGrace e n x
    · rfl
  unfold raiseRecord
  simp only
  rw [hg, ringRecord_if outsideRaiseAway fun img x h => outsideRaiseAway_ringRecord img h]
  · rfl
  · exact (congrArg (fun r => target (ringAddr r 64)) (latchRecord_ring _ _ _ s.flt)).trans ha

/-- An awake block whose ring lies in host memory: raising a record leaves everything outside the collector, the counters and the
record's way out as it is. -/
theorem outsideRaiseAway_raise (e : Event) {s : State} (h : RingAway s) : outsideRaiseAway (raise e s) = outsideRaiseAway s := by
  unfold raise
  simp only [wakeUp_awake h.1]
  split
  · exact outsideRaiseAway_raiseRecord _ _ _ _ _ h.2
  · rw [outsideRaiseAway_raiseRecord]
    · split <;> rfl
    · show target (ringAddr (modFlt _ _).flt.ring 64) = .host
      split <;> exact h.2

theorem raise_ports {s : State} (e : Event) (h : RingAway s) : (raise e s).ports = s.ports :=
  (congrArg State.ports (outsideRaiseAway_raise e h) :)
theorem raise_coh {s : State} (e : Event) (h : RingAway s) : (raise e s).coh = s.coh :=
  (congrArg State.coh (outsideRaiseAway_raise e h) :)
theorem raise_mem {s : State} (e : Event) (h : RingAway s) : (raise e s).mem = s.mem :=
  (congrArg State.mem (outsideRaiseAway_raise e h) :)
theorem raise_power {s : State} (e : Event) (h : RingAway s) : (raise e s).power = s.power :=
  (congrArg State.power (outsideRaiseAway_raise e h) :)
theorem raise_asleep {s : State} (e : Event) (h : RingAway s) : (raise e s).asleep = s.asleep :=
  (congrArg State.asleep (outsideRaiseAway_raise e h) :)

/-- The grace timers and the owed actions of a state. -/
def graceActs (s : State) : List Grace × List Act := (s.flt.grace, s.acts)

theorem graceActs_ringRecord (img : BitVec 512) {s : State} (ha : target (ringAddr s.flt.ring 64) = .host) :
    graceActs (ringRecord img s) = graceActs s :=
  ringRecord_away graceActs (fun pa bs x => hostPost_away graceActs (fun _ _ => rfl) (fun _ _ => rfl) (fun _ _ => rfl) pa bs false x) (fun _ => rfl) (fun _ _ => rfl)
    (fun v x => msix_away _ (fun _ _ => rfl) (fun _ _ => rfl) v x) img ha

theorem startGrace_acts (e : Event) (n : Nat) (s : State) (h : s.flt.grace.length < 64) : (startGrace e n s).acts = s.acts := by
  unfold startGrace
  simp only
  split
  · rfl
  · rfl

/-- With fewer than 64 grace timers running, raising a record to a host ring owes nothing. -/
theorem raiseRecord_acts (e : Event) (sev seen : Nat) (esc timed : Bool) {s : State} (ha : target (ringAddr s.flt.ring 64) = .host)
    (h : s.flt.grace.length < 64) : (raiseRecord e sev seen esc timed s).acts = s.acts := by
  have key : ∀ (b : Bool) (n : Nat) (x : State), graceActs x = graceActs s →
      (if b = true then startGrace e n x else x).acts = s.acts := by
    intro b n x hx
    have hg : x.flt.grace = s.flt.grace := congrArg Prod.fst hx
    have ha : x.acts = s.acts := congrArg Prod.snd hx
    split
    · rw [startGrace_acts e n x (by rw [hg]; exact h), ha]
    · exact ha
  have hl : ∀ (l : BitVec 512) (a b : Bool) (x : State), graceActs (modFlt (latchRecord l a b) x) = graceActs x := by
    intro l a b x; cases a <;> cases b <;> rfl
  unfold raiseRecord
  simp only
  refine key (_ && _) _ _ ?_
  rw [ringRecord_if graceActs fun img x h => graceActs_ringRecord img h]
  · exact hl _ _ _ _
  · exact (congrArg (fun r => target (ringAddr r 64)) (latchRecord_ring _ _ _ s.flt)).trans ha

/-- With fewer than 64 grace timers running, raising a record to a host ring owes nothing. -/
theorem raise_acts (e : Event) {s : State} (hr : RingAway s) (h : s.flt.grace.length < 64) : (raise e s).acts = s.acts := by
  unfold raise
  simp only [wakeUp_awake hr.1]
  split
  · exact raiseRecord_acts _ _ _ _ _ hr.2 h
  · rw [raiseRecord_acts]
    · split <;> rfl
    · show target (ringAddr (modFlt _ _).flt.ring 64) = .host
      split <;> exact hr.2
    · split <;> exact h

/-! ### Counters that raising a record does not count -/

/-- Not a counter of the fault collector (0x8000 and 0x8000 + class), nor that of read-backs (0x6000:0C). -/
def outsideFaultCounters (k : Nat) : Prop := k ≠ okey 0x6000 0x0C ∧ (k < okey 0x8000 0 ∨ okey 0x8100 0 ≤ k)

theorem ctr_count_out {k i j : Nat} (a b : Nat) (s : State) (h : outsideFaultCounters k) (hk : k = okey i j)
    (hc : (0x8000 ≤ a ∧ a < 0x8100 ∧ b < 256) ∨ (a = 0x6000 ∧ b = 0x0C)) : ctr (count a b s) i j = ctr s i j := by
  subst hk
  rw [ctr_count, if_neg]
  obtain ⟨h1, h2⟩ := h
  rcases hc with ⟨ha, ha', hb⟩ | ⟨rfl, rfl⟩
  · intro he
    rw [he] at h2
    simp only [okey] at h2
    omega
  · exact h1

theorem ctr_ringRecord {i j : Nat} (img : BitVec 512) {s : State} (ha : target (ringAddr s.flt.ring 64) = .host)
    (h : outsideFaultCounters (okey i j)) : ctr (ringRecord img s) i j = ctr s i j :=
  ringRecord_away (fun x => ctr x i j)
    (fun pa bs x => by
      rw [ctr_count_out _ _ _ h rfl (.inr ⟨rfl, rfl⟩)]
      exact hostPost_away (fun y => ctr y i j) (fun _ _ => rfl) (fun _ _ => rfl) (fun _ _ => rfl) pa bs false x)
    (fun x => ctr_count_out _ _ x h rfl (.inl (by norm_num))) (fun _ _ => rfl)
    (fun v x => msix_away (fun y => ctr y i j) (fun _ _ => rfl) (fun _ _ => rfl) v x) img ha

theorem ctr_startGrace {i j : Nat} (e : Event) (n : Nat) (s : State) (h : outsideFaultCounters (okey i j)) :
    ctr (startGrace e n s) i j = ctr s i j := by
  have ho : ∀ (a u : Nat) (c : Option Nat) (x : State), ctr (oweAction a u c x) i j = ctr x i j := by
    intro a u c x
    unfold oweAction
    split
    · rfl
    · split <;> rfl
    · rfl
    · rfl
  unfold startGrace
  simp only
  split
  · rfl
  · split
    · rfl
    · rw [ho, ctr_count_out _ _ _ h rfl (.inl (by norm_num))]

theorem ctr_raiseRecord {i j : Nat} (e : Event) (sev seen : Nat) (esc timed : Bool) {s : State} (hs : sev < 8)
    (ha : target (ringAddr s.flt.ring 64) = .host) (h : outsideFaultCounters (okey i j)) :
    ctr (raiseRecord e sev seen esc timed s) i j = ctr s i j := by
  have hr : ∀ (f : FaultUnit → FaultUnit) (x : State), ctr (modFlt f x) i j = ctr x i j := fun _ _ => rfl
  have hc : ∀ x : State, ctr (count 0x8000 (0x08 + sev) x) i j = ctr x i j :=
    fun x => ctr_count_out _ _ _ h rfl (.inl ⟨by omega, by omega, by omega⟩)
  have hg (c : Prop) [Decidable c] (n : Nat) (x : State) : ctr (if c then startGrace e n x else x) i j = ctr x i j := by
    split
    · exact ctr_startGrace e n x h
    · rfl
  unfold raiseRecord
  simp only
  rw [hg, ringRecord_if (fun x => ctr x i j) fun img x ha => ctr_ringRecord img ha h, hr, hc]
  exact (congrArg (fun r => target (ringAddr r 64)) (latchRecord_ring _ _ _ s.flt)).trans ha

theorem sourceStep_sev (s : State) (k unit : Nat) : (sourceStep s k unit).1 < 8 := by
  have hb : classBase k < 5 := by unfold classBase; split <;> omega
  have hm : min (classBase k + 1) (classCeiling k) < 8 := by omega
  unfold sourceStep
  simp only
  split <;> split <;> first | exact hm | exact Nat.lt_trans hb (by decide)

/-- Raising a record of a class, to a host ring, leaves every counter outside the collector as it is. -/
theorem ctr_raise {i j : Nat} (e : Event) {s : State} (hk : e.cls < 256) (ha : RingAway s) (h : outsideFaultCounters (okey i j)) :
    ctr (raise e s) i j = ctr s i j := by
  have hr : ∀ (f : FaultUnit → FaultUnit) (x : State), ctr (modFlt f x) i j = ctr x i j := fun _ _ => rfl
  have hc : ∀ (b : Nat) (x : State), b < 256 → ctr (count (0x8000 + e.cls) b x) i j = ctr x i j :=
    fun b x hb => ctr_count_out _ _ _ h rfl (.inl ⟨by omega, by omega, hb⟩)
  have hi : ∀ (c : Prop) [Decidable c] (x y : State), ctr (if c then x else y) i j = if c then ctr x i j else ctr y i j := by
    intro c _ x y; split <;> rfl
  unfold raise
  simp only [wakeUp_awake ha.1]
  split
  · exact ctr_raiseRecord _ _ _ _ _ (by show classBase e.cls < 8; unfold classBase; split <;> omega) ha.2 h
  · rw [ctr_raiseRecord _ _ _ _ _ (sourceStep_sev _ _ _) _ h, hr, hi, hc 6 _ (by omega), hc 5 _ (by omega), ite_self]
    show target (ringAddr (modFlt _ _).flt.ring 64) = .host
    split <;> exact ha.2

end Sys2Proof.Machine
end

