-- ==== Sys2Proof/Laws/Settle.lean ====
section
/-! SUPPORT. Laws of a step's end: what a command owes is run before the step answers, and nothing is owed afterwards. -/

namespace Sys2Proof.Machine

/-- A state that owes nothing is settled. -/
theorem settleN_of_quiet (n : Nat) (s : State) (h : s.acts = []) : settleN n s = s := by
  cases n with
  | zero => cases s; subst h; rfl
  | succ n => unfold settleN; rw [h]

/-- A state that owes nothing is settled. -/
theorem settle_of_quiet (s : State) (h : s.acts = []) : settle s = s := settleN_of_quiet _ s h

/-- A command that owes nothing answers the state it made. -/
theorem done_of_quiet (s : State) (h : s.acts = []) : done s = .next s := by rw [done, settle_of_quiet s h]

/-- The first owed action runs first. -/
theorem settleN_cons (n : Nat) (s : State) (a : Act) (rest : List Act) (h : s.acts = a :: rest) :
    settleN (n + 1) s = settleN n (runAct a { s with acts := rest }) := by
  rw [settleN, h]

/-- The first owed action runs first. -/
theorem settle_cons (s : State) (a : Act) (rest : List Act) (h : s.acts = a :: rest) :
    settle s = settleN 999999 (runAct a { s with acts := rest }) := settleN_cons 999999 s a rest h

/-- Nothing is owed once a step has settled. -/
theorem settleN_acts (n : Nat) (s : State) : (settleN n s).acts = [] := by
  induction n generalizing s with
  | zero => rfl
  | succ n ih =>
    unfold settleN
    split
    · assumption
    · exact ih _

/-- Nothing is owed once a step has settled. -/
theorem settle_acts (s : State) : (settle s).acts = [] := settleN_acts _ s

/-- A settled command always answers a next state. -/
theorem done_next (s : State) : ∃ t, done s = .next t ∧ t.acts = [] := ⟨_, rfl, settle_acts s⟩

/-- With the data path and CLK_FAB running, a command of the data path has its effect. -/
theorem onFab_run {s : State} (f : State → State) (h : fabOn s = true) : onFab f s = f s := if_pos h

/-- With the data path served, a command of the data path that may come in ASLEEP has its effect. -/
theorem onData_run {s : State} (f : State → State) (h : dataOn s = true) : onData f s = f s := if_pos h

/-- With the always-on domain running, a command of the always-on domain has its effect. -/
theorem onAon_run {s : State} (f : State → State) (h : aonRuns s = true) : onAon f s = f s := if_pos h

/-- With the link logic running, an event of a link has its effect. -/
theorem onLink_run {s : State} (f : State → State) (h : linkOn s = true) : onLink f s = f s := if_pos h

/-- Outside a reset, with the clocks running, a register access has its effect. -/
theorem onReg_run {s : State} (f : State → State) (h : aonRuns s = true) (hr : s.start.inReset = false) : onReg f s = f s := by
  unfold onReg; simp [h, hr]

/-- CLK_FAB runs only while the data path is served, and the data path only while the always-on domain runs. -/
theorem dataOn_of_fabOn {s : State} (h : fabOn s = true) : dataOn s = true := by
  unfold fabOn at h; simp at h; exact h.1

theorem aonRuns_of_dataOn {s : State} (h : dataOn s = true) : aonRuns s = true := by
  unfold dataOn at h; simp at h; exact h.1.1.1.1

theorem awake_of_fabOn {s : State} (h : fabOn s = true) : s.asleep = false := by
  unfold fabOn at h; simp at h; exact h.2

/-- An awake block wakes up to itself. -/
theorem wakeUp_of_fabOn {s : State} (h : fabOn s = true) : wakeUp s = s := by
  unfold wakeUp; simp [awake_of_fabOn h]

/-- With CLK_FAB running, what a host or a peer brings has its effect at once. -/
theorem onWake_run {s : State} (f : State → State) (h : fabOn s = true) : onWake f s = f s := by
  rw [onWake, if_pos (dataOn_of_fabOn h), wakeUp_of_fabOn h]

end Sys2Proof.Machine
end

