-- ==== Sys2Proof/Tests/Slice0.lean ====
section
/-! SUPPORT. Tests: an ill-formed command for each check of `WellFormed`, the worked examples of spec/, and, for each clause with
hypotheses of each statement, a state and operands that meet them all (`witness_<statement>_<clause>`). -/

set_option Elab.async false
set_option linter.unusedVariables false

namespace Sys2Proof.Tests
open Machine

/-! ### Ill-formed commands -/

theorem test_ill_formed_sensors : WellFormed (.sensorSample [] []) = false := by decide
theorem test_ill_formed_governor : WellFormed (.governorTick 0 [3, 3]) = false := by decide
theorem test_ill_formed_window : WellFormed (.confAllow (.doe 0) 5 true (.hostWindow 0x800 1)) = false := by decide
theorem test_ill_formed_window_end : WellFormed (.confAllow (.doe 0) 5 true (.hostWindow (2 ^ 52 - 4096) 2)) = false := by decide
theorem test_ill_formed_empty_write : WellFormed (.dictionaryWrite 0 0x1100 7 []) = false := by decide
theorem test_ill_formed_register_length : WellFormed (.registerWrite (.host 0) 0x0420_0000 0 0 []) = false := by decide
theorem test_ill_formed_external_byte : WellFormed (.digestRegion 0 [(0, 0)]) = false := by decide
theorem test_ill_formed_granule : WellFormed (.blockCheck 0 0 (2 ^ 46) false false ⟨⟨0, 0, 0, 0, 0, 0⟩, 0, 0, 0, false, []⟩) = false := by decide
theorem test_ill_formed_errors : WellFormed (.footprintReady (.array 0 0) [(2 ^ 46, .corrected)]) = false := by decide
theorem test_ill_formed_agent : WellFormed (.gntX 255 0) = false := by decide
theorem test_ill_formed_request : WellFormed (.rdS { agent := 3, pa := 2 ^ 52, ctx := 0, keySlot := 0, cache := 0, retry := 0, aged := false }) = false := by decide
theorem test_ill_formed_host_address : WellFormed (.memrd 0 (2 ^ 52) .any) = false := by decide
theorem test_well_formed : WellFormed (.gntX 5 0) = true := by decide

/-! ### No row of the table has bits -/

theorem test_no_word_decodes : decodeTableWord 16 0x1234 = none := rfl

/-! ### Worked examples of 02: Table 2.8, "FP8 exact", "complex by four passes" -/

/-- The gutter of the products 60 and −3.75 under ridge 3. -/
theorem test_breach_gutter : (rowPart 3 false [Val.fin 60 0, .fin (-15) (-2)]).sum = 49 * 2 ^ 121 - 1 ∧
    (rowPart 3 false [Val.fin 60 0, .fin (-15) (-2)]).breach = true ∧
    (rowPart 3 false [Val.fin 60 0, .fin (-15) (-2)]).obs = 5 := by decide +kernel
theorem test_breach_output : roundTo 9 0 false 0 (49 * 2 ^ 121 - 1) (-123) = 0x41440000 := by decide +kernel
theorem test_strict_output : roundTo 9 0 false 0 225 (-2) = 0x42610000 := by decide +kernel
theorem test_fp8_exact_gutter : (rowPart 17 false ([(0x7E, 0x7E), (0x01, 0x01), (0xFE, 0x7E), (0x45, 0x30)].map fun x =>
    mulVal (decodeElem 5 false x.1) (decodeElem 5 false x.2))).sum = 0x3400080000000000000000000000 := by decide +kernel
theorem test_fp8_exact_output : roundTo 9 0 false 0 0x3400080000000000000000000000 (-109) = 0x3FD00020 := by decide +kernel
theorem test_complex_real : roundVal 9 0 false 0 (gutterVal 2 (rowPart 2 false [mulVal (decodeElem 5 false 0x39) (decodeElem 5 false 0x40),
    negVal (mulVal (decodeElem 5 false 0x04) (decodeElem 5 false 0x34))])) = 0x400FA000 := by decide +kernel
/-- "FP32 by six passes". -/
theorem test_fp32_six_passes : roundVal 9 0 false 0 (gutterVal 2 (rowPart 2 false (pairProducts 9 (decodeElem 9 false 0x3F818001)
    (decodeElem 9 false 0x40400002)))) = 0x40424004 := by decide +kernel

/-! ### Worked examples of 06, 09, 12 -/

/-- Stack 1, channel 20 hold PA 0x0_0012_3456_7900 (06, "decoding two addresses"). -/
theorem test_stack_address : stackOf State.reset 0x0012_3456_7900 = (1, 20) := by decide +kernel
/-- Its home is slice 25 (R220). -/
theorem test_home_address : homeOf State.reset (0x0012_3456_7900 / 64) = 25 := by decide +kernel
/-- Table 12.8, tick 100: O and A leave, the value ends at 0, B stays. -/
theorem test_signal_order : (signalUnit 4100 1 { watches := [⟨1, 4100, 1, true, some 100, 1, 0, .core 20, 7⟩, ⟨2, 4100, 1, true, none, 2, 0, .core 20, 7⟩,
    ⟨3, 4100, 1, false, none, 3, 0, .core 20, 7⟩] }).map (fun x => (valueOf x.1 4100, x.2.map (·.slot), x.1.watches.map (·.slot))) = some (0, [3, 1], [2]) := by
  decide +kernel

/-! ### States of the witnesses -/

/-- A READY block. -/
def ready : State := { start := { state := 1, step := 23, due := false } }
/-- A READY block whose MP runs; it holds chain address 9, and master 0 is registered under session 5 and owns it, with claim 1; its
host port 0 is up. -/
def owned : State :=
  { start := { state := 1, step := 23, due := false, cur := [(3, 1)] }
    mgmt := { masters := [(0, { used := true, session := 5, claim := 1 })], owner := some 0, lease := 1000, chainAddr := 9 }
    sec := { ready := true, sessions := [⟨5, 0, true, true, 0, 0, 0⟩] }
    hosts := [(0, { link := 2 })] }
/-- A chain frame to address 9 from master 0, verified under session 5. -/
def frame (typ : Fin 16) (idx : BitVec 16) (sub : Byte) (data : BitVec 32) : Frame :=
  ⟨9, 3, typ, 0, 0, false, 7, idx, sub, 0, 0, data, some 5, true⟩
/-- A READY block with context 5 READY in space 1, whose page 1 maps to stack page 0 under key slot 3 (bound to the context), with
the line of granule 0 owned by the near cache of port 0. Pages 0 holds the operand descriptors of `scan`. -/
def user : State :=
  { ready with
    sched.ctx := [(5, BitVec.ofNat 512 (1 * 2 ^ 52 + 1 * 2 ^ 116))]
    tu.spaces := [(1, 1)]
    tu.tlb := [⟨0, 1, 0, BitVec.ofNat 256 (1 * 2 ^ 212 + 1 * 2 ^ 176 + 3 * 2 ^ 124 + 7 * 2 ^ 8 + 1)⟩, ⟨192, 1, 0, BitVec.ofNat 256 (1 * 2 ^ 212 + 1 * 2 ^ 176 + 3 * 2 ^ 124 + 7 * 2 ^ 8 + 1)⟩]
    mem.slots := [(3, { key := some 9, bound := [5] })]
    mem.bytes := [(0, 0x40), (1, 0x10), (19, 0x40), (20, 1), (22, 1), (24, 1), (39, 0x0C), (40, 2), (52, 0x10), (64, 0x38)]
    mem.keyOf := [(0, some 9), (1, some 9)]
    coh.near := [(0, ⟨.e, 5⟩)]
    coh.dir := [(0, ⟨.exclusive, [0], none⟩)] }
/-- A request of stream 2 of port 0 for 8 bytes at VA 0x1000. -/
def req (op aop : Nat) (d : Line) : CoreReq :=
  ⟨0, BitVec.ofNat 64 (5 * 2 ^ 52 + 2 * 2 ^ 46 + op * 2 ^ 42 + 3 * 2 ^ 39 + aop * 2 ^ 35), 0x1000, d, 0xFF, 7⟩
/-- An entry of core port 0 for a request, in a phase. -/
def entry (r : CoreReq) (pa : Nat) (ph : Phase) : PortOp :=
  ⟨4, r, .mem, pa, 3, 0, false, false, false, false, ph, 0, 0, none, false, 0, 0⟩
/-- A RIDGE_SCAN of one FP8 element at VA 0x1040 into the record at 0x1060. -/
def scan : BitVec 1024 := BitVec.ofNat 1024 (2 + 2 ^ 32 + 0x1000 * 2 ^ 320 + 0x1020 * 2 ^ 448)
/-- A course of context 5 with this descriptor. -/
def course (raw : BitVec 1024) (src : CourseSrc) (st : CourseStage) : Course :=
  { newCourse 1 raw 5 src 0 false ready with stage := st, digests := false }
/-- The command that issued it. -/
def command : Cmd := { newCmd 0 0 0 true with footOk := true, engine := some 0 }

/-- What holds of a fresh host port and of every host port in the table holds of each. -/
theorem hosts_all {s : State} {P : HostPort → Prop} (h0 : P {}) (h : ∀ kv ∈ s.hosts, P kv.2) (p : Nat) : P (getHost s p) := by
  have e (l : List (Nat × HostPort)) (hl : ∀ kv ∈ l, P kv.2) : P (tget ({} : HostPort) l p) := by
    induction l with
    | nil => exact h0
    | cons x l ih =>
      simp only [tget]; split
      · exact hl x (by simp)
      · exact ih fun kv hk => hl kv (by simp [hk])
  exact e s.hosts h
/-- Where no host port in the table retrains, none does. -/
theorem links_carry {s : State} (h : ∀ kv ∈ s.hosts, kv.2.link ≠ 5) : LinksCarry s :=
  fun p => hosts_all (P := fun x => x.link ≠ 5) (by decide) h p
/-- Where no granule is poisoned, no error waits to be found and no host write waits, nothing that a footprint covers is poison. -/
theorem no_poison (s : State) (c : Nat) (foot : List Extent) (hp : s.mem.poison = []) (hf : s.mem.flaws = [])
    (hw : ∀ kv ∈ s.hosts, kv.2.wqueue = []) (va : Nat) : footPoison s c foot va = false := by
  have e (g : Nat) : poisonAt s g = false := by simp [poisonAt, heldPoison, flawPoisons, flawAt, hp, hf, tget]
  have w (p : Nat) : (getHost s p).wqueue = [] := hosts_all (P := fun x => x.wqueue = []) rfl hw p
  have b (pa : Nat) : queuedBad s pa = false := by simp [queuedBad, w]
  unfold footPoison; split
  · rfl
  · unfold granulePoison; split <;> simp [e, b]

/-! `StepTakesTheFrontOrIdles` -/

theorem witness_StepTakesTheFrontOrIdles_2 : ∃ (s : State), (s.pending = []) :=
  ⟨ready, by decide +kernel⟩

/-! `MemoryStaysCanonical` -/

theorem witness_MemoryStaysCanonical_1 : ∃ (s : State) (t : State), (Memory.wf s.mem.bytes = true) ∧ (step s = .next t) :=
  ⟨{ user with pending := [.railPgRise 3] }, _, by decide +kernel, rfl⟩

/-! `AFrozenBlockHoldsItsState` -/

theorem witness_AFrozenBlockHoldsItsState_1 : ∃ (s : State) (c : Instr), (frozen s = true) ∧ (s.acts = []) ∧ (ActsWhileFrozen c = false) :=
  ⟨{ ready with freeze.state := 1 }, .grantStb 3, by decide +kernel⟩

/-! `PowerLossAndColdReset` -/

theorem witness_PowerLossAndColdReset_2 : ∃ (s : State), (s.pins.pwrOk = true) :=
  ⟨ready, by decide +kernel⟩

theorem witness_PowerLossAndColdReset_3 : ∃ (s : State) (r : Fin 24), (s.pins.pwrOk = true) ∧ (s.pins.fallen = []) ∧ ((r.val ≤ 20 ∧ nbit
    s.pins.railEn r.val = true) ∨ r.val = 23) :=
  ⟨ready, 23, by decide +kernel⟩

/-! `StartsAndFreezesFollowTheirInputs` -/

theorem witness_StartsAndFreezesFollowTheirInputs_1 : ∃ (s : State), (s.acts = []) ∧ (s.pins.pwrOk = false) ∧ (s.pins.coldN = true) ∧ (s.pins.warmN
    = true) ∧ (s.pins.fallen = []) :=
  ⟨{ ready with pins.pwrOk := false }, by decide +kernel⟩

theorem witness_StartsAndFreezesFollowTheirInputs_2 : ∃ (s : State), (s.acts = []) ∧ (s.pins.pwrOk = false) ∧ (s.pins.coldN = false) :=
  ⟨{ ready with pins.pwrOk := false, pins.coldN := false }, by decide +kernel⟩

theorem witness_StartsAndFreezesFollowTheirInputs_3 : ∃ (s : State), (s.acts = []) ∧ (s.pins.pwrOk = true) ∧ (s.pins.coldN = false) ∧ (s.pins.warmN
    = true) ∧ (s.pins.fallen = []) ∧ (s.start.inReset = true) :=
  ⟨{ ready with pins.coldN := false, start.inReset := true }, by decide +kernel⟩

theorem witness_StartsAndFreezesFollowTheirInputs_4 : ∃ (s : State), (s.acts = []) ∧ (s.pins.pwrOk = true) ∧ (s.pins.coldN = true) ∧ (s.pins.warmN =
    false) ∧ (s.pins.fallen = []) ∧ (s.start.inReset = true) :=
  ⟨{ ready with pins.warmN := false, start.inReset := true }, by decide +kernel⟩

theorem witness_StartsAndFreezesFollowTheirInputs_5 : ∃ (s : State), (s.acts = []) ∧ (s.pins.coldN = false) ∧ (s.pins.warmN = false) ∧
    (s.start.inReset = true) :=
  ⟨{ ready with pins.warmN := false, pins.coldN := false, start.inReset := true }, by decide +kernel⟩

theorem witness_StartsAndFreezesFollowTheirInputs_6 : ∃ (s : State) (r : Fin 24), (s.acts = []) ∧ (s.pins.pwrOk = true) ∧ (s.pins.coldN = true) ∧
    (s.pins.warmN = true) ∧ (s.pins.fallen = [r.val]) :=
  ⟨{ ready with pins.fallen := [3] }, 3, by decide +kernel⟩

theorem witness_StartsAndFreezesFollowTheirInputs_7 : ∃ (s : State), (s.acts = []) ∧ (s.pins.pwrOk = true) ∧ (s.start.inReset = false) ∧
    (s.pins.fallen = []) ∧ (s.freeze.state = 0) :=
  ⟨ready, by decide +kernel⟩

theorem witness_StartsAndFreezesFollowTheirInputs_8 : ∃ (s : State), ((s.acts = []) ∧ (s.freeze.state = 1) ∧ (s.freeze.hold = 2)) ∧ ((∀ l, (getPeer
    s l).state ≠ 4)) :=
  ⟨{ ready with freeze := { state := 1, hold := 2 }, hosts := [(0, { link := 6 })] }, by decide +kernel, fun _ h => nomatch h⟩

theorem witness_StartsAndFreezesFollowTheirInputs_9 : ∃ (s : State), (s.pins.pwrOk = true) ∧ (s.pins.coldN = true) ∧ (s.pins.warmN = true) ∧
    (s.pins.fallen = []) ∧ (s.freeze.state = 1) ∧ (s.freeze.hold ≠ 2) :=
  ⟨{ ready with freeze := { state := 1 } }, by decide +kernel⟩

theorem witness_StartsAndFreezesFollowTheirInputs_10 : ∃ (s : State) (low : Bool), (s.acts = []) :=
  ⟨ready, true, by decide +kernel⟩

/-! `WarmResetKeepsWhatR408Lists` -/

theorem witness_WarmResetKeepsWhatR408Lists_1 : ∃ (s : State), (s.pins.pwrOk = true) ∧ (s.pins.coldN = true) ∧ (s.pins.fallen = []) :=
  ⟨ready, by decide +kernel⟩

theorem witness_WarmResetKeepsWhatR408Lists_2 : ∃ (s : State), (s.pins.pwrOk = true) ∧ (s.pins.coldN = true) ∧ (s.pins.fallen = []) ∧ (s.ports = [])
    ∧ (s.arrays.arr = []) ∧ (s.coh.dev = []) ∧ (s.ftest.run = none) ∧ (s.queues = []) :=
  ⟨{ ready with mem.bytes := [(4, 1)], sync.value := [(3, 4)] }, by decide +kernel⟩

/-! `HostLinkEventsAtOnePort` -/

theorem witness_HostLinkEventsAtOnePort_1 : ∃ (s : State) (p : HostId), (s.acts = []) ∧ ((getHost s p).link = 0) :=
  ⟨ready, 0, by decide +kernel⟩

theorem witness_HostLinkEventsAtOnePort_2 : ∃ (s : State) (p : HostId), (s.acts = []) :=
  ⟨ready, 0, by decide +kernel⟩

theorem witness_HostLinkEventsAtOnePort_3 : ∃ (s : State) (p : HostId), (s.acts = []) ∧ (linkOn s = true) ∧ (s.asleep = false) ∧ (2 ≤ (getHost s
    p).link) ∧ ((getHost s p).link ≠ 5) :=
  ⟨{ ready with hosts := [(0, { link := 2 })] }, 0, by decide +kernel⟩

theorem witness_HostLinkEventsAtOnePort_4 : ∃ (s : State) (p : HostId) (w : Byte) (r : Byte) (n : Nat), (s.acts = []) ∧ (linkOn s = true) ∧ (s.ports
    = []) ∧ ((getHost s p).link = 5) ∧ ((getHost s p).retrainStart = some n) ∧ (s.aoncnt ≤ n + 5000000) :=
  ⟨{ ready with aoncnt := 90, hosts := [(0, { link := 5, retrainStart := some 10 })] }, 0, 16, 64, 10, by decide +kernel⟩

theorem witness_HostLinkEventsAtOnePort_5 : ∃ (s : State) (p : HostId), (s.acts = []) ∧ (linkOn s = true) ∧ ((getHost s p).link = 2 ∨ (getHost s
    p).link = 3) ∧ ((getHost s p).lastUse + obj s (0x5001 + p) 0x19 5000 ≤ s.aoncnt) ∧ ((getHost s p).readbacks = []) ∧ ((getHost s p).asked = []) ∧
    ((getHost s p).bisnp = []) :=
  ⟨{ ready with aoncnt := 6000, hosts := [(0, { link := 2 })] }, 0, by decide +kernel⟩

/-! `ClusterEventsTouchOneCluster` -/

theorem witness_ClusterEventsTouchOneCluster_1 : ∃ (s : State) (c : ClusterId), (s.acts = []) :=
  ⟨ready, 0, by decide +kernel⟩

theorem witness_ClusterEventsTouchOneCluster_2 : ∃ (s : State) (c : ClusterId), (s.acts = []) ∧ (aonRuns s = true) ∧ (s.asleep = false) ∧
    ((getCluster s c).stopped = true) ∧ (RecordsQuietly s) ∧ ((∀ a, 4 * c.val ≤ a → a < 4 * c.val + 4 → (getArr s a).fencing = none)) :=
  ⟨{ ready with power.clusters := [(0, { stopped := true })] }, 0, by unfold RecordsQuietly; decide +kernel⟩

theorem witness_ClusterEventsTouchOneCluster_3 : ∃ (s : State) (c : ClusterId), (s.acts = []) ∧ ((∀ a, 4 * c.val ≤ a → a < 4 * c.val + 4 → (getArr s
    a).fencing = none)) :=
  ⟨{ ready with power.clusters := [(0, { stopped := true, half := true, warned := true, point := 0 })] }, 0, by decide +kernel⟩

theorem witness_ClusterEventsTouchOneCluster_4 : ∃ (s : State) (c : ClusterId), (s.acts = []) :=
  ⟨{ ready with power.clusters := [(0, { stopped := true, half := true, warned := true, point := 0 })] }, 0, by decide +kernel⟩

theorem witness_ClusterEventsTouchOneCluster_5 : ∃ (s : State) (c : ClusterId), (s.acts = []) :=
  ⟨{ ready with power.clusters := [(0, { stopped := true, half := true, warned := true, point := 0 })] }, 0, by decide +kernel⟩

theorem witness_ClusterEventsTouchOneCluster_6 : ∃ (s : State) (c : ClusterId), ((s.acts = []) ∧ (aonRuns s = true) ∧ (s.asleep = false) ∧
    ((getCluster s c).rowDue ≤ s.aoncnt)) ∧ ((∀ a, 4 * c.val ≤ a → a < 4 * c.val + 4 → runningCourse s a = none ∧ (getArr s a).current = false)) :=
  ⟨{ ready with power.clusters := [(0, { gated := false })] }, 0, by decide +kernel, fun _ _ _ => ⟨rfl, rfl⟩⟩

theorem witness_ClusterEventsTouchOneCluster_7 : ∃ (s : State) (c : ClusterId), (s.acts = []) ∧ (aonRuns s = true) ∧ (s.asleep = false) ∧ (rowFree s
    c = true ∨ s.power.pointAt + 500 ≤ s.aoncnt) :=
  ⟨{ ready with power.clusters := [(0, { stopped := true, half := true, warned := true, point := 0 })] }, 0, by decide +kernel⟩

theorem witness_ClusterEventsTouchOneCluster_8 : ∃ (s : State) (a : ArrayId), (s.acts = []) ∧ (aonRuns s = true) ∧ (s.asleep = false) ∧ ((getArr s
    a).courses.any (startable s) = false) :=
  ⟨{ ready with arrays.arr := [(0, { current := true })] }, 0, by decide +kernel⟩

theorem witness_ClusterEventsTouchOneCluster_9 : ∃ (s : State) (g : BitVec 12), (s.acts = []) ∧ (aonRuns s = true) :=
  ⟨ready, 300, by decide +kernel⟩

/-! `SensorsRetentionAndLinkRecords` -/

theorem witness_SensorsRetentionAndLinkRecords_1 : ∃ (s : State) (k : Fin 64) (v : BitVec 12), (s.acts = []) ∧ (aonRuns s = true) ∧ (1000 ≤ v.toInt)
    ∧ (RecordsQuietly s) :=
  ⟨ready, 0, 1001, by unfold RecordsQuietly; decide +kernel⟩

theorem witness_SensorsRetentionAndLinkRecords_2 : ∃ (s : State) (temps : List (BitVec 12)) (volts : List (BitVec 12)), ((s.acts = []) ∧ (aonRuns s
    = true) ∧ (s.asleep = false) ∧ (temps.length = 64) ∧ (volts.length = 24)) ∧ ((∀ v ∈ temps, v.toInt ≤ (obj s 0x2000 9 840 : Nat) ∧ v.toInt <
    1000)) :=
  ⟨ready, List.replicate 64 300, List.replicate 24 800, by decide +kernel, fun v h => by rw [List.eq_of_mem_replicate h]; decide +kernel⟩

theorem witness_SensorsRetentionAndLinkRecords_3 : ∃ (s : State) (n : Fin 192), (s.acts = []) ∧ (aonRuns s = true) ∧ (s.asleep = false) ∧ (tget 64
    s.power.loftDue n.val ≤ s.aoncnt) :=
  ⟨{ ready with aoncnt := 100 }, 4, by decide +kernel⟩

theorem witness_SensorsRetentionAndLinkRecords_4 : ∃ (s : State) (k : StackId), (s.acts = []) ∧ (aonRuns s = true) ∧ (s.asleep = false) ∧ ((getStack
    s k).active = true) ∧ (tget 2500 s.power.stackDue k.val ≤ s.aoncnt) :=
  ⟨{ ready with aoncnt := 3000 }, 0, by decide +kernel⟩

theorem witness_SensorsRetentionAndLinkRecords_5 : ∃ (s : State) (k : StackId) (c : Fin 32), (s.acts = []) ∧ (aonRuns s = true) ∧ (s.asleep = false)
    :=
  ⟨ready, 0, 0, by decide +kernel⟩

theorem witness_SensorsRetentionAndLinkRecords_6 : ∃ (s : State) (k : StackId) (c : Fin 32), (s.acts = []) ∧ (aonRuns s = true) ∧ (s.asleep = false)
    :=
  ⟨{ ready with mem.stackRecs := [(0, { updating := [0] })] }, 0, 0, by decide +kernel⟩

theorem witness_SensorsRetentionAndLinkRecords_7 : ∃ (s : State) (k : StackId), (s.acts = []) ∧ (aonRuns s = true) ∧ ((getStack s k).active = true)
    ∧ ((getStack s k).fenced = []) ∧ (s.coh.dev = []) ∧ (s.ports = []) ∧ (RecordsQuietly s) :=
  ⟨ready, 0, by unfold RecordsQuietly; decide +kernel⟩

theorem witness_SensorsRetentionAndLinkRecords_8 : ∃ (s : State) (l : Fin 14) (m : Byte), (s.acts = []) ∧ (linkOn s = true) ∧ (s.asleep = false) ∧
    ((getLink s l).state = 1) :=
  ⟨{ ready with power.links := [(0, { state := 1 })] }, 0, 5, by decide +kernel⟩

theorem witness_SensorsRetentionAndLinkRecords_9 : ∃ (s : State) (l : Fin 14), (s.acts = []) ∧ (linkOn s = true) ∧ (s.asleep = false) ∧ ((getLink s
    l).state = 3) :=
  ⟨{ ready with power.links := [(0, { state := 3 })] }, 0, by decide +kernel⟩

/-! `SleepAndWake` -/

theorem witness_SleepAndWake_1 : ∃ (s : State), (s.acts = []) ∧ (dataOn s = true) ∧ (s.asleep = true) :=
  ⟨{ ready with asleep := true }, by decide +kernel⟩

theorem witness_SleepAndWake_2 : ∃ (s : State), (s.acts = []) ∧ (fabOn s = true) :=
  ⟨ready, by decide +kernel⟩

theorem witness_SleepAndWake_3 : ∃ (s : State), (s.acts = []) ∧ (fabOn s = true) ∧ (idleLong s = true) ∧ (s.start.state = 1) ∧ (allIdle s = true) :=
  ⟨{ ready with aoncnt := 700, power.idleFrom := some (100, 500, 0) }, by decide +kernel⟩

theorem witness_SleepAndWake_4 : ∃ (s : State) (p : PortId) (high : Bool), (s.acts = []) ∧ (fabOn s = true) :=
  ⟨ready, 0, true, by decide +kernel⟩

theorem witness_SleepAndWake_5 : ∃ (s : State) (p : PortId), (s.acts = []) ∧ (dataOn s = true) ∧ (s.asleep = true) :=
  ⟨{ ready with asleep := true }, 0, by decide +kernel⟩

/-! `StartRunsItsStepsInOrder` -/

theorem witness_StartRunsItsStepsInOrder_1 : ∃ (s : State), (s.acts = []) ∧ (s.start.due = true) ∧ (aonRuns s = true) ∧ (s.start.inReset = false) ∧
    (s.pins.freezeN = true) ∧ (s.pins.fallen = []) ∧ (s.start.kind ≤ 1) :=
  ⟨State.reset, by decide +kernel⟩

theorem witness_StartRunsItsStepsInOrder_2 : ∃ (s : State), (s.acts = []) ∧ (s.start.due = true) ∧ (aonRuns s = true) ∧ (s.start.inReset = false) ∧
    (s.pins.freezeN = true) ∧ (s.pins.fallen = []) ∧ (2 ≤ s.start.kind) :=
  ⟨{ State.reset with start.kind := 2, start.prev := [(0, 1)] }, by decide +kernel⟩

theorem witness_StartRunsItsStepsInOrder_3 : ∃ (s : State) (r : StepReport), (s.acts = []) ∧ (aonRuns s = true) ∧ (s.start.state = 0) ∧
    (s.start.step = 1) ∧ (s.start.running = [1]) ∧ (r.fails.length ≤ 1) ∧ ((∀ f ∈ r.fails, unitOk f.1.toNat = true)) :=
  ⟨{ ready with start := { due := false, state := 0, step := 1, running := [1] } }, ⟨[(0xC000, .timeout)], none, 0, []⟩, by decide +kernel⟩

theorem witness_StartRunsItsStepsInOrder_4 : ∃ (s : State) (r : StepReport), (s.acts = []) ∧ (aonRuns s = true) ∧ (s.start.state = 0) ∧
    (s.start.step = 23) ∧ (s.start.running = [23]) ∧ (r.fails.length ≤ 1) ∧ ((∀ f ∈ r.fails, unitOk f.1.toNat = true)) ∧ (obj s 0x9000 8 0 = 0) :=
  ⟨{ ready with start := { due := false, state := 0, step := 23, running := [23] } }, ⟨[], none, 0, []⟩, by decide +kernel⟩

theorem witness_StartRunsItsStepsInOrder_5 : ∃ (s : State) (k : Fin 24) (r : StepReport), (s.acts = []) ∧ (aonRuns s = true) ∧ (s.start.state = 0) ∧
    (k.val ∈ s.start.running) ∧ (stepType k = 0) ∧ (2 ≤ r.fails.length) ∧ ((∀ f ∈ r.fails, unitOk f.1.toNat = true)) :=
  ⟨{ ready with start := { due := false, state := 0, step := 1, running := [1] } }, 1, ⟨[(0xC000, .timeout), (0xC000, .timeout)], none, 0, []⟩,
    by decide +kernel⟩

theorem witness_StartRunsItsStepsInOrder_6 : ∃ (s : State) (r : Fin 24), (s.acts = []) ∧ (aonRuns s = true) ∧ (s.start.running = [0]) ∧ (r.val ≤ 20)
    ∧ (nbit s.pins.railPg r = false) :=
  ⟨{ ready with start := { due := false, state := 0, step := 0, running := [0] }, pins.railPg := 0 }, 3, by decide +kernel⟩

theorem witness_StartRunsItsStepsInOrder_7 : ∃ (s : State), (s.acts = []) ∧ (aonRuns s = true) ∧ (s.start.state = 0) ∧ (s.start.step = 22) ∧
    (s.start.running = [22]) ∧ (s.start.s22Since + obj s 0x9000 9 1500000000 ≤ s.aoncnt) :=
  ⟨{ ready with aoncnt := 1500000000, start := { due := false, state := 0, step := 22, running := [22] } }, by decide +kernel⟩

/-! `ManagementProcessorEvents` -/

theorem witness_ManagementProcessorEvents_1 : ∃ (s : State), (s.acts = []) ∧ (aonRuns s = true) ∧ (s.asleep = false) ∧ (s.pins.thermtrip = false) ∧
    (s.mgmt.mpHeld = false) ∧ (mpStarted s = true) ∧ (s.ftest.run = none) ∧ (RecordsQuietly s) :=
  ⟨owned, by unfold RecordsQuietly; decide +kernel⟩

theorem witness_ManagementProcessorEvents_2 : ∃ (s : State), (s.acts = []) ∧ (aonRuns s = true) ∧ (s.mgmt.mpRestart.isSome = true) ∧ (s.fw.starting
    = false) :=
  ⟨{ owned with mgmt.mpRestart := some 5 }, by decide +kernel⟩

theorem witness_ManagementProcessorEvents_3 : ∃ (s : State), (s.acts = []) ∧ (aonRuns s = true) ∧ (s.mgmt.mpRestart.isSome = true) ∧ (s.fw.starting
    = true) :=
  ⟨{ owned with mgmt.mpRestart := some 5, fw.starting := true, fw.image := [(8, 3)] }, by decide +kernel⟩

theorem witness_ManagementProcessorEvents_4 : ∃ (s : State) (i : BitVec 16) (j : Byte), (s.acts = []) ∧ (aonRuns s = true) ∧ (okey i.toNat j.toNat ∈
    s.mgmt.mirrorPending) ∧ (s.mgmt.mpRestart = none) ∧ (s.mgmt.mpHeld = false) :=
  ⟨{ owned with mgmt.mirrorPending := [okey 0x3000 3], objs := [(okey 0x3000 3, some 5)] }, 0x3000, 3, by decide +kernel⟩

theorem witness_ManagementProcessorEvents_5 : ∃ (s : State) (same : Bool), (s.acts = []) ∧ (aonRuns s = true) ∧ (s.asleep = false) ∧ (s.fw.state =
    3) ∧ (s.start.state ≠ 3) :=
  ⟨{ owned with fw.state := 3 }, true, by decide +kernel⟩

theorem witness_ManagementProcessorEvents_6 : ∃ (s : State), ((s.acts = []) ∧ (aonRuns s = true) ∧ (s.freeze.hold = 1) ∧ (quiesced s = true)) ∧ ((∀
    l, (getPeer s l).state ≠ 3)) :=
  ⟨{ owned with freeze.hold := 1 }, by decide +kernel, fun _ h => nomatch h⟩

theorem witness_ManagementProcessorEvents_7 : ∃ (s : State), (s.acts = []) ∧ (aonRuns s = true) ∧ (s.freeze.hold = 1) ∧ (quiesced s = false) ∧
    (s.freeze.holdSince + 5000000 ≤ s.aoncnt) :=
  ⟨{ owned with freeze.hold := 1, hosts := [(0, { link := 2, readbacks := [1] })], aoncnt := 5000000 }, by decide +kernel⟩

/-! `FieldTestCalibrationAndGovernor` -/

theorem witness_FieldTestCalibrationAndGovernor_1 : ∃ (s : State) (r : TestRun), (s.acts = []) ∧ (aonRuns s = true) ∧ (s.ftest.run = some r) ∧
    (r.heating = true) ∧ (r.started + 5000000 ≤ s.aoncnt) :=
  ⟨{ ready with aoncnt := 5000000, ftest.run := some ⟨0, 0, true, false, 0, 0⟩ }, ⟨0, 0, true, false, 0, 0⟩, by decide +kernel⟩

theorem witness_FieldTestCalibrationAndGovernor_2 : ∃ (s : State) (r : TestRun) (a : BitVec 16) (b : BitVec 16) (c : BitVec 16), (s.acts = []) ∧
    (aonRuns s = true) ∧ (s.asleep = false) ∧ (s.ftest.run = some r) ∧ (r.heating = false) ∧ (RecordsQuietly s) :=
  ⟨{ ready with ftest.run := some ⟨0, 0, false, false, 0, 0⟩ }, ⟨0, 0, false, false, 0, 0⟩, 3, 2, 1, by unfold RecordsQuietly; decide +kernel⟩

theorem witness_FieldTestCalibrationAndGovernor_3 : ∃ (s : State) (r : TestRun) (a : BitVec 16) (b : BitVec 16) (c : BitVec 16), (s.acts = []) ∧
    (aonRuns s = true) ∧ (s.asleep = false) ∧ (s.ftest.run = some r) ∧ (r.started + imageNum s.ftest.pkg 0x14 4 < s.aoncnt) ∧ (RecordsQuietly s) :=
  ⟨{ ready with aoncnt := 9, ftest.run := some ⟨0, 0, false, false, 0, 0⟩ }, ⟨0, 0, false, false, 0, 0⟩, 3, 2, 1,
    by unfold RecordsQuietly; decide +kernel⟩

theorem witness_FieldTestCalibrationAndGovernor_4 : ∃ (s : State) (c : ClusterId) (load : Byte), (s.acts = []) ∧ (aonRuns s = true) ∧ (s.asleep =
    false) ∧ ((getCluster s c).provisional = true) ∧ (250000000 ≤ (getCluster s c).counted) :=
  ⟨{ ready with power.clusters := [(0, { provisional := true, counted := 250000000 })] }, 0, 80, by decide +kernel⟩

theorem witness_FieldTestCalibrationAndGovernor_5 : ∃ (s : State) (c : ClusterId), (s.acts = []) ∧ (aonRuns s = true) ∧ (s.asleep = false) ∧
    ((getCluster s c).provisional = true) ∧ (50000000 ≤ (getCluster s c).quiet) :=
  ⟨{ ready with power.clusters := [(0, { provisional := true, quiet := 50000000 })] }, 0, by decide +kernel⟩

theorem witness_FieldTestCalibrationAndGovernor_6 : ∃ (s : State) (p : BitVec 12), (s.acts = []) ∧ (aonRuns s = true) ∧ (s.asleep = false) :=
  ⟨ready, 300, by decide +kernel⟩

/-! `ChainFramesAndAddresses` -/

theorem witness_ChainFramesAndAddresses_1 : ∃ (s : State) (n : Fin 257) (f : Frame), (s.acts = []) ∧ (chainOn s = true) ∧ (f.crcOk = true) ∧
    (f.typ.val < 0x0D) :=
  ⟨owned, 0, frame 4 0x1000 1 0, by decide +kernel⟩

theorem witness_ChainFramesAndAddresses_2 : ∃ (s : State) (n : Fin 257) (f : Frame), (s.acts = []) ∧ (chainOn s = true) ∧ (f.crcOk = false) :=
  ⟨owned, 0, { frame 4 0x1000 1 0 with crcOk := false }, by decide +kernel⟩

theorem witness_ChainFramesAndAddresses_3 : ∃ (s : State) (n : Fin 257) (f : Frame), (s.acts = []) ∧ (chainOn s = true) ∧ (f.crcOk = true) ∧
    (f.typ.val < 0x0D) ∧ (f.typ ≠ 0) ∧ (s.pins.chainDown = true) ∧ (f.dest ≠ 0xFF#8) ∧ (f.dest.toNat ≠ s.mgmt.chainAddr) :=
  ⟨{ owned with pins.chainDown := true }, 3, { frame 4 0x1000 1 0 with dest := 8 }, by decide +kernel⟩

theorem witness_ChainFramesAndAddresses_4 : ∃ (s : State) (f : Frame), (s.acts = []) ∧ (chainOn s = true) ∧ (f.crcOk = true) ∧ (f.data.toNat < 254) :=
  ⟨owned, frame 0 0 0 3, by decide +kernel⟩

theorem witness_ChainFramesAndAddresses_5 : ∃ (s : State) (f : Frame), (s.acts = []) ∧ (chainOn s = true) ∧ (f.crcOk = true) ∧ (254 ≤ f.data.toNat) :=
  ⟨owned, frame 0 0 0 255, by decide +kernel⟩

theorem witness_ChainFramesAndAddresses_6 : ∃ (s : State) (f : Frame), (s.acts = []) ∧ (chainOn s = true) ∧ (f.crcOk = true) ∧ (f.dest = 0xFF#8) ∧
    (s.mgmt.nonce = some (fld f.data 8 24)) ∧ (fld f.data 0 8 ≠ 0xFF) :=
  ⟨{ owned with mgmt.nonce := some 0x123456 }, { frame 3 0 0 0x12345604 with dest := 0xFF#8 }, by decide +kernel⟩

theorem witness_ChainFramesAndAddresses_7 : ∃ (s : State) (f : Frame), (ChainRequest f s) :=
  ⟨owned, frame 7 0 0 0x04030201, by unfold ChainRequest; decide +kernel⟩

theorem witness_ChainFramesAndAddresses_8 : ∃ (s : State), (s.acts = []) :=
  ⟨{ owned with pins.chainDown := true }, by decide +kernel⟩

theorem witness_ChainFramesAndAddresses_9 : ∃ (s : State), (s.acts = []) :=
  ⟨owned, by decide +kernel⟩

/-! `OwnershipFollowsTheClaims` -/

theorem witness_OwnershipFollowsTheClaims_1 : ∃ (s : State) (w : Nat) (m : Nat), (s.acts = []) ∧ (aonRuns s = true) ∧ (s.mgmt.owner = none) ∧
    (s.mgmt.electing = some w) ∧ (w ≤ s.aoncnt) ∧ (m < 8) ∧ (candidate s m = true) ∧ ((∀ k, k < 8 → candidate s k = true → (getMaster s k).claim <
    (getMaster s m).claim ∨ ((getMaster s k).claim = (getMaster s m).claim ∧ m ≤ k))) :=
  ⟨{ owned with mgmt.owner := none, mgmt.electing := some 0 }, 0, 0, by decide +kernel⟩

theorem witness_OwnershipFollowsTheClaims_2 : ∃ (s : State) (w : Nat), (s.acts = []) ∧ (aonRuns s = true) ∧ (s.mgmt.owner = none) ∧ (s.mgmt.electing
    = some w) ∧ (w ≤ s.aoncnt) ∧ ((∀ k, k < 8 → candidate s k = false)) :=
  ⟨{ ready with mgmt.electing := some 0 }, 0, by decide +kernel⟩

theorem witness_OwnershipFollowsTheClaims_3 : ∃ (s : State) (m : Nat), (s.acts = []) ∧ (aonRuns s = true) ∧ (s.mgmt.owner = some m) ∧ (s.mgmt.lease
    ≤ s.aoncnt) :=
  ⟨{ owned with aoncnt := 1000 }, 0, by decide +kernel⟩

theorem witness_OwnershipFollowsTheClaims_4 : ∃ (s : State) (m : MasterId), (s.acts = []) ∧ (aonRuns s = true) ∧ ((getMaster s m).used = true) ∧
    ((getMaster s m).last + 3000000000 ≤ s.aoncnt) :=
  ⟨{ owned with aoncnt := 3000000000 }, 0, by decide +kernel⟩

/-! `ChainAndMailboxRequestsAreServed` -/

theorem witness_ChainAndMailboxRequestsAreServed_1 : ∃ (s : State) (n : Fin 257) (f : Frame) (o : Obj) (r : Rec), (ChainRequest f s) ∧
    (DictionaryServed { s with mgmt.mpQueue := n.val }) ∧ (f.session = none) ∧ (f.index = 0x1000#16) ∧ (f.seg = 0) ∧ (recOf 0x1000 = some r) ∧
    (f.sub ≠ 0xFF#8) ∧ (objAt 0x1000 f.sub.toNat = some o) ∧ (o.acc ≠ .wo) :=
  ⟨owned, 3, { frame 4 0x1000 3 0 with session := none }, (objAt 0x1000 3).getD ⟨.u 1, .ro, 0⟩, (recOf 0x1000).getD ⟨0, 0, []⟩,
    by unfold ChainRequest DictionaryServed; decide +kernel⟩

theorem witness_ChainAndMailboxRequestsAreServed_2 : ∃ (s : State) (n : Fin 257) (f : Frame), (ChainRequest f s) ∧ (DictionaryServed
    { s with mgmt.mpQueue := n.val }) ∧ (f.session = none) ∧ (f.index ≠ 0x1000#16) :=
  ⟨owned, 3, { frame 4 0x2000 3 0 with session := none }, by unfold ChainRequest DictionaryServed; decide +kernel⟩

theorem witness_ChainAndMailboxRequestsAreServed_3 : ∃ (s : State) (m : Nat) (n : Fin 257) (f : Frame), (ChainRequest f s) ∧ (DictionaryServed
    { s with mgmt.mpQueue := n.val }) ∧ (FromMaster m f s) ∧ (m < 8) :=
  ⟨owned, 0, 3, frame 6 0x2000 3 0, by unfold FromMaster ChainRequest DictionaryServed; decide +kernel⟩

theorem witness_ChainAndMailboxRequestsAreServed_4 : ∃ (s : State) (m : Nat) (n : Fin 257) (f : Frame) (r : Rec) (o : Obj), (ChainRequest f s) ∧
    (DictionaryServed { s with mgmt.mpQueue := n.val }) ∧ (FromMaster m f s) ∧ (s.mgmt.owner = some m) ∧ (recOf f.index.toNat = some r) ∧ (objAt
    f.index.toNat f.sub.toNat = some o) ∧ ((o.acc = .rw ∨ o.acc = .rwp)) ∧ (o.ty.size = 4) ∧ (f.seg = 0) ∧ (inRange s r.base f.sub.toNat (ofLe
    (bytesOf 4 f.data)) = true) ∧ (¬ ActsWhenWritten r.base f.sub.toNat) ∧ (o.ty ≠ .bool) :=
  ⟨owned, 0, 3, frame 5 0x2000 8 300, (recOf 0x2000).getD ⟨0, 0, []⟩, (objAt 0x2000 8).getD ⟨.u 1, .ro, 0⟩,
    by unfold FromMaster ChainRequest ActsWhenWritten DictionaryServed; decide +kernel⟩

theorem witness_ChainAndMailboxRequestsAreServed_5 : ∃ (s : State) (n : Fin 257) (f : Frame) (x : Session) (m : Nat), (ChainRequest f s) ∧
    (DictionaryServed { s with mgmt.mpQueue := n.val }) ∧ (f.session = some x.id) ∧ (findSession s x.id = some x) ∧ (x.master = true) ∧
    (verifiedMaster s f = none) ∧ ((∀ k, k < 8 → (getMaster s k).used = true → (getMaster s k).session ≠ x.id)) ∧ (m < 8) ∧ ((getMaster s m).used =
    false) ∧ ((∀ k, k < m → (getMaster s k).used = true)) :=
  ⟨{ owned with sec.sessions := [⟨5, 0, true, true, 0, 0, 0⟩, ⟨6, 77, true, true, 0, 0, 0⟩] }, 3, { frame 8 0 0 0 with session := some 6 }, ⟨6, 77, true, true, 0, 0, 0⟩, 1,
    by unfold ChainRequest DictionaryServed; decide +kernel⟩

theorem witness_ChainAndMailboxRequestsAreServed_6 : ∃ (s : State) (m : Nat) (n : Fin 257) (f : Frame), (ChainRequest f s) ∧ (s.pins.thermtrip =
    false) ∧ (leaseOver s = false) ∧ (FromMaster m f s) ∧ (m < 8) ∧ (s.mgmt.owner = none) ∧ (s.mgmt.electing = none) ∧ (fld f.data 0 8 ≠ 0) :=
  ⟨{ owned with mgmt.owner := none }, 0, 3, frame 9 0 0 2, by unfold FromMaster ChainRequest; decide +kernel⟩

theorem witness_ChainAndMailboxRequestsAreServed_7 : ∃ (s : State) (m : Nat) (n : Fin 257) (f : Frame), (ChainRequest f s) ∧ (leaseOver s = false) ∧
    (FromMaster m f s) ∧ (m < 8) ∧ (s.mgmt.owner = some m) ∧ (fld f.data 0 8 < 8) ∧ (candidate s (fld f.data 0 8) = true) :=
  ⟨{ owned with mgmt.masters := [(0, { used := true, session := 5, claim := 1 }), (3, { used := true, session := 6, claim := 4 })] }, 0, 3, frame 10 0 0 3,
    by unfold FromMaster ChainRequest; decide +kernel⟩

theorem witness_ChainAndMailboxRequestsAreServed_8 : ∃ (s : State) (m : Nat) (n : Fin 257) (f : Frame), (ChainRequest f s) ∧ (leaseOver s = false) ∧
    (FromMaster m f s) ∧ (m < 8) ∧ (s.mgmt.owner = some m) :=
  ⟨owned, 0, 3, frame 11 0 0 0, by unfold FromMaster ChainRequest; decide +kernel⟩

theorem witness_ChainAndMailboxRequestsAreServed_9 : ∃ (s : State) (m : Nat) (n : Fin 257) (f : Frame), (ChainRequest f s) ∧ (leaseOver s = false) ∧
    (FromMaster m f s) ∧ (m < 8) ∧ (s.mgmt.owner = some m) :=
  ⟨owned, 0, 3, frame 12 0 0 0, by unfold FromMaster ChainRequest; decide +kernel⟩

theorem witness_ChainAndMailboxRequestsAreServed_10 : ∃ (s : State) (p : HostId) (n : Fin 257) (f : Frame) (r : Rec) (o : Obj), (s.acts = []) ∧
    (s.asleep = false) ∧ (mailboxOn s p = true) ∧ (DictionaryServed { s with mgmt.mpQueue := n.val }) ∧ (f.typ = 4) ∧ (f.session = none) ∧ (f.index
    = 0x1000#16) ∧ (f.sub ≠ 0xFF#8) ∧ (recOf 0x1000 = some r) ∧ (objAt 0x1000 f.sub.toNat = some o) ∧ (o.acc ≠ .wo) :=
  ⟨owned, 0, 3, { frame 4 0x1000 3 0 with session := none }, (recOf 0x1000).getD ⟨0, 0, []⟩, (objAt 0x1000 3).getD ⟨.u 1, .ro, 0⟩,
    by unfold DictionaryServed; decide +kernel⟩

theorem witness_ChainAndMailboxRequestsAreServed_11 : ∃ (s : State) (p : HostId) (n : Fin 257) (f : Frame) (bs : List Byte) (m : Nat) (r : Rec) (o :
    Obj), (s.acts = []) ∧ (s.asleep = false) ∧ (mailboxOn s p = true) ∧ (DictionaryServed { s with mgmt.mpQueue := n.val }) ∧ (f.typ = 5) ∧
    (FromMaster m f s) ∧ (s.mgmt.owner = some m) ∧ (recOf f.index.toNat = some r) ∧ (objAt f.index.toNat f.sub.toNat = some o) ∧ ((o.acc = .rw ∨
    o.acc = .rwp)) ∧ (o.ty ≠ .bool) ∧ (bs.length = o.ty.size) ∧ (inRange s r.base f.sub.toNat (ofLe bs) = true) ∧ (¬ ActsWhenWritten r.base
    f.sub.toNat) :=
  ⟨owned, 0, 3, frame 5 0x2000 8 0, [1, 2, 0, 0], 0, (recOf 0x2000).getD ⟨0, 0, []⟩, (objAt 0x2000 8).getD ⟨.u 1, .ro, 0⟩,
    by unfold FromMaster ActsWhenWritten DictionaryServed; decide +kernel⟩

theorem witness_ChainAndMailboxRequestsAreServed_12 : ∃ (s : State) (p : HostId) (bs : List Byte), (s.acts = []) ∧ (s.asleep = false) ∧ (mailboxOn s
    p = true) :=
  ⟨owned, 0, [1, 2], by decide +kernel⟩

/-! `OwnerWriteStoresTheValue` -/

theorem witness_OwnerWriteStoresTheValue_1 : ∃ (s : State) (m : MasterId) (i : BitVec 16) (j : Byte) (bs : List Byte) (r : Rec) (o : Obj),
    (OwnerServed m s) ∧ (recOf i.toNat = some r) ∧ (objAt i.toNat j.toNat = some o) ∧ (o.acc ≠ .const) ∧ (o.acc ≠ .ro) ∧ (bs.length = o.ty.size) ∧
    ((o.ty = .bool → ofLe bs < 2)) ∧ (inRange s r.base j.toNat (ofLe bs) = true) ∧ (¬ ActsWhenWritten r.base j.toNat) :=
  ⟨owned, 0, 0x2000, 8, [1, 2, 0, 0], (recOf 0x2000).getD ⟨0, 0, []⟩, (objAt 0x2000 8).getD ⟨.u 1, .ro, 0⟩,
    by unfold ActsWhenWritten OwnerServed DictionaryServed; decide +kernel⟩

theorem witness_OwnerWriteStoresTheValue_2 : ∃ (s : State) (m : MasterId) (i : BitVec 16) (j : Byte) (bs : List Byte) (o : Obj), (DictionaryServed
    s) ∧ (s.asleep = false) ∧ (s.acts = []) ∧ ((getMaster s m).used = true) ∧ (s.mgmt.owner ≠ some m.val) ∧ (objAt i.toNat j.toNat = some o) :=
  ⟨{ owned with mgmt.owner := none }, 0, 0x2000, 8, [1, 2, 0, 0], (objAt 0x2000 8).getD ⟨.u 1, .ro, 0⟩, by unfold DictionaryServed; decide +kernel⟩

/-! `OwnerWritesThatAct` -/

theorem witness_OwnerWritesThatAct_1 : ∃ (s : State) (m : MasterId) (v : Byte), (OwnerServed m s) ∧ (s.mem.inChange = false) ∧ (v.toNat ≤ 8) ∧
    (s.coh.dev = []) ∧ (s.coh.near = []) :=
  ⟨{ owned with mem.bytes := [(2 ^ 48 + 5, 7)] }, 0, 8, by unfold OwnerServed DictionaryServed; decide +kernel⟩

theorem witness_OwnerWritesThatAct_2 : ∃ (s : State) (m : MasterId) (v : Byte), (OwnerServed m s) ∧ (v.toNat ≤ 2) :=
  ⟨owned, 0, 2, by unfold OwnerServed DictionaryServed; decide +kernel⟩

theorem witness_OwnerWritesThatAct_3 : ∃ (s : State) (m : MasterId), (OwnerServed m s) :=
  ⟨{ owned with flt.first := 5, flt.firstValid := true, flt.overflow := true }, 0, by unfold OwnerServed DictionaryServed; decide +kernel⟩

theorem witness_OwnerWritesThatAct_4 : ∃ (s : State) (m : MasterId), (OwnerServed m s) ∧ (s.mem.steps = 4) :=
  ⟨{ owned with objs := [(okey 0x2000 8, some 77)] }, 0, by unfold OwnerServed DictionaryServed; decide +kernel⟩

theorem witness_OwnerWritesThatAct_5 : ∃ (s : State) (m : MasterId) (v : BitVec 32), (OwnerServed m s) ∧ (v.toNat < 2 ^ 24) :=
  ⟨owned, 0, 0xFF, by unfold OwnerServed DictionaryServed; decide +kernel⟩

theorem witness_OwnerWritesThatAct_6 : ∃ (s : State) (m : MasterId), (OwnerServed m s) ∧ (s.sec.confEver = false) :=
  ⟨owned, 0, by unfold OwnerServed DictionaryServed; decide +kernel⟩

theorem witness_OwnerWritesThatAct_7 : ∃ (s : State) (m : MasterId), (OwnerServed m s) ∧ (s.sec.confEver = true) :=
  ⟨{ owned with sec.confEver := true }, 0, by unfold OwnerServed DictionaryServed; decide +kernel⟩

theorem witness_OwnerWritesThatAct_8 : ∃ (s : State) (m : MasterId), (OwnerServed m s) ∧ (s.freeze.hold = 0) :=
  ⟨owned, 0, by unfold OwnerServed DictionaryServed; decide +kernel⟩

theorem witness_OwnerWritesThatAct_9 : ∃ (s : State) (m : MasterId), (OwnerServed m s) ∧ ((∀ l, (getPeer s l).state ≠ 4)) :=
  ⟨{ owned with freeze.hold := 2, hosts := [(0, { link := 6 })] }, 0, by unfold OwnerServed DictionaryServed; decide +kernel, fun _ h => nomatch h⟩

theorem witness_OwnerWritesThatAct_10 : ∃ (s : State) (m : MasterId) (c : BitVec 16), (OwnerServed m s) ∧ (Idle s) ∧ (c.toNat < 4096) ∧ (ctxState s
    c.toNat = 1) :=
  ⟨{ owned with sched.ctx := [(7, BitVec.ofNat 512 (2 ^ 52))] }, 0, 7, by unfold Idle OwnerServed DictionaryServed; decide +kernel⟩

/-! `OwnerFencesUnits` -/

theorem witness_OwnerFencesUnits_1 : ∃ (s : State) (m : MasterId) (a : ArrayId), (OwnerServed m s) ∧ (Idle s) ∧ ((getCluster s (a.val / 4)).stopped
    = false) :=
  ⟨owned, 0, 0, by unfold Idle OwnerServed DictionaryServed; decide +kernel⟩

theorem witness_OwnerFencesUnits_2 : ∃ (s : State) (m : MasterId) (a : ArrayId), (OwnerServed m s) ∧ (s.ftest.run = none) ∧ (s.flt.grace = []) ∧
    ((getArr s a).fenced = true) :=
  ⟨{ owned with arrays.arr := [(0, { fenced := true, cause := 1 })] }, 0, 0, by unfold OwnerServed DictionaryServed; decide +kernel⟩

theorem witness_OwnerFencesUnits_3 : ∃ (s : State) (m : MasterId) (h : HomeId), ((OwnerServed m s) ∧ (Idle s)) ∧ ((∀ k, tget 0 s.coh.homeState k =
    0)) :=
  ⟨owned, 0, 0, by unfold Idle OwnerServed DictionaryServed; decide +kernel, fun _ => rfl⟩

theorem witness_OwnerFencesUnits_4 : ∃ (s : State) (m : MasterId) (e : EngineId), (OwnerServed m s) ∧ (s.flt.grace = []) ∧ ((getEngine s e).fenced =
    false) ∧ ((getEngine s e).fencing = false) ∧ ((getEngine s e).job = none) ∧ ((getEngine s e).migrate = none) :=
  ⟨owned, 0, 0, by unfold OwnerServed DictionaryServed; decide +kernel⟩

theorem witness_OwnerFencesUnits_5 : ∃ (s : State) (m : MasterId) (e : EngineId) (j : Nat × Nat), (OwnerServed m s) ∧ ((getEngine s e).fenced =
    false) ∧ ((getEngine s e).fencing = false) ∧ ((getEngine s e).job = some j) :=
  ⟨{ owned with engines := [(0, { job := some (1, 2) })] }, 0, 0, (1, 2), by unfold OwnerServed DictionaryServed; decide +kernel⟩

theorem witness_OwnerFencesUnits_6 : ∃ (s : State) (m : MasterId) (p : PortId), (OwnerServed m s) ∧ (Idle s) :=
  ⟨owned, 0, 0, by unfold Idle OwnerServed DictionaryServed; decide +kernel⟩

theorem witness_OwnerFencesUnits_7 : ∃ (s : State) (m : MasterId) (l : PeerId) (w : Fin 64), (OwnerServed m s) ∧ (windowFits s l w = true) ∧
    (confidential s (winCtx s l w) = false) :=
  ⟨{ owned with objs := [(okey 0x5410 3, some 4)] }, 0, 0, 0, by unfold OwnerServed DictionaryServed; decide +kernel⟩

theorem witness_OwnerFencesUnits_8 : ∃ (s : State) (m : MasterId) (l : PeerId) (w : Fin 64), (OwnerServed m s) :=
  ⟨{ owned with objs := [(okey 0x5410 1, some 7)] }, 0, 0, 0, by unfold OwnerServed DictionaryServed; decide +kernel⟩

theorem witness_OwnerFencesUnits_9 : ∃ (s : State) (m : MasterId) (p : HostId) (d : Fin 8) (v : BitVec 16), (OwnerServed m s) ∧ ((tget {} (getHost s
    p).decoders d).committed = false) ∧ (v.toNat < 4096) ∧ (confidential s v.toNat = false) :=
  ⟨owned, 0, 0, 0, 9, by unfold OwnerServed DictionaryServed; decide +kernel⟩

theorem witness_OwnerFencesUnits_10 : ∃ (s : State) (m : MasterId) (p : HostId) (d : Fin 8) (v : BitVec 16), (OwnerServed m s) ∧ ((tget {} (getHost
    s p).decoders d).committed = false) :=
  ⟨owned, 0, 0, 0, 9, by unfold OwnerServed DictionaryServed; decide +kernel⟩

theorem witness_OwnerFencesUnits_11 : ∃ (s : State) (m : MasterId) (p : HostId) (d : Fin 8) (slot : Bool) (v : BitVec 16), (OwnerServed m s) ∧
    ((tget {} (getHost s p).decoders d).committed = true) :=
  ⟨{ owned with hosts := [(0, { link := 2, decoders := [(0, { committed := true })] })] }, 0, 0, 0, true, 9,
    by unfold OwnerServed DictionaryServed; decide +kernel⟩

/-! `PackagesAndImages` -/

theorem witness_PackagesAndImages_1 : ∃ (s : State) (m : MasterId), (OwnerServed m s) ∧ (s.ftest.run = none) :=
  ⟨owned, 0, by unfold OwnerServed DictionaryServed; decide +kernel⟩

theorem witness_PackagesAndImages_2 : ∃ (s : State) (m : MasterId) (d : Line), (OwnerServed m s) ∧ (s.ftest.offset + 64 ≤ 2 ^ 20) :=
  ⟨{ owned with ftest.state := 1 }, 0, 5, by unfold OwnerServed DictionaryServed; decide +kernel⟩

theorem witness_PackagesAndImages_3 : ∃ (s : State) (m : MasterId), (OwnerServed m s) ∧ (s.flt.grace = []) :=
  ⟨owned, 0, by unfold OwnerServed DictionaryServed; decide +kernel⟩

theorem witness_PackagesAndImages_4 : ∃ (s : State) (m : MasterId) (r : BitVec 128), (OwnerServed m s) ∧ (s.ftest.run = none) ∧ (fencedIdle s
    (runUnit r) = true) ∧ (runForm s r = true) :=
  ⟨{ owned with ftest.state := 2, ftest.pkg := [(0x0C, 4), (0x0E, 2)], arrays.arr := [(1, { fenced := true })] }, 0, BitVec.ofNat 128 (0x4001 * 2 ^ 80 + 40 * 2 ^ 56 + 2 ^ 24),
    by unfold OwnerServed DictionaryServed; decide +kernel⟩

theorem witness_PackagesAndImages_5 : ∃ (s : State) (m : MasterId), (OwnerServed m s) :=
  ⟨owned, 0, by unfold OwnerServed DictionaryServed; decide +kernel⟩

theorem witness_PackagesAndImages_6 : ∃ (s : State) (m : MasterId) (d : Line), (OwnerServed m s) ∧ (s.fw.offset + 64 ≤ imageMax) :=
  ⟨{ owned with fw.state := 1 }, 0, 5, by unfold OwnerServed DictionaryServed; decide +kernel⟩

theorem witness_PackagesAndImages_7 : ∃ (s : State) (m : MasterId), (OwnerServed m s) :=
  ⟨owned, 0, by unfold OwnerServed DictionaryServed; decide +kernel⟩

theorem witness_PackagesAndImages_8 : ∃ (s : State) (m : MasterId), (OwnerServed m s) ∧ (s.fw.state = 4) ∧ (s.ftest.run = none) :=
  ⟨{ owned with fw.state := 4 }, 0, by unfold OwnerServed DictionaryServed; decide +kernel⟩

/-! `SpdmRequestsAndSessions` -/

theorem witness_SpdmRequestsAndSessions_1 : ∃ (s : State) (v : Via), (SpdmServed v s) :=
  ⟨owned, .doe 0, by unfold SpdmServed; decide +kernel⟩

theorem witness_SpdmRequestsAndSessions_2 : ∃ (s : State) (v : Via), (SpdmServed v s) :=
  ⟨owned, .doe 0, by unfold SpdmServed; decide +kernel⟩

theorem witness_SpdmRequestsAndSessions_3 : ∃ (s : State) (v : Via), (SpdmServed v s) :=
  ⟨owned, .doe 0, by unfold SpdmServed; decide +kernel⟩

theorem witness_SpdmRequestsAndSessions_4 : ∃ (s : State) (v : Via), (SpdmServed v s) :=
  ⟨owned, .doe 0, by unfold SpdmServed; decide +kernel⟩

theorem witness_SpdmRequestsAndSessions_5 : ∃ (s : State) (v : Via) (o : BitVec 16) (n : BitVec 16), (SpdmServed v s) :=
  ⟨owned, .doe 0, 1, 3, by unfold SpdmServed; decide +kernel⟩

theorem witness_SpdmRequestsAndSessions_6 : ∃ (s : State) (v : Via) (msg : List Byte), (SpdmServed v s) :=
  ⟨owned, .doe 0, [], by unfold SpdmServed; decide +kernel⟩

theorem witness_SpdmRequestsAndSessions_7 : ∃ (s : State) (v : Via) (msg : List Byte), (SpdmServed v s) :=
  ⟨owned, .doe 0, [], by unfold SpdmServed; decide +kernel⟩

theorem witness_SpdmRequestsAndSessions_8 : ∃ (s : State) (v : Via) (msg : List Byte), (SpdmServed v s) :=
  ⟨owned, .doe 0, [], by unfold SpdmServed; decide +kernel⟩

theorem witness_SpdmRequestsAndSessions_9 : ∃ (s : State) (v : Via) (msg : List Byte), (SpdmServed v s) :=
  ⟨owned, .doe 0, [], by unfold SpdmServed; decide +kernel⟩

theorem witness_SpdmRequestsAndSessions_10 : ∃ (s : State) (v : Via) (msg : List Byte), (SpdmServed v s) ∧ (s.sec.sessions.length < 64) :=
  ⟨owned, .doe 0, [1], by unfold SpdmServed; decide +kernel⟩

theorem witness_SpdmRequestsAndSessions_11 : ∃ (s : State) (v : Via) (msg : List Byte), (SpdmServed v s) ∧ (64 ≤ s.sec.sessions.length) :=
  ⟨{ owned with sec.sessions := List.replicate 64 ⟨5, 0, true, true, 0, 0, 0⟩ }, .doe 0, [], by unfold SpdmServed; decide +kernel⟩

theorem witness_SpdmRequestsAndSessions_12 : ∃ (s : State) (v : Via) (id : Nat) (d : BitVec 384) (m : Bool), (SpdmServed v s) ∧ (openSession s id =
    true) :=
  ⟨{ owned with sec.sessions := [⟨5, 0, false, false, 0, 0, 0⟩] }, .doe 0, 5, 9, true, by unfold SpdmServed; decide +kernel⟩

theorem witness_SpdmRequestsAndSessions_13 : ∃ (s : State) (v : Via) (id : Nat) (d : BitVec 384) (m : Bool), (SpdmServed v s) ∧ (openSession s id =
    true) :=
  ⟨owned, .doe 0, 5, 0, true, by unfold SpdmServed; decide +kernel⟩

theorem witness_SpdmRequestsAndSessions_14 : ∃ (s : State) (v : Via) (id : Nat), (SpdmServed v s) ∧ ((findSession s id).isSome = true) :=
  ⟨owned, .doe 0, 5, by unfold SpdmServed; decide +kernel⟩

theorem witness_SpdmRequestsAndSessions_15 : ∃ (s : State) (v : Via) (id : Nat), (SpdmServed v s) :=
  ⟨owned, .doe 0, 5, by unfold SpdmServed; decide +kernel⟩

theorem witness_SpdmRequestsAndSessions_16 : ∃ (s : State) (v : Via) (id : Nat) (x : Session), (SpdmServed v s) ∧ (findSession s id = some x) :=
  ⟨owned, .doe 0, 5, ⟨5, 0, true, true, 0, 0, 0⟩, by unfold SpdmServed; decide +kernel⟩

theorem witness_SpdmRequestsAndSessions_17 : ∃ (s : State) (v : Via) (id : Nat), (SpdmServed v s) ∧ ((findSession s id).isSome = true) :=
  ⟨owned, .doe 0, 5, by unfold SpdmServed; decide +kernel⟩

theorem witness_SpdmRequestsAndSessions_18 : ∃ (s : State) (p : HostId) (k : Nat), (SpdmServed (.doe p) s) :=
  ⟨owned, 0, 4, by unfold SpdmServed; decide +kernel⟩

/-! `TenantsOwnTheirContexts` -/

theorem witness_TenantsOwnTheirContexts_1 : ∃ (s : State) (v : Via) (id : Nat) (c : CtxId) (x : Session) (slots : List KeySlotId), ((SpdmServed v s)
    ∧ (findSession s id = some x) ∧ (tget none s.sec.conf c = none) ∧ (obj s 0x9400 0x0B 0 ≠ 1) ∧ (ctxState s c = 0) ∧ (createOk s c = true) ∧
    (slots.length ≤ 4)) ∧ ((∀ k ∈ slots, (getSlot s k).key = none)) :=
  ⟨{ owned with sched.ctx := [(7, BitVec.ofNat 512 (2 ^ 116 + 2000 * 2 ^ 224))], tu.spaces := [(1, 1)] }, .doe 0, 5, 7, ⟨5, 0, true, true, 0, 0, 0⟩, [3, 4],
    by unfold SpdmServed; decide +kernel, fun _ _ => rfl⟩

theorem witness_TenantsOwnTheirContexts_2 : ∃ (s : State) (v : Via) (id : Nat) (c : CtxId) (slots : List KeySlotId), (SpdmServed v s) ∧
    ((findSession s id).isSome = true) ∧ (tget none s.sec.conf c = none) ∧ (obj s 0x9400 0x0B 0 = 1) :=
  ⟨{ owned with objs := [(okey 0x9400 0x0B, some 1)] }, .doe 0, 5, 7, [], by unfold SpdmServed; decide +kernel⟩

theorem witness_TenantsOwnTheirContexts_3 : ∃ (s : State) (v : Via) (id : Nat) (c : Nat) (x : ConfCtx) (l : PeerId) (w : Fin 64), (SpdmServed v s) ∧
    ((findSession s id).isSome = true) ∧ (boundContext s id = some c) ∧ (tget none s.sec.conf c = some x) :=
  ⟨{ owned with sched.ctx := [(7, BitVec.ofNat 512 (2 ^ 52 + 2 ^ 109))], sec.conf := [(7, some { session := some 5 })] }, .doe 0, 5, 7, { session := some 5 }, 0, 4,
    by unfold SpdmServed; decide +kernel⟩

theorem witness_TenantsOwnTheirContexts_4 : ∃ (s : State) (v : Via) (id : Nat) (a : ConfAllow), (SpdmServed v s) ∧ ((findSession s id).isSome =
    true) ∧ (boundContext s id = none) :=
  ⟨owned, .doe 0, 5, .hostWindow 0 1, by unfold SpdmServed; decide +kernel⟩

theorem witness_TenantsOwnTheirContexts_5 : ∃ (s : State) (v : Via) (id : Nat) (c : CtxId), (SpdmServed v s) ∧ (s.ports = []) ∧ ((findSession s
    id).isSome = true) ∧ (boundContext s id = some c.val) ∧ (ctxState s c = 1) :=
  ⟨{ owned with sched.ctx := [(7, BitVec.ofNat 512 (2 ^ 52 + 2 ^ 109))], sec.conf := [(7, some { session := some 5 })] }, .doe 0, 5, 7,
    by unfold SpdmServed; decide +kernel⟩

/-! `HostPortsCreditsAndReadbacks` -/

theorem witness_HostPortsCreditsAndReadbacks_1 : ∃ (s : State) (p : HostId) (k : HostId), (s.acts = []) ∧ (linkOn s = true) ∧ (p ≠ k) ∧ (hostUp s p
    = true) ∧ (hostUp s k = true) ∧ (s.ports = []) ∧ (s.coh.missing = []) ∧ (s.coh.evicting = []) ∧ (RecordsQuietly s) :=
  ⟨{ ready with hosts := [(0, { link := 2, asked := [5], readbacks := [3] }), (1, { link := 2 })] }, 0, 1, by unfold RecordsQuietly; decide +kernel⟩

theorem witness_HostPortsCreditsAndReadbacks_2 : ∃ (s : State) (p : PortId), (s.acts = []) ∧ (fabOn s = true) ∧ ((getPort s p).ops = []) ∧ ((getPort
    s p).held = []) :=
  ⟨{ ready with ports := [(0, { respCredits := 3 })] }, 0, by decide +kernel⟩

theorem witness_HostPortsCreditsAndReadbacks_3 : ∃ (s : State) (p : PortId), (s.acts = []) ∧ (fabOn s = true) ∧ ((getPort s p).ops = []) ∧ ((getPort
    s p).held = []) :=
  ⟨ready, 0, by decide +kernel⟩

theorem witness_HostPortsCreditsAndReadbacks_4 : ∃ (s : State) (p : PortId) (a : Answer) (st : Nat) (tag : BitVec 10), (s.acts = []) ∧ (fabOn s =
    true) ∧ ((getPort s p).ops = []) ∧ ((getPort s p).held = [.response a st tag]) ∧ ((getPort s p).respCredits = 0) :=
  ⟨{ ready with ports := [(0, { respCredits := 0, held := [.response ⟨.ok, false, 5⟩ 2 7] })] }, 0, ⟨.ok, false, 5⟩, 2, 7, by decide +kernel⟩

theorem witness_HostPortsCreditsAndReadbacks_5 : ∃ (s : State) (p : HostId) (n : Nat), (s.acts = []) ∧ (fabOn s = true) ∧ (s.ports = []) ∧
    (s.arrays.arr = []) ∧ (s.queues = []) ∧ (hostUp s p = true) ∧ ((getHost s p).link ≠ 5) ∧ ((getHost s p).readbacks = [n]) :=
  ⟨{ ready with hosts := [(0, { link := 2, readbacks := [4] })] }, 0, 4, by decide +kernel⟩

theorem witness_HostPortsCreditsAndReadbacks_6 : ∃ (s : State) (p : HostId), (s.acts = []) ∧ (fabOn s = true) ∧ ((getHost s p).link = 5) :=
  ⟨{ ready with hosts := [(0, { link := 5, readbacks := [4] })] }, 0, by decide +kernel⟩

/-! `RegisterWritesAreServed` -/

theorem witness_RegisterWritesAreServed_1 : ∃ (s : State) (w : Requester) (d : Word) (ext : Ext), (RegServed s) :=
  ⟨ready, .host 0, 77, [], by unfold RegServed; decide +kernel⟩

theorem witness_RegisterWritesAreServed_2 : ∃ (s : State) (w : Requester) (d : Word) (ext : Ext), (RegServed s) :=
  ⟨ready, .host 0, 77, [], by unfold RegServed; decide +kernel⟩

theorem witness_RegisterWritesAreServed_3 : ∃ (s : State) (w : Requester) (d : Word) (ext : Ext), (RegServed s) :=
  ⟨ready, .host 0, 77, [], by unfold RegServed; decide +kernel⟩

theorem witness_RegisterWritesAreServed_4 : ∃ (s : State) (w : Requester) (o : Fin 0x8000000) (n : Fin 9) (d : Word) (ext : Ext), (RegServed s) ∧
    (regAt (o.val / 8 * 8) = none) :=
  ⟨ready, .core 3 0 7, 0x7000000, 8, 77, [], by unfold RegServed; decide +kernel⟩

theorem witness_RegisterWritesAreServed_5 : ∃ (s : State) (w : Requester) (d : Word) (ext : Ext), (RegServed s) :=
  ⟨ready, .host 0, 77, [], by unfold RegServed; decide +kernel⟩

theorem witness_RegisterWritesAreServed_6 : ∃ (s : State) (w : Requester) (o : Fin 0x8000000) (n : Fin 9) (d : Word) (ext : Ext), (aonRuns s = true)
    ∧ (s.start.inReset = false) ∧ (regStage s = 0) ∧ (s.asleep = false) ∧ (s.acts = []) :=
  ⟨{ ready with start.state := 0, start.step := 2 }, .host 0, 0x20, 8, 0, [], by decide +kernel⟩

/-! `RingsAndQueueRegistersAct` -/

theorem witness_RingsAndQueueRegistersAct_1 : ∃ (s : State) (w : Requester) (d : Word), (RegServed s) ∧ (ringBaseOk [.stacks, .host] (d.toNat % 2 ^
    52) = true) :=
  ⟨ready, .core 3 0 7, 0x5000, by unfold RegServed; decide +kernel⟩

theorem witness_RingsAndQueueRegistersAct_2 : ∃ (s : State) (w : Requester) (d : Word), (RegServed s) ∧ (ringBaseOk [.stacks, .host] (d.toNat % 2 ^
    52) = false) :=
  ⟨ready, .host 0, 0x5008, by unfold RegServed; decide +kernel⟩

theorem witness_RingsAndQueueRegistersAct_3 : ∃ (s : State) (w : Requester) (d : Word), (RegServed s) ∧ (6 ≤ d.toNat) ∧ (d.toNat ≤ 16) :=
  ⟨ready, .host 0, 8, by unfold RegServed; decide +kernel⟩

theorem witness_RingsAndQueueRegistersAct_4 : ∃ (s : State) (w : Requester) (d : Word), (RegServed s) ∧ (s.sync.parked = []) ∧ (ringBaseOk [.host]
    (d.toNat % 2 ^ 52) = true) :=
  ⟨ready, .host 0, 0x4000000005000, by unfold RegServed; decide +kernel⟩

theorem witness_RingsAndQueueRegistersAct_5 : ∃ (s : State) (w : Requester) (d : Word), (RegServed s) ∧ ((d.toNat < 6 ∨ 16 < d.toNat)) :=
  ⟨ready, .host 0, 17, by unfold RegServed; decide +kernel⟩

theorem witness_RingsAndQueueRegistersAct_6 : ∃ (s : State) (w : Requester) (d : Word), (RegServed s) ∧ (ringBaseOk [.stacks, .scratch, .host]
    (d.toNat % 2 ^ 52) = true) :=
  ⟨ready, .host 0, 0x1000000005000, by unfold RegServed; decide +kernel⟩

theorem witness_RingsAndQueueRegistersAct_7 : ∃ (s : State) (w : Requester), (RegServed s) :=
  ⟨ready, .host 0, by unfold RegServed; decide +kernel⟩

theorem witness_RingsAndQueueRegistersAct_8 : ∃ (s : State) (w : Requester) (d : Word), (RegServed s) ∧ (16 < d.toNat) :=
  ⟨ready, .host 0, 17, by unfold RegServed; decide +kernel⟩

theorem witness_RingsAndQueueRegistersAct_9 : ∃ (s : State) (w : Requester) (q : QueueId) (d : Word), (RegServed s) ∧ (doorbellOk q (getQueue s q) d
    = true) ∧ (s.freeze.hold = 0) :=
  ⟨{ ready with sched.ctx := [(7, BitVec.ofNat 512 (2 ^ 52))], queues := [(0, { cfg := BitVec.ofNat 256 (1 + 4 * 2 ^ 42 + 4 * 2 ^ 47 + 7 * 2 ^ 52 + 2 ^ 114 + (2 ^ 50 + 2 ^ 20) * 2 ^ 128 + 0), state := 1, prod := 2, cons := 1 })] }, .host 0, 0, 5,
    by unfold RegServed; decide +kernel⟩

theorem witness_RingsAndQueueRegistersAct_10 : ∃ (s : State) (w : Requester) (q : QueueId) (d : Word), (RegServed s) ∧ (doorbellOk q (getQueue s q)
    d = false) ∧ ((subMod 32 (fld d 0 32) (getQueue s q).prod ≠ 0 ∨ fld d 48 14 ≠ q.val)) :=
  ⟨{ ready with sched.ctx := [(7, BitVec.ofNat 512 (2 ^ 52))], queues := [(0, { cfg := BitVec.ofNat 256 (1 + 4 * 2 ^ 42 + 4 * 2 ^ 47 + 7 * 2 ^ 52 + 2 ^ 114 + (2 ^ 50 + 2 ^ 20) * 2 ^ 128 + 0), state := 1, prod := 2, cons := 1 })] }, .host 0, 0, 50,
    by unfold RegServed; decide +kernel⟩

theorem witness_RingsAndQueueRegistersAct_11 : ∃ (s : State) (w : Requester) (q : QueueId) (d : Word), (RegServed s) ∧ (subMod 32 (fld d 0 32)
    (getQueue s q).cqCons ≤ subMod 32 (getQueue s q).cqProd (getQueue s q).cqCons) :=
  ⟨{ ready with sched.ctx := [(7, BitVec.ofNat 512 (2 ^ 52))], queues := [(0, { cfg := BitVec.ofNat 256 (1 + 4 * 2 ^ 42 + 4 * 2 ^ 47 + 7 * 2 ^ 52 + 2 ^ 114 + (2 ^ 50 + 2 ^ 20) * 2 ^ 128 + 0), state := 1, cqProd := 5, cqCons := 2 })] }, .host 0, 0, 4,
    by unfold RegServed; decide +kernel⟩

theorem witness_RingsAndQueueRegistersAct_12 : ∃ (s : State) (w : Requester) (q : QueueId) (d : Word), (RegServed s) ∧ (subMod 32 (getQueue s
    q).cqProd (getQueue s q).cqCons < subMod 32 (fld d 0 32) (getQueue s q).cqCons) :=
  ⟨{ ready with sched.ctx := [(7, BitVec.ofNat 512 (2 ^ 52))], queues := [(0, { cfg := BitVec.ofNat 256 (1 + 4 * 2 ^ 42 + 4 * 2 ^ 47 + 7 * 2 ^ 52 + 2 ^ 114 + (2 ^ 50 + 2 ^ 20) * 2 ^ 128 + 0), state := 1, cqProd := 5, cqCons := 2 })] }, .host 0, 0, 7,
    by unfold RegServed; decide +kernel⟩

theorem witness_RingsAndQueueRegistersAct_13 : ∃ (s : State) (w : Requester) (q : QueueId) (d : Word) (ext : Ext) (cfg : BitVec 256), (RegServed s)
    ∧ (qEnable (getQueue s q).cfg = false) ∧ ((getQueue s q).state = 0) ∧ ((getQueue s q).jrn.state ≠ 2) ∧ (cfg = BitVec.ofNat 256 (putBits
    (getQueue s q).cfg.toNat 0 64 (qcfgMask 0 (d ||| 1).toNat))) ∧ (configOk s { getQueue s q with cfg := cfg } = true) :=
  ⟨{ ready with sched.ctx := [(7, BitVec.ofNat 512 (2 ^ 52))], queues := [(0, { cfg := BitVec.ofNat 256 (0 + 4 * 2 ^ 42 + 4 * 2 ^ 47 + 7 * 2 ^ 52 + 2 ^ 114 + (2 ^ 50 + 2 ^ 20) * 2 ^ 128 + 0), state := 0 })] }, .host 0, 0, 4 * 2 ^ 42 + 4 * 2 ^ 47 + 7 * 2 ^ 52, [], BitVec.ofNat 256 (1 + 4 * 2 ^ 42 + 4 * 2 ^ 47 + 7 * 2 ^ 52 + 2 ^ 114 + (2 ^ 50 + 2 ^ 20) * 2 ^ 128 + 0),
    by unfold RegServed; decide +kernel⟩

theorem witness_RingsAndQueueRegistersAct_14 : ∃ (s : State) (w : Requester) (q : QueueId) (d : Word) (ext : Ext) (cfg : BitVec 256), (RegServed s)
    ∧ (qEnable (getQueue s q).cfg = false) ∧ ((getQueue s q).jrn.state ≠ 2) ∧ (cfg = BitVec.ofNat 256 (putBits (getQueue s q).cfg.toNat 0 64
    (qcfgMask 0 (d ||| 1).toNat))) ∧ (configOk s { getQueue s q with cfg := cfg } = false) :=
  ⟨{ ready with sched.ctx := [(7, BitVec.ofNat 512 (2 ^ 52))], queues := [(0, { cfg := BitVec.ofNat 256 (0 + 4 * 2 ^ 42 + 4 * 2 ^ 47 + 7 * 2 ^ 52 + 2 ^ 114 + (2 ^ 50 + 2 ^ 20) * 2 ^ 128 + 0), state := 0 })] }, .host 0, 0, 0, [], BitVec.ofNat 256 (1 + 2 ^ 114 + (2 ^ 50 + 2 ^ 20) * 2 ^ 128),
    by unfold RegServed; decide +kernel⟩

theorem witness_RingsAndQueueRegistersAct_15 : ∃ (s : State) (w : Requester) (q : QueueId) (d : Word), (RegServed s) ∧ (qEnable (getQueue s q).cfg =
    true) ∧ ((getQueue s q).state ≠ 0) ∧ ((getQueue s q).jrn.state ≠ 2) :=
  ⟨{ ready with sched.ctx := [(7, BitVec.ofNat 512 (2 ^ 52))], queues := [(0, { cfg := BitVec.ofNat 256 (1 + 4 * 2 ^ 42 + 4 * 2 ^ 47 + 7 * 2 ^ 52 + 2 ^ 114 + (2 ^ 50 + 2 ^ 20) * 2 ^ 128 + 0), state := 1 })] }, .host 0, 0, 0,
    by unfold RegServed; decide +kernel⟩

theorem witness_RingsAndQueueRegistersAct_16 : ∃ (s : State) (w : Requester) (q : QueueId) (d : Word), (RegServed s) ∧ (fld d 0 2 = 1) ∧ ((getQueue
    s q).state = 2) ∧ ((getQueue s q).stop ≠ 0x31) ∧ ((getQueue s q).jrn.state ≠ 2) :=
  ⟨{ ready with sched.ctx := [(7, BitVec.ofNat 512 (2 ^ 52))], queues := [(0, { cfg := BitVec.ofNat 256 (1 + 4 * 2 ^ 42 + 4 * 2 ^ 47 + 7 * 2 ^ 52 + 2 ^ 114 + (2 ^ 50 + 2 ^ 20) * 2 ^ 128 + 0), state := 2, stop := 0x10, cons := 3 })] }, .host 0, 0, 1,
    by unfold RegServed; decide +kernel⟩

theorem witness_RingsAndQueueRegistersAct_17 : ∃ (s : State) (w : Requester) (q : QueueId) (d : Word), (RegServed s) ∧ (((getQueue s q).state ≠ 2 ∨
    (getQueue s q).stop = 0x31)) :=
  ⟨{ ready with sched.ctx := [(7, BitVec.ofNat 512 (2 ^ 52))], queues := [(0, { cfg := BitVec.ofNat 256 (1 + 4 * 2 ^ 42 + 4 * 2 ^ 47 + 7 * 2 ^ 52 + 2 ^ 114 + (2 ^ 50 + 2 ^ 20) * 2 ^ 128 + 0), state := 1 })] }, .host 0, 0, 1,
    by unfold RegServed; decide +kernel⟩

theorem witness_RingsAndQueueRegistersAct_18 : ∃ (s : State) (w : Requester) (q : QueueId) (d : Word), (RegServed s) ∧ (qEnable (getQueue s q).cfg =
    false) ∧ ((getQueue s q).jrn.state ≠ 2) :=
  ⟨{ ready with sched.ctx := [(7, BitVec.ofNat 512 (2 ^ 52))], queues := [(0, { cfg := BitVec.ofNat 256 (0 + 4 * 2 ^ 42 + 4 * 2 ^ 47 + 7 * 2 ^ 52 + 2 ^ 114 + (2 ^ 50 + 2 ^ 20) * 2 ^ 128 + 0), state := 0 })] }, .host 0, 0, 0x123456789ABCDEF,
    by unfold RegServed; decide +kernel⟩

theorem witness_RingsAndQueueRegistersAct_19 : ∃ (s : State) (w : Requester) (q : QueueId) (d : Word), (RegServed s) ∧ (qEnable (getQueue s q).cfg =
    true) ∧ ((getQueue s q).jrn.state ≠ 2) :=
  ⟨{ ready with sched.ctx := [(7, BitVec.ofNat 512 (2 ^ 52))], queues := [(0, { cfg := BitVec.ofNat 256 (1 + 4 * 2 ^ 42 + 4 * 2 ^ 47 + 7 * 2 ^ 52 + 2 ^ 114 + (2 ^ 50 + 2 ^ 20) * 2 ^ 128 + 0), state := 1 })] }, .host 0, 0, 0,
    by unfold RegServed; decide +kernel⟩

theorem witness_RingsAndQueueRegistersAct_20 : ∃ (s : State) (w : Requester) (q : QueueId) (d : Word), (RegServed s) ∧ ((getQueue s q).jrn.state =
    2) ∧ (BitVec.ofNat 64 (putBits d.toNat 0 20 0) ≠ (getQueue s q).jrn.keptStage) :=
  ⟨{ ready with sched.ctx := [(7, BitVec.ofNat 512 (2 ^ 52))], queues := [(0, { cfg := BitVec.ofNat 256 (1 + 4 * 2 ^ 42 + 4 * 2 ^ 47 + 7 * 2 ^ 52 + 2 ^ 114 + (2 ^ 50 + 2 ^ 20) * 2 ^ 128 + 0), state := 1, jrn := { state := 2 } })] }, .host 0, 0, 2 ^ 20,
    by unfold RegServed; decide +kernel⟩

theorem witness_RingsAndQueueRegistersAct_21 : ∃ (s : State) (w : Requester) (q : QueueId) (d : Word), (RegServed s) ∧ (fld d 0 2 = 2) ∧ ((getQueue
    s q).jrn.state = 2) ∧ (s.arrays.arr = []) ∧ (s.sync.watches = []) ∧ ((∀ c ∈ (getQueue s q).cmds, c.engine = none)) :=
  ⟨{ ready with sched.ctx := [(7, BitVec.ofNat 512 (2 ^ 52))], queues := [(0, { cfg := BitVec.ofNat 256 (1 + 4 * 2 ^ 42 + 4 * 2 ^ 47 + 7 * 2 ^ 52 + 2 ^ 114 + (2 ^ 50 + 2 ^ 20) * 2 ^ 128 + 0), state := 1, jrn := { state := 2, frames := [1] }, cmds := [{ command with engine := none }] })] }, .host 0, 0, 2,
    by unfold RegServed; decide +kernel⟩

theorem witness_RingsAndQueueRegistersAct_22 : ∃ (s : State) (w : Requester) (q : QueueId) (d : Word), (RegServed s) ∧ (fld d 0 2 ≠ 2) :=
  ⟨{ ready with sched.ctx := [(7, BitVec.ofNat 512 (2 ^ 52))], queues := [(0, { cfg := BitVec.ofNat 256 (1 + 4 * 2 ^ 42 + 4 * 2 ^ 47 + 7 * 2 ^ 52 + 2 ^ 114 + (2 ^ 50 + 2 ^ 20) * 2 ^ 128 + 0), state := 1 })] }, .host 0, 0, 0,
    by unfold RegServed; decide +kernel⟩

/-! `ContextsAreWrittenAndMoved` -/

theorem witness_ContextsAreWrittenAndMoved_1 : ∃ (s : State) (w : Requester) (c : CtxId) (d : Word), (RegServed s) :=
  ⟨ready, .host 0, 7, 0x123456789, by unfold RegServed; decide +kernel⟩

theorem witness_ContextsAreWrittenAndMoved_2 : ∃ (s : State) (w : Requester) (c : CtxId) (d : Word), (RegServed s) ∧ (ctxState s c = 0) :=
  ⟨ready, .host 0, 7, 0x123456789, by unfold RegServed; decide +kernel⟩

theorem witness_ContextsAreWrittenAndMoved_3 : ∃ (s : State) (w : Requester) (c : CtxId) (k : Fin 8) (d : Word), (RegServed s) ∧ (ctxState s c ≠ 0)
    ∧ (4 ≤ k.val) :=
  ⟨{ ready with sched.ctx := [(7, BitVec.ofNat 512 (2 ^ 52))] }, .host 0, 7, 5, 9, by unfold RegServed; decide +kernel⟩

theorem witness_ContextsAreWrittenAndMoved_4 : ∃ (s : State) (w : Requester) (c : CtxId) (k : Fin 8) (d : Word), (RegServed s) ∧ ((k = 0 ∨ k = 2)) :=
  ⟨ready, .host 0, 7, 0, 0x123456789, by unfold RegServed; decide +kernel⟩

theorem witness_ContextsAreWrittenAndMoved_5 : ∃ (s : State) (w : Requester) (c : CtxId), (RegServed s) ∧ (ctxState s c = 0) ∧ (createOk s c = true)
    :=
  ⟨{ ready with sched.ctx := [(7, BitVec.ofNat 512 (0 * 2 ^ 52 + 2 ^ 116 + 2000 * 2 ^ 224))], tu.spaces := [(1, 1)] }, .host 0, 7,
    by unfold RegServed; decide +kernel⟩

theorem witness_ContextsAreWrittenAndMoved_6 : ∃ (s : State) (w : Requester) (c : CtxId), (RegServed s) ∧ ((ctxState s c ≠ 0 ∨ createOk s c =
    false)) :=
  ⟨{ ready with sched.ctx := [(7, BitVec.ofNat 512 (1 * 2 ^ 52 + 2 ^ 116 + 2000 * 2 ^ 224))], tu.spaces := [(1, 1)] }, .host 0, 7,
    by unfold RegServed; decide +kernel⟩

theorem witness_ContextsAreWrittenAndMoved_7 : ∃ (s : State) (w : Requester) (c : CtxId), (RegServed s) ∧ (ctxState s c = 1) :=
  ⟨{ ready with sched.ctx := [(7, BitVec.ofNat 512 (1 * 2 ^ 52 + 2 ^ 116 + 2000 * 2 ^ 224))], tu.spaces := [(1, 1)] }, .host 0, 7,
    by unfold RegServed; decide +kernel⟩

theorem witness_ContextsAreWrittenAndMoved_8 : ∃ (s : State) (w : Requester) (c : CtxId), (RegServed s) ∧ (s.ports = []) ∧ (ctxState s c = 2) :=
  ⟨{ ready with sched.ctx := [(7, BitVec.ofNat 512 (2 * 2 ^ 52 + 2 ^ 116 + 2000 * 2 ^ 224))], tu.spaces := [(1, 1)] }, .host 0, 7,
    by unfold RegServed; decide +kernel⟩

theorem witness_ContextsAreWrittenAndMoved_9 : ∃ (s : State) (w : Requester) (c : CtxId), (RegServed s) ∧ (s.ports = []) ∧ (ctxState s c = 1 ∨
    ctxState s c = 2) :=
  ⟨{ ready with sched.ctx := [(7, BitVec.ofNat 512 (1 * 2 ^ 52 + 2 ^ 116 + 2000 * 2 ^ 224))], tu.spaces := [(1, 1)] }, .host 0, 7,
    by unfold RegServed; decide +kernel⟩

theorem witness_ContextsAreWrittenAndMoved_10 : ∃ (s : State) (w : Requester) (c : CtxId), (RegServed s) ∧ (s.ports = []) ∧ (s.queues = []) ∧
    (s.arrays.arr = []) ∧ (ctxState s c = 1 ∨ ctxState s c = 2 ∨ ctxState s c = 3) :=
  ⟨{ ready with sched.ctx := [(7, BitVec.ofNat 512 (1 * 2 ^ 52 + 2 ^ 116 + 2000 * 2 ^ 224))], tu.spaces := [(1, 1)], sched.seqs := [(9, BitVec.ofNat 512 (2 ^ 28 + 7 * 2 ^ 34))] }, .host 0, 7,
    by unfold RegServed; decide +kernel⟩

theorem witness_ContextsAreWrittenAndMoved_11 : ∃ (s : State) (w : Requester) (c : CtxId), (RegServed s) ∧ (ctxState s c = 1 ∨ ctxState s c = 2) :=
  ⟨{ ready with sched.ctx := [(7, BitVec.ofNat 512 (1 * 2 ^ 52 + 2 ^ 116 + 2000 * 2 ^ 224))], tu.spaces := [(1, 1)] }, .host 0, 7,
    by unfold RegServed; decide +kernel⟩

theorem witness_ContextsAreWrittenAndMoved_12 : ∃ (s : State) (c : CtxId), (fabOn s = true) ∧ (s.acts = []) ∧ (ctxState s c = 3) ∧ (ctxBusy s c =
    false) :=
  ⟨{ ready with sched.ctx := [(7, BitVec.ofNat 512 (3 * 2 ^ 52 + 2 ^ 116 + 2000 * 2 ^ 224))], tu.spaces := [(1, 1)] }, 7, by decide +kernel⟩

theorem witness_ContextsAreWrittenAndMoved_13 : ∃ (s : State) (c : CtxId), (fabOn s = true) ∧ (s.acts = []) ∧ (ctxState s c = 3) ∧ (ctxBusy s c =
    true) :=
  ⟨{ ready with sched.ctx := [(7, BitVec.ofNat 512 (3 * 2 ^ 52 + 2 ^ 116 + 2000 * 2 ^ 224))], tu.spaces := [(1, 1)], queues := [(0, { cfg := BitVec.ofNat 256 (1 + 4 * 2 ^ 42 + 4 * 2 ^ 47 + 7 * 2 ^ 52 + 2 ^ 114 + (2 ^ 50 + 2 ^ 20) * 2 ^ 128 + 0), cmds := [{ command with engine := none }] })] }, 7,
    by decide +kernel⟩

theorem witness_ContextsAreWrittenAndMoved_14 : ∃ (s : State) (c : CtxId), (fabOn s = true) ∧ (s.acts = []) ∧ (ctxState s c = 4) ∧ (s.sync.watches =
    []) ∧ (s.sync.ctrl = []) ∧ (s.mem.slots = []) ∧ (s.peers = []) :=
  ⟨{ ready with sched.ctx := [(7, BitVec.ofNat 512 (4 * 2 ^ 52 + 2 ^ 116 + 2000 * 2 ^ 224))], tu.spaces := [(1, 1)] }, 7, by decide +kernel⟩

/-! `SequenceCommandsMoveTheSequence` -/

theorem witness_SequenceCommandsMoveTheSequence_1 : ∃ (s : State) (w : Requester) (raw : BitVec 128) (ext : Ext) (e : BitVec 512), (RegServed s) ∧
    (target (fld raw 82 46 * 64) = .host) ∧ (e = ofBytes 512 ((List.range 64).map fun i => extByte s ext (fld raw 82 46 * 64 + i))) ∧ (sqState
    (getSeq s (fld raw 46 18)) = 0) ∧ (fld e 46 18 = fld raw 46 18) ∧ (imageZero e = true) ∧ (fld e 128 32 < fld e 160 32) ∧ (sqCtx e = fld raw 34
    12) ∧ (ctxState s (fld raw 34 12) = 1) :=
  ⟨{ ready with sched.ctx := [(7, BitVec.ofNat 512 (2 ^ 52))] }, .host 0, BitVec.ofNat 128 (5 * 2 ^ 46 + 7 * 2 ^ 34 + 2 ^ 126), [(2 ^ 50 + 4, 0x1C), (2 ^ 50 + 5, 0x40), (2 ^ 50 + 6, 1), (2 ^ 50 + 20, 10)], BitVec.ofNat 512 (5 * 2 ^ 46 + 7 * 2 ^ 34 + 10 * 2 ^ 160),
    by unfold RegServed; decide +kernel⟩

theorem witness_SequenceCommandsMoveTheSequence_2 : ∃ (s : State) (w : Requester) (raw : BitVec 128) (ext : Ext), (RegServed s) ∧ (target (fld raw
    82 46 * 64) = .host) ∧ (sqState (getSeq s (fld raw 46 18)) ≠ 0) :=
  ⟨{ ready with sched.ctx := [(7, BitVec.ofNat 512 (2 ^ 52))], sched.seqs := [(5, BitVec.ofNat 512 (1 * 2 ^ 28 + 7 * 2 ^ 34 + 10 * 2 ^ 160 + 0))], hosts := [(0, { link := 2 })] }, .host 0, BitVec.ofNat 128 (5 * 2 ^ 46 + 7 * 2 ^ 34 + 2 ^ 126), [],
    by unfold RegServed; decide +kernel⟩

theorem witness_SequenceCommandsMoveTheSequence_3 : ∃ (s : State) (w : Requester) (raw : BitVec 128) (ext : Ext), ((RegServed s) ∧ (target (fld raw
    82 46 * 64) = .host)) ∧ (LinksCarry s) ∧ (proxyAlive s = true) ∧ (sqState (getSeq s (fld raw 46 18)) ≠ 0) ∧ (sqCtx (getSeq s (fld raw 46 18)) =
    fld raw 34 12) :=
  ⟨{ ready with sched.ctx := [(7, BitVec.ofNat 512 (2 ^ 52))], sched.seqs := [(5, BitVec.ofNat 512 (1 * 2 ^ 28 + 7 * 2 ^ 34 + 10 * 2 ^ 160 + 0))], hosts := [(0, { link := 2 })] }, .host 0, BitVec.ofNat 128 (5 * 2 ^ 46 + 7 * 2 ^ 34 + 2 ^ 126), [],
    by unfold RegServed; decide +kernel, links_carry (by decide +kernel), by decide +kernel⟩

theorem witness_SequenceCommandsMoveTheSequence_4 : ∃ (s : State) (w : Requester) (raw : BitVec 128) (ext : Ext), (RegServed s) ∧ (sqState (getSeq s
    (fld raw 46 18)) = 1) ∧ (sqCtx (getSeq s (fld raw 46 18)) = fld raw 34 12) ∧ (tokenDue (getSeq s (fld raw 46 18)) = false) :=
  ⟨{ ready with sched.ctx := [(7, BitVec.ofNat 512 (2 ^ 52))], sched.seqs := [(5, BitVec.ofNat 512 (1 * 2 ^ 28 + 7 * 2 ^ 34 + 10 * 2 ^ 160 + 0))], hosts := [(0, { link := 2 })] }, .host 0, BitVec.ofNat 128 (5 * 2 ^ 46 + 7 * 2 ^ 34 + 2 ^ 126), [],
    by unfold RegServed; decide +kernel⟩

theorem witness_SequenceCommandsMoveTheSequence_5 : ∃ (s : State) (w : Requester) (raw : BitVec 128) (ext : Ext), (RegServed s) ∧ (sqState (getSeq s
    (fld raw 46 18)) = 1) ∧ (sqCtx (getSeq s (fld raw 46 18)) = fld raw 34 12) ∧ (tokenDue (getSeq s (fld raw 46 18)) = true) :=
  ⟨{ ready with sched.ctx := [(7, BitVec.ofNat 512 (2 ^ 52))], sched.seqs := [(5, BitVec.ofNat 512 (1 * 2 ^ 28 + 7 * 2 ^ 34 + 10 * 2 ^ 160 + 2 ^ 224))], hosts := [(0, { link := 2 })] }, .host 0, BitVec.ofNat 128 (5 * 2 ^ 46 + 7 * 2 ^ 34 + 2 ^ 126), [],
    by unfold RegServed; decide +kernel⟩

theorem witness_SequenceCommandsMoveTheSequence_6 : ∃ (s : State) (w : Requester) (raw : BitVec 128) (ext : Ext), (RegServed s) ∧ (sqState (getSeq s
    (fld raw 46 18)) = 2) ∧ (sqCtx (getSeq s (fld raw 46 18)) = fld raw 34 12) :=
  ⟨{ ready with sched.ctx := [(7, BitVec.ofNat 512 (2 ^ 52))], sched.seqs := [(5, BitVec.ofNat 512 (2 * 2 ^ 28 + 7 * 2 ^ 34 + 10 * 2 ^ 160 + 0))], hosts := [(0, { link := 2 })] }, .host 0, BitVec.ofNat 128 (5 * 2 ^ 46 + 7 * 2 ^ 34 + 2 ^ 126), [],
    by unfold RegServed; decide +kernel⟩

theorem witness_SequenceCommandsMoveTheSequence_7 : ∃ (s : State) (w : Requester) (raw : BitVec 128) (ext : Ext), (RegServed s) ∧ (sqState (getSeq s
    (fld raw 46 18)) = 1 ∨ sqState (getSeq s (fld raw 46 18)) = 2) ∧ (sqCtx (getSeq s (fld raw 46 18)) = fld raw 34 12) :=
  ⟨{ ready with sched.ctx := [(7, BitVec.ofNat 512 (2 ^ 52))], sched.seqs := [(5, BitVec.ofNat 512 (1 * 2 ^ 28 + 7 * 2 ^ 34 + 10 * 2 ^ 160 + 2 ^ 224))], hosts := [(0, { link := 2 })] }, .host 0, BitVec.ofNat 128 (5 * 2 ^ 46 + 7 * 2 ^ 34 + 2 ^ 126), [],
    by unfold RegServed; decide +kernel⟩

theorem witness_SequenceCommandsMoveTheSequence_8 : ∃ (s : State) (w : Requester) (raw : BitVec 128) (ext : Ext), (RegServed s) ∧ (sqState (getSeq s
    (fld raw 46 18)) = 4) ∧ (sqCtx (getSeq s (fld raw 46 18)) = fld raw 34 12) :=
  ⟨{ ready with sched.ctx := [(7, BitVec.ofNat 512 (2 ^ 52))], sched.seqs := [(5, BitVec.ofNat 512 (4 * 2 ^ 28 + 7 * 2 ^ 34 + 10 * 2 ^ 160 + 0))], hosts := [(0, { link := 2 })] }, .host 0, BitVec.ofNat 128 (5 * 2 ^ 46 + 7 * 2 ^ 34 + 2 ^ 126), [],
    by unfold RegServed; decide +kernel⟩

theorem witness_SequenceCommandsMoveTheSequence_9 : ∃ (s : State) (w : Requester) (raw : BitVec 128) (ext : Ext), (RegServed s) ∧ (sqState (getSeq s
    (fld raw 46 18)) = 1) ∧ (sqCtx (getSeq s (fld raw 46 18)) ≠ fld raw 34 12) :=
  ⟨{ ready with sched.ctx := [(7, BitVec.ofNat 512 (2 ^ 52))], sched.seqs := [(5, BitVec.ofNat 512 (1 * 2 ^ 28 + 7 * 2 ^ 34 + 10 * 2 ^ 160 + 0))] }, .host 0, BitVec.ofNat 128 (5 * 2 ^ 46 + 8 * 2 ^ 34), [],
    by unfold RegServed; decide +kernel⟩

theorem witness_SequenceCommandsMoveTheSequence_10 : ∃ (s : State) (q : SeqId), (fabOn s = true) ∧ (s.acts = []) ∧ (sqState (getSeq s q) = 3) ∧
    (seqBusy s q = false) ∧ (flag (getSeq s q) 401 = false) :=
  ⟨{ ready with sched.ctx := [(7, BitVec.ofNat 512 (2 ^ 52))], sched.seqs := [(5, BitVec.ofNat 512 (3 * 2 ^ 28 + 7 * 2 ^ 34 + 10 * 2 ^ 160 + 0))] }, 5,
    by decide +kernel⟩

theorem witness_SequenceCommandsMoveTheSequence_11 : ∃ (s : State) (q : SeqId), (fabOn s = true) ∧ (s.acts = []) ∧ (sqState (getSeq s q) = 3) ∧
    (seqBusy s q = true) :=
  ⟨{ ready with sched.ctx := [(7, BitVec.ofNat 512 (2 ^ 52))], sched.seqs := [(5, BitVec.ofNat 512 (3 * 2 ^ 28 + 7 * 2 ^ 34 + 10 * 2 ^ 160 + 0))], arrays.arr := [(0, { courses := [{ course 0 (.queue 0 0) .running with id := 0, ctx := 7, bound := [(5, 1, 0)] }] })] }, 5,
    by decide +kernel⟩

/-! `TokensAndSnapshots` -/

theorem witness_TokensAndSnapshots_1 : ∃ (s : State) (p : HostId) (d : Word), (RegServed s) ∧ (tokenOk (getSeq s (fld d 0 18)) d none = true) :=
  ⟨{ ready with sched.ctx := [(7, BitVec.ofNat 512 (2 ^ 52))], sched.seqs := [(5, BitVec.ofNat 512 (1 * 2 ^ 28 + 7 * 2 ^ 34 + 10 * 2 ^ 160 + 2 ^ 224))] }, 0, BitVec.ofNat 64 (5 + 2 ^ 30 + 99 * 2 ^ 32),
    by unfold RegServed; decide +kernel⟩

theorem witness_TokensAndSnapshots_2 : ∃ (s : State) (w : Requester) (d : Word), (RegServed s) ∧ (tokenOk (getSeq s (fld d 0 18)) d (coreCtx w) =
    false) :=
  ⟨{ ready with sched.ctx := [(7, BitVec.ofNat 512 (2 ^ 52))], sched.seqs := [(5, BitVec.ofNat 512 (1 * 2 ^ 28 + 7 * 2 ^ 34 + 10 * 2 ^ 160 + 2 ^ 224))] }, .core 0 0 9, BitVec.ofNat 64 (5 + 2 ^ 30 + 99 * 2 ^ 32),
    by unfold RegServed; decide +kernel⟩

theorem witness_TokensAndSnapshots_3 : ∃ (s : State) (w : Requester) (raw : BitVec 128), ((RegServed s) ∧ (target (fld raw 64 45 * 128) = .host)) ∧
    (LinksCarry s) ∧ (proxyAlive s = true) ∧ (flag raw 0 = false) ∧ (flag raw 46 = false) :=
  ⟨{ ready with hosts := [(0, { link := 2 })], sched.acct := [(7, { engineTime := 5 })], aoncnt := 99 }, .host 0, BitVec.ofNat 128 (7 * 2 ^ 34 + 2 ^ 107),
    by unfold RegServed; decide +kernel, links_carry (by decide +kernel), by decide +kernel⟩

/-! `CounterRegistersAct` -/

theorem witness_CounterRegistersAct_1 : ∃ (s : State) (w : Requester) (c : CounterId) (d : Word), (RegServed s) ∧ (watched s c = false) :=
  ⟨{ ready with sync.value := [(5, 3), (6, 9)], sync.ctrl := [(6, 1)] }, .host 0, 5, 0x700000001, by unfold RegServed; decide +kernel⟩

theorem witness_CounterRegistersAct_2 : ∃ (s : State) (w : Requester) (c : CounterId) (d : Word), (RegServed s) ∧ (watched s c = false) :=
  ⟨{ ready with sync.value := [(5, 3), (6, 9)], sync.ctrl := [(6, 1)] }, .host 0, 5, 0x700000001, by unfold RegServed; decide +kernel⟩

theorem witness_CounterRegistersAct_3 : ∃ (s : State) (w : Requester) (c : CounterId) (d : Word), (RegServed s) ∧ (watched s c = true) :=
  ⟨{ ready with sync.watches := [⟨3, 5, 2, true, none, 44, 0, .host, 7⟩] }, .core 2 0 7, 5, 1, by unfold RegServed; decide +kernel⟩

/-! `SyncRequestsAct` -/

theorem witness_SyncRequestsAct_1 : ∃ (s : State) (p : HostId) (raw : BitVec 128) (c : Nat) (x : Nat) (n : Nat), (HostSync 0 raw c x n s) ∧ (fld raw
    17 3 < 6) ∧ (valueOf s.sync c + n < 2 ^ 32) :=
  ⟨{ ready with sched.ctx := [(7, BitVec.ofNat 512 (2 ^ 52))], sync.value := [(5, 9)], sync.ctrl := [(5, BitVec.ofNat 64 (1 + 7 * 2 ^ 20))], aoncnt := 100 }, 0, BitVec.ofNat 128 (5 + 0 * 2 ^ 17 + 7 * 2 ^ 20 + 3 * 2 ^ 64 + 0 * 2 ^ 96 + 0 * 2 ^ 38), 5, 7, 3,
    by unfold HostSync RegServed; decide +kernel⟩

theorem witness_SyncRequestsAct_2 : ∃ (s : State) (p : HostId) (raw : BitVec 128) (c : Nat) (x : Nat) (n : Nat), (HostSync 1 raw c x n s) ∧ (n ≤
    valueOf s.sync c) :=
  ⟨{ ready with sched.ctx := [(7, BitVec.ofNat 512 (2 ^ 52))], sync.value := [(5, 9)], sync.ctrl := [(5, BitVec.ofNat 64 (1 + 7 * 2 ^ 20))], aoncnt := 100 }, 0, BitVec.ofNat 128 (5 + 1 * 2 ^ 17 + 7 * 2 ^ 20 + 3 * 2 ^ 64 + 0 * 2 ^ 96 + 0 * 2 ^ 38), 5, 7, 3,
    by unfold HostSync RegServed; decide +kernel⟩

theorem witness_SyncRequestsAct_3 : ∃ (s : State) (p : HostId) (raw : BitVec 128) (c : Nat) (x : Nat) (n : Nat), (HostSync 2 raw c x n s) ∧ (n ≤
    valueOf s.sync c) :=
  ⟨{ ready with sched.ctx := [(7, BitVec.ofNat 512 (2 ^ 52))], sync.value := [(5, 9)], sync.ctrl := [(5, BitVec.ofNat 64 (1 + 7 * 2 ^ 20))], aoncnt := 100 }, 0, BitVec.ofNat 128 (5 + 2 * 2 ^ 17 + 7 * 2 ^ 20 + 3 * 2 ^ 64 + 0 * 2 ^ 96 + 0 * 2 ^ 38), 5, 7, 3,
    by unfold HostSync RegServed; decide +kernel⟩

theorem witness_SyncRequestsAct_4 : ∃ (s : State) (p : HostId) (raw : BitVec 128) (c : Nat) (x : Nat) (n : Nat), (HostSync 2 raw c x n s) ∧ (valueOf
    s.sync c < n) ∧ (0 < obj s 0x6800 5 16384) :=
  ⟨{ ready with sched.ctx := [(7, BitVec.ofNat 512 (2 ^ 52))], sync.value := [(5, 1)], sync.ctrl := [(5, BitVec.ofNat 64 (1 + 7 * 2 ^ 20))], aoncnt := 100 }, 0, BitVec.ofNat 128 (5 + 2 * 2 ^ 17 + 7 * 2 ^ 20 + 3 * 2 ^ 64 + 50 * 2 ^ 96 + 9 * 2 ^ 38), 5, 7, 3,
    by unfold HostSync RegServed; decide +kernel⟩

theorem witness_SyncRequestsAct_5 : ∃ (s : State) (p : HostId) (raw : BitVec 128) (c : Nat) (x : Nat) (n : Nat), (HostSync 3 raw c x n s) ∧ (n ≤
    valueOf s.sync c) :=
  ⟨{ ready with sched.ctx := [(7, BitVec.ofNat 512 (2 ^ 52))], sync.value := [(5, 9)], sync.ctrl := [(5, BitVec.ofNat 64 (1 + 7 * 2 ^ 20))], aoncnt := 100 }, 0, BitVec.ofNat 128 (5 + 3 * 2 ^ 17 + 7 * 2 ^ 20 + 3 * 2 ^ 64 + 0 * 2 ^ 96 + 0 * 2 ^ 38), 5, 7, 3,
    by unfold HostSync RegServed; decide +kernel⟩

theorem witness_SyncRequestsAct_6 : ∃ (s : State) (p : HostId) (raw : BitVec 128), (RegServed s) ∧ (heldResults s < 64) :=
  ⟨{ ready with sched.ctx := [(7, BitVec.ofNat 512 (2 ^ 52))], sync.value := [(5, 1)], sync.ctrl := [(5, BitVec.ofNat 64 (1 + 7 * 2 ^ 20))], aoncnt := 100 }, 0, BitVec.ofNat 128 (5 + 4 * 2 ^ 17 + 7 * 2 ^ 20 + 0 * 2 ^ 64 + 0 * 2 ^ 96 + 0 * 2 ^ 38),
    by unfold RegServed; decide +kernel⟩

theorem witness_SyncRequestsAct_7 : ∃ (s : State) (p : HostId) (raw : BitVec 128) (wt : Watch), (RegServed s) ∧ (heldResults s < 64) ∧
    (syncMalformed (syncWord raw 5) true = false) ∧ (ctxState s (fld raw 20 12) = 1) ∧ (s.sync.watches = [wt]) ∧ (wt.slot = fld raw 64 18) ∧
    (wt.slot < 229376) ∧ (wt.counter = fld raw 0 17) ∧ (wt.ctx = fld raw 20 12) :=
  ⟨{ ready with sched.ctx := [(7, BitVec.ofNat 512 (2 ^ 52))], sync.value := [(5, 1)], sync.ctrl := [(5, BitVec.ofNat 64 (1 + 7 * 2 ^ 20))], aoncnt := 100, sync.watches := [⟨3, 5, 2, true, none, 0, 0, .host, 7⟩] }, 0, BitVec.ofNat 128 (5 + 5 * 2 ^ 17 + 7 * 2 ^ 20 + 3 * 2 ^ 64 + 0 * 2 ^ 96 + 0 * 2 ^ 38), ⟨3, 5, 2, true, none, 0, 0, .host, 7⟩,
    by unfold RegServed; decide +kernel⟩

theorem witness_SyncRequestsAct_8 : ∃ (s : State) (p : HostId) (raw : BitVec 128), (RegServed s) ∧ (64 ≤ heldResults s) :=
  ⟨{ ready with sync.held := List.replicate 64 (BitVec.ofNat 128 (3 * 2 ^ 11)) }, 0, 0, by unfold RegServed; decide +kernel⟩

theorem witness_SyncRequestsAct_9 : ∃ (s : State) (p : PortId) (st : Fin 64) (ctx : CtxId) (raw : BitVec 128), (RegServed s) ∧ ((getPort s p).ops =
    []) ∧ ((getPort s p).held = []) ∧ (0 < (getPort s p).eventCredits) ∧ (syncMalformed (syncWord raw 4) false = false) ∧ (ctxState s (fld raw 20
    12) = 1) :=
  ⟨{ ready with sched.ctx := [(7, BitVec.ofNat 512 (2 ^ 52))], sync.value := [(5, 9)], sync.ctrl := [(5, BitVec.ofNat 64 (1 + 7 * 2 ^ 20))], aoncnt := 100 }, 2, 0, 7, BitVec.ofNat 128 (5 + 4 * 2 ^ 17 + 7 * 2 ^ 20 + 0 * 2 ^ 64 + 0 * 2 ^ 96 + 0 * 2 ^ 38),
    by unfold RegServed; decide +kernel⟩

/-! `WatchesEndAndRecordsGoOut` -/

theorem witness_WatchesEndAndRecordsGoOut_1 : ∃ (s : State) (w : Watch) (d : Nat), (fabOn s = true) ∧ (s.acts = []) ∧ (s.sync.watches = [w]) ∧
    (w.deadline = some d) ∧ (d ≤ s.aoncnt) ∧ (w.dest = .host) :=
  ⟨{ ready with sched.ctx := [(7, BitVec.ofNat 512 (2 ^ 52))], sync.value := [(5, 1)], sync.ctrl := [(5, BitVec.ofNat 64 (1 + 7 * 2 ^ 20))], aoncnt := 100, sync.watches := [⟨3, 5, 2, true, some 90, 44, 0, .host, 7⟩] }, ⟨3, 5, 2, true, some 90, 44, 0, .host, 7⟩, 90,
    by decide +kernel⟩

theorem witness_WatchesEndAndRecordsGoOut_2 : ∃ (s : State) (img : BitVec 128) (rest : List (BitVec 128)), ((fabOn s = true) ∧ (s.acts = []) ∧
    (s.sync.held = img :: rest) ∧ (ringReady s s.sync.nring = true) ∧ (target s.sync.nring.base = .host) ∧ (target (ringAddr s.sync.nring 16) =
    .host)) ∧ (LinksCarry s) ∧ (nbit s.sync.nring.ctr 17 = false) :=
  ⟨{ ready with hosts := [(0, { link := 2 })], sync.held := [77, 78], sync.nring := { base := 2 ^ 50, baseSet := true, log2 := 6, logSet := true, vec := 3 } }, 77, [78],
    by decide +kernel, links_carry (by decide +kernel), by decide +kernel⟩

theorem witness_WatchesEndAndRecordsGoOut_3 : ∃ (s : State), (fabOn s = true) ∧ (s.acts = []) ∧ (ringReady s s.sync.nring = false) :=
  ⟨ready, by decide +kernel⟩

/-! `KeyCommandsAct` -/

theorem witness_KeyCommandsAct_1 : ∃ (s : State) (w : Requester) (c : CtxId) (k : KeySlotId), (RegServed s) ∧ (slotConf s k = false) ∧ (confidential
    s c = false) ∧ ((getSlot s k).key = none) :=
  ⟨ready, .host 0, 7, 9, by unfold RegServed; decide +kernel⟩

theorem witness_KeyCommandsAct_2 : ∃ (s : State) (w : Requester) (c : CtxId) (k : KeySlotId), (RegServed s) ∧ (slotConf s k = false) ∧ ((getSlot s
    k).key = none) :=
  ⟨ready, .host 0, 7, 9, by unfold RegServed; decide +kernel⟩

theorem witness_KeyCommandsAct_3 : ∃ (s : State) (w : Requester) (c : CtxId) (k : KeySlotId), (RegServed s) ∧ (slotConf s k = false) ∧ (confidential
    s c = false) ∧ ((getSlot s k).key.isSome = true) ∧ ((getSlot s k).bound.contains c.val = false) ∧ ((getSlot s k).bound.length < 16) :=
  ⟨{ ready with mem.slots := [(9, ⟨some 4, [8], false, false⟩)], mem.keySerial := 4 }, .host 0, 7, 9, by unfold RegServed; decide +kernel⟩

theorem witness_KeyCommandsAct_4 : ∃ (s : State) (w : Requester) (c : CtxId) (k : KeySlotId), (RegServed s) ∧ (slotConf s k = false) ∧ (confidential
    s c = false) ∧ ((getSlot s k).bound.contains c.val = true) :=
  ⟨{ ready with mem.slots := [(9, ⟨some 4, [8], false, false⟩)], mem.keySerial := 4 }, .host 0, 8, 9, by unfold RegServed; decide +kernel⟩

theorem witness_KeyCommandsAct_5 : ∃ (s : State) (w : Requester) (c : CtxId) (k : KeySlotId), (RegServed s) ∧ (s.coh.dev = []) ∧ (s.coh.dir = []) ∧
    (s.ports = []) ∧ (slotConf s k = false) ∧ ((getSlot s k).key.isSome = true) ∧ (((getSlot s k).driver = true ∨ ∀ d ∈ (getSlot s k).bound,
    ctxRunning s d = false)) :=
  ⟨{ ready with mem.slots := [(9, ⟨some 4, [8], false, false⟩)], mem.keySerial := 4 }, .host 0, 0, 9, by unfold RegServed; decide +kernel⟩

theorem witness_KeyCommandsAct_6 : ∃ (s : State) (w : Requester) (c : CtxId) (k : KeySlotId), (RegServed s) ∧ (slotConf s k = false) ∧ (confidential
    s c = false) ∧ ((getSlot s k).key.isSome = true) :=
  ⟨{ ready with mem.slots := [(9, ⟨some 4, [8], false, false⟩)], mem.keySerial := 4 }, .host 0, 7, 9, by unfold RegServed; decide +kernel⟩

theorem witness_KeyCommandsAct_7 : ∃ (s : State) (w : Requester) (c : CtxId) (k : KeySlotId), (RegServed s) ∧ (slotConf s k = true) :=
  ⟨{ ready with mem.slots := [(9, ⟨some 4, [8], false, true⟩)] }, .host 0, 7, 9, by unfold RegServed; decide +kernel⟩

/-! `TranslationRegistersAct` -/

theorem witness_TranslationRegistersAct_1 : ∃ (s : State) (w : Requester) (a : Fin 4096) (raw : BitVec 128), (RegServed s) ∧ (flag (getSpace s a) 0
    = false) ∧ (flag raw 0 = true) :=
  ⟨ready, .host 0, 3, BitVec.ofNat 128 (1 + 2 * 4 + 5 * 2 ^ 20 + 9 * 2 ^ 32), by unfold RegServed; decide +kernel⟩

theorem witness_TranslationRegistersAct_2 : ∃ (s : State) (w : Requester) (a : Fin 4096) (raw : BitVec 128), (RegServed s) ∧ (flag (getSpace s a) 0
    = false) ∧ (flag raw 0 = false) :=
  ⟨{ ready with tu.tlb := [⟨0, 3, 0, 5⟩, ⟨0, 4, 0, 5⟩] }, .host 0, 3, 4, by unfold RegServed; decide +kernel⟩

theorem witness_TranslationRegistersAct_3 : ∃ (s : State) (w : Requester) (raw : BitVec 128) (c : Nat) (id : Nat) (r : PfRec), (RegServed s) ∧ (fld
    raw 8 12 = id) ∧ (getRec s id = some r) ∧ (r.space = fld raw 20 12) ∧ (r.va / 4096 = fld raw 44 44) ∧ (r.waiters = [.ds c]) ∧ ((getRun s
    c).waitRec = some id) ∧ (s.tu.starved = []) :=
  ⟨{ ready with sched.ctx := [(7, BitVec.ofNat 512 (2 ^ 52))], tu.spaces := [(1, 1)], tu.recs := [(2, some { space := 1, kind := 1, raised := 0, mask := 0, count := 1, need := 0, va := 0x5000, footEnd := 0x6000, paOld := 0, ctx := 7, unit := 0xA000, copied := false, copyStatus := 0, failStatus := .boundFault, waiters := [.ds 7], grainLo := 0x5000, grainPages := 1, moving := none, shownMask := 0, shownNeed := 0, written := false, timeout := 0, drain := [] })], sched.steps := [(7, { issuing := some 0, waitRec := some 2 })] }, .host 0, BitVec.ofNat 128 (1 + 2 * 2 ^ 8 + 2 ^ 20 + 5 * 2 ^ 44), 7, 2, { space := 1, kind := 1, raised := 0, mask := 0, count := 1, need := 0, va := 0x5000, footEnd := 0x6000, paOld := 0, ctx := 7, unit := 0xA000, copied := false, copyStatus := 0, failStatus := .boundFault, waiters := [.ds 7], grainLo := 0x5000, grainPages := 1, moving := none, shownMask := 0, shownNeed := 0, written := false, timeout := 0, drain := [] },
    by unfold RegServed; decide +kernel⟩

theorem witness_TranslationRegistersAct_4 : ∃ (s : State) (w : Requester) (raw : BitVec 128) (c : Nat) (id : Nat) (r : PfRec), (RegServed s) ∧
    (RecordsQuietly s) ∧ (fld raw 8 12 = id) ∧ (getRec s id = some r) ∧ (r.space = fld raw 20 12) ∧ (r.va / 4096 = fld raw 44 44) ∧ (r.waiters =
    [.ds c]) ∧ ((getRun s c).waitRec = some id) ∧ (s.tu.starved = []) :=
  ⟨{ ready with sched.ctx := [(7, BitVec.ofNat 512 (2 ^ 52))], tu.spaces := [(1, 1)], tu.recs := [(2, some { space := 1, kind := 1, raised := 0, mask := 0, count := 1, need := 0, va := 0x5000, footEnd := 0x6000, paOld := 0, ctx := 7, unit := 0xA000, copied := false, copyStatus := 0, failStatus := .boundFault, waiters := [.ds 7], grainLo := 0x5000, grainPages := 1, moving := none, shownMask := 0, shownNeed := 0, written := false, timeout := 0, drain := [] })], sched.steps := [(7, { issuing := some 0, waitRec := some 2 })] }, .host 0, BitVec.ofNat 128 (1 + 2 * 2 ^ 8 + 2 ^ 20 + 5 * 2 ^ 44), 7, 2, { space := 1, kind := 1, raised := 0, mask := 0, count := 1, need := 0, va := 0x5000, footEnd := 0x6000, paOld := 0, ctx := 7, unit := 0xA000, copied := false, copyStatus := 0, failStatus := .boundFault, waiters := [.ds 7], grainLo := 0x5000, grainPages := 1, moving := none, shownMask := 0, shownNeed := 0, written := false, timeout := 0, drain := [] },
    by unfold RegServed RecordsQuietly; decide +kernel⟩

theorem witness_TranslationRegistersAct_5 : ∃ (s : State) (w : Requester) (raw : BitVec 128), (RegServed s) ∧ (getRec s (fld raw 8 12) = none) :=
  ⟨ready, .host 0, BitVec.ofNat 128 (1 + 2 * 2 ^ 8 + 2 ^ 20 + 5 * 2 ^ 44), by unfold RegServed; decide +kernel⟩

theorem witness_TranslationRegistersAct_6 : ∃ (s : State) (w : Requester) (raw : BitVec 128) (id : Nat) (r : PfRec), (RegServed s) ∧ (s.arrays.arr =
    []) ∧ (s.queues = []) ∧ (s.ports = []) ∧ (s.engines = []) ∧ (fld raw 8 12 = id) ∧ (getRec s id = some r) ∧ (r.space = fld raw 20 12) ∧ (r.va /
    4096 = fld raw 44 44) ∧ (r.kind = 2) ∧ (r.copied = false) ∧ (r.moving = none) ∧ (target (fld raw 88 40 * 4096) = .stacks) ∧ (fld raw 88 40 %
    grainPages (getSpace s r.space) = 0) ∧ (offset (fld raw 88 40 * 4096) + r.grainPages * 4096 ≤ stackBytes s) :=
  ⟨{ ready with sched.ctx := [(7, BitVec.ofNat 512 (2 ^ 52))], tu.spaces := [(1, 1)], tu.recs := [(2, some { space := 1, kind := 2, raised := 0, mask := 0, count := 1, need := 0, va := 0x5000, footEnd := 0x6000, paOld := 0x40005000, ctx := 7, unit := 0xA000, copied := false, copyStatus := 0, failStatus := .boundFault, waiters := [], grainLo := 0x5000, grainPages := 1, moving := none, shownMask := 0, shownNeed := 0, written := false, timeout := 0, drain := [] })], sched.steps := [(7, { issuing := some 0, waitRec := some 2 })] }, .host 0, BitVec.ofNat 128 (3 + 2 * 2 ^ 8 + 2 ^ 20 + 5 * 2 ^ 44 + 0x33 * 2 ^ 88), 2, { space := 1, kind := 2, raised := 0, mask := 0, count := 1, need := 0, va := 0x5000, footEnd := 0x6000, paOld := 0x40005000, ctx := 7, unit := 0xA000, copied := false, copyStatus := 0, failStatus := .boundFault, waiters := [], grainLo := 0x5000, grainPages := 1, moving := none, shownMask := 0, shownNeed := 0, written := false, timeout := 0, drain := [] },
    by unfold RegServed; decide +kernel⟩

theorem witness_TranslationRegistersAct_7 : ∃ (s : State) (w : Requester) (raw : BitVec 128), (RegServed s) ∧ (s.arrays.arr = []) ∧ (s.queues = [])
    ∧ (s.ports = []) ∧ (invMalformed raw = false) :=
  ⟨{ ready with tu.spaces := [(1, 1)], tu.tlb := [⟨0, 1, 0, 5⟩] }, .host 0, BitVec.ofNat 128 (2 ^ 36 + 5 * 2 ^ 48),
    by unfold RegServed; decide +kernel⟩

theorem witness_TranslationRegistersAct_8 : ∃ (s : State) (w : Requester) (raw : BitVec 128), (RegServed s) ∧ (s.tu.invals = []) ∧ (invMalformed raw
    = true) :=
  ⟨ready, .host 0, 4, by unfold RegServed; decide +kernel⟩

theorem witness_TranslationRegistersAct_9 : ∃ (s : State) (i : InvalCmd), (fabOn s = true) ∧ (s.acts = []) ∧ (s.tu.invals = [i]) ∧ (i.holders = []) :=
  ⟨{ ready with tu.issued := 3, tu.invDone := 2, tu.invals := [⟨3, 5, []⟩] }, ⟨3, 5, []⟩, by decide +kernel⟩

/-! `TranslationUnitActs` -/

theorem witness_TranslationUnitActs_1 : ∃ (s : State) (w : Waiter) (a : Fin 4096) (va : BitVec 56) (k : Nat), (fabOn s = true) ∧ (s.acts = []) ∧
    (spaceOn (getSpace s a) = true) ∧ (tlbFind s (waiterTlbs w) a va.toNat = none) ∧ (walkInFlight s a va.toNat = false) ∧ (freeWalker s = some k)
    :=
  ⟨{ ready with tu.spaces := [(1, 1)] }, .ds 7, 1, 0x5000, 0, by decide +kernel⟩

theorem witness_TranslationUnitActs_2 : ∃ (s : State) (w : Waiter) (a : Fin 4096) (va : BitVec 56), (fabOn s = true) ∧ (s.acts = []) ∧ (walkInFlight
    s a va.toNat = true) :=
  ⟨{ ready with tu.spaces := [(1, 1)], tu.walks := [(0, some ⟨1, 0x7000, [.ds 8], false⟩)] }, .ds 7, 1, 0x5000, by decide +kernel⟩

theorem witness_TranslationUnitActs_3 : ∃ (s : State) (k : WalkerId) (sp : Nat) (va : Nat) (c : Nat) (e : BitVec 256), (fabOn s = true) ∧ (s.acts =
    []) ∧ (s.mem.flaws = []) ∧ (s.coh.dev = []) ∧ (s.tu.closing = []) ∧ (s.tu.walks = [(k.val, some ⟨sp, va, [.ds c], false⟩)]) ∧ (walk s sp va =
    .found e) :=
  ⟨{ ready with tu.spaces := [(1, BitVec.ofNat 128 (1 + 2 * 2 ^ 20 + 2 ^ 32))], mem.slots := [(2, { key := some 9, bound := [7] })], mem.bytes := [(0x100002, 0x20), (0x10000C, 1), (0x200000, 1), (0x20000F, 0x20), (0x200016, 16)], mem.keyOf := [(0x4000, some 9), (0x8000, some 9)], tu.walks := [(0, some ⟨1, 0x7000, [.ds 7], false⟩)] }, 0, 1, 0x7000, 7, BitVec.ofNat 256 (1 + 2 ^ 125 + 16 * 2 ^ 176),
    by decide +kernel⟩

theorem witness_TranslationUnitActs_4 : ∃ (s : State) (k : WalkerId) (sp : Nat) (va : Nat) (c : Nat), (fabOn s = true) ∧ (s.acts = []) ∧
    (s.mem.flaws = []) ∧ (s.coh.dev = []) ∧ (s.tu.closing = []) ∧ (s.tu.walks = [(k.val, some ⟨sp, va, [.ds c], false⟩)]) ∧ (walk s sp va = .absent)
    :=
  ⟨{ ready with tu.spaces := [(1, BitVec.ofNat 128 (1 + 2 * 2 ^ 20 + 2 ^ 32))], mem.slots := [(2, { key := some 9, bound := [7] })], mem.bytes := [(0x100002, 0x20), (0x10000C, 1), (0x200000, 1), (0x20000F, 0x20), (0x200016, 16)], mem.keyOf := [(0x4000, some 9), (0x8000, some 9)], tu.walks := [(0, some ⟨1, 0x20000, [.ds 7], false⟩)] }, 0, 1, 0x20000, 7,
    by decide +kernel⟩

theorem witness_TranslationUnitActs_5 : ∃ (s : State) (id : Nat) (due : Nat) (r : PfRec), ((fabOn s = true) ∧ (s.acts = []) ∧ (s.tu.copies = [(id,
    due)]) ∧ (due ≤ s.aoncnt) ∧ (ringReady s s.tu.fring = true) ∧ (getRec s id = some r) ∧ (target s.tu.fring.base = .host) ∧ (target (ringAddr
    s.tu.fring 64) = .host)) ∧ (LinksCarry s) ∧ (proxyAlive s = true) ∧ (s.sync.watches = []) ∧ (valueOf s.sync (nbits s.tu.fring.ctr 0 17) + 1 < 2
    ^ 32) :=
  ⟨{ ready with sched.ctx := [(7, BitVec.ofNat 512 (2 ^ 52))], tu.spaces := [(1, 1)], tu.recs := [(2, some { space := 1, kind := 1, raised := 0, mask := 0, count := 1, need := 0, va := 0x5000, footEnd := 0x6000, paOld := 0, ctx := 7, unit := 0xA000, copied := false, copyStatus := 0, failStatus := .boundFault, waiters := [.ds 7], grainLo := 0x5000, grainPages := 1, moving := none, shownMask := 0, shownNeed := 0, written := false, timeout := 0, drain := [] })], sched.steps := [(7, { issuing := some 0, waitRec := some 2 })], hosts := [(0, { link := 2 })], tu.copies := [(2, 0)], tu.fring := { base := 2 ^ 50, baseSet := true, log2 := 6, logSet := true, ctr := 5 } }, 2, 0, { space := 1, kind := 1, raised := 0, mask := 0, count := 1, need := 0, va := 0x5000, footEnd := 0x6000, paOld := 0, ctx := 7, unit := 0xA000, copied := false, copyStatus := 0, failStatus := .boundFault, waiters := [.ds 7], grainLo := 0x5000, grainPages := 1, moving := none, shownMask := 0, shownNeed := 0, written := false, timeout := 0, drain := [] },
    by decide +kernel, links_carry (by decide +kernel), by decide +kernel⟩

theorem witness_TranslationUnitActs_6 : ∃ (s : State) (id : RecordId) (r : PfRec) (c : Nat), (fabOn s = true) ∧ (s.acts = []) ∧ (RecordsQuietly s) ∧
    (getRec s id = some r) ∧ (r.timeout ≠ 0) ∧ (r.raised + r.timeout ≤ s.aoncnt) ∧ (r.waiters = [.ds c]) ∧ ((getRun s c).waitRec = some id.val) ∧
    (s.tu.starved = []) :=
  ⟨{ ready with sched.ctx := [(7, BitVec.ofNat 512 (2 ^ 52))], tu.spaces := [(1, 1)], tu.recs := [(2, some { space := 1, kind := 1, raised := 0, mask := 0, count := 1, need := 0, va := 0x5000, footEnd := 0x6000, paOld := 0, ctx := 7, unit := 0xA000, copied := false, copyStatus := 0, failStatus := .boundFault, waiters := [.ds 7], grainLo := 0x5000, grainPages := 1, moving := none, shownMask := 0, shownNeed := 0, written := false, timeout := 10, drain := [] })], sched.steps := [(7, { issuing := some 0, waitRec := some 2 })], aoncnt := 11 }, 2, { space := 1, kind := 1, raised := 0, mask := 0, count := 1, need := 0, va := 0x5000, footEnd := 0x6000, paOld := 0, ctx := 7, unit := 0xA000, copied := false, copyStatus := 0, failStatus := .boundFault, waiters := [.ds 7], grainLo := 0x5000, grainPages := 1, moving := none, shownMask := 0, shownNeed := 0, written := false, timeout := 10, drain := [] }, 7,
    by unfold RecordsQuietly; decide +kernel⟩

theorem witness_TranslationUnitActs_7 : ∃ (s : State) (id : RecordId) (r : PfRec), (fabOn s = true) ∧ (s.acts = []) ∧ (getRec s id = some r) ∧
    ((r.timeout = 0 ∨ s.aoncnt < r.raised + r.timeout)) :=
  ⟨{ ready with sched.ctx := [(7, BitVec.ofNat 512 (2 ^ 52))], tu.spaces := [(1, 1)], tu.recs := [(2, some { space := 1, kind := 1, raised := 0, mask := 0, count := 1, need := 0, va := 0x5000, footEnd := 0x6000, paOld := 0, ctx := 7, unit := 0xA000, copied := false, copyStatus := 0, failStatus := .boundFault, waiters := [.ds 7], grainLo := 0x5000, grainPages := 1, moving := none, shownMask := 0, shownNeed := 0, written := false, timeout := 10, drain := [] })], sched.steps := [(7, { issuing := some 0, waitRec := some 2 })], aoncnt := 9 }, 2, { space := 1, kind := 1, raised := 0, mask := 0, count := 1, need := 0, va := 0x5000, footEnd := 0x6000, paOld := 0, ctx := 7, unit := 0xA000, copied := false, copyStatus := 0, failStatus := .boundFault, waiters := [.ds 7], grainLo := 0x5000, grainPages := 1, moving := none, shownMask := 0, shownNeed := 0, written := false, timeout := 10, drain := [] },
    by decide +kernel⟩

theorem witness_TranslationUnitActs_8 : ∃ (s : State) (e : Fin 16) (st : Status) (ext : Ext) (id : Nat) (dest : Nat) (r : PfRec), (fabOn s = true) ∧
    (s.acts = []) ∧ (st ≠ .ok) ∧ ((getEngine s e).migrate = some id) ∧ (getRec s id = some r) ∧ (r.moving = some dest) ∧ (r.drain = []) ∧
    ((getEngine s e).fencing = false) :=
  ⟨{ ready with sched.ctx := [(7, BitVec.ofNat 512 (2 ^ 52))], tu.spaces := [(1, 1)], tu.recs := [(2, some { space := 1, kind := 2, raised := 0, mask := 0, count := 1, need := 0, va := 0x5000, footEnd := 0x6000, paOld := 0x40005000, ctx := 7, unit := 0xA000, copied := false, copyStatus := 0, failStatus := .boundFault, waiters := [], grainLo := 0x5000, grainPages := 1, moving := some 0x33000, shownMask := 0, shownNeed := 0, written := false, timeout := 0, drain := [] })], sched.steps := [(7, { issuing := some 0, waitRec := some 2 })], engines := [(0, { migrate := some 2 })] }, 0, .deadTarget, [], 2, 0x33000, { space := 1, kind := 2, raised := 0, mask := 0, count := 1, need := 0, va := 0x5000, footEnd := 0x6000, paOld := 0x40005000, ctx := 7, unit := 0xA000, copied := false, copyStatus := 0, failStatus := .boundFault, waiters := [], grainLo := 0x5000, grainPages := 1, moving := some 0x33000, shownMask := 0, shownNeed := 0, written := false, timeout := 0, drain := [] },
    by decide +kernel⟩

theorem witness_TranslationUnitActs_9 : ∃ (s : State) (e : Fin 16) (ext : Ext) (id : Nat) (dest : Nat) (r : PfRec), (fabOn s = true) ∧ (s.acts = [])
    ∧ (proxyAlive s = true) ∧ ((getEngine s e).migrate = some id) ∧ (getRec s id = some r) ∧ (r.moving = some dest) ∧ (r.drain = []) ∧ ((getEngine s
    e).fencing = false) ∧ (s.xfers = []) ∧ (s.mem.flaws = []) ∧ (s.coh.dev = []) ∧ (target dest = .stacks) ∧ (dest % 4096 = 0) ∧ (offset dest +
    r.grainPages * 4096 ≤ stackBytes s) ∧ (WayClear s [] [⟨0, dest, r.grainPages * 4096, blockSlot, 0, false, false⟩]) :=
  ⟨{ ready with sched.ctx := [(7, BitVec.ofNat 512 (2 ^ 52))], tu.spaces := [(1, 1)], tu.recs := [(2, some { space := 1, kind := 2, raised := 0, mask := 0, count := 1, need := 0, va := 0x5000, footEnd := 0x6000, paOld := 0x40005000, ctx := 7, unit := 0xA000, copied := false, copyStatus := 0, failStatus := .boundFault, waiters := [], grainLo := 0x5000, grainPages := 1, moving := some 0x33000, shownMask := 0, shownNeed := 0, written := false, timeout := 0, drain := [] })], sched.steps := [(7, { issuing := some 0, waitRec := some 2 })], hosts := [(0, { link := 2 })], engines := [(0, { migrate := some 2 })] }, 0, [], 2, 0x33000, { space := 1, kind := 2, raised := 0, mask := 0, count := 1, need := 0, va := 0x5000, footEnd := 0x6000, paOld := 0x40005000, ctx := 7, unit := 0xA000, copied := false, copyStatus := 0, failStatus := .boundFault, waiters := [], grainLo := 0x5000, grainPages := 1, moving := some 0x33000, shownMask := 0, shownNeed := 0, written := false, timeout := 0, drain := [] },
    by unfold WayClear; decide +kernel⟩

/-! `FaultEventsAreRecorded` -/

theorem witness_FaultEventsAreRecorded_1 : ∃ (s : State) (ev : EventReport), (s.acts = []) ∧ (aonRuns s = true) ∧ (s.asleep = false) ∧ (stepReached
    1 s = true) ∧ (1 ≤ ev.cls.val) ∧ (ev.cls.val ≤ 0x11) ∧ (unitOk ev.unit.toNat = true) ∧ (underTest s ev.unit.toNat = false) ∧ (RecordsQuietly s)
    :=
  ⟨{ ready with flt.serial := 3, aoncnt := 100 }, ⟨2, 0x7003, some 7, 0x1234, 1, 4, .deadTarget, 55⟩, by unfold RecordsQuietly; decide +kernel⟩

theorem witness_FaultEventsAreRecorded_2 : ∃ (s : State) (ev : EventReport), (s.acts = []) ∧ (aonRuns s = true) ∧ (s.asleep = false) ∧ (stepReached
    1 s = true) ∧ (ev.cls = 2) ∧ (unitOk ev.unit.toNat = true) ∧ (underTest s ev.unit.toNat = false) ∧ (RecordsQuietly s) ∧ (obj s 0x8000 2 2 ≤ 2) ∧
    (actionOf s 2 ≠ 0) :=
  ⟨{ ready with flt.serial := 3, aoncnt := 100 }, ⟨2, 0x7003, some 7, 0x1234, 1, 4, .deadTarget, 55⟩, by unfold RecordsQuietly; decide +kernel⟩

theorem witness_FaultEventsAreRecorded_3 : ∃ (s : State) (g : Grace) (k : WalkerId), (s.acts = []) ∧ (aonRuns s = true) ∧ (s.asleep = false) ∧
    (stepReached 3 s = true) ∧ (s.flt.grace = [g]) ∧ (g.deadline ≤ s.aoncnt) ∧ (g.action = 1) ∧ (g.unit = 0x7000 + k.val) ∧ (tget false
    s.tu.walkerFenced k = false) ∧ (s.tu.walks = []) :=
  ⟨{ ready with flt.serial := 3, aoncnt := 100, flt.grace := [⟨2, 90, 1, 0x7003, none⟩] }, ⟨2, 90, 1, 0x7003, none⟩, 3, by decide +kernel⟩

theorem witness_FaultEventsAreRecorded_4 : ∃ (s : State), (s.acts = []) ∧ (aonRuns s = true) ∧ (s.asleep = false) ∧ ((∀ g ∈ s.flt.grace, s.aoncnt <
    g.deadline)) :=
  ⟨{ ready with flt.grace := [⟨2, 90, 1, 0x7003, none⟩] }, by decide +kernel⟩

theorem witness_FaultEventsAreRecorded_5 : ∃ (s : State) (w : Requester) (n : BitVec 32) (g : Grace), (RegServed s) ∧ (s.flt.grace = [g]) ∧
    (g.serial = n.toNat) :=
  ⟨{ ready with flt.grace := [⟨2, 90, 1, 0x7003, none⟩] }, .host 0, 2, ⟨2, 90, 1, 0x7003, none⟩, by unfold RegServed; decide +kernel⟩

theorem witness_FaultEventsAreRecorded_6 : ∃ (s : State) (w : Requester) (n : BitVec 32) (g : Grace) (k : WalkerId), (RegServed s) ∧ (s.flt.grace =
    [g]) ∧ (g.serial = n.toNat) ∧ (g.action = 1) ∧ (g.unit = 0x7000 + k.val) ∧ (tget false s.tu.walkerFenced k = false) ∧ (s.tu.walks = []) :=
  ⟨{ ready with flt.grace := [⟨2, 90, 1, 0x7003, none⟩] }, .host 0, 2, ⟨2, 90, 1, 0x7003, none⟩, 3, by unfold RegServed; decide +kernel⟩

theorem witness_FaultEventsAreRecorded_7 : ∃ (s : State) (w : Requester) (n : BitVec 32), (RegServed s) ∧ (s.flt.grace = []) :=
  ⟨ready, .host 0, 2, by unfold RegServed; decide +kernel⟩

/-! `LoadsAndStoresUseTheGranule` -/

theorem witness_LoadsAndStoresUseTheGranule_1 : ∃ (s : State) (r : CoreReq) (x : Extent), (SoundAccess r x s) ∧ (atOp r.attr = opLoad) ∧ ((getNear s
    r.port (x.pa / 64)).st ≠ .i) ∧ ((target x.pa = .scratch → (getNear s r.port (x.pa / 64)).ctx = atCtx r.attr)) ∧ (nearPoison s (atCtx r.attr)
    (x.pa / 64) = false) :=
  ⟨user, req 0 0 0, ⟨0x1000, 0, 8, 3, 0, false, false⟩, by unfold SoundAccess CorePortFree; decide +kernel⟩

theorem witness_LoadsAndStoresUseTheGranule_2 : ∃ (s : State) (r : CoreReq) (c : Instr), (CorePortFree r.port s) ∧ (reqMalformed r = true) ∧ (c ∈
    [.portLoad r .clean, .portStore r .clean, .portRload r .clean, .portCstore r .clean, .portAtomic r .clean, .portBarrier r]) :=
  ⟨user, req 7 0 0, .portLoad (req 7 0 0) .clean, by unfold CorePortFree; decide +kernel⟩

theorem witness_LoadsAndStoresUseTheGranule_3 : ∃ (s : State) (r : CoreReq) (x : Extent), (SoundAccess r x s) ∧ (atOp r.attr = opStore) ∧ ((getNear
    s r.port (x.pa / 64)).st = .i) ∧ (s.coh.wbs.contains (r.port.val, x.pa / 64) = false) :=
  ⟨{ user with coh.near := [], coh.dir := [] }, req 1 0 0xAB, ⟨0x1000, 0, 8, 3, 0, false, false⟩, by unfold SoundAccess CorePortFree; decide +kernel⟩

theorem witness_LoadsAndStoresUseTheGranule_4 : ∃ (s : State) (p : PortId) (o : PortOp), (CorePortFree p
    { s with ports := tset {} s.ports p { getPort s p with ops := [] } }) ∧ ((getPort s p).ops = [o]) ∧ (o.phase = .buffered) ∧ (opCode o = opStore)
    ∧ (o.what = .mem) ∧ (o.answer = none) ∧ (o.answered = false) ∧ (o.flushed = false) ∧ ((target o.pa = .stacks ∨ target o.pa = .scratch)) ∧
    (o.cache ≠ 2) ∧ (lineOwned s p (o.pa / 64) = true) ∧ (QuietStorage s) :=
  ⟨{ user with ports := [(0, { ops := [entry (req 1 0 0xAB) 0 .buffered] })] }, 0, entry (req 1 0 0xAB) 0 .buffered,
    by unfold CorePortFree QuietStorage; decide +kernel⟩

/-! `ReservationsAndAtomics` -/

theorem witness_ReservationsAndAtomics_1 : ∃ (s : State) (r : CoreReq) (x : Extent), (SoundAccess r x s) ∧ (atOp r.attr = opRload) ∧ (lineOwned s
    r.port (x.pa / 64) = true) ∧ (nearPoison s (atCtx r.attr) (x.pa / 64) = false) :=
  ⟨user, req 2 0 0, ⟨0x1000, 0, 8, 3, 0, false, false⟩, by unfold SoundAccess CorePortFree; decide +kernel⟩

theorem witness_ReservationsAndAtomics_2 : ∃ (s : State) (r : CoreReq) (x : Extent), (SoundAccess r x s) ∧ (atOp r.attr = opCstore) ∧ (lineOwned s
    r.port (x.pa / 64) = true) ∧ (QuietStorage s) ∧ (tget none (getPort s r.port).resv (atStream r.attr) = some ⟨x.pa / 64, atCtx r.attr⟩) :=
  ⟨{ user with ports := [(0, { resv := [(2, some ⟨0, 5⟩)] })] }, req 3 0 0xAB, ⟨0x1000, 0, 8, 3, 0, false, false⟩,
    by unfold SoundAccess CorePortFree QuietStorage; decide +kernel⟩

theorem witness_ReservationsAndAtomics_3 : ∃ (s : State) (r : CoreReq) (x : Extent), (SoundAccess r x s) ∧ (atOp r.attr = opCstore) ∧ (tget none
    (getPort s r.port).resv (atStream r.attr) = none) :=
  ⟨user, req 3 0 0xAB, ⟨0x1000, 0, 8, 3, 0, false, false⟩, by unfold SoundAccess CorePortFree; decide +kernel⟩

theorem witness_ReservationsAndAtomics_4 : ∃ (s : State) (p : PortId) (w : Nat × Nat) (rest : List (Nat × Nat)), (fabOn s = true) ∧ (s.acts = []) ∧
    ((getPort s p).ops = []) ∧ ((getPort s p).deferred = []) ∧ ((getPort s p).hold = w :: rest) :=
  ⟨{ user with ports := [(0, { resv := [(2, some ⟨0, 5⟩)], hold := [(0, 2)] })] }, 0, (0, 2), [], by decide +kernel⟩

theorem witness_ReservationsAndAtomics_5 : ∃ (s : State) (r : CoreReq) (x : Extent), (SoundAccess r x s) ∧ (atOp r.attr = opAtomic) ∧ ((reqLen r =
    16 → atAop r.attr ≤ 1)) ∧ (lineOwned s r.port (x.pa / 64) = true) ∧ (nearPoison s (atCtx r.attr) (x.pa / 64) = false) ∧ (QuietStorage s) :=
  ⟨user, req 4 2 3, ⟨0x1000, 0, 8, 3, 0, false, false⟩, by unfold SoundAccess CorePortFree QuietStorage; decide +kernel⟩

theorem witness_ReservationsAndAtomics_6 : ∃ (s : State) (r : CoreReq), (CorePortFree r.port s) ∧ (reqMalformed r = false) ∧ (atOp r.attr =
    opBarrier) :=
  ⟨user, ⟨0, BitVec.ofNat 64 (5 * 2 ^ 52 + 2 * 2 ^ 46 + 5 * 2 ^ 42), 0, 0, 0, 7⟩, by unfold CorePortFree; decide +kernel⟩

theorem witness_ReservationsAndAtomics_7 : ∃ (s : State) (p : PortId) (o : PortOp) (d : Line), (CorePortFree p
    { s with ports := tset {} s.ports p { getPort s p with ops := [] } }) ∧ ((getPort s p).ops = [o]) ∧ (o.phase = .io) ∧ (o.what = .mem) ∧
    (o.answer = none) ∧ (o.answered = false) ∧ (o.need0 = 0) ∧ (o.need1 = 0) ∧ (hostUp s (hostPortOf s o.pa) = true) :=
  ⟨{ user with hosts := [(0, { link := 2 })], ports := [(0, { ops := [entry (req 0 0 0) (2 ^ 50) .io] })] }, 0, entry (req 0 0 0) (2 ^ 50) .io, 0x1234,
    by unfold CorePortFree; decide +kernel⟩

/-! `HalvesBecomeExaminedCourses` -/

theorem witness_HalvesBecomeExaminedCourses_1 : ∃ (s : State) (p : PortId) (st : Fin 64) (c : CtxId) (h : BitVec 512), (fabOn s = true) ∧ (s.acts =
    []) ∧ ((getPort s p).ops = []) ∧ ((getPort s p).half = none) :=
  ⟨user, 0, 2, 5, 77, by decide +kernel⟩

theorem witness_HalvesBecomeExaminedCourses_2 : ∃ (s : State) (p : PortId) (st : Fin 64) (c : CtxId) (lo : BitVec 512) (hi : BitVec 512), (fabOn s =
    true) ∧ (s.acts = []) ∧ ((getPort s p).ops = []) ∧ ((getPort s p).deferred = []) ∧ ((getPort s p).half = some (lo, st.val, c.val)) ∧ ((getArr s
    p).fenced = false) :=
  ⟨{ user with ports := [(0, { half := some (77, 2, 5) })] }, 0, 2, 5, 77, 78, by decide +kernel⟩

theorem witness_HalvesBecomeExaminedCourses_3 : ∃ (s : State) (p : PortId) (st : Fin 64) (st' : Fin 64) (c : CtxId) (lo : BitVec 512) (hi : BitVec
    512), (fabOn s = true) ∧ (s.acts = []) ∧ ((getPort s p).ops = []) ∧ ((getPort s p).held = []) ∧ (0 < (getPort s p).eventCredits) ∧ ((getPort s
    p).half = some (lo, st'.val, c.val)) ∧ (st ≠ st') :=
  ⟨{ user with ports := [(0, { half := some (77, 3, 5) })] }, 0, 2, 3, 5, 77, 78, by decide +kernel⟩

theorem witness_HalvesBecomeExaminedCourses_4 : ∃ (s : State) (a : ArrayId) (c : Course) (i : Instr) (n : Nat) (p : Nat) (id : Nat) (hx : List
    Extent) (foot : List Extent), (((i, n) ∈ [(.course a [], 1), (.ridgeScan a [], 2), (.diagonal a [], 3)]) ∧ (fabOn s = true) ∧ (s.acts = []) ∧
    (QuietStorage s) ∧ ((getArr s a).courses = [c]) ∧ (c.stage = .issued) ∧ (c.src = .core p id) ∧ (cdOp c.raw = n) ∧ (ctxState s c.ctx = 1)) ∧
    (Acceptable a c hx foot s) :=
  ⟨{ user with arrays.arr := [(0, { courses := [course scan (.core 0 0) .issued], run := none })], coh.dev := [(0, some ⟨3, 0, 0, [.v, .v, .v, .v], 0⟩)] }, 0, course scan (.core 0 0) .issued, .ridgeScan 0 [], 2, 0, 0, [⟨0x1000, 0, 32, 3, 0, false, false⟩, ⟨0x1020, 0x20, 32, 3, 0, false, false⟩], [⟨0x1040, 0x40, 1, 3, 0, false, false⟩, ⟨0x1060, 0x60, 8, 3, 0, false, false⟩],
    by unfold QuietStorage; decide +kernel, by
    unfold Acceptable
    iterate 6 (refine ⟨by decide +kernel, ?_⟩)
    exact ⟨no_poison _ _ _ (by decide +kernel) (by decide +kernel) (by decide +kernel), by decide +kernel⟩⟩

theorem witness_HalvesBecomeExaminedCourses_5_1 : ∃ (s : State) (a : ArrayId) (c : Course) (i : Instr) (n : Nat) (q : Nat) (idx : Nat) (k : Cmd)
    (ext : Ext), ((i, n) ∈ [(.course a ext, 1), (.ridgeScan a ext, 2), (.diagonal a ext, 3)]) ∧ (RunsAlone a c q idx k
    { s with arrays.arr := tset {} s.arrays.arr a { getArr s a with run := some c.id } }) ∧ ((getArr s a).run = none) ∧ (c.stage = .issued) ∧ (cdOp
    c.raw = n) ∧ (ctxState s c.ctx = 1) ∧ (structureOk c.raw = false) :=
  ⟨{ user with arrays.arr := [(0, { courses := [course (scan + 2 ^ 25) (.queue 1 0) .issued], run := none })], queues := [(1, { cmds := [command] })] }, 0, course (scan + 2 ^ 25) (.queue 1 0) .issued, .ridgeScan 0 [], 2, 1, 0, command, [],
    by unfold RunsAlone ArrayRuns; decide +kernel⟩

theorem witness_HalvesBecomeExaminedCourses_5_2 : ∃ (s : State) (a : ArrayId) (c : Course) (i : Instr) (n : Nat) (q : Nat) (idx : Nat) (k : Cmd)
    (ext : Ext), ((i, n) ∈ [(.course a ext, 1), (.ridgeScan a ext, 2), (.diagonal a ext, 3)]) ∧ (RunsAlone a c q idx k
    { s with arrays.arr := tset {} s.arrays.arr a { getArr s a with run := some c.id } }) ∧ ((getArr s a).run = none) ∧ (c.stage = .issued) ∧ (cdOp
    c.raw = n) ∧ (ctxState s c.ctx = 0) :=
  ⟨{ user with arrays.arr := [(0, { courses := [course scan (.queue 1 0) .issued], run := none })], queues := [(1, { cmds := [command] })], sched.ctx := [] }, 0, course scan (.queue 1 0) .issued, .ridgeScan 0 [], 2, 1, 0, command, [],
    by unfold RunsAlone ArrayRuns; decide +kernel⟩

theorem witness_HalvesBecomeExaminedCourses_5_3 : ∃ (s : State) (a : ArrayId) (c : Course) (i : Instr) (n : Nat) (q : Nat) (idx : Nat) (k : Cmd)
    (ext : Ext), ((i, n) ∈ [(.course a ext, 1), (.ridgeScan a ext, 2), (.diagonal a ext, 3)]) ∧ (RunsAlone a c q idx k
    { s with arrays.arr := tset {} s.arrays.arr a { getArr s a with run := some c.id } }) ∧ ((getArr s a).run = none) ∧ (c.stage = .issued) ∧ (cdOp
    c.raw = n) ∧ (ctxState s c.ctx = 2) :=
  ⟨{ user with arrays.arr := [(0, { courses := [course scan (.queue 1 0) .issued], run := none })], queues := [(1, { cmds := [command] })], sched.ctx := [(5, BitVec.ofNat 512 (2 * 2 ^ 52 + 1 * 2 ^ 116))] }, 0, course scan (.queue 1 0) .issued, .ridgeScan 0 [], 2, 1, 0, command, [],
    by unfold RunsAlone ArrayRuns; decide +kernel⟩

theorem witness_HalvesBecomeExaminedCourses_6 : ∃ (s : State) (a : ArrayId) (c : Course) (q : Nat) (idx : Nat) (k : Cmd) (ext : Ext), (RunsAlone a c
    q idx k { s with arrays.arr := tset {} s.arrays.arr a { getArr s a with run := some c.id } }) ∧ ((getArr s a).run = none) ∧ (c.stage = .issued)
    ∧ ((cdOp c.raw = 0 ∨ 4 ≤ cdOp c.raw)) ∧ (ctxState s c.ctx = 1) :=
  ⟨{ user with arrays.arr := [(0, { courses := [course (scan + 5) (.queue 1 0) .issued], run := none })], queues := [(1, { cmds := [command] })] }, 0, course (scan + 5) (.queue 1 0) .issued, 1, 0, command, [],
    by unfold RunsAlone ArrayRuns; decide +kernel⟩

/-! `CoursesStartAndResume` -/

theorem witness_CoursesStartAndResume_1 : ∃ (s : State) (a : ArrayId) (c : Course) (i : Instr), (i ∈ [.footprintReady (.array a c.id) [],
    .engineChoose (Fin.castLE (by decide) a)]) ∧ (fabOn s = true) ∧ (s.acts = []) ∧ (QuietStorage s) ∧ (pickCourse s a = some c) ∧ (c.stage =
    .ready) ∧ (c.strict = false) ∧ (needsSpill s a c = false) ∧ (storeVerdict s a c = true) ∧ ((∀ x ∈ runReads s a c, target x.pa ≠ .peer)) ∧ ((∀ d
    ∈ (getArr s a).courses, d.id = c.id → d = c)) :=
  ⟨{ user with arrays.arr := [(0, { courses := [course scan (.queue 1 0) .ready], run := none })] }, 0, course scan (.queue 1 0) .ready, .engineChoose 0,
    by unfold QuietStorage; decide +kernel⟩

set_option maxRecDepth 1000000 in
theorem witness_CoursesStartAndResume_2 : ∃ (s : State) (a : ArrayId) (c : Course) (bs : List Byte) (s1 : State) (foot : List Extent), ((ArrayRuns a
    s) ∧ (QuietStorage s) ∧ (pickCourse s a = some c) ∧ (c.stage = .saved) ∧ ((∀ d ∈ (getArr s a).courses, d.id = c.id → d = c)) ∧ ((∀ i ∈
    s.tu.invals, Waiter.array a c.id ∉ i.holders)) ∧ (accessVerdict s c.ctx blockSlot (saveAddr s c.ctx c.savedOn) 4096 = .ok)) ∧ (homeRead c.ctx
    blockSlot (saveAddr s c.ctx c.savedOn) 4096 2 (beginSlice a c.ctx s) = (bs, s1)) ∧ (ofLe (bs.drop 0xFFC) = crc32c (bs.take 0xFFC)) ∧ (runPoison
    s1 c.ctx (saveAddr s c.ctx c.savedOn) 4096 = false) ∧ (checkFootprint (tlbsOfArray a) true (fld (getCtx s1 c.ctx) 116 12) (courseSegs c.raw
    c.opS c.opT c.opO) s1 = (.good foot, s1)) ∧ (needsSpill s a c = false) ∧ (needsSpill s1 a c = false) ∧ ((∀ x ∈ runReads s1 a
    { c with foot := foot }, target x.pa ≠ .peer)) :=
  ⟨{ user with sched.ctx := [(5, BitVec.ofNat 512 (1 * 2 ^ 52 + 1 * 2 ^ 116 + 2 ^ 316))], mem.bytes := user.mem.bytes ++ [(2 ^ 48 + 0xFFC, 0x6E), (2 ^ 48 + 0xFFD, 0x58), (2 ^ 48 + 0xFFE, 0x32), (2 ^ 48 + 0xFFF, 0xA7)], mem.tags := [(2 ^ 42 + 63, some 5)], arrays.arr := [(0, { courses := [{ course scan (.queue 1 0) .saved with opS := BitVec.ofNat 256 (0x1040 + 5 * 2 ^ 158 + 2 ^ 176 + 2 ^ 192), opO := BitVec.ofNat 256 (0x20C * 2 ^ 56 + 2 ^ 164) }] })] }, 0, { course scan (.queue 1 0) .saved with opS := BitVec.ofNat 256 (0x1040 + 5 * 2 ^ 158 + 2 ^ 176 + 2 ^ 192), opO := BitVec.ofNat 256 (0x20C * 2 ^ 56 + 2 ^ 164) }, (homeRead 5 blockSlot (saveAddr ({ user with sched.ctx := [(5, BitVec.ofNat 512 (1 * 2 ^ 52 + 1 * 2 ^ 116 + 2 ^ 316))], mem.bytes := user.mem.bytes ++ [(2 ^ 48 + 0xFFC, 0x6E), (2 ^ 48 + 0xFFD, 0x58), (2 ^ 48 + 0xFFE, 0x32), (2 ^ 48 + 0xFFF, 0xA7)], mem.tags := [(2 ^ 42 + 63, some 5)], arrays.arr := [(0, { courses := [{ course scan (.queue 1 0) .saved with opS := BitVec.ofNat 256 (0x1040 + 5 * 2 ^ 158 + 2 ^ 176 + 2 ^ 192), opO := BitVec.ofNat 256 (0x20C * 2 ^ 56 + 2 ^ 164) }] })] }) 5 0) 4096 2 (beginSlice 0 5 ({ user with sched.ctx := [(5, BitVec.ofNat 512 (1 * 2 ^ 52 + 1 * 2 ^ 116 + 2 ^ 316))], mem.bytes := user.mem.bytes ++ [(2 ^ 48 + 0xFFC, 0x6E), (2 ^ 48 + 0xFFD, 0x58), (2 ^ 48 + 0xFFE, 0x32), (2 ^ 48 + 0xFFF, 0xA7)], mem.tags := [(2 ^ 42 + 63, some 5)], arrays.arr := [(0, { courses := [{ course scan (.queue 1 0) .saved with opS := BitVec.ofNat 256 (0x1040 + 5 * 2 ^ 158 + 2 ^ 176 + 2 ^ 192), opO := BitVec.ofNat 256 (0x20C * 2 ^ 56 + 2 ^ 164) }] })] }))).1, (homeRead 5 blockSlot (saveAddr ({ user with sched.ctx := [(5, BitVec.ofNat 512 (1 * 2 ^ 52 + 1 * 2 ^ 116 + 2 ^ 316))], mem.bytes := user.mem.bytes ++ [(2 ^ 48 + 0xFFC, 0x6E), (2 ^ 48 + 0xFFD, 0x58), (2 ^ 48 + 0xFFE, 0x32), (2 ^ 48 + 0xFFF, 0xA7)], mem.tags := [(2 ^ 42 + 63, some 5)], arrays.arr := [(0, { courses := [{ course scan (.queue 1 0) .saved with opS := BitVec.ofNat 256 (0x1040 + 5 * 2 ^ 158 + 2 ^ 176 + 2 ^ 192), opO := BitVec.ofNat 256 (0x20C * 2 ^ 56 + 2 ^ 164) }] })] }) 5 0) 4096 2 (beginSlice 0 5 ({ user with sched.ctx := [(5, BitVec.ofNat 512 (1 * 2 ^ 52 + 1 * 2 ^ 116 + 2 ^ 316))], mem.bytes := user.mem.bytes ++ [(2 ^ 48 + 0xFFC, 0x6E), (2 ^ 48 + 0xFFD, 0x58), (2 ^ 48 + 0xFFE, 0x32), (2 ^ 48 + 0xFFF, 0xA7)], mem.tags := [(2 ^ 42 + 63, some 5)], arrays.arr := [(0, { courses := [{ course scan (.queue 1 0) .saved with opS := BitVec.ofNat 256 (0x1040 + 5 * 2 ^ 158 + 2 ^ 176 + 2 ^ 192), opO := BitVec.ofNat 256 (0x20C * 2 ^ 56 + 2 ^ 164) }] })] }))).2, [⟨0x1040, 0x40, 1, 3, 0, false, false⟩, ⟨0x1060, 0x60, 8, 3, 0, false, false⟩],
    by unfold ArrayRuns QuietStorage; decide +kernel, Prod.mk.eta.symm, by decide +kernel⟩

theorem witness_CoursesStartAndResume_3 : ∃ (s : State) (a : ArrayId) (c : Course) (o : Nat) (foot : List Extent), (ArrayRuns a s) ∧ (s.mem.flaws =
    []) ∧ (pickCourse s a = some c) ∧ (usesStore s a c = true) ∧ ((getArr s a).store.ctx = some o) ∧ ((getArr s a).store.unsure = false) ∧ (spillKey
    o (getArr s a).store.home ≠ spillKey c.ctx c.home) ∧ (tget none (getArr s a).spills (spillKey c.ctx c.home) = none) ∧ ((spillArea a o (getArr s
    a).store.home needW s).1 = some foot) ∧ (WayClear s [] foot) ∧ ((∀ x ∈ foot, target x.pa ≠ .peer)) :=
  ⟨{ user with hosts := [(0, { link := 2 })], tu.tlb := [⟨0, 1, 0, BitVec.ofNat 256 (1 * 2 ^ 212 + 201 * 2 ^ 176 + 2 ^ 38 * 2 ^ 136 + 3 * 2 ^ 124 + 2 ^ 12 + 7 * 2 ^ 8 + 1)⟩], mem.slots := [(3, { key := some 9, bound := [5, 6] })], sched.ctx := [(5, BitVec.ofNat 512 (1 * 2 ^ 52 + 1 * 2 ^ 116)), (6, BitVec.ofNat 512 (1 * 2 ^ 52 + 1 * 2 ^ 116 + 0x1000 * 2 ^ 448))], arrays.arr := [(0, { courses := [course (scan - 1 + 2 ^ 7) (.queue 1 0) .ready], store := { ctx := some 6, chain := true, rows := 1, entries := [(0, some {})] } })] }, 0, course (scan - 1 + 2 ^ 7) (.queue 1 0) .ready, 6, [⟨0x1000, 2 ^ 50, 819200, 3, 0, false, true⟩],
    by unfold WayClear ArrayRuns; decide +kernel⟩

theorem witness_CoursesStartAndResume_4 : ∃ (s : State) (a : ArrayId) (q : SeqId) (b : BitVec 32), (fabOn s = true) ∧ (s.acts = []) ∧ ((getCluster s
    (a / 4)).stopped = true) :=
  ⟨{ ready with power.clusters := [(0, { stopped := true })] }, 0, 5, 1, by decide +kernel⟩

theorem witness_CoursesStartAndResume_5 : ∃ (s : State) (a : ArrayId) (q : SeqId) (b : BitVec 32) (c : Course) (v : Nat), (ArrayRuns a s) ∧ ((getArr
    s a).courses = [c]) ∧ (c.bound = [(q.val, b.toNat, v)]) :=
  ⟨{ user with arrays.arr := [(0, { courses := [{ (course scan (.queue 1 0) .running) with bound := [(5, 1, 0)] }] })] }, 0, 5, 1, { (course scan (.queue 1 0) .running) with bound := [(5, 1, 0)] }, 0,
    by unfold ArrayRuns; decide +kernel⟩

/-! `CoursesComplete` -/

theorem witness_CoursesComplete_1 : ∃ (s : State) (a : ArrayId) (c : Course) (r : RunLog), (ArrayRuns a s) ∧ (runningCourse s a = some c) ∧ (c.stage
    = .running) ∧ ((∃ b ∈ c.bound, b.2.2 = 0)) :=
  ⟨{ user with arrays.arr := [(0, { courses := [{ course scan (.queue 1 0) .running with bound := [(5, 1, 0)] }], run := some 1 })] }, 0, { course scan (.queue 1 0) .running with bound := [(5, 1, 0)] }, ⟨⟨1, 0, 0, 0, 0, 0⟩, 0, 0, 0, false, []⟩,
    by unfold ArrayRuns; decide +kernel⟩

theorem witness_CoursesComplete_2 : ∃ (s : State) (a : ArrayId) (c : Course) (r : RunLog) (q : Nat) (idx : Nat) (k : Cmd) (x : Extent), ((RunsAlone
    a c q idx k s) ∧ (c.stage = .running) ∧ (c.blocked = false) ∧ (blocksOut s a = false) ∧ (cdOp c.raw = 2) ∧ (cdFromImage c.raw = false) ∧
    (cdSeqMode c.raw = 0) ∧ (s.mem.flaws = []) ∧ (WayClear s (runReads s a c) (courseWrites s c)) ∧ (hostInputsDead s c = false) ∧ (footVerdict s
    c.ctx c.foot = .ok) ∧ (outputsFree s (viewExt s a c r.ext) a c = false)) ∧ ((∀ va, footPoison s c.ctx c.foot va = false)) ∧ (extentOf c.foot
    (odRecord c.opO) = some x) ∧ ((x.pa + (odRecord c.opO - x.va)) % 8 = 0) ∧ (keyIs s ((x.pa + (odRecord c.opO - x.va)) / 64) x.keySlot = true) ∧
    (target ((x.pa + (odRecord c.opO - x.va)) / 64 * 64) = .stacks) ∧ (target (x.pa + (odRecord c.opO - x.va)) = .stacks) :=
  ⟨{ user with arrays.arr := [(0, { courses := [{ course scan (.queue 1 0) .running with opS := BitVec.ofNat 256 (0x1040 + 5 * 2 ^ 158 + 2 ^ 176 + 2 ^ 192), opO := BitVec.ofNat 256 (0x20C * 2 ^ 56 + 2 ^ 164), foot := [⟨0x1040, 0x40, 1, 3, 0, false, false⟩, ⟨0x1060, 0x60, 8, 3, 0, false, false⟩] }], run := some 1 })], queues := [(1, { cmds := [command] })] }, 0, { course scan (.queue 1 0) .running with opS := BitVec.ofNat 256 (0x1040 + 5 * 2 ^ 158 + 2 ^ 176 + 2 ^ 192), opO := BitVec.ofNat 256 (0x20C * 2 ^ 56 + 2 ^ 164), foot := [⟨0x1040, 0x40, 1, 3, 0, false, false⟩, ⟨0x1060, 0x60, 8, 3, 0, false, false⟩] }, ⟨⟨1, 0, 0, 0, 0, 0⟩, 0, 0, 0, false, []⟩, 1, 0, command, ⟨0x1060, 0x60, 8, 3, 0, false, false⟩,
    by unfold RunsAlone WayClear ArrayRuns; decide +kernel, no_poison _ _ _ (by decide +kernel) (by decide +kernel) (by decide +kernel),
    by decide +kernel⟩

theorem witness_CoursesComplete_3 : ∃ (s : State) (a : ArrayId) (c : Course) (r : RunLog) (q : Nat) (idx : Nat) (k : Cmd), ((RunsAlone a c q idx k
    s) ∧ (c.stage = .running) ∧ (c.blocked = false) ∧ (blocksOut s a = false) ∧ (cdOp c.raw = 1) ∧ (cdForward c.raw = true) ∧ (cdAccumulate c.raw =
    false) ∧ (cdFromImage c.raw = false) ∧ (cdSeqMode c.raw = 0) ∧ (c.intake = 0) ∧ (WayClear s (runReads s a c) (courseWrites s c)) ∧
    (hostInputsDead s c = false) ∧ (footVerdict s c.ctx c.foot = .ok) ∧ (outputsFree s (viewExt s a c r.ext) a c = false)) ∧ ((∀ va, footPoison s
    c.ctx c.foot va = false)) ∧ ((if cdFlat c.raw then (outShape c.raw c.opS c.opT).1 ≤ 16 else (outShape c.raw c.opS c.opT).2 ≤ 128)) :=
  ⟨{ user with arrays.arr := [(0, { courses := [{ course (BitVec.ofNat 1024 (1 + 2 ^ 7 + 2 ^ 32 + 0x1000 * 2 ^ 320 + 0x1000 * 2 ^ 384)) (.queue 1 0) .running with opS := BitVec.ofNat 256 (0x1040 + 5 * 2 ^ 158 + 2 ^ 176 + 2 ^ 192), opT := BitVec.ofNat 256 (0x1040 + 5 * 2 ^ 158 + 2 ^ 176 + 2 ^ 192), foot := [⟨0x1040, 0x40, 1, 3, 0, false, false⟩] }], run := some 1 })], queues := [(1, { cmds := [command] })] }, 0, { course (BitVec.ofNat 1024 (1 + 2 ^ 7 + 2 ^ 32 + 0x1000 * 2 ^ 320 + 0x1000 * 2 ^ 384)) (.queue 1 0) .running with opS := BitVec.ofNat 256 (0x1040 + 5 * 2 ^ 158 + 2 ^ 176 + 2 ^ 192), opT := BitVec.ofNat 256 (0x1040 + 5 * 2 ^ 158 + 2 ^ 176 + 2 ^ 192), foot := [⟨0x1040, 0x40, 1, 3, 0, false, false⟩] }, ⟨⟨1, 0, 0, 0, 0, 0⟩, 0, 0, 0, false, []⟩, 1, 0, command,
    by unfold RunsAlone WayClear ArrayRuns; decide +kernel, no_poison _ _ _ (by decide +kernel) (by decide +kernel) (by decide +kernel),
    by decide +kernel⟩

theorem witness_CoursesComplete_4 : ∃ (s : State) (a : ArrayId) (c : Course) (r : RunLog) (q : Nat) (idx : Nat) (k : Cmd) (x : Extent) (pa : Nat),
    ((RunsAlone a c q idx k s) ∧ (c.stage = .running) ∧ (c.blocked = false) ∧ (blocksOut s a = false) ∧ (outputsFree s (viewExt s a c r.ext) a c =
    false) ∧ (cdOp c.raw = 1) ∧ (cdForward c.raw = false) ∧ (cdAccumulate c.raw = false) ∧ (cdFromImage c.raw = false) ∧ (cdSeqMode c.raw = 0) ∧
    (c.strict = false) ∧ (c.resume = 0) ∧ (c.intake = 0) ∧ (s.mem.flaws = []) ∧ (WayClear s (runReads s a c) (courseWrites s c)) ∧ (footVerdict s
    c.ctx c.foot = .ok) ∧ (outAddr c.opO 0 0 % (fmtBits (odFmt c.opO) / 8) = 0) ∧ (outShape c.raw c.opS c.opT = (1, 1)) ∧ (odFmt c.opO ∈ [5, 6, 7,
    8, 9]) ∧ (odMx c.opO = false) ∧ (odRec c.opO = false) ∧ ((∀ y ∈ c.foot, target y.pa = .stacks))) ∧ ((∀ va, footPoison s c.ctx c.foot va =
    false)) ∧ (extentOf c.foot (outAddr c.opO 0 0) = some x) ∧ (pa = x.pa + (outAddr c.opO 0 0 - x.va)) ∧ (pa % (fmtBits (odFmt c.opO) / 8) = 0) ∧
    (target pa = .stacks) ∧ (target (pa / 64 * 64) = .stacks) ∧ (keyIs s (pa / 64) x.keySlot = true) :=
  ⟨{ user with arrays.arr := [(0, { courses := [{ course (BitVec.ofNat 1024 (1 + 2 ^ 32 + 0x1000 * 2 ^ 320 + 0x1000 * 2 ^ 384 + 0x1020 * 2 ^ 448)) (.queue 1 0) .running with opS := BitVec.ofNat 256 (0x1040 + 5 * 2 ^ 158 + 2 ^ 176 + 2 ^ 192), opT := BitVec.ofNat 256 (0x1040 + 5 * 2 ^ 158 + 2 ^ 176 + 2 ^ 192), opO := BitVec.ofNat 256 (0x1060 + 9 * 2 ^ 158 + 2 ^ 176 + 2 ^ 192), foot := [⟨0x1040, 0x40, 1, 3, 0, false, false⟩, ⟨0x1060, 0x60, 4, 3, 0, false, false⟩] }], run := some 1 })], queues := [(1, { cmds := [command] })] }, 0, { course (BitVec.ofNat 1024 (1 + 2 ^ 32 + 0x1000 * 2 ^ 320 + 0x1000 * 2 ^ 384 + 0x1020 * 2 ^ 448)) (.queue 1 0) .running with opS := BitVec.ofNat 256 (0x1040 + 5 * 2 ^ 158 + 2 ^ 176 + 2 ^ 192), opT := BitVec.ofNat 256 (0x1040 + 5 * 2 ^ 158 + 2 ^ 176 + 2 ^ 192), opO := BitVec.ofNat 256 (0x1060 + 9 * 2 ^ 158 + 2 ^ 176 + 2 ^ 192), foot := [⟨0x1040, 0x40, 1, 3, 0, false, false⟩, ⟨0x1060, 0x60, 4, 3, 0, false, false⟩] }, ⟨⟨1, 0, 0, 0, 0, 0⟩, 0, 0, 0, false, []⟩, 1, 0, command, ⟨0x1060, 0x60, 4, 3, 0, false, false⟩, 0x60,
    by unfold RunsAlone WayClear ArrayRuns; decide +kernel, no_poison _ _ _ (by decide +kernel) (by decide +kernel) (by decide +kernel),
    by decide +kernel⟩

/-! `RunningCoursesAreStoppedAndRepeated` -/

theorem witness_RunningCoursesAreStoppedAndRepeated_1_1 : ∃ (s : State) (a : ArrayId) (c : Course) (r : RunLog) (st : Status) (q : Nat) (idx : Nat)
    (k : Cmd), (RunsAlone a c q idx k s) ∧ (c.stage = .running) ∧ (st = .crcExhausted) ∧ (QuietStorage s) ∧ (NoPeers a c s) ∧ ((∀ x ∈ c.foot, target
    x.pa ≠ .host ∨ x.flushed = false)) ∧ ((r.rows = 0 ∨ WayClear s [] (courseWrites s c))) ∧ (c.faultRun = false) :=
  ⟨{ user with arrays.arr := [(0, { courses := [{ course scan (.queue 1 0) .running with opS := BitVec.ofNat 256 (0x1040 + 5 * 2 ^ 158 + 2 ^ 176 + 2 ^ 192), opO := BitVec.ofNat 256 (0x20C * 2 ^ 56 + 2 ^ 164), foot := [⟨0x1040, 0x40, 1, 3, 0, false, false⟩, ⟨0x1060, 0x60, 8, 3, 0, false, false⟩] }], run := some 1 })], queues := [(1, { cmds := [command] })] }, 0, { course scan (.queue 1 0) .running with opS := BitVec.ofNat 256 (0x1040 + 5 * 2 ^ 158 + 2 ^ 176 + 2 ^ 192), opO := BitVec.ofNat 256 (0x20C * 2 ^ 56 + 2 ^ 164), foot := [⟨0x1040, 0x40, 1, 3, 0, false, false⟩, ⟨0x1060, 0x60, 8, 3, 0, false, false⟩] }, ⟨⟨1, 0, 0, 0, 0, 0⟩, 0, 0, 0, false, []⟩, .crcExhausted, 1, 0, command,
    by unfold NoPeers RunsAlone WayClear ArrayRuns QuietStorage; decide +kernel⟩

theorem witness_RunningCoursesAreStoppedAndRepeated_1_2 : ∃ (s : State) (a : ArrayId) (c : Course) (r : RunLog) (st : Status) (q : Nat) (idx : Nat)
    (k : Cmd), (RunsAlone a c q idx k s) ∧ (c.stage = .running) ∧ (st = .crcExhausted) ∧ (QuietStorage s) ∧ (NoPeers a c s) ∧ ((∀ x ∈ c.foot, target
    x.pa ≠ .host ∨ x.flushed = false)) ∧ ((r.rows = 0 ∨ WayClear s [] (courseWrites s c))) ∧ (c.faultRun = true) :=
  ⟨{ user with arrays.arr := [(0, { courses := [{ course scan (.queue 1 0) .running with opS := BitVec.ofNat 256 (0x1040 + 5 * 2 ^ 158 + 2 ^ 176 + 2 ^ 192), opO := BitVec.ofNat 256 (0x20C * 2 ^ 56 + 2 ^ 164), foot := [⟨0x1040, 0x40, 1, 3, 0, false, false⟩, ⟨0x1060, 0x60, 8, 3, 0, false, false⟩], faultRun := true }], run := some 1 })], queues := [(1, { cmds := [command] })] }, 0, { course scan (.queue 1 0) .running with opS := BitVec.ofNat 256 (0x1040 + 5 * 2 ^ 158 + 2 ^ 176 + 2 ^ 192), opO := BitVec.ofNat 256 (0x20C * 2 ^ 56 + 2 ^ 164), foot := [⟨0x1040, 0x40, 1, 3, 0, false, false⟩, ⟨0x1060, 0x60, 8, 3, 0, false, false⟩], faultRun := true }, ⟨⟨1, 0, 0, 0, 0, 0⟩, 0, 0, 0, false, []⟩, .crcExhausted, 1, 0, command,
    by unfold NoPeers RunsAlone WayClear ArrayRuns QuietStorage; decide +kernel⟩

theorem witness_RunningCoursesAreStoppedAndRepeated_2 : ∃ (s : State) (a : ArrayId) (c : Course) (r : RunLog) (q : Nat) (idx : Nat) (k : Cmd),
    (RunsAlone a c q idx k s) ∧ (c.stage = .running) ∧ (c.strict = true) ∧ (c.strictRun = false) ∧ (cdOp c.raw = 1) ∧ (QuietStorage s) ∧ (WayClear s
    (runReads s a c) []) ∧ (NoPeers a c s) :=
  ⟨{ user with arrays.arr := [(0, { courses := [{ course (BitVec.ofNat 1024 (1 + 2 ^ 32 + 0x1000 * 2 ^ 320 + 0x1000 * 2 ^ 384 + 0x1020 * 2 ^ 448)) (.queue 1 0) .running with opS := BitVec.ofNat 256 (0x1040 + 5 * 2 ^ 158 + 2 ^ 176 + 2 ^ 192), opT := BitVec.ofNat 256 (0x1040 + 5 * 2 ^ 158 + 2 ^ 176 + 2 ^ 192), opO := BitVec.ofNat 256 (0x1060 + 9 * 2 ^ 158 + 2 ^ 176 + 2 ^ 192), foot := [⟨0x1040, 0x40, 1, 3, 0, false, false⟩, ⟨0x1060, 0x60, 4, 3, 0, false, false⟩], strict := true }], run := some 1 })], queues := [(1, { cmds := [command] })] }, 0, { course (BitVec.ofNat 1024 (1 + 2 ^ 32 + 0x1000 * 2 ^ 320 + 0x1000 * 2 ^ 384 + 0x1020 * 2 ^ 448)) (.queue 1 0) .running with opS := BitVec.ofNat 256 (0x1040 + 5 * 2 ^ 158 + 2 ^ 176 + 2 ^ 192), opT := BitVec.ofNat 256 (0x1040 + 5 * 2 ^ 158 + 2 ^ 176 + 2 ^ 192), opO := BitVec.ofNat 256 (0x1060 + 9 * 2 ^ 158 + 2 ^ 176 + 2 ^ 192), foot := [⟨0x1040, 0x40, 1, 3, 0, false, false⟩, ⟨0x1060, 0x60, 4, 3, 0, false, false⟩], strict := true }, ⟨⟨1, 0, 0, 0, 0, 0⟩, 0, 0, 0, false, []⟩, 1, 0, command,
    by unfold NoPeers RunsAlone WayClear ArrayRuns QuietStorage; decide +kernel⟩

theorem witness_RunningCoursesAreStoppedAndRepeated_3_1 : ∃ (s : State) (a : ArrayId) (c : Course) (row : BitVec 32) (i : Byte) (p : Fin 28) (q :
    Nat) (idx : Nat) (k : Cmd), (RunsAlone a c q idx k s) ∧ (c.stage = .running) ∧ (c.resume ≤ row.toNat) ∧ (row.toNat ≤ cdRows c.raw) ∧ ((getArr s
    a).ask = true) ∧ ((pairStart c row.toNat = row.toNat ∨ row.toNat = cdRows c.raw)) :=
  ⟨{ user with arrays.arr := [(0, { courses := [{ course scan (.queue 1 0) .running with opS := BitVec.ofNat 256 (0x1040 + 5 * 2 ^ 158 + 2 ^ 176 + 2 ^ 192), opO := BitVec.ofNat 256 (0x20C * 2 ^ 56 + 2 ^ 164), foot := [⟨0x1040, 0x40, 1, 3, 0, false, false⟩, ⟨0x1060, 0x60, 8, 3, 0, false, false⟩] }], run := some 1, ask := true })], queues := [(1, { cmds := [command] })] }, 0, { course scan (.queue 1 0) .running with opS := BitVec.ofNat 256 (0x1040 + 5 * 2 ^ 158 + 2 ^ 176 + 2 ^ 192), opO := BitVec.ofNat 256 (0x20C * 2 ^ 56 + 2 ^ 164), foot := [⟨0x1040, 0x40, 1, 3, 0, false, false⟩, ⟨0x1060, 0x60, 8, 3, 0, false, false⟩] }, 1, 3, 0, 1, 0, command,
    by unfold RunsAlone ArrayRuns; decide +kernel⟩

theorem witness_RunningCoursesAreStoppedAndRepeated_3_2 : ∃ (s : State) (a : ArrayId) (c : Course) (row : BitVec 32) (i : Byte) (p : Fin 28) (q :
    Nat) (idx : Nat) (k : Cmd), (RunsAlone a c q idx k s) ∧ (c.stage = .running) ∧ (c.resume ≤ row.toNat) ∧ (row.toNat ≤ cdRows c.raw) ∧ ((getArr s
    a).ask = true) ∧ (pairStart c row.toNat ≠ row.toNat) ∧ (row.toNat ≠ cdRows c.raw) :=
  ⟨{ user with arrays.arr := [(0, { courses := [{ course (BitVec.ofNat 1024 (1 + 2 * 2 ^ 32)) (.queue 1 0) .running with opS := BitVec.ofNat 256 (2 * 2 ^ 158), opT := BitVec.ofNat 256 (2 * 2 ^ 158) }], run := some 1, ask := true })], queues := [(1, { cmds := [command] })] }, 0, { course (BitVec.ofNat 1024 (1 + 2 * 2 ^ 32)) (.queue 1 0) .running with opS := BitVec.ofNat 256 (2 * 2 ^ 158), opT := BitVec.ofNat 256 (2 * 2 ^ 158) }, 1, 3, 0, 1, 0, command,
    by unfold RunsAlone ArrayRuns; decide +kernel⟩

theorem witness_RunningCoursesAreStoppedAndRepeated_3_3 : ∃ (s : State) (a : ArrayId) (c : Course) (row : BitVec 32) (i : Byte) (p : Fin 28) (q :
    Nat) (idx : Nat) (k : Cmd), (RunsAlone a c q idx k s) ∧ (c.stage = .running) ∧ (c.resume ≤ row.toNat) ∧ (row.toNat ≤ cdRows c.raw) ∧ ((getArr s
    a).ask = false) :=
  ⟨{ user with arrays.arr := [(0, { courses := [{ course scan (.queue 1 0) .running with opS := BitVec.ofNat 256 (0x1040 + 5 * 2 ^ 158 + 2 ^ 176 + 2 ^ 192), opO := BitVec.ofNat 256 (0x20C * 2 ^ 56 + 2 ^ 164), foot := [⟨0x1040, 0x40, 1, 3, 0, false, false⟩, ⟨0x1060, 0x60, 8, 3, 0, false, false⟩] }], run := some 1 })], queues := [(1, { cmds := [command] })] }, 0, { course scan (.queue 1 0) .running with opS := BitVec.ofNat 256 (0x1040 + 5 * 2 ^ 158 + 2 ^ 176 + 2 ^ 192), opO := BitVec.ofNat 256 (0x20C * 2 ^ 56 + 2 ^ 164), foot := [⟨0x1040, 0x40, 1, 3, 0, false, false⟩, ⟨0x1060, 0x60, 8, 3, 0, false, false⟩] }, 1, 3, 0, 1, 0, command,
    by unfold RunsAlone ArrayRuns; decide +kernel⟩

theorem witness_RunningCoursesAreStoppedAndRepeated_4 : ∃ (s : State) (a : ArrayId) (c : Course) (r : RunLog) (row : Nat) (i : Nat) (p : Nat) (q :
    Nat) (idx : Nat) (k : Cmd), (RunsAlone a c q idx k s) ∧ (c.stage = .draining row i p) ∧ (c.blocked = false) ∧ (blocksOut s a = false) ∧ (cdOp
    c.raw = 2) ∧ (cdFlat c.raw = false) ∧ (odCols c.opT = 0) ∧ (odOrient c.opT = false) ∧ (cdSeqMode c.raw = 0) ∧ (cdFromImage c.raw = false) ∧
    (s.mem.flaws = []) ∧ (WayClear s (runReads s a c) (courseWrites s c ++ saveExtent s c.ctx a)) ∧ (hostInputsDead s c = false) ∧ (footVerdict s
    c.ctx c.foot = .ok) ∧ (accessVerdict s c.ctx blockSlot (saveAddr s c.ctx a) 4096 = .ok) :=
  ⟨{ user with arrays.arr := [(0, { courses := [{ course scan (.queue 1 0) (.draining 1 0 0) with opS := BitVec.ofNat 256 (0x1040 + 5 * 2 ^ 158 + 2 ^ 176 + 2 ^ 192), opO := BitVec.ofNat 256 (0x20C * 2 ^ 56 + 2 ^ 164), foot := [⟨0x1040, 0x40, 1, 3, 0, false, false⟩, ⟨0x1060, 0x60, 8, 3, 0, false, false⟩] }], run := some 1 })], queues := [(1, { cmds := [command] })], sched.ctx := [(5, BitVec.ofNat 512 (1 * 2 ^ 52 + 1 * 2 ^ 116 + 2 ^ 316 + 2000 * 2 ^ 224)), (6, BitVec.ofNat 512 (1 * 2 ^ 52 + 1 * 2 ^ 116 + 2 ^ 316 + 2000 * 2 ^ 224))] }, 0, { course scan (.queue 1 0) (.draining 1 0 0) with opS := BitVec.ofNat 256 (0x1040 + 5 * 2 ^ 158 + 2 ^ 176 + 2 ^ 192), opO := BitVec.ofNat 256 (0x20C * 2 ^ 56 + 2 ^ 164), foot := [⟨0x1040, 0x40, 1, 3, 0, false, false⟩, ⟨0x1060, 0x60, 8, 3, 0, false, false⟩] }, ⟨⟨1, 0, 0, 0, 0, 0⟩, 0, 0, 0, false, []⟩, 1, 0, 0, 1, 0, command,
    by unfold RunsAlone WayClear ArrayRuns; decide +kernel⟩

theorem witness_RunningCoursesAreStoppedAndRepeated_5 : ∃ (s : State) (a : ArrayId) (c : Course) (r : RunLog) (row : Nat) (i : Nat) (p : Nat) (q :
    Nat) (idx : Nat) (k : Cmd), (RunsAlone a c q idx k s) ∧ (c.stage = .draining row i p) ∧ (c.faultRun = false) ∧ (s.mem.flaws = []) ∧ (NoPeers a c
    s) ∧ ((r.rows = 0 ∨ WayClear s [] (courseWrites s c))) ∧ (accessVerdict s c.ctx blockSlot (saveAddr s c.ctx a) 4096 = .ok) :=
  ⟨{ user with arrays.arr := [(0, { courses := [{ course scan (.queue 1 0) (.draining 1 0 0) with opS := BitVec.ofNat 256 (0x1040 + 5 * 2 ^ 158 + 2 ^ 176 + 2 ^ 192), opO := BitVec.ofNat 256 (0x20C * 2 ^ 56 + 2 ^ 164), foot := [⟨0x1040, 0x40, 1, 3, 0, false, false⟩, ⟨0x1060, 0x60, 8, 3, 0, false, false⟩] }], run := some 1 })], queues := [(1, { cmds := [command] })], sched.ctx := [(5, BitVec.ofNat 512 (1 * 2 ^ 52 + 1 * 2 ^ 116 + 2 ^ 316 + 2000 * 2 ^ 224)), (6, BitVec.ofNat 512 (1 * 2 ^ 52 + 1 * 2 ^ 116 + 2 ^ 316 + 2000 * 2 ^ 224))] }, 0, { course scan (.queue 1 0) (.draining 1 0 0) with opS := BitVec.ofNat 256 (0x1040 + 5 * 2 ^ 158 + 2 ^ 176 + 2 ^ 192), opO := BitVec.ofNat 256 (0x20C * 2 ^ 56 + 2 ^ 164), foot := [⟨0x1040, 0x40, 1, 3, 0, false, false⟩, ⟨0x1060, 0x60, 8, 3, 0, false, false⟩] }, ⟨⟨1, 0, 0, 0, 0, 0⟩, 0, 0, 0, false, []⟩, 1, 0, 0, 1, 0, command,
    by unfold NoPeers RunsAlone WayClear ArrayRuns; decide +kernel⟩

theorem witness_RunningCoursesAreStoppedAndRepeated_6_1 : ∃ (s : State) (a : ArrayId) (c : Course), (fabOn s = true) ∧ (s.acts = []) ∧
    (runningCourse s a = some c) ∧ ((getSlice s a).ctx = some c.ctx) ∧ ((getSlice s a).endedAt = none) ∧ ((getSlice s a).start + sliceLength s a
    c.ctx ≤ s.aoncnt) ∧ ((waitingCtxs s a).any (fun d => d ≠ c.ctx && !(outranks s c.ctx d)) = true) :=
  ⟨{ user with arrays.arr := [(0, { courses := [{ course scan (.queue 1 0) .running with opS := BitVec.ofNat 256 (0x1040 + 5 * 2 ^ 158 + 2 ^ 176 + 2 ^ 192), opO := BitVec.ofNat 256 (0x20C * 2 ^ 56 + 2 ^ 164), foot := [⟨0x1040, 0x40, 1, 3, 0, false, false⟩, ⟨0x1060, 0x60, 8, 3, 0, false, false⟩] }, { course scan (.queue 1 0) .ready with id := 2, ctx := 6 }], run := some 1 })], sched.ctx := [(5, BitVec.ofNat 512 (1 * 2 ^ 52 + 1 * 2 ^ 116 + 2 ^ 316 + 2000 * 2 ^ 224)), (6, BitVec.ofNat 512 (1 * 2 ^ 52 + 1 * 2 ^ 116 + 2 ^ 316 + 2000 * 2 ^ 224))], sched.slices := [(0, { ctx := some 5 })], aoncnt := 3000 }, 0, { course scan (.queue 1 0) .running with opS := BitVec.ofNat 256 (0x1040 + 5 * 2 ^ 158 + 2 ^ 176 + 2 ^ 192), opO := BitVec.ofNat 256 (0x20C * 2 ^ 56 + 2 ^ 164), foot := [⟨0x1040, 0x40, 1, 3, 0, false, false⟩, ⟨0x1060, 0x60, 8, 3, 0, false, false⟩] },
    by decide +kernel⟩

theorem witness_RunningCoursesAreStoppedAndRepeated_6_2 : ∃ (s : State) (a : ArrayId) (c : Course), (fabOn s = true) ∧ (s.acts = []) ∧
    (runningCourse s a = some c) ∧ ((getSlice s a).ctx = some c.ctx) ∧ ((getSlice s a).endedAt = none) ∧ ((getSlice s a).start + sliceLength s a
    c.ctx ≤ s.aoncnt) ∧ ((waitingCtxs s a).any (fun d => d ≠ c.ctx && !(outranks s c.ctx d)) = false) :=
  ⟨{ user with arrays.arr := [(0, { courses := [{ course scan (.queue 1 0) .running with opS := BitVec.ofNat 256 (0x1040 + 5 * 2 ^ 158 + 2 ^ 176 + 2 ^ 192), opO := BitVec.ofNat 256 (0x20C * 2 ^ 56 + 2 ^ 164), foot := [⟨0x1040, 0x40, 1, 3, 0, false, false⟩, ⟨0x1060, 0x60, 8, 3, 0, false, false⟩] }], run := some 1 })], sched.ctx := [(5, BitVec.ofNat 512 (1 * 2 ^ 52 + 1 * 2 ^ 116 + 2 ^ 316 + 2000 * 2 ^ 224)), (6, BitVec.ofNat 512 (1 * 2 ^ 52 + 1 * 2 ^ 116 + 2 ^ 316 + 2000 * 2 ^ 224))], sched.slices := [(0, { ctx := some 5 })], aoncnt := 3000 }, 0, { course scan (.queue 1 0) .running with opS := BitVec.ofNat 256 (0x1040 + 5 * 2 ^ 158 + 2 ^ 176 + 2 ^ 192), opO := BitVec.ofNat 256 (0x20C * 2 ^ 56 + 2 ^ 164), foot := [⟨0x1040, 0x40, 1, 3, 0, false, false⟩, ⟨0x1060, 0x60, 8, 3, 0, false, false⟩] },
    by decide +kernel⟩

theorem witness_RunningCoursesAreStoppedAndRepeated_7 : ∃ (s : State) (a : ArrayId) (c : Course) (l : PeerId) (r : PeerReq), (fabOn s = true) ∧
    (s.acts = []) ∧ (runningCourse s a = some c) ∧ (s.peers = [(l.val, { out := [r] })]) ∧ (r.waiter = .array a c.id) ∧ (r.landed = false) ∧
    (r.remote = false) ∧ (r.op = 0) ∧ (1 ≤ s.sched.remoteFree) ∧ ((∃ d ∈ waitingCtxs s a, d ≠ c.ctx)) :=
  ⟨{ user with arrays.arr := [(0, { courses := [{ course scan (.queue 1 0) .running with opS := BitVec.ofNat 256 (0x1040 + 5 * 2 ^ 158 + 2 ^ 176 + 2 ^ 192), opO := BitVec.ofNat 256 (0x20C * 2 ^ 56 + 2 ^ 164), foot := [⟨0x1040, 0x40, 1, 3, 0, false, false⟩, ⟨0x1060, 0x60, 8, 3, 0, false, false⟩] }, { course scan (.queue 1 0) .ready with id := 2, ctx := 6 }], run := some 1 })], sched.ctx := [(5, BitVec.ofNat 512 (1 * 2 ^ 52 + 1 * 2 ^ 116 + 2 ^ 316 + 2000 * 2 ^ 224)), (6, BitVec.ofNat 512 (1 * 2 ^ 52 + 1 * 2 ^ 116 + 2 ^ 316 + 2000 * 2 ^ 224))], peers := [(2, { out := [⟨0, .array 0 1, 0, 2 ^ 51, 64, 0, 0, false, false, [], false⟩] })] }, 0, { course scan (.queue 1 0) .running with opS := BitVec.ofNat 256 (0x1040 + 5 * 2 ^ 158 + 2 ^ 176 + 2 ^ 192), opO := BitVec.ofNat 256 (0x20C * 2 ^ 56 + 2 ^ 164), foot := [⟨0x1040, 0x40, 1, 3, 0, false, false⟩, ⟨0x1060, 0x60, 8, 3, 0, false, false⟩] }, 2, ⟨0, .array 0 1, 0, 2 ^ 51, 64, 0, 0, false, false, [], false⟩,
    by decide +kernel⟩

/-! `ChecksAndStepLists` -/

theorem witness_ChecksAndStepLists_1 : ∃ (s : State) (rc : BitVec 16) (sn : BitVec 16) (g : Nat) (w : Bool) (r : RunLog), (s.acts = []) :=
  ⟨ready, 0, 0, 0, true, ⟨⟨1, 0, 0, 0, 0, 0⟩, 0, 0, 0, false, []⟩, by decide +kernel⟩

theorem witness_ChecksAndStepLists_2 : ∃ (s : State) (rc : BitVec 16) (sn : BitVec 16) (g : Nat) (w : Bool) (r : RunLog), (fabOn s = true) ∧ (s.acts
    = []) ∧ (UnitRuns rc.toNat s) ∧ (unitOk rc.toNat = true) ∧ (unitOk sn.toNat = true) ∧ (findXfer s rc.toNat sn.toNat g = none) ∧ (arrayReceiver s
    rc.toNat g = none) :=
  ⟨ready, 0x3000, 0x5200, 7, true, ⟨⟨1, 0, 0, 0, 0, 0⟩, 0, 0, 0, false, []⟩, by unfold UnitRuns; decide +kernel⟩

theorem witness_ChecksAndStepLists_3 : ∃ (s : State) (rc : BitVec 16) (sn : BitVec 16) (g : Nat) (x : Transfer) (r : RunLog), (fabOn s = true) ∧
    (s.acts = []) ∧ (UnitRuns rc.toNat s) ∧ (unitOk rc.toNat = true) ∧ (unitOk sn.toNat = true) ∧ (findXfer s rc.toNat sn.toNat g = some x) ∧
    (x.fails < 3) :=
  ⟨{ ready with xfers := [⟨0x3000, 0x5200, 7, false, 2⟩] }, 0x3000, 0x5200, 7, ⟨0x3000, 0x5200, 7, false, 2⟩, ⟨⟨1, 0, 0, 0, 0, 0⟩, 0, 0, 0, false, []⟩,
    by unfold UnitRuns; decide +kernel⟩

theorem witness_ChecksAndStepLists_4 : ∃ (s : State) (rc : BitVec 16) (sn : BitVec 16) (g : Nat) (x : Transfer) (r : RunLog), (fabOn s = true) ∧
    (s.acts = []) ∧ (UnitRuns rc.toNat s) ∧ (unitOk rc.toNat = true) ∧ (unitOk sn.toNat = true) ∧ (RecordsQuietly s) ∧ (findXfer s rc.toNat sn.toNat
    g = some x) ∧ (arrayReceiver s rc.toNat g = none) :=
  ⟨{ ready with xfers := [⟨0x3000, 0x5200, 7, false, 2⟩] }, 0x3000, 0x5200, 7, ⟨0x3000, 0x5200, 7, false, 2⟩, ⟨⟨1, 0, 0, 0, 0, 0⟩, 0, 0, 0, false, []⟩,
    by unfold UnitRuns RecordsQuietly; decide +kernel⟩

theorem witness_ChecksAndStepLists_5 : ∃ (s : State) (a : ArrayId) (r : RunLog), (ArrayRuns a s) ∧ (RecordsTwice s) ∧ ((getArr s a).fenced = false)
    ∧ ((getArr s a).courses = []) ∧ ((getArr s a).run = none) :=
  ⟨ready, 9, ⟨⟨1, 0, 0, 0, 0, 0⟩, 0, 0, 0, false, []⟩, by unfold RecordsTwice ArrayRuns; decide +kernel⟩

theorem witness_ChecksAndStepLists_6 : ∃ (s : State) (a : ArrayId) (r : RunLog), (ArrayRuns a s) ∧ ((getArr s a).fenced = true) :=
  ⟨{ ready with arrays.arr := [(9, { fenced := true })] }, 9, ⟨⟨1, 0, 0, 0, 0, 0⟩, 0, 0, 0, false, []⟩, by unfold ArrayRuns; decide +kernel⟩

theorem witness_ChecksAndStepLists_7 : ∃ (s : State) (e : EngineId), (fabOn s = true) ∧ (s.acts = []) ∧ (RecordsTwice s) ∧ (getEngine s e = {}) ∧
    ((∀ kv ∈ s.queues, kv.2.cmds = [])) :=
  ⟨ready, 9, by unfold RecordsTwice; decide +kernel⟩

theorem witness_ChecksAndStepLists_8 : ∃ (s : State) (k : WalkerId), (fabOn s = true) ∧ (s.acts = []) ∧ (RecordsTwice s) ∧ (tget false
    s.tu.walkerFenced k = false) ∧ (tget none s.tu.walks k = none) :=
  ⟨ready, 9, by unfold RecordsTwice; decide +kernel⟩

theorem witness_ChecksAndStepLists_9 : ∃ (s : State), ((fabOn s = true) ∧ (s.acts = [])) ∧ ((∀ k, k < 4096 → buildDue s k = false)) :=
  ⟨ready, by decide +kernel, fun k _ => by
    have e : ctxState ready k = fld ctxReset 52 4 := rfl
    have z : fld ctxReset 52 4 = 0 := by decide +kernel
    simp [buildDue, e, z]⟩

theorem witness_ChecksAndStepLists_10 : ∃ (s : State) (c : CtxId) (qs : List Nat), ((fabOn s = true) ∧ (s.acts = []) ∧ (s.mem.flaws = [])) ∧ ((∀ k,
    k < 4096 → buildDue s k = decide (k = c.val))) ∧ (qs = (ranked s c).take (fld (getCtx s c) 352 16)) ∧ (qs ≠ []) :=
  ⟨{ user with sched.ctx := [(5, BitVec.ofNat 512 (1 * 2 ^ 52 + 1 * 2 ^ 116 + 16 * 2 ^ 352 + 1 * 2 ^ 368 + 0x1000 * 2 ^ 384))], sched.seqs := [(9, BitVec.ofNat 512 (2 ^ 28 + 5 * 2 ^ 34 + 10 * 2 ^ 160))] }, 5, (ranked ({ user with sched.ctx := [(5, BitVec.ofNat 512 (1 * 2 ^ 52 + 1 * 2 ^ 116 + 16 * 2 ^ 352 + 1 * 2 ^ 368 + 0x1000 * 2 ^ 384))], sched.seqs := [(9, BitVec.ofNat 512 (2 ^ 28 + 5 * 2 ^ 34 + 10 * 2 ^ 160))] }) 5).take 16,
    by decide +kernel, fun k _ => by
    by_cases h : k = 5
    · subst h; decide +kernel
    · have h' : ¬ 5 = k := fun e => h e.symm
      have e : ctxState ({ user with sched.ctx := [(5, BitVec.ofNat 512 (1 * 2 ^ 52 + 1 * 2 ^ 116 + 16 * 2 ^ 352 + 1 * 2 ^ 368 + 0x1000 * 2 ^ 384))], sched.seqs := [(9, BitVec.ofNat 512 (2 ^ 28 + 5 * 2 ^ 34 + 10 * 2 ^ 160))] }) k = fld ctxReset 52 4 := by simp [ctxState, getCtx, tget, h']
      have z : fld ctxReset 52 4 = 0 := by decide +kernel
      have d : decide (k = (5 : CtxId).val) = false := decide_eq_false h
      rw [d]; unfold buildDue; rw [e.trans z]; rfl, by decide +kernel⟩

theorem witness_ChecksAndStepLists_11 : ∃ (s : State) (c : CtxId), (fabOn s = true) ∧ (s.acts = []) ∧ ((getRun s c).issuing = none) :=
  ⟨ready, 5, by decide +kernel⟩

theorem witness_ChecksAndStepLists_12 : ∃ (s : State) (c : CtxId) (n : Nat) (a : Nat) (foot : List Extent), (fabOn s = true) ∧ (s.acts = []) ∧
    (QuietStorage s) ∧ (ctxState s c = 1) ∧ ((getRun s c).issuing = some n) ∧ ((getRun s c).waitRec = none) ∧ ((flag (getCtx s c) 262 = false ∨
    (getRun s c).gate = 2)) ∧ (progCourses s c = 1) ∧ (checkFootprint tlbsOfService false (fld (getCtx s c) 116 12) [⟨fld (getCtx s c) 384 56, 128,
    needR⟩] s = (.good foot, s)) ∧ ((∀ x ∈ foot, accessVerdict s c x.keySlot x.pa x.len = .ok ∧ runPoison s c x.pa x.len = false)) ∧ (leastArray s =
    some a) ∧ (cdAccumulate (stepCourse s c n (ofBytes 1024 (footBytes s [] c foot (fld (getCtx s c) 384 56) 128))) = false) :=
  ⟨{ user with sched.ctx := [(5, BitVec.ofNat 512 (1 * 2 ^ 52 + 1 * 2 ^ 116 + 16 * 2 ^ 352 + 1 * 2 ^ 368 + 0x1000 * 2 ^ 384))], sched.steps := [(5, { issuing := some 1 })], tu.tlb := [⟨240, 1, 0, BitVec.ofNat 256 (1 * 2 ^ 212 + 1 * 2 ^ 176 + 3 * 2 ^ 124 + 7 * 2 ^ 8 + 1)⟩], mem.bytes := [(0, 2), (4, 1)] }, 5, 1, 0, [⟨0x1000, 0, 128, 3, 0, false, false⟩],
    by unfold QuietStorage; decide +kernel⟩

/-! `QueueCommandsStart` -/

theorem witness_QueueCommandsStart_1 : ∃ (s : State) (q : QueueId) (v : BitVec 2048), (SlotReady q v s) ∧ (slOp v = 1) :=
  ⟨{ user with tu.tlb := [⟨240, 1, 0, BitVec.ofNat 256 (1 * 2 ^ 212 + 1 * 2 ^ 176 + 3 * 2 ^ 124 + 7 * 2 ^ 8 + 1)⟩], queues := [(1, { cfg := BitVec.ofNat 256 (1 + 4 * 2 ^ 42 + 4 * 2 ^ 47 + 5 * 2 ^ 52 + 2 ^ 114 + (2 ^ 50 + 2 ^ 20) * 2 ^ 128 + 0), state := 1, prod := 1, head := some (BitVec.ofNat 2048 (2 ^ 88)) })] }, 1, BitVec.ofNat 2048 (2 ^ 88),
    by unfold SlotReady SlotWaits; decide +kernel⟩

theorem witness_QueueCommandsStart_2 : ∃ (s : State) (q : QueueId) (v : BitVec 2048) (i : Instr), (SlotWaits q v s) ∧ (slotMalformed (confidential s
    (queueCtx s q)) v = true) ∧ (i ∈ [.queueNop q, .courseSlot q, .queueCopy q, .queueFill q, .queueInlineWrite q, .queueFlashing q, .queueSignal q,
    .queueWait q, .digestOpen q, .digestRegion q [], .digestRead q, .digestClose q]) :=
  ⟨{ user with tu.tlb := [⟨240, 1, 0, BitVec.ofNat 256 (1 * 2 ^ 212 + 1 * 2 ^ 176 + 3 * 2 ^ 124 + 7 * 2 ^ 8 + 1)⟩], queues := [(1, { cfg := BitVec.ofNat 256 (1 + 4 * 2 ^ 42 + 4 * 2 ^ 47 + 5 * 2 ^ 52 + 2 ^ 114 + (2 ^ 50 + 2 ^ 20) * 2 ^ 128 + 0), state := 1, prod := 1, head := some (BitVec.ofNat 2048 (2 ^ 88 + 2 ^ 70)) })] }, 1, BitVec.ofNat 2048 (2 ^ 88 + 2 ^ 70), .queueNop 1,
    by unfold SlotWaits; decide +kernel⟩

theorem witness_QueueCommandsStart_3 : ∃ (s : State) (q : QueueId) (v : BitVec 2048), (SlotReady q v s) ∧ (slOp v = 2) ∧ (slArg v < 192) ∧ ((getArr
    s (slArg v)).fenced = false) :=
  ⟨{ user with tu.tlb := [⟨240, 1, 0, BitVec.ofNat 256 (1 * 2 ^ 212 + 1 * 2 ^ 176 + 3 * 2 ^ 124 + 7 * 2 ^ 8 + 1)⟩], queues := [(1, { cfg := BitVec.ofNat 256 (1 + 4 * 2 ^ 42 + 4 * 2 ^ 47 + 5 * 2 ^ 52 + 2 ^ 114 + (2 ^ 50 + 2 ^ 20) * 2 ^ 128 + 0), state := 1, prod := 1, head := some (BitVec.ofNat 2048 (2 * 2 ^ 88 + 128 * 2 ^ 80 + 77 * 2 ^ 128 + 3 * 2 ^ 1664)) })] }, 1, BitVec.ofNat 2048 (2 * 2 ^ 88 + 128 * 2 ^ 80 + 77 * 2 ^ 128 + 3 * 2 ^ 1664),
    by unfold SlotReady SlotWaits; decide +kernel⟩

theorem witness_QueueCommandsStart_4 : ∃ (s : State) (q : QueueId) (v : BitVec 2048) (foot : List Extent) (i : Instr) (n : Nat), ((i, n) ∈
    [(.queueCopy q, 3), (.queueFill q, 4), (.queueInlineWrite q, 5)]) ∧ (SlotReady q v s) ∧ (slOp v = n) ∧ (copyVerdict v = .ok) ∧ (s.engines = [])
    ∧ (s.peers = []) ∧ ((∀ kv ∈ s.queues, kv.1 ≠ q.val → kv.2.cmds = [])) ∧ (FootOk q v ((if n = 3 then [⟨(copyTerms v).2.1, (copyTerms v).2.2,
    needR⟩] else []) ++ [⟨(copyTerms v).1, (copyTerms v).2.2, needW⟩]) foot s) ∧ ((target (footPa foot (copyTerms v).1) = .stacks ∨ target (footPa
    foot (copyTerms v).1) = .scratch)) :=
  ⟨{ user with tu.tlb := [⟨240, 1, 0, BitVec.ofNat 256 (1 * 2 ^ 212 + 1 * 2 ^ 176 + 3 * 2 ^ 124 + 7 * 2 ^ 8 + 1)⟩], queues := [(1, { cfg := BitVec.ofNat 256 (1 + 4 * 2 ^ 42 + 4 * 2 ^ 47 + 5 * 2 ^ 52 + 2 ^ 114 + (2 ^ 50 + 2 ^ 20) * 2 ^ 128 + 0), state := 1, prod := 1, head := some (BitVec.ofNat 2048 (4 * 2 ^ 88 + 40 * 2 ^ 80 + 0x1000 * 2 ^ 192 + 64 * 2 ^ 320 + 8 * 2 ^ 384 + 0x11223344 * 2 ^ 416)) })] }, 1, BitVec.ofNat 2048 (4 * 2 ^ 88 + 40 * 2 ^ 80 + 0x1000 * 2 ^ 192 + 64 * 2 ^ 320 + 8 * 2 ^ 384 + 0x11223344 * 2 ^ 416), [⟨0x1000, 0, 8, 3, 0, false, false⟩], .queueFill 1, 4,
    by unfold FootOk SlotReady SlotWaits; decide +kernel⟩

theorem witness_QueueCommandsStart_5 : ∃ (s : State) (q : QueueId) (v : BitVec 2048) (i : Instr) (n : Nat), ((i, n) ∈ [(.queueCopy q, 3),
    (.queueFill q, 4), (.queueInlineWrite q, 5)]) ∧ (SlotReady q v s) ∧ (slOp v = n) ∧ (copyVerdict v ≠ .ok) :=
  ⟨{ user with tu.tlb := [⟨240, 1, 0, BitVec.ofNat 256 (1 * 2 ^ 212 + 1 * 2 ^ 176 + 3 * 2 ^ 124 + 7 * 2 ^ 8 + 1)⟩], queues := [(1, { cfg := BitVec.ofNat 256 (1 + 4 * 2 ^ 42 + 4 * 2 ^ 47 + 5 * 2 ^ 52 + 2 ^ 114 + (2 ^ 50 + 2 ^ 20) * 2 ^ 128 + 0), state := 1, prod := 1, head := some (BitVec.ofNat 2048 (4 * 2 ^ 88 + 40 * 2 ^ 80 + 0x1000 * 2 ^ 192 + 64 * 2 ^ 320 + 80 * 2 ^ 384)) })] }, 1, BitVec.ofNat 2048 (4 * 2 ^ 88 + 40 * 2 ^ 80 + 0x1000 * 2 ^ 192 + 64 * 2 ^ 320 + 80 * 2 ^ 384), .queueFill 1, 4,
    by unfold SlotReady SlotWaits; decide +kernel⟩

theorem witness_QueueCommandsStart_6 : ∃ (s : State) (q : QueueId) (v : BitVec 2048), (SlotReady q v s) ∧ (slOp v = 6) :=
  ⟨{ user with tu.tlb := [⟨240, 1, 0, BitVec.ofNat 256 (1 * 2 ^ 212 + 1 * 2 ^ 176 + 3 * 2 ^ 124 + 7 * 2 ^ 8 + 1)⟩], queues := [(1, { cfg := BitVec.ofNat 256 (1 + 4 * 2 ^ 42 + 4 * 2 ^ 47 + 5 * 2 ^ 52 + 2 ^ 114 + (2 ^ 50 + 2 ^ 20) * 2 ^ 128 + 0), state := 1, prod := 1, head := some (BitVec.ofNat 2048 (6 * 2 ^ 88)) })], hosts := [(0, { link := 2, wseq := 5, confirmed := 3 })] }, 1, BitVec.ofNat 2048 (6 * 2 ^ 88),
    by unfold SlotReady SlotWaits; decide +kernel⟩

theorem witness_QueueCommandsStart_7 : ∃ (s : State) (q : QueueId) (v : BitVec 2048) (c : Nat) (n : Nat), (SlotReady q v s) ∧ (slOp v = 7) ∧
    (syncBodyBad v = false) ∧ (slBody v 0 17 = c) ∧ (slBody v 64 32 = n) ∧ (n ≠ 0) ∧ (boundTo s.sync c (queueCtx s q) = true) ∧ (s.sync.watches =
    []) ∧ (valueOf s.sync c + n < 2 ^ 32) :=
  ⟨{ user with tu.tlb := [⟨240, 1, 0, BitVec.ofNat 256 (1 * 2 ^ 212 + 1 * 2 ^ 176 + 3 * 2 ^ 124 + 7 * 2 ^ 8 + 1)⟩], queues := [(1, { cfg := BitVec.ofNat 256 (1 + 4 * 2 ^ 42 + 4 * 2 ^ 47 + 5 * 2 ^ 52 + 2 ^ 114 + (2 ^ 50 + 2 ^ 20) * 2 ^ 128 + 0), state := 1, prod := 1, head := some (BitVec.ofNat 2048 (7 * 2 ^ 88 + 16 * 2 ^ 80 + 6 * 2 ^ 128 + 3 * 2 ^ 192)) })], sync.value := [(6, 9)], sync.ctrl := [(6, BitVec.ofNat 64 (1 + 5 * 2 ^ 20))] }, 1, BitVec.ofNat 2048 (7 * 2 ^ 88 + 16 * 2 ^ 80 + 6 * 2 ^ 128 + 3 * 2 ^ 192), 6, 3,
    by unfold SlotReady SlotWaits; decide +kernel⟩

theorem witness_QueueCommandsStart_8_1 : ∃ (s : State) (q : QueueId) (v : BitVec 2048) (c : Nat) (n : Nat), (SlotReady q v s) ∧ (slOp v = 8) ∧
    (syncBodyBad v = false) ∧ (slBody v 0 17 = c) ∧ (slBody v 64 32 = n) ∧ (n ≠ 0) ∧ (boundTo s.sync c (queueCtx s q) = true) ∧ (s.sync.watches =
    []) ∧ (n ≤ valueOf s.sync c) :=
  ⟨{ user with tu.tlb := [⟨240, 1, 0, BitVec.ofNat 256 (1 * 2 ^ 212 + 1 * 2 ^ 176 + 3 * 2 ^ 124 + 7 * 2 ^ 8 + 1)⟩], queues := [(1, { cfg := BitVec.ofNat 256 (1 + 4 * 2 ^ 42 + 4 * 2 ^ 47 + 5 * 2 ^ 52 + 2 ^ 114 + (2 ^ 50 + 2 ^ 20) * 2 ^ 128 + 0), state := 1, prod := 1, head := some (BitVec.ofNat 2048 (8 * 2 ^ 88 + 16 * 2 ^ 80 + 6 * 2 ^ 128 + 3 * 2 ^ 192)) })], sync.value := [(6, 9)], sync.ctrl := [(6, BitVec.ofNat 64 (1 + 5 * 2 ^ 20))] }, 1, BitVec.ofNat 2048 (8 * 2 ^ 88 + 16 * 2 ^ 80 + 6 * 2 ^ 128 + 3 * 2 ^ 192), 6, 3,
    by unfold SlotReady SlotWaits; decide +kernel⟩

theorem witness_QueueCommandsStart_8_2 : ∃ (s : State) (q : QueueId) (v : BitVec 2048) (c : Nat) (n : Nat), (SlotReady q v s) ∧ (slOp v = 8) ∧
    (syncBodyBad v = false) ∧ (slBody v 0 17 = c) ∧ (slBody v 64 32 = n) ∧ (n ≠ 0) ∧ (boundTo s.sync c (queueCtx s q) = true) ∧ (s.sync.watches =
    []) ∧ (valueOf s.sync c < n) :=
  ⟨{ user with tu.tlb := [⟨240, 1, 0, BitVec.ofNat 256 (1 * 2 ^ 212 + 1 * 2 ^ 176 + 3 * 2 ^ 124 + 7 * 2 ^ 8 + 1)⟩], queues := [(1, { cfg := BitVec.ofNat 256 (1 + 4 * 2 ^ 42 + 4 * 2 ^ 47 + 5 * 2 ^ 52 + 2 ^ 114 + (2 ^ 50 + 2 ^ 20) * 2 ^ 128 + 0), state := 1, prod := 1, head := some (BitVec.ofNat 2048 (8 * 2 ^ 88 + 16 * 2 ^ 80 + 6 * 2 ^ 128 + 30 * 2 ^ 192 + 50 * 2 ^ 224)) })], sync.value := [(6, 9)], sync.ctrl := [(6, BitVec.ofNat 64 (1 + 5 * 2 ^ 20))] }, 1, BitVec.ofNat 2048 (8 * 2 ^ 88 + 16 * 2 ^ 80 + 6 * 2 ^ 128 + 30 * 2 ^ 192 + 50 * 2 ^ 224), 6, 30,
    by unfold SlotReady SlotWaits; decide +kernel⟩

/-! `SlotsAreReadAndDigestsKept` -/

theorem witness_SlotsAreReadAndDigestsKept_1_1 : ∃ (s : State) (s1 : State) (q : QueueId) (ext : Ext) (bs : List Byte), (fabOn s = true) ∧ (s.acts =
    []) ∧ ((getQueue s q).reading = true) ∧ ((getQueue s q).state = 1) ∧ (accessVerdict s (qCtx (getQueue s q).cfg) (qKey (getQueue s q).cfg)
    (slotPlace s q) 256 = .ok) ∧ (s.mem.flaws = []) ∧ (WayClear s (slotExtent s q) (cqExtent s q)) ∧ ((granulesOf (slotPlace s q) 256).any
    (unchecked s 0xA000) = false) ∧ (slotBytes s q ext = (bs, false, s1)) ∧ (confidential s (qCtx (getQueue s q).cfg) = false) ∧ (slotVisible
    (qRingLog2 (getQueue s q).cfg) (getQueue s q).cons (ofBytes 2048 bs) = true) :=
  ⟨{ user with queues := [(1, { cfg := BitVec.ofNat 256 (1 + 4 * 2 ^ 42 + 4 * 2 ^ 47 + 5 * 2 ^ 52 + 2 ^ 114 + (2 ^ 50 + 2 ^ 20) * 2 ^ 128), state := 1, prod := 1, reading := true })] }, { user with queues := [(1, { cfg := BitVec.ofNat 256 (1 + 4 * 2 ^ 42 + 4 * 2 ^ 47 + 5 * 2 ^ 52 + 2 ^ 114 + (2 ^ 50 + 2 ^ 20) * 2 ^ 128), state := 1, prod := 1, reading := true })] }, 1, [(2 ^ 50 + 8, 4), (2 ^ 50 + 11, 1), (2 ^ 50 + 252, 200), (2 ^ 50 + 253, 8), (2 ^ 50 + 254, 76), (2 ^ 50 + 255, 182)], (slotBytes ({ user with queues := [(1, { cfg := BitVec.ofNat 256 (1 + 4 * 2 ^ 42 + 4 * 2 ^ 47 + 5 * 2 ^ 52 + 2 ^ 114 + (2 ^ 50 + 2 ^ 20) * 2 ^ 128), state := 1, prod := 1, reading := true })] }) 1 [(2 ^ 50 + 8, 4), (2 ^ 50 + 11, 1), (2 ^ 50 + 252, 200), (2 ^ 50 + 253, 8), (2 ^ 50 + 254, 76), (2 ^ 50 + 255, 182)]).1,
    by unfold WayClear; decide +kernel⟩

theorem witness_SlotsAreReadAndDigestsKept_1_2 : ∃ (s : State) (s1 : State) (q : QueueId) (ext : Ext) (bs : List Byte), (fabOn s = true) ∧ (s.acts =
    []) ∧ ((getQueue s q).reading = true) ∧ ((getQueue s q).state = 1) ∧ (accessVerdict s (qCtx (getQueue s q).cfg) (qKey (getQueue s q).cfg)
    (slotPlace s q) 256 = .ok) ∧ (s.mem.flaws = []) ∧ (WayClear s (slotExtent s q) (cqExtent s q)) ∧ ((granulesOf (slotPlace s q) 256).any
    (unchecked s 0xA000) = false) ∧ (slotBytes s q ext = (bs, false, s1)) ∧ (confidential s (qCtx (getQueue s q).cfg) = false) ∧ (slotVisible
    (qRingLog2 (getQueue s q).cfg) (getQueue s q).cons (ofBytes 2048 bs) = false) ∧ ((getQueue s q).rereads < 8) :=
  ⟨{ user with queues := [(1, { cfg := BitVec.ofNat 256 (1 + 4 * 2 ^ 42 + 4 * 2 ^ 47 + 5 * 2 ^ 52 + 2 ^ 114 + (2 ^ 50 + 2 ^ 20) * 2 ^ 128), state := 1, prod := 1, reading := true, rereads := 3 })] }, { user with queues := [(1, { cfg := BitVec.ofNat 256 (1 + 4 * 2 ^ 42 + 4 * 2 ^ 47 + 5 * 2 ^ 52 + 2 ^ 114 + (2 ^ 50 + 2 ^ 20) * 2 ^ 128), state := 1, prod := 1, reading := true, rereads := 3 })] }, 1, [], (slotBytes ({ user with queues := [(1, { cfg := BitVec.ofNat 256 (1 + 4 * 2 ^ 42 + 4 * 2 ^ 47 + 5 * 2 ^ 52 + 2 ^ 114 + (2 ^ 50 + 2 ^ 20) * 2 ^ 128), state := 1, prod := 1, reading := true, rereads := 3 })] }) 1 []).1,
    by unfold WayClear; decide +kernel⟩

theorem witness_SlotsAreReadAndDigestsKept_1_3 : ∃ (s : State) (s1 : State) (q : QueueId) (ext : Ext) (bs : List Byte), (fabOn s = true) ∧ (s.acts =
    []) ∧ ((getQueue s q).reading = true) ∧ ((getQueue s q).state = 1) ∧ (accessVerdict s (qCtx (getQueue s q).cfg) (qKey (getQueue s q).cfg)
    (slotPlace s q) 256 = .ok) ∧ (s.mem.flaws = []) ∧ (WayClear s (slotExtent s q) (cqExtent s q)) ∧ ((granulesOf (slotPlace s q) 256).any
    (unchecked s 0xA000) = false) ∧ (slotBytes s q ext = (bs, false, s1)) ∧ (confidential s (qCtx (getQueue s q).cfg) = false) ∧ (slotVisible
    (qRingLog2 (getQueue s q).cfg) (getQueue s q).cons (ofBytes 2048 bs) = false) ∧ ((getQueue s q).rereads = 8) ∧ (s.coh.fresh = []) :=
  ⟨{ user with queues := [(1, { cfg := BitVec.ofNat 256 (1 + 4 * 2 ^ 42 + 4 * 2 ^ 47 + 5 * 2 ^ 52 + 2 ^ 114 + (2 ^ 50 + 2 ^ 20) * 2 ^ 128), state := 1, prod := 1, reading := true, rereads := 8 })] }, { user with queues := [(1, { cfg := BitVec.ofNat 256 (1 + 4 * 2 ^ 42 + 4 * 2 ^ 47 + 5 * 2 ^ 52 + 2 ^ 114 + (2 ^ 50 + 2 ^ 20) * 2 ^ 128), state := 1, prod := 1, reading := true, rereads := 8 })] }, 1, [], (slotBytes ({ user with queues := [(1, { cfg := BitVec.ofNat 256 (1 + 4 * 2 ^ 42 + 4 * 2 ^ 47 + 5 * 2 ^ 52 + 2 ^ 114 + (2 ^ 50 + 2 ^ 20) * 2 ^ 128), state := 1, prod := 1, reading := true, rereads := 8 })] }) 1 []).1,
    by unfold WayClear; decide +kernel⟩

theorem witness_SlotsAreReadAndDigestsKept_2 : ∃ (s : State) (q : QueueId) (ext : Ext) (st : Status), (fabOn s = true) ∧ (s.acts = []) ∧ ((getQueue
    s q).reading = true) ∧ ((getQueue s q).state = 1) ∧ (WayClear s [] (cqExtent s q)) :=
  ⟨{ user with queues := [(1, { cfg := BitVec.ofNat 256 (1 + 4 * 2 ^ 42 + 4 * 2 ^ 47 + 5 * 2 ^ 52 + 2 ^ 114 + (2 ^ 50 + 2 ^ 20) * 2 ^ 128), state := 1, prod := 1, reading := true })] }, 1, [], .deadTarget,
    by unfold WayClear; decide +kernel⟩

theorem witness_SlotsAreReadAndDigestsKept_3 : ∃ (s : State) (q : QueueId) (due : Nat), (fabOn s = true) ∧ (s.acts = []) ∧ ((getQueue s q).rereadDue
    = some due) ∧ (due ≤ s.aoncnt) ∧ ((getQueue s q).state = 1) :=
  ⟨{ user with queues := [(1, { state := 1, rereadDue := some 50, rereads := 2 })], aoncnt := 60 }, 1, 50, by decide +kernel⟩

theorem witness_SlotsAreReadAndDigestsKept_4 : ∃ (s : State) (q : QueueId) (due : Nat), (s.acts = []) ∧ ((getQueue s q).rereadDue = some due) ∧
    (s.aoncnt < due) :=
  ⟨{ user with queues := [(1, { state := 1, rereadDue := some 50, rereads := 2 })], aoncnt := 40 }, 1, 50, by decide +kernel⟩

theorem witness_SlotsAreReadAndDigestsKept_5_1 : ∃ (s : State) (q : QueueId) (v : BitVec 2048), (SlotReady q v s) ∧ (slOp v = 9) ∧ (slBody v 0 4 =
    1) ∧ (digestBad v = false) ∧ (findAccum s (queueCtx s q) (slBody v 32 32) = none) ∧ (s.accums.length < 8192) :=
  ⟨{ user with tu.tlb := [⟨240, 1, 0, BitVec.ofNat 256 (1 * 2 ^ 212 + 1 * 2 ^ 176 + 3 * 2 ^ 124 + 7 * 2 ^ 8 + 1)⟩], queues := [(1, { cfg := BitVec.ofNat 256 (1 + 4 * 2 ^ 42 + 4 * 2 ^ 47 + 5 * 2 ^ 52 + 2 ^ 114 + (2 ^ 50 + 2 ^ 20) * 2 ^ 128 + 0), state := 1, prod := 1, head := some (BitVec.ofNat 2048 (9 * 2 ^ 88 + 32 * 2 ^ 80 + 1 * 2 ^ 128 + 7 * 2 ^ 160 + 0)) })] }, 1, BitVec.ofNat 2048 (9 * 2 ^ 88 + 32 * 2 ^ 80 + 1 * 2 ^ 128 + 7 * 2 ^ 160 + 0),
    by unfold SlotReady SlotWaits; decide +kernel⟩

theorem witness_SlotsAreReadAndDigestsKept_5_2 : ∃ (s : State) (q : QueueId) (v : BitVec 2048) (a : Accum), (SlotReady q v s) ∧ (slOp v = 9) ∧
    (slBody v 0 4 = 1) ∧ (digestBad v = false) ∧ (findAccum s (queueCtx s q) (slBody v 32 32) = some a) :=
  ⟨{ user with tu.tlb := [⟨240, 1, 0, BitVec.ofNat 256 (1 * 2 ^ 212 + 1 * 2 ^ 176 + 3 * 2 ^ 124 + 7 * 2 ^ 8 + 1)⟩], queues := [(1, { cfg := BitVec.ofNat 256 (1 + 4 * 2 ^ 42 + 4 * 2 ^ 47 + 5 * 2 ^ 52 + 2 ^ 114 + (2 ^ 50 + 2 ^ 20) * 2 ^ 128 + 0), state := 1, prod := 1, head := some (BitVec.ofNat 2048 (9 * 2 ^ 88 + 32 * 2 ^ 80 + 1 * 2 ^ 128 + 7 * 2 ^ 160 + 0)) })], accums := [⟨5, 7, 0x55, 2⟩, ⟨5, 8, 1, 1⟩] }, 1, BitVec.ofNat 2048 (9 * 2 ^ 88 + 32 * 2 ^ 80 + 1 * 2 ^ 128 + 7 * 2 ^ 160 + 0), ⟨5, 7, 0x55, 2⟩,
    by unfold SlotReady SlotWaits; decide +kernel⟩

theorem witness_SlotsAreReadAndDigestsKept_6 : ∃ (s : State) (q : QueueId) (v : BitVec 2048) (a : Accum) (foot : List Extent) (ext : Ext),
    (SlotReady q v s) ∧ (slOp v = 9) ∧ (slBody v 0 4 = 2) ∧ (digestBad v = false) ∧ (findAccum s (queueCtx s q) (slBody v 32 32) = some a) ∧ (slBody
    v 200 56 + slBody v 152 40 ≤ 2 ^ 56) ∧ (FootOk q v [⟨slBody v 200 56, slBody v 152 40, needR⟩] foot s) ∧ ((∀ x ∈ foot, runPoison s (queueCtx s
    q) x.pa x.len = false)) ∧ (s.mem.flaws = []) ∧ (WayClear s foot []) ∧ ((∀ x ∈ foot, (granulesOf x.pa x.len).any (unchecked s 0xA000) = false))
    :=
  ⟨{ user with tu.tlb := [⟨240, 1, 0, BitVec.ofNat 256 (1 * 2 ^ 212 + 1 * 2 ^ 176 + 3 * 2 ^ 124 + 7 * 2 ^ 8 + 1)⟩], queues := [(1, { cfg := BitVec.ofNat 256 (1 + 4 * 2 ^ 42 + 4 * 2 ^ 47 + 5 * 2 ^ 52 + 2 ^ 114 + (2 ^ 50 + 2 ^ 20) * 2 ^ 128 + 0), state := 1, prod := 1, head := some (BitVec.ofNat 2048 (9 * 2 ^ 88 + 32 * 2 ^ 80 + 2 * 2 ^ 128 + 7 * 2 ^ 160 + 0x1000 * 2 ^ 328 + 64 * 2 ^ 280 + 12 * 2 ^ 274)) })], accums := [⟨5, 7, 0x55, 2⟩, ⟨5, 8, 1, 1⟩], coh.near := [], coh.dir := [] }, 1, BitVec.ofNat 2048 (9 * 2 ^ 88 + 32 * 2 ^ 80 + 2 * 2 ^ 128 + 7 * 2 ^ 160 + 0x1000 * 2 ^ 328 + 64 * 2 ^ 280 + 12 * 2 ^ 274), ⟨5, 7, 0x55, 2⟩, [⟨0x1000, 0, 64, 3, 0, false, false⟩], [],
    by unfold FootOk SlotReady SlotWaits WayClear; decide +kernel⟩

theorem witness_SlotsAreReadAndDigestsKept_7 : ∃ (s : State) (q : QueueId) (v : BitVec 2048) (a : Accum) (x : Extent), (SlotReady q v s) ∧ (slOp v =
    9) ∧ (slBody v 0 4 = 3) ∧ (digestBad v = false) ∧ (findAccum s (queueCtx s q) (slBody v 32 32) = some a) ∧ (FootOk q v [⟨slBody v 200 56, 32,
    needW⟩] [x] s) ∧ (x.va = slBody v 200 56) ∧ (x.len = 32) ∧ (x.pa % 32 = 0) ∧ (s.mem.flaws = []) ∧ (WayClear s [] [x]) :=
  ⟨{ user with tu.tlb := [⟨240, 1, 0, BitVec.ofNat 256 (1 * 2 ^ 212 + 1 * 2 ^ 176 + 3 * 2 ^ 124 + 7 * 2 ^ 8 + 1)⟩], queues := [(1, { cfg := BitVec.ofNat 256 (1 + 4 * 2 ^ 42 + 4 * 2 ^ 47 + 5 * 2 ^ 52 + 2 ^ 114 + (2 ^ 50 + 2 ^ 20) * 2 ^ 128 + 0), state := 1, prod := 1, head := some (BitVec.ofNat 2048 (9 * 2 ^ 88 + 32 * 2 ^ 80 + 3 * 2 ^ 128 + 7 * 2 ^ 160 + 0x1000 * 2 ^ 328)) })], accums := [⟨5, 7, 0x55, 2⟩, ⟨5, 8, 1, 1⟩], coh.near := [], coh.dir := [] }, 1, BitVec.ofNat 2048 (9 * 2 ^ 88 + 32 * 2 ^ 80 + 3 * 2 ^ 128 + 7 * 2 ^ 160 + 0x1000 * 2 ^ 328), ⟨5, 7, 0x55, 2⟩, ⟨0x1000, 0, 32, 3, 0, false, false⟩,
    by unfold FootOk SlotReady SlotWaits WayClear; decide +kernel⟩

theorem witness_SlotsAreReadAndDigestsKept_8 : ∃ (s : State) (q : QueueId) (v : BitVec 2048) (a : Accum), (SlotReady q v s) ∧ (slOp v = 9) ∧ (slBody
    v 0 4 = 4) ∧ (digestBad v = false) ∧ (findAccum s (queueCtx s q) (slBody v 32 32) = some a) :=
  ⟨{ user with tu.tlb := [⟨240, 1, 0, BitVec.ofNat 256 (1 * 2 ^ 212 + 1 * 2 ^ 176 + 3 * 2 ^ 124 + 7 * 2 ^ 8 + 1)⟩], queues := [(1, { cfg := BitVec.ofNat 256 (1 + 4 * 2 ^ 42 + 4 * 2 ^ 47 + 5 * 2 ^ 52 + 2 ^ 114 + (2 ^ 50 + 2 ^ 20) * 2 ^ 128 + 0), state := 1, prod := 1, head := some (BitVec.ofNat 2048 (9 * 2 ^ 88 + 32 * 2 ^ 80 + 4 * 2 ^ 128 + 7 * 2 ^ 160 + 0)) })], accums := [⟨5, 7, 0x55, 2⟩, ⟨5, 8, 1, 1⟩] }, 1, BitVec.ofNat 2048 (9 * 2 ^ 88 + 32 * 2 ^ 80 + 4 * 2 ^ 128 + 7 * 2 ^ 160 + 0), ⟨5, 7, 0x55, 2⟩,
    by unfold SlotReady SlotWaits; decide +kernel⟩

/-! `EnginesAndCompletions` -/

theorem witness_EnginesAndCompletions_1 : ∃ (s : State) (q : QueueId) (e : EngineId) (c : Cmd) (x : Extent) (ext : Ext), (fabOn s = true) ∧ (s.acts
    = []) ∧ (s.peers = []) ∧ (isJournaled s q = false) ∧ ((getEngine s e).job = some (q.val, c.idx)) ∧ ((getEngine s e).fencing = false) ∧
    ((getQueue s q).cmds = [c]) ∧ (c.engine = some e.val) ∧ (c.recheck = false) ∧ ((slOp c.slot = 4 ∨ slOp c.slot = 5)) ∧ (c.burst = 0) ∧ (c.fin =
    none) ∧ (c.foot = [x]) ∧ (x.va = (copyTerms c.slot).1) ∧ (x.len = (copyTerms c.slot).2.2) ∧ (x.len ≤ 2 ^ 20) ∧ (x.len ≠ 0) ∧ (x.pa % 64 = x.va %
    64) ∧ (target x.pa = .stacks) ∧ (x.pa + x.len ≤ 2 ^ 48) ∧ (s.mem.flaws = []) ∧ (WayClear s [] [x]) ∧ (footVerdict s (queueCtx s q) [x] = .ok) ∧
    (s.xfers.any (fun y => y.receiver = 0x8000 + e.val && !y.write) = false) :=
  ⟨{ user with queues := [(1, { cfg := BitVec.ofNat 256 (1 + 4 * 2 ^ 42 + 4 * 2 ^ 47 + 5 * 2 ^ 52 + 2 ^ 114 + (2 ^ 50 + 2 ^ 20) * 2 ^ 128), state := 1, prod := 1, cons := 1, cmds := [{ command with slot := BitVec.ofNat 2048 (4 * 2 ^ 88 + 40 * 2 ^ 80 + 0x1000 * 2 ^ 192 + 64 * 2 ^ 320 + 8 * 2 ^ 384 + 0x11223344 * 2 ^ 416), foot := [⟨0x1000, 0, 8, 3, 0, false, false⟩], footOk := true }] })], engines := [(0, { job := some (1, 0) })], coh.near := [], coh.dir := [] }, 1, 0, { command with slot := BitVec.ofNat 2048 (4 * 2 ^ 88 + 40 * 2 ^ 80 + 0x1000 * 2 ^ 192 + 64 * 2 ^ 320 + 8 * 2 ^ 384 + 0x11223344 * 2 ^ 416), foot := [⟨0x1000, 0, 8, 3, 0, false, false⟩], footOk := true }, ⟨0x1000, 0, 8, 3, 0, false, false⟩, [],
    by unfold WayClear; decide +kernel⟩

theorem witness_EnginesAndCompletions_2 : ∃ (s : State) (q : QueueId) (e : EngineId) (e' : EngineId) (c : Cmd) (st : Status), ((fabOn s = true) ∧
    (s.acts = []) ∧ (s.peers = []) ∧ (st ≠ .ok) ∧ ((getEngine s e).job = some (q.val, c.idx)) ∧ ((getEngine s e).migrate = none) ∧ ((getEngine s
    e).fencing = false) ∧ ((∀ kv ∈ s.queues, kv.1 ≠ q.val → kv.2.cmds = [])) ∧ (c.engine = some e.val) ∧ (c.fin = none) ∧ (c.recheck = false) ∧
    (c.oldPart = false) ∧ ((getQueue s q).cmds = [c]) ∧ (c.reruns = 0) ∧ (slOp c.slot = 4) ∧ ((engineClass c.slot c.foot).1 ≤ e') ∧ (e'.val <
    (engineClass c.slot c.foot).1 + (engineClass c.slot c.foot).2) ∧ (e' ≠ e) ∧ (engineIdle s e' = true)) ∧ ((∀ d : Nat, (engineClass c.slot
    c.foot).1 ≤ d → d < e'.val → d ≠ e.val → engineIdle s d = false)) :=
  ⟨{ user with queues := [(1, { cfg := BitVec.ofNat 256 (1 + 4 * 2 ^ 42 + 4 * 2 ^ 47 + 5 * 2 ^ 52 + 2 ^ 114 + (2 ^ 50 + 2 ^ 20) * 2 ^ 128), state := 1, prod := 1, cons := 1, cmds := [{ command with slot := BitVec.ofNat 2048 (4 * 2 ^ 88 + 40 * 2 ^ 80 + 0x1000 * 2 ^ 192 + 64 * 2 ^ 320 + 8 * 2 ^ 384 + 0x11223344 * 2 ^ 416), foot := [⟨0x1000, 0, 8, 3, 0, false, false⟩], footOk := true }] })], engines := [(0, { job := some (1, 0) })] }, 1, 0, 1, { command with slot := BitVec.ofNat 2048 (4 * 2 ^ 88 + 40 * 2 ^ 80 + 0x1000 * 2 ^ 192 + 64 * 2 ^ 320 + 8 * 2 ^ 384 + 0x11223344 * 2 ^ 416), foot := [⟨0x1000, 0, 8, 3, 0, false, false⟩], footOk := true }, .crcExhausted,
    by decide +kernel, fun d _ h1 h2 => absurd (Nat.lt_one_iff.mp h1) h2⟩

theorem witness_EnginesAndCompletions_3 : ∃ (s : State) (q : QueueId) (e : EngineId) (c : Cmd) (st : Status), (fabOn s = true) ∧ (s.acts = []) ∧ (st
    ≠ .ok) ∧ ((getEngine s e).job = some (q.val, c.idx)) ∧ ((getEngine s e).migrate = none) ∧ ((getEngine s e).fencing = false) ∧ (c.engine = some
    e.val) ∧ ((getQueue s q).cmds = [c]) ∧ (c.reruns ≠ 0) ∧ (c.fin = none) :=
  ⟨{ user with queues := [(1, { cfg := BitVec.ofNat 256 (1 + 4 * 2 ^ 42 + 4 * 2 ^ 47 + 5 * 2 ^ 52 + 2 ^ 114 + (2 ^ 50 + 2 ^ 20) * 2 ^ 128), state := 1, prod := 1, cons := 1, cmds := [{ command with slot := BitVec.ofNat 2048 (4 * 2 ^ 88 + 40 * 2 ^ 80 + 0x1000 * 2 ^ 192 + 64 * 2 ^ 320 + 8 * 2 ^ 384 + 0x11223344 * 2 ^ 416), foot := [⟨0x1000, 0, 8, 3, 0, false, false⟩], footOk := true, reruns := 1 }] })], engines := [(0, { job := some (1, 0) })] }, 1, 0, { command with slot := BitVec.ofNat 2048 (4 * 2 ^ 88 + 40 * 2 ^ 80 + 0x1000 * 2 ^ 192 + 64 * 2 ^ 320 + 8 * 2 ^ 384 + 0x11223344 * 2 ^ 416), foot := [⟨0x1000, 0, 8, 3, 0, false, false⟩], footOk := true, reruns := 1 }, .crcExhausted,
    by decide +kernel⟩

theorem witness_EnginesAndCompletions_4 : ∃ (s : State) (q : QueueId) (c : Cmd) (pa : Nat), (fabOn s = true) ∧ (s.acts = []) ∧ ((getQueue s q).cmds
    = [c]) ∧ (recordReady s q c = true) ∧ (c.cqAt = none) ∧ (c.doneNum = none) ∧ (slOp c.slot ≠ 6) ∧ (slOp c.slot ≠ 8) ∧ ((getQueue s q).state = 1)
    ∧ ((getQueue s q).jrn.state = 0) ∧ ((getQueue s q).jrn.closing = false) ∧ ((getQueue s q).cqProd < 2 ^ 32) ∧ (WayClear s [] (cqExtent s q)) ∧
    (qCqSignal (getQueue s q).cfg = false) ∧ (pa = qCq (getQueue s q).cfg + 32 * ((getQueue s q).cqProd % 2 ^ qCqLog2 (getQueue s q).cfg)) ∧ (pa %
    32 = 0) ∧ (target pa = .stacks) ∧ (accessVerdict s (qCtx (getQueue s q).cfg) (qKey (getQueue s q).cfg) pa 32 = .ok) ∧ (s.mem.flaws = []) :=
  ⟨{ user with queues := [(1, { cfg := BitVec.ofNat 256 (1 + 3 * 2 ^ 12 + 4 * 2 ^ 42 + 4 * 2 ^ 47 + 5 * 2 ^ 52 + 2 ^ 114), state := 1, prod := 1, cons := 1, cmds := [{ command with slot := BitVec.ofNat 2048 (2 ^ 88), engine := none, fin := some .ok, detail := 77 }], cqProd := 3 })] }, 1, { command with slot := BitVec.ofNat 2048 (2 ^ 88), engine := none, fin := some .ok, detail := 77 }, 96,
    by unfold WayClear; decide +kernel⟩

theorem witness_EnginesAndCompletions_5 : ∃ (s : State) (q : QueueId) (c : Cmd), ((fabOn s = true) ∧ (s.acts = []) ∧ ((getQueue s q).cmds = [c]) ∧
    (recordReady s q c = true) ∧ (c.cqAt = none) ∧ (c.doneNum = none) ∧ ((getQueue s q).jrn.state = 0) ∧ ((getQueue s q).cqProd < 2 ^ 32) ∧ (target
    (cqPlace (getQueue s q)) = .host) ∧ (proxyAlive s = true)) ∧ (LinksCarry s) :=
  ⟨{ user with hosts := [(0, { link := 2, wseq := 7, confirmed := 6 })], queues := [(1, { cfg := BitVec.ofNat 256 (1 + 4 * 2 ^ 42 + 4 * 2 ^ 47 + 5 * 2 ^ 52 + 2 ^ 114 + (2 ^ 50 + 2 ^ 20) * 2 ^ 128), state := 1, prod := 1, cons := 1, cmds := [{ command with slot := BitVec.ofNat 2048 (2 ^ 88), engine := none, fin := some .ok, detail := 77 }], cqProd := 3 })] }, 1, { command with slot := BitVec.ofNat 2048 (2 ^ 88), engine := none, fin := some .ok, detail := 77 },
    by decide +kernel, links_carry (by decide +kernel)⟩

theorem witness_EnginesAndCompletions_6_1 : ∃ (s : State) (q : QueueId) (c : Cmd) (p : Nat) (n : Nat), (fabOn s = true) ∧ (s.acts = []) ∧ ((getQueue
    s q).cmds = [c]) ∧ (c.cqAt = some ((getQueue s q).cqProd, p, n)) ∧ (c.doneNum = none) ∧ (n ≤ (getHost s p).confirmed) ∧ (slOp c.slot ≠ 6) ∧
    (slOp c.slot ≠ 8) ∧ ((getQueue s q).state = 1) ∧ (qCqSignal (getQueue s q).cfg = false) ∧ ((getQueue s q).jrn.closing = false) :=
  ⟨{ user with hosts := [(0, { link := 2, wseq := 7, confirmed := 6 })], queues := [(1, { cfg := BitVec.ofNat 256 (1 + 4 * 2 ^ 42 + 4 * 2 ^ 47 + 5 * 2 ^ 52 + 2 ^ 114 + (2 ^ 50 + 2 ^ 20) * 2 ^ 128), state := 1, prod := 1, cons := 1, cmds := [{ command with slot := BitVec.ofNat 2048 (2 ^ 88), engine := none, fin := some .ok, detail := 77, cqAt := some (3, 0, 6) }], cqProd := 3 })] }, 1, { command with slot := BitVec.ofNat 2048 (2 ^ 88), engine := none, fin := some .ok, detail := 77, cqAt := some (3, 0, 6) }, 0, 6,
    by decide +kernel⟩

theorem witness_EnginesAndCompletions_6_2 : ∃ (s : State) (q : QueueId) (c : Cmd) (p : Nat) (n : Nat), (fabOn s = true) ∧ (s.acts = []) ∧ ((getQueue
    s q).cmds = [c]) ∧ (c.cqAt = some ((getQueue s q).cqProd, p, n)) ∧ (c.doneNum = none) ∧ ((getHost s p).confirmed < n) ∧ (p < 2) :=
  ⟨{ user with hosts := [(0, { link := 2, wseq := 7, confirmed := 6 })], queues := [(1, { cfg := BitVec.ofNat 256 (1 + 4 * 2 ^ 42 + 4 * 2 ^ 47 + 5 * 2 ^ 52 + 2 ^ 114 + (2 ^ 50 + 2 ^ 20) * 2 ^ 128), state := 1, prod := 1, cons := 1, cmds := [{ command with slot := BitVec.ofNat 2048 (2 ^ 88), engine := none, fin := some .ok, detail := 77, cqAt := some (3, 0, 7) }], cqProd := 3 })] }, 1, { command with slot := BitVec.ofNat 2048 (2 ^ 88), engine := none, fin := some .ok, detail := 77, cqAt := some (3, 0, 7) }, 0, 7,
    by decide +kernel⟩

theorem witness_EnginesAndCompletions_7 : ∃ (s : State) (q : QueueId) (c : Cmd), (s.acts = []) ∧ (findCmd s q c.idx = some c) ∧ (c.cqAt = none) ∧
    (c.fin = none) :=
  ⟨{ user with queues := [(1, { cfg := BitVec.ofNat 256 (1 + 4 * 2 ^ 42 + 4 * 2 ^ 47 + 5 * 2 ^ 52 + 2 ^ 114 + (2 ^ 50 + 2 ^ 20) * 2 ^ 128), state := 1, prod := 1, cons := 1, cmds := [{ command with slot := BitVec.ofNat 2048 (4 * 2 ^ 88 + 40 * 2 ^ 80 + 0x1000 * 2 ^ 192 + 64 * 2 ^ 320 + 8 * 2 ^ 384 + 0x11223344 * 2 ^ 416), foot := [⟨0x1000, 0, 8, 3, 0, false, false⟩], footOk := true }] })], engines := [(0, { job := some (1, 0) })] }, 1, { command with slot := BitVec.ofNat 2048 (4 * 2 ^ 88 + 40 * 2 ^ 80 + 0x1000 * 2 ^ 192 + 64 * 2 ^ 320 + 8 * 2 ^ 384 + 0x11223344 * 2 ^ 416), foot := [⟨0x1000, 0, 8, 3, 0, false, false⟩], footOk := true },
    by decide +kernel⟩

/-! `JournalRecordsAreWritten` -/

theorem witness_JournalRecordsAreWritten_1 : ∃ (s : State) (q : QueueId) (v : BitVec 2048), ((fabOn s = true) ∧ (s.acts = []) ∧ (s.mem.flaws = []) ∧
    (proxyAlive s = true)) ∧ (LinksCarry s) ∧ (isJournaled s q = true) ∧ ((getQueue s q).state = 1) ∧ ((getQueue s q).jrn.state = 1) ∧ ((getQueue s
    q).head = some v) ∧ ((getQueue s q).cmds = []) ∧ (cqRoom (getQueue s q) = true) ∧ (slotMalformed (confidential s (queueCtx s q)) v = false) ∧
    (256 ≤ shadowFree s) ∧ ((getQueue s q).jrn.recs = []) ∧ (8 ≤ qJLog2 (getQueue s q).cfg) :=
  ⟨{ user with hosts := [(0, { link := 2, wseq := 3, confirmed := 3 })], queues := [(1, { cfg := BitVec.ofNat 256 (1 + 4 * 2 ^ 42 + 4 * 2 ^ 47 + 5 * 2 ^ 52 + 2 ^ 114 + (2 ^ 50 + 2 ^ 20) * 2 ^ 128 + 2 ^ 192 + 10 * 2 ^ 203 + (2 ^ 38 + 2 ^ 8) * 2 ^ 208), state := 1, prod := 1, head := some (BitVec.ofNat 2048 (2 ^ 88)), jrn := { state := 1, jprod := 4, jhead := 4, nextAcc := 4 } })] }, 1, BitVec.ofNat 2048 (2 ^ 88),
    by decide +kernel, links_carry (by decide +kernel), by decide +kernel⟩

theorem witness_JournalRecordsAreWritten_2 : ∃ (s : State) (q : QueueId) (c : Cmd) (n : Nat), (fabOn s = true) ∧ (s.acts = []) ∧ ((getQueue s
    q).jrn.state ≠ 2) ∧ ((getQueue s q).head = none) ∧ ((getQueue s q).cmds = [c]) ∧ (c.accepted = false) ∧ (c.acceptNum = some n) ∧ (recConfirmed
    (getQueue s q) n = true) :=
  ⟨{ user with hosts := [(0, { link := 2, wseq := 3, confirmed := 3 })], queues := [(1, { cfg := BitVec.ofNat 256 (1 + 4 * 2 ^ 42 + 4 * 2 ^ 47 + 5 * 2 ^ 52 + 2 ^ 114 + (2 ^ 50 + 2 ^ 20) * 2 ^ 128 + 2 ^ 192 + 10 * 2 ^ 203 + (2 ^ 38 + 2 ^ 8) * 2 ^ 208), state := 1, prod := 1, cons := 1, cmds := [{ command with slot := BitVec.ofNat 2048 (2 ^ 88), engine := none, acceptNum := some 4 }], jrn := { state := 1, stage := BitVec.ofNat 64 (2 * 2 ^ 20 + 2 ^ 28 * 2 ^ 32), jprod := 5, jhead := 4, recs := [⟨4, BitVec.ofNat 256 (1 * 2 ^ 8), true, 0, 3⟩] } })], tu.tlb := [⟨240, 1, 0, BitVec.ofNat 256 (1 * 2 ^ 212 + 1 * 2 ^ 176 + 2 ^ 38 * 2 ^ 136 + 3 * 2 ^ 124 + 2 ^ 12 + 7 * 2 ^ 8 + 1)⟩], mem.bytes := [(2 ^ 48 + 2 ^ 20, 0xAA)], mem.tags := [(2 ^ 42 + 2 ^ 14, some 5)] }, 1, { command with slot := BitVec.ofNat 2048 (2 ^ 88), engine := none, acceptNum := some 4 }, 4,
    by decide +kernel⟩

theorem witness_JournalRecordsAreWritten_3_1 : ∃ (s : State) (q : QueueId) (p : HostId) (c : Cmd) (r : JRecord) (n : Nat) (x : Queue), (dataOn s =
    true) ∧ (s.asleep = false) ∧ (s.acts = []) ∧ (s.ports = []) ∧ (s.arrays.arr = []) ∧ (hostCarries s p = true) ∧ ((getHost s p).readbacks = [n]) ∧
    (s.queues = [(q.val, x)]) ∧ (x.cmds = [c]) ∧ (x.jrn.state = 1) ∧ (x.jrn.recs = [r]) ∧ (r.confirmed = false) ∧ (r.port = p) ∧ (r.seq ≠ 0) ∧
    (r.seq ≤ n) ∧ (c.doneRec = false) ∧ (fld r.raw 8 4 = 1) ∧ (c.acceptNum = some r.num) ∧ (c.doneNum = none) :=
  ⟨{ user with hosts := [(0, { link := 2, wseq := 3, readbacks := [3] })], queues := [(1, { cfg := BitVec.ofNat 256 (1 + 4 * 2 ^ 42 + 4 * 2 ^ 47 + 5 * 2 ^ 52 + 2 ^ 114 + (2 ^ 50 + 2 ^ 20) * 2 ^ 128 + 2 ^ 192 + 10 * 2 ^ 203 + (2 ^ 38 + 2 ^ 8) * 2 ^ 208), state := 1, prod := 1, cons := 1, cmds := [{ command with slot := BitVec.ofNat 2048 (2 ^ 88), engine := none, acceptNum := some 4 }], jrn := { state := 1, stage := BitVec.ofNat 64 (2 * 2 ^ 20 + 2 ^ 28 * 2 ^ 32), jprod := 5, jhead := 4, recs := [⟨4, BitVec.ofNat 256 (1 * 2 ^ 8), false, 0, 3⟩] } })], tu.tlb := [⟨240, 1, 0, BitVec.ofNat 256 (1 * 2 ^ 212 + 1 * 2 ^ 176 + 2 ^ 38 * 2 ^ 136 + 3 * 2 ^ 124 + 2 ^ 12 + 7 * 2 ^ 8 + 1)⟩], mem.bytes := [(2 ^ 48 + 2 ^ 20, 0xAA)], mem.tags := [(2 ^ 42 + 2 ^ 14, some 5)] }, 1, 0, { command with slot := BitVec.ofNat 2048 (2 ^ 88), engine := none, acceptNum := some 4 }, ⟨4, BitVec.ofNat 256 (1 * 2 ^ 8), false, 0, 3⟩, 3, { cfg := BitVec.ofNat 256 (1 + 4 * 2 ^ 42 + 4 * 2 ^ 47 + 5 * 2 ^ 52 + 2 ^ 114 + (2 ^ 50 + 2 ^ 20) * 2 ^ 128 + 2 ^ 192 + 10 * 2 ^ 203 + (2 ^ 38 + 2 ^ 8) * 2 ^ 208), state := 1, prod := 1, cons := 1, cmds := [{ command with slot := BitVec.ofNat 2048 (2 ^ 88), engine := none, acceptNum := some 4 }], jrn := { state := 1, stage := BitVec.ofNat 64 (2 * 2 ^ 20 + 2 ^ 28 * 2 ^ 32), jprod := 5, jhead := 4, recs := [⟨4, BitVec.ofNat 256 (1 * 2 ^ 8), false, 0, 3⟩] } },
    by decide +kernel⟩

theorem witness_JournalRecordsAreWritten_3_2 : ∃ (s : State) (q : QueueId) (p : HostId) (c : Cmd) (r : JRecord) (n : Nat) (x : Queue), (dataOn s =
    true) ∧ (s.asleep = false) ∧ (s.acts = []) ∧ (s.ports = []) ∧ (s.arrays.arr = []) ∧ (hostCarries s p = true) ∧ ((getHost s p).readbacks = [n]) ∧
    (s.queues = [(q.val, x)]) ∧ (x.cmds = [c]) ∧ (x.jrn.state = 1) ∧ (x.jrn.recs = [r]) ∧ (r.confirmed = false) ∧ (r.port = p) ∧ (r.seq ≠ 0) ∧
    (r.seq ≤ n) ∧ (c.doneRec = false) ∧ (fld r.raw 8 4 = 4) ∧ (c.doneNum = some r.num) :=
  ⟨{ user with hosts := [(0, { link := 2, wseq := 3, readbacks := [3] })], queues := [(1, { cfg := BitVec.ofNat 256 (1 + 4 * 2 ^ 42 + 4 * 2 ^ 47 + 5 * 2 ^ 52 + 2 ^ 114 + (2 ^ 50 + 2 ^ 20) * 2 ^ 128 + 2 ^ 192 + 10 * 2 ^ 203 + (2 ^ 38 + 2 ^ 8) * 2 ^ 208), state := 1, prod := 1, cons := 1, cmds := [{ command with slot := BitVec.ofNat 2048 (2 ^ 88), engine := none, fin := some .ok, acceptNum := some 3, doneMark := true, doneNum := some 4 }], jrn := { state := 1, stage := BitVec.ofNat 64 (2 * 2 ^ 20 + 2 ^ 28 * 2 ^ 32), jprod := 5, jhead := 4, recs := [⟨4, BitVec.ofNat 256 (4 * 2 ^ 8), false, 0, 3⟩] } })], tu.tlb := [⟨240, 1, 0, BitVec.ofNat 256 (1 * 2 ^ 212 + 1 * 2 ^ 176 + 2 ^ 38 * 2 ^ 136 + 3 * 2 ^ 124 + 2 ^ 12 + 7 * 2 ^ 8 + 1)⟩], mem.bytes := [(2 ^ 48 + 2 ^ 20, 0xAA)], mem.tags := [(2 ^ 42 + 2 ^ 14, some 5)] }, 1, 0, { command with slot := BitVec.ofNat 2048 (2 ^ 88), engine := none, fin := some .ok, acceptNum := some 3, doneMark := true, doneNum := some 4 }, ⟨4, BitVec.ofNat 256 (4 * 2 ^ 8), false, 0, 3⟩, 3, { cfg := BitVec.ofNat 256 (1 + 4 * 2 ^ 42 + 4 * 2 ^ 47 + 5 * 2 ^ 52 + 2 ^ 114 + (2 ^ 50 + 2 ^ 20) * 2 ^ 128 + 2 ^ 192 + 10 * 2 ^ 203 + (2 ^ 38 + 2 ^ 8) * 2 ^ 208), state := 1, prod := 1, cons := 1, cmds := [{ command with slot := BitVec.ofNat 2048 (2 ^ 88), engine := none, fin := some .ok, acceptNum := some 3, doneMark := true, doneNum := some 4 }], jrn := { state := 1, stage := BitVec.ofNat 64 (2 * 2 ^ 20 + 2 ^ 28 * 2 ^ 32), jprod := 5, jhead := 4, recs := [⟨4, BitVec.ofNat 256 (4 * 2 ^ 8), false, 0, 3⟩] } },
    by decide +kernel⟩

theorem witness_JournalRecordsAreWritten_4 : ∃ (s : State) (q : QueueId) (c : Cmd) (r : JRecord) (f : Nat) (fs : List Nat), (JournalRuns q c r s) ∧
    (fld r.raw 8 4 = 1) ∧ (c.acceptNum = some r.num) ∧ (c.intent = none) ∧ (c.frames = f :: fs) ∧ (c.fin = some .ok) :=
  ⟨{ user with hosts := [(0, { link := 2, wseq := 3, confirmed := 3 })], queues := [(1, { cfg := BitVec.ofNat 256 (1 + 4 * 2 ^ 42 + 4 * 2 ^ 47 + 5 * 2 ^ 52 + 2 ^ 114 + (2 ^ 50 + 2 ^ 20) * 2 ^ 128 + 2 ^ 192 + 10 * 2 ^ 203 + (2 ^ 38 + 2 ^ 8) * 2 ^ 208), state := 1, prod := 1, cons := 1, cmds := [{ command with slot := BitVec.ofNat 2048 (2 ^ 88), engine := none, fin := some .ok, acceptNum := some 4, staged := [(0x1000, some 0xAA)], frames := [0], whole := true }], jrn := { state := 1, stage := BitVec.ofNat 64 (2 * 2 ^ 20 + 2 ^ 28 * 2 ^ 32), jprod := 5, jhead := 4, recs := [⟨4, BitVec.ofNat 256 (1 * 2 ^ 8), true, 0, 3⟩], frames := [0] } })], tu.tlb := [⟨240, 1, 0, BitVec.ofNat 256 (1 * 2 ^ 212 + 1 * 2 ^ 176 + 2 ^ 38 * 2 ^ 136 + 3 * 2 ^ 124 + 2 ^ 12 + 7 * 2 ^ 8 + 1)⟩], mem.bytes := [(2 ^ 48 + 2 ^ 20, 0xAA)], mem.tags := [(2 ^ 42 + 2 ^ 14, some 5)] }, 1, { command with slot := BitVec.ofNat 2048 (2 ^ 88), engine := none, fin := some .ok, acceptNum := some 4, staged := [(0x1000, some 0xAA)], frames := [0], whole := true }, ⟨4, BitVec.ofNat 256 (1 * 2 ^ 8), true, 0, 3⟩, 0, [],
    by unfold JournalRuns; exact ⟨by decide +kernel, by decide +kernel, by decide +kernel, by decide +kernel, by decide +kernel,
    by decide +kernel, links_carry (by decide +kernel), by decide +kernel⟩, by decide +kernel⟩

theorem witness_JournalRecordsAreWritten_5 : ∃ (s : State) (q : QueueId) (c : Cmd) (r : JRecord) (f : Nat) (va : Nat) (b : Byte) (x : Extent),
    (JournalRuns q c r s) ∧ (c.intent = some f) ∧ (c.intentNum = r.num) ∧ (c.performed = false) ∧ (unitBytes c c.committed = [(va, b)]) ∧ (target
    (frameAddr (getQueue s q) f) = .scratch) ∧ (lineByte (granuleData s (queueCtx s q) 0 (frameAddr (getQueue s q) f / 64)) (frameAddr (getQueue s
    q) f % 64) = b) ∧ (granulePoison s (queueCtx s q) (frameAddr (getQueue s q) f / 64) = false) ∧ (x.va = va) ∧ (target x.pa = .host) ∧ (x.flushed
    = true) ∧ (x.len ≠ 0) ∧ (checkFootprint tlbsOfService false (fld (getCtx s (queueCtx s q)) 116 12) [⟨va, 1, needW⟩] s = (.good [x], s)) ∧
    (footVerdict s (queueCtx s q) [x] = .ok) :=
  ⟨{ user with hosts := [(0, { link := 2, wseq := 3, confirmed := 3 })], queues := [(1, { cfg := BitVec.ofNat 256 (1 + 4 * 2 ^ 42 + 4 * 2 ^ 47 + 5 * 2 ^ 52 + 2 ^ 114 + (2 ^ 50 + 2 ^ 20) * 2 ^ 128 + 2 ^ 192 + 10 * 2 ^ 203 + (2 ^ 38 + 2 ^ 8) * 2 ^ 208), state := 1, prod := 1, cons := 1, cmds := [{ command with slot := BitVec.ofNat 2048 (2 ^ 88), engine := none, fin := some .ok, acceptNum := some 3, staged := [(0x1000, some 0xAA)], frames := [0], whole := true, intentNum := 4, intent := some 0 }], jrn := { state := 1, stage := BitVec.ofNat 64 (2 * 2 ^ 20 + 2 ^ 28 * 2 ^ 32), jprod := 5, jhead := 4, recs := [⟨4, BitVec.ofNat 256 (2 * 2 ^ 8), true, 0, 3⟩], frames := [0] } })], tu.tlb := [⟨240, 1, 0, BitVec.ofNat 256 (1 * 2 ^ 212 + 1 * 2 ^ 176 + 2 ^ 38 * 2 ^ 136 + 3 * 2 ^ 124 + 2 ^ 12 + 7 * 2 ^ 8 + 1)⟩], mem.bytes := [(2 ^ 48 + 2 ^ 20, 0xAA)], mem.tags := [(2 ^ 42 + 2 ^ 14, some 5)] }, 1, { command with slot := BitVec.ofNat 2048 (2 ^ 88), engine := none, fin := some .ok, acceptNum := some 3, staged := [(0x1000, some 0xAA)], frames := [0], whole := true, intentNum := 4, intent := some 0 }, ⟨4, BitVec.ofNat 256 (2 * 2 ^ 8), true, 0, 3⟩, 0, 0x1000, 0xAA, ⟨0x1000, 2 ^ 50, 1, 3, 0, false, true⟩,
    by unfold JournalRuns; exact ⟨by decide +kernel, by decide +kernel, by decide +kernel, by decide +kernel, by decide +kernel,
    by decide +kernel, links_carry (by decide +kernel), by decide +kernel⟩, by decide +kernel⟩

theorem witness_JournalRecordsAreWritten_6_1 : ∃ (s : State) (q : QueueId) (c : Cmd) (r : JRecord) (f : Nat), (JournalRuns q c r s) ∧ (c.intent =
    some f) ∧ (c.performed = true) ∧ (c.commitNum = none) ∧ (fld r.raw 8 4 = 2) ∧ (c.intentNum = r.num) ∧ (c.need0 ≤ (getHost s 0).confirmed) ∧
    (c.need1 ≤ (getHost s 1).confirmed) :=
  ⟨{ user with hosts := [(0, { link := 2, wseq := 3, confirmed := 3 })], queues := [(1, { cfg := BitVec.ofNat 256 (1 + 4 * 2 ^ 42 + 4 * 2 ^ 47 + 5 * 2 ^ 52 + 2 ^ 114 + (2 ^ 50 + 2 ^ 20) * 2 ^ 128 + 2 ^ 192 + 10 * 2 ^ 203 + (2 ^ 38 + 2 ^ 8) * 2 ^ 208), state := 1, prod := 1, cons := 1, cmds := [{ command with slot := BitVec.ofNat 2048 (2 ^ 88), engine := none, fin := some .ok, acceptNum := some 3, staged := [(0x1000, some 0xAA)], frames := [0], whole := true, intentNum := 4, intent := some 0, performed := true }], jrn := { state := 1, stage := BitVec.ofNat 64 (2 * 2 ^ 20 + 2 ^ 28 * 2 ^ 32), jprod := 5, jhead := 4, recs := [⟨4, BitVec.ofNat 256 (2 * 2 ^ 8), true, 0, 3⟩], frames := [0] } })], tu.tlb := [⟨240, 1, 0, BitVec.ofNat 256 (1 * 2 ^ 212 + 1 * 2 ^ 176 + 2 ^ 38 * 2 ^ 136 + 3 * 2 ^ 124 + 2 ^ 12 + 7 * 2 ^ 8 + 1)⟩], mem.bytes := [(2 ^ 48 + 2 ^ 20, 0xAA)], mem.tags := [(2 ^ 42 + 2 ^ 14, some 5)] }, 1, { command with slot := BitVec.ofNat 2048 (2 ^ 88), engine := none, fin := some .ok, acceptNum := some 3, staged := [(0x1000, some 0xAA)], frames := [0], whole := true, intentNum := 4, intent := some 0, performed := true }, ⟨4, BitVec.ofNat 256 (2 * 2 ^ 8), true, 0, 3⟩, 0,
    by unfold JournalRuns; exact ⟨by decide +kernel, by decide +kernel, by decide +kernel, by decide +kernel, by decide +kernel,
    by decide +kernel, links_carry (by decide +kernel), by decide +kernel⟩, by decide +kernel⟩

theorem witness_JournalRecordsAreWritten_6_2 : ∃ (s : State) (q : QueueId) (c : Cmd) (r : JRecord) (f : Nat), (JournalRuns q c r s) ∧ (c.intent =
    some f) ∧ (c.performed = true) ∧ (c.commitNum = some r.num) ∧ (fld r.raw 8 4 = 3) ∧ (c.frames = [f]) ∧ (c.staged.length ≤ (c.committed + 1) * 2
    ^ 20) :=
  ⟨{ user with hosts := [(0, { link := 2, wseq := 3, confirmed := 3 })], queues := [(1, { cfg := BitVec.ofNat 256 (1 + 4 * 2 ^ 42 + 4 * 2 ^ 47 + 5 * 2 ^ 52 + 2 ^ 114 + (2 ^ 50 + 2 ^ 20) * 2 ^ 128 + 2 ^ 192 + 10 * 2 ^ 203 + (2 ^ 38 + 2 ^ 8) * 2 ^ 208), state := 1, prod := 1, cons := 1, cmds := [{ command with slot := BitVec.ofNat 2048 (2 ^ 88), engine := none, fin := some .ok, acceptNum := some 3, staged := [(0x1000, some 0xAA)], frames := [0], whole := true, intentNum := 4, intent := some 0, performed := true, commitNum := some 4 }], jrn := { state := 1, stage := BitVec.ofNat 64 (2 * 2 ^ 20 + 2 ^ 28 * 2 ^ 32), jprod := 5, jhead := 4, recs := [⟨4, BitVec.ofNat 256 (3 * 2 ^ 8), true, 0, 3⟩], frames := [0] } })], tu.tlb := [⟨240, 1, 0, BitVec.ofNat 256 (1 * 2 ^ 212 + 1 * 2 ^ 176 + 2 ^ 38 * 2 ^ 136 + 3 * 2 ^ 124 + 2 ^ 12 + 7 * 2 ^ 8 + 1)⟩], mem.bytes := [(2 ^ 48 + 2 ^ 20, 0xAA)], mem.tags := [(2 ^ 42 + 2 ^ 14, some 5)] }, 1, { command with slot := BitVec.ofNat 2048 (2 ^ 88), engine := none, fin := some .ok, acceptNum := some 3, staged := [(0x1000, some 0xAA)], frames := [0], whole := true, intentNum := 4, intent := some 0, performed := true, commitNum := some 4 }, ⟨4, BitVec.ofNat 256 (3 * 2 ^ 8), true, 0, 3⟩, 0,
    by unfold JournalRuns; exact ⟨by decide +kernel, by decide +kernel, by decide +kernel, by decide +kernel, by decide +kernel,
    by decide +kernel, links_carry (by decide +kernel), by decide +kernel⟩, by decide +kernel⟩

theorem witness_JournalRecordsAreWritten_7 : ∃ (s : State) (q : QueueId) (c : Cmd) (r : JRecord), (JournalRuns q c r s) ∧ (fld r.raw 8 4 = 1) ∧
    (c.acceptNum = some r.num) ∧ (c.intent = none) ∧ (c.staged = []) ∧ (c.fin = some .ok) :=
  ⟨{ user with hosts := [(0, { link := 2, wseq := 3, confirmed := 3 })], queues := [(1, { cfg := BitVec.ofNat 256 (1 + 4 * 2 ^ 42 + 4 * 2 ^ 47 + 5 * 2 ^ 52 + 2 ^ 114 + (2 ^ 50 + 2 ^ 20) * 2 ^ 128 + 2 ^ 192 + 10 * 2 ^ 203 + (2 ^ 38 + 2 ^ 8) * 2 ^ 208), state := 1, prod := 1, cons := 1, cmds := [{ command with slot := BitVec.ofNat 2048 (2 ^ 88), engine := none, fin := some .ok, acceptNum := some 4 }], jrn := { state := 1, stage := BitVec.ofNat 64 (2 * 2 ^ 20 + 2 ^ 28 * 2 ^ 32), jprod := 5, jhead := 4, recs := [⟨4, BitVec.ofNat 256 (1 * 2 ^ 8), true, 0, 3⟩] } })], tu.tlb := [⟨240, 1, 0, BitVec.ofNat 256 (1 * 2 ^ 212 + 1 * 2 ^ 176 + 2 ^ 38 * 2 ^ 136 + 3 * 2 ^ 124 + 2 ^ 12 + 7 * 2 ^ 8 + 1)⟩], mem.bytes := [(2 ^ 48 + 2 ^ 20, 0xAA)], mem.tags := [(2 ^ 42 + 2 ^ 14, some 5)] }, 1, { command with slot := BitVec.ofNat 2048 (2 ^ 88), engine := none, fin := some .ok, acceptNum := some 4 }, ⟨4, BitVec.ofNat 256 (1 * 2 ^ 8), true, 0, 3⟩,
    by unfold JournalRuns; exact ⟨by decide +kernel, by decide +kernel, by decide +kernel, by decide +kernel, by decide +kernel,
    by decide +kernel, links_carry (by decide +kernel), by decide +kernel⟩, by decide +kernel⟩

theorem witness_JournalRecordsAreWritten_8 : ∃ (s : State) (q : QueueId) (n : Nat), (fabOn s = true) ∧ (s.acts = []) ∧ ((getQueue s q).jrn.state =
    3) ∧ ((getQueue s q).jrn.limit = some n) ∧ (n ≤ s.aoncnt) :=
  ⟨{ user with queues := [(1, { jrn := { state := 3, limit := some 50 } })], aoncnt := 60 }, 1, 50, by decide +kernel⟩

theorem witness_JournalRecordsAreWritten_9 : ∃ (s : State) (q : QueueId) (n : Nat), (s.acts = []) ∧ ((getQueue s q).jrn.limit = some n) ∧ (s.aoncnt
    < n) :=
  ⟨{ user with queues := [(1, { jrn := { state := 3, limit := some 50 } })], aoncnt := 40 }, 1, 50, by decide +kernel⟩

/-! `HomesServeRequests` -/

theorem witness_HomesServeRequests_1 : ∃ (s : State) (r : CohReq) (i : Instr), (NearRequest r s) ∧ ((getPort s r.agent).nearFenced = false) ∧ (i ∈
    [.rdS r, .rdX r, .upg r]) :=
  ⟨{ user with coh.near := [], coh.dir := [] }, ⟨2, 64, 5, 3, 0, 0, false⟩, .rdX ⟨2, 64, 5, 3, 0, 0, false⟩,
    by unfold NearRequest HomesQuiet; decide +kernel⟩

theorem witness_HomesServeRequests_2 : ∃ (s : State) (r : CohReq), (NearRequest r s) :=
  ⟨{ user with coh.near := [], coh.dir := [] }, ⟨2, 64, 5, 3, 0, 0, false⟩, by unfold NearRequest HomesQuiet; decide +kernel⟩

theorem witness_HomesServeRequests_3 : ∃ (s : State) (r : CohReq) (d : CohData), (NearRequest r s) :=
  ⟨{ user with coh.near := [], coh.dir := [] }, ⟨2, 64, 5, 3, 0, 0, false⟩, ⟨0xABCD, 3, false⟩, by unfold NearRequest HomesQuiet; decide +kernel⟩

theorem witness_HomesServeRequests_4 : ∃ (s : State) (r : CohReq) (d : CohData) (aop : Fin 10) (n : Fin 3), (NearRequest r s) ∧ (r.pa % (4 * 2 ^
    n.val) = 0) :=
  ⟨{ user with coh.near := [], coh.dir := [] }, ⟨2, 72, 5, 3, 0, 0, false⟩, ⟨3, 0, false⟩, 2, 1, by unfold NearRequest HomesQuiet; decide +kernel⟩

theorem witness_HomesServeRequests_5 : ∃ (s : State) (r : CohReq), (NearRequest r s) :=
  ⟨{ user with coh.near := [], coh.dir := [] }, ⟨2, 64, 5, 3, 0, 0, false⟩, by unfold NearRequest HomesQuiet; decide +kernel⟩

theorem witness_HomesServeRequests_6 : ∃ (s : State) (r : CohReq) (d : CohData) (aop : Fin 10) (n : Fin 3) (i : Instr), (fabOn s = true) ∧ (s.acts =
    []) ∧ (r.agent < 192) ∧ (r.aged = false) ∧ (r.retry.val < 9) ∧ ((getTxn s (r.pa / 64)).isSome = true) ∧ (recalling s (r.pa / 64) = false) ∧
    ((s.xfers.all fun y => !y.write) = true) ∧ (i ∈ [.rdS r, .rdX r, .upg r, .rdNc r, .wrNc r d, .atomH r d aop n, .zeroL r]) :=
  ⟨{ user with coh.txns := [(1, some { kind := .rdX, req := ⟨2, 64, 5, 3, 0, 0, false⟩, data := noData, aop := 0, size := 0, asked := [], fwd := none, wbWait := none, memWait := false, doneWait := true, form := .plain })] }, ⟨4, 64, 5, 3, 0, 0, false⟩, ⟨3, 0, false⟩, 2, 1, .rdX ⟨4, 64, 5, 3, 0, 0, false⟩,
    by decide +kernel⟩

/-! `HoldersAnswerSnoops` -/

theorem witness_HoldersAnswerSnoops_1 : ∃ (s : State) (p : PortId) (g : Nat) (q : Nat) (i : Instr) (k : SnpKind), ((i, k) ∈ [(.snpFwdS p g q,
    .fwdS), (.snpFwdX p g q, .fwdX), (.snpGetS p g q, .getS), (.snpGetI p g q, .getI), (.snpCur p g q, .cur), (.snpInv p g q, .inv)]) ∧ (Holds p g
    {} s) :=
  ⟨{ user with coh.fabric := [.snoop .fwdX 7 1 2] }, 7, 1, 2, .snpFwdX 7 1 2, .fwdX, by unfold Holds; decide +kernel⟩

theorem witness_HoldersAnswerSnoops_2 : ∃ (s : State) (p : PortId) (g : Nat) (q : Nat) (l : NearLine), (Holds p g l s) ∧ (l.st ≠ .i) :=
  ⟨{ user with coh.near := [(7 * 2 ^ 46 + 1, ⟨.m, 5⟩)], coh.txns := [(1, some { kind := .rdX, req := ⟨2, 64, 5, 3, 0, 0, false⟩, data := noData, aop := 0, size := 0, asked := [7], fwd := none, wbWait := none, memWait := false, doneWait := false, form := .plain })] }, 7, 1, 2, ⟨.m, 5⟩,
    by unfold Holds; decide +kernel⟩

theorem witness_HoldersAnswerSnoops_3 : ∃ (s : State) (p : PortId) (g : Nat) (q : Nat) (l : NearLine), (Holds p g l s) ∧ (l.st ≠ .i) :=
  ⟨{ user with coh.near := [(7 * 2 ^ 46 + 1, ⟨.m, 5⟩)], coh.txns := [(1, some { kind := .rdX, req := ⟨2, 64, 5, 3, 0, 0, false⟩, data := noData, aop := 0, size := 0, asked := [7], fwd := none, wbWait := none, memWait := false, doneWait := false, form := .plain })] }, 7, 1, 2, ⟨.m, 5⟩,
    by unfold Holds; decide +kernel⟩

theorem witness_HoldersAnswerSnoops_4 : ∃ (s : State) (p : PortId) (g : Nat) (q : Nat) (l : NearLine), (Holds p g l s) ∧ (l.st ≠ .i) :=
  ⟨{ user with coh.near := [(7 * 2 ^ 46 + 1, ⟨.m, 5⟩)], coh.txns := [(1, some { kind := .rdX, req := ⟨2, 64, 5, 3, 0, 0, false⟩, data := noData, aop := 0, size := 0, asked := [7], fwd := none, wbWait := none, memWait := false, doneWait := false, form := .plain })] }, 7, 1, 2, ⟨.m, 5⟩,
    by unfold Holds; decide +kernel⟩

theorem witness_HoldersAnswerSnoops_5 : ∃ (s : State) (p : PortId) (g : Nat) (q : Nat) (l : NearLine), (Holds p g l s) ∧ (l.st ≠ .i) :=
  ⟨{ user with coh.near := [(7 * 2 ^ 46 + 1, ⟨.m, 5⟩)], coh.txns := [(1, some { kind := .rdX, req := ⟨2, 64, 5, 3, 0, 0, false⟩, data := noData, aop := 0, size := 0, asked := [7], fwd := none, wbWait := none, memWait := false, doneWait := false, form := .plain })] }, 7, 1, 2, ⟨.m, 5⟩,
    by unfold Holds; decide +kernel⟩

theorem witness_HoldersAnswerSnoops_6 : ∃ (s : State) (p : PortId) (g : Nat) (q : Nat) (l : NearLine), (Holds p g l s) ∧ (l.st ≠ .i) :=
  ⟨{ user with coh.near := [(7 * 2 ^ 46 + 1, ⟨.m, 5⟩)], coh.txns := [(1, some { kind := .rdX, req := ⟨2, 64, 5, 3, 0, 0, false⟩, data := noData, aop := 0, size := 0, asked := [7], fwd := none, wbWait := none, memWait := false, doneWait := false, form := .plain })] }, 7, 1, 2, ⟨.m, 5⟩,
    by unfold Holds; decide +kernel⟩

theorem witness_HoldersAnswerSnoops_7 : ∃ (s : State) (p : PortId) (g : Nat) (q : Nat) (l : NearLine), (Holds p g l s) ∧ (l.st ≠ .i) :=
  ⟨{ user with coh.near := [(7 * 2 ^ 46 + 1, ⟨.m, 5⟩)], coh.txns := [(1, some { kind := .rdX, req := ⟨2, 64, 5, 3, 0, 0, false⟩, data := noData, aop := 0, size := 0, asked := [7], fwd := none, wbWait := none, memWait := false, doneWait := false, form := .plain })] }, 7, 1, 2, ⟨.m, 5⟩,
    by unfold Holds; decide +kernel⟩

/-! `AnswersAreTaken` -/

theorem witness_AnswersAreTaken_1 : ∃ (s : State) (p : PortId) (g : Nat) (x : Txn), (Awaits g p .rdX x s) ∧ ((x.fwd = none ∨ x.fwd = some p.val)) ∧
    ((getNear s p g).st = .i) :=
  ⟨{ user with coh.near := [], coh.dir := [(1, ⟨.exclusive, [7], none⟩)], coh.txns := [(1, some { kind := .rdX, req := ⟨2, 64, 5, 3, 0, 0, false⟩, data := noData, aop := 0, size := 0, asked := [7], fwd := some 7, wbWait := none, memWait := false, doneWait := false, form := .plain })] }, 7, 1, { kind := .rdX, req := ⟨2, 64, 5, 3, 0, 0, false⟩, data := noData, aop := 0, size := 0, asked := [7], fwd := some 7, wbWait := none, memWait := false, doneWait := false, form := .plain },
    by unfold Awaits; decide +kernel⟩

theorem witness_AnswersAreTaken_2 : ∃ (s : State) (p : PortId) (g : Nat) (x : Txn) (b : Bool), (Awaits g p .rdS x s) ∧ (x.fwd = some p.val) ∧
    (getDir s g = ⟨.exclusive, [p.val], none⟩) :=
  ⟨{ user with coh.near := [(7 * 2 ^ 46 + 1, ⟨.s, 5⟩)], coh.dir := [(1, ⟨.exclusive, [7], none⟩)], coh.txns := [(1, some { kind := .rdS, req := ⟨2, 64, 5, 3, 0, 0, false⟩, data := noData, aop := 0, size := 0, asked := [7], fwd := some 7, wbWait := none, memWait := false, doneWait := false, form := .plain })] }, 7, 1, { kind := .rdS, req := ⟨2, 64, 5, 3, 0, 0, false⟩, data := noData, aop := 0, size := 0, asked := [7], fwd := some 7, wbWait := none, memWait := false, doneWait := false, form := .plain }, true,
    by unfold Awaits; decide +kernel⟩

theorem witness_AnswersAreTaken_3 : ∃ (s : State) (p : PortId) (g : Nat) (x : Txn) (b : Bool), (Awaits g p .rdX x s) ∧ (x.fwd = some p.val) :=
  ⟨{ user with coh.near := [], coh.dir := [(1, ⟨.exclusive, [7], none⟩)], coh.txns := [(1, some { kind := .rdX, req := ⟨2, 64, 5, 3, 0, 0, false⟩, data := noData, aop := 0, size := 0, asked := [7], fwd := some 7, wbWait := none, memWait := false, doneWait := false, form := .plain })] }, 7, 1, { kind := .rdX, req := ⟨2, 64, 5, 3, 0, 0, false⟩, data := noData, aop := 0, size := 0, asked := [7], fwd := some 7, wbWait := none, memWait := false, doneWait := false, form := .plain }, true,
    by unfold Awaits; decide +kernel⟩

theorem witness_AnswersAreTaken_4 : ∃ (s : State) (p : PortId) (g : Nat) (x : Txn) (b : Bool), (Awaits g p .rdNc x s) ∧ (x.fwd = none) :=
  ⟨{ user with coh.near := [(7 * 2 ^ 46 + 1, ⟨.m, 5⟩)], coh.dir := [(1, ⟨.exclusive, [7], none⟩)], coh.txns := [(1, some { kind := .rdNc, req := ⟨2, 64, 5, 3, 0, 0, false⟩, data := noData, aop := 0, size := 0, asked := [7], fwd := none, wbWait := none, memWait := false, doneWait := false, form := .plain })] }, 7, 1, { kind := .rdNc, req := ⟨2, 64, 5, 3, 0, 0, false⟩, data := noData, aop := 0, size := 0, asked := [7], fwd := none, wbWait := none, memWait := false, doneWait := false, form := .plain }, true,
    by unfold Awaits; decide +kernel⟩

theorem witness_AnswersAreTaken_5 : ∃ (s : State) (p : PortId) (g : Nat) (x : Txn), (Awaits g p .rdX x s) ∧ (getDir s g = ⟨.exclusive, [p.val],
    none⟩) ∧ ((getNear s p g).st = .m) :=
  ⟨{ user with coh.near := [(7 * 2 ^ 46 + 1, ⟨.m, 5⟩)], coh.dir := [(1, ⟨.exclusive, [7], none⟩)], coh.txns := [(1, some { kind := .rdX, req := ⟨2, 64, 5, 3, 0, 0, false⟩, data := noData, aop := 0, size := 0, asked := [7], fwd := some 7, wbWait := none, memWait := false, doneWait := false, form := .plain })] }, 7, 1, { kind := .rdX, req := ⟨2, 64, 5, 3, 0, 0, false⟩, data := noData, aop := 0, size := 0, asked := [7], fwd := some 7, wbWait := none, memWait := false, doneWait := false, form := .plain },
    by unfold Awaits; decide +kernel⟩

theorem witness_AnswersAreTaken_6 : ∃ (s : State) (r : CohReq), (fabOn s = true) ∧ (s.acts = []) ∧ (r.agent < 192) ∧ ((getNear s r.agent (r.pa /
    64)).st = .m) ∧ ((getPort s r.agent).nearFenced = false) ∧ (blockOut s (r.pa / 64) = false) ∧ (getDir s (r.pa / 64) = ⟨.exclusive, [r.agent],
    none⟩) ∧ (getTxn s (r.pa / 64) = none) ∧ ((Msg.wb r.agent (r.pa / 64) ∈ s.coh.fabric → (r.agent, r.pa / 64) ∈ s.coh.wbs)) :=
  ⟨{ user with coh.near := [(2 * 2 ^ 46 + 1, ⟨.m, 5⟩)], coh.dir := [(1, ⟨.exclusive, [2], none⟩)] }, ⟨2, 64, 5, 3, 0, 0, false⟩, by decide +kernel⟩

theorem witness_AnswersAreTaken_7 : ∃ (s : State) (a : Nat) (g : Nat), (fabOn s = true) ∧ (s.acts = []) :=
  ⟨{ user with coh.fabric := [.cmpFwd 3 1] }, 3, 1, by decide +kernel⟩

theorem witness_AnswersAreTaken_8 : ∃ (s : State) (a : Nat) (g : Nat), (fabOn s = true) ∧ (s.acts = []) ∧ ((getPort s a).ops = []) ∧ ((getPort s
    a).deferred = []) :=
  ⟨{ user with coh.fabric := [.wbAck 3 1], coh.wbs := [(3, 1)] }, 3, 1, by decide +kernel⟩

theorem witness_AnswersAreTaken_9 : ∃ (s : State) (a : Nat) (g : Nat) (x : Txn), (fabOn s = true) ∧ (s.acts = []) ∧ (getTxn s g = some x) ∧
    (x.doneWait = true) ∧ (x.req.agent = a) ∧ (s.coh.queued = []) ∧ (g ∉ s.coh.through) ∧ ((∀ kv ∈ s.coh.homeState, kv.2 ≠ 1)) :=
  ⟨{ user with coh.txns := [(1, some { kind := .rdX, req := ⟨2, 64, 5, 3, 0, 0, false⟩, data := noData, aop := 0, size := 0, asked := [], fwd := none, wbWait := none, memWait := false, doneWait := true, form := .plain })] }, 2, 1, { kind := .rdX, req := ⟨2, 64, 5, 3, 0, 0, false⟩, data := noData, aop := 0, size := 0, asked := [], fwd := none, wbWait := none, memWait := false, doneWait := true, form := .plain },
    by decide +kernel⟩

theorem witness_AnswersAreTaken_10 : ∃ (s : State) (p : PortId) (g : Nat) (x : Grant) (line : Line) (bad : Bool) (i : Instr), (i ∈ [.dataMessage p g
    x line bad, .dataFwdMessage p g x line bad]) ∧ (fabOn s = true) ∧ (s.acts = []) ∧ (x ≠ .none) ∧ ((getPort s p).nearFenced = false) ∧ ((getPort s
    p).ops = []) ∧ ((getPort s p).deferred = []) ∧ (nearVictim s p g = none) ∧ (unchecked s (0x3000 + p.val) g = false) :=
  ⟨user, 3, 1, .e, 5, false, .dataMessage 3 1 .e 5 false, by decide +kernel⟩

theorem witness_AnswersAreTaken_11 : ∃ (s : State) (g : Nat) (line : Line) (bad : Bool), ((fabOn s = true) ∧ (s.acts = [])) ∧ (LinksCarry s) :=
  ⟨user, 1, 5, false, by decide +kernel, links_carry (by decide +kernel)⟩

theorem witness_AnswersAreTaken_12 : ∃ (s : State) (p : PortId) (g : Nat), (fabOn s = true) ∧ (s.acts = []) ∧ ((getPort s p).nearFenced = false) ∧
    ((getPort s p).ops = []) ∧ ((getPort s p).deferred = []) ∧ (nearVictim s p g = none) :=
  ⟨user, 3, 1, by decide +kernel⟩

theorem witness_AnswersAreTaken_13 : ∃ (s : State) (p : PortId) (g : Nat) (o : PortOp) (old : Line), (CorePortFree p
    { s with ports := tset {} s.ports p { getPort s p with ops := [] } }) ∧ ((getPort s p).ops = [o]) ∧ (o.phase = .home) ∧ (o.what = .mem) ∧
    (opGranule o = g) ∧ (opCode o = opStore ∨ opCode o = opAtomic) ∧ (o.answer = none) ∧ (o.answered = false) ∧ (o.flushed = false) :=
  ⟨{ user with ports := [(3, { ops := [entry (req 4 2 3) 0x1000 .home] })] }, 3, 64, entry (req 4 2 3) 0x1000 .home, 0x77,
    by unfold CorePortFree; decide +kernel⟩

theorem witness_AnswersAreTaken_14 : ∃ (s : State) (p : PortId) (g : Nat) (o : PortOp) (n : Fin 16), (fabOn s = true) ∧ (s.acts = []) ∧ ((getPort s
    p).ops = [o]) ∧ (o.sent = true) ∧ (o.phase = .line) ∧ (opGranule o = g) ∧ (opCode o = opLoad) :=
  ⟨{ user with ports := [(3, { ops := [{ entry (req 0 0 0) 0x1000 .line with sent := true }] })], coh.fabric := [.retry 3 64 4] }, 3, 64, { entry (req 0 0 0) 0x1000 .line with sent := true }, 4,
    by decide +kernel⟩

theorem witness_AnswersAreTaken_15 : ∃ (s : State) (p : PortId), (fabOn s = true) ∧ (s.acts = []) ∧ (RecordsTwice s) ∧ ((getPort s p).nearFenced =
    false) ∧ ((getPort s p).ops = []) ∧ (s.coh.dir = []) ∧ (s.coh.txns = []) ∧ (s.sync.watches = []) :=
  ⟨{ user with coh.dir := [], coh.near := [(1, ⟨.s, 5⟩)], ports := [(0, { resv := [(2, some ⟨0, 5⟩)] })] }, 0, by unfold RecordsTwice; decide +kernel⟩

theorem witness_AnswersAreTaken_16 : ∃ (s : State) (p : PortId), (fabOn s = true) ∧ (s.acts = []) ∧ ((getPort s p).nearFenced = true) :=
  ⟨{ user with ports := [(0, { nearFenced := true })] }, 0, by decide +kernel⟩

theorem witness_AnswersAreTaken_17 : ∃ (s : State), (fabOn s = true) ∧ (s.acts = []) ∧ (proxyAlive s = true) :=
  ⟨{ user with hosts := [(0, { link := 2 })] }, by decide +kernel⟩

/-! `HostSnoopsAndRequests` -/

theorem witness_HostSnoopsAndRequests_1_1 : ∃ (s : State) (p : HostId) (g : Nat) (d : DevLine), (HostLine g d s) ∧ (shingleOf s g = .m) :=
  ⟨{ user with coh.dev := [((2 ^ 44 + 5) / 4, some ⟨3, 0, 0, [.i, .m, .i, .e], 0⟩)], mem.bytes := [((2 ^ 44 + 5) * 64 + 3, 0x5A)] }, 0, (2 ^ 44 + 5), ⟨3, 0, 0, [.i, .m, .i, .e], 0⟩,
    by unfold HostLine; exact ⟨by decide +kernel, by decide +kernel, links_carry (by decide +kernel), by decide +kernel⟩, by decide +kernel⟩

theorem witness_HostSnoopsAndRequests_1_2 : ∃ (s : State) (p : HostId) (g : Nat) (d : DevLine), (HostLine g d s) ∧ (shingleOf s g = .m) :=
  ⟨{ user with coh.dev := [((2 ^ 44 + 5) / 4, some ⟨3, 0, 0, [.i, .m, .i, .e], 0⟩)], mem.bytes := [((2 ^ 44 + 5) * 64 + 3, 0x5A)] }, 0, (2 ^ 44 + 5), ⟨3, 0, 0, [.i, .m, .i, .e], 0⟩,
    by unfold HostLine; exact ⟨by decide +kernel, by decide +kernel, links_carry (by decide +kernel), by decide +kernel⟩, by decide +kernel⟩

theorem witness_HostSnoopsAndRequests_1_3 : ∃ (s : State) (p : HostId) (g : Nat) (d : DevLine), (HostLine g d s) ∧ (shingleOf s g = .m) :=
  ⟨{ user with coh.dev := [((2 ^ 44 + 5) / 4, some ⟨3, 0, 0, [.i, .m, .i, .e], 0⟩)], mem.bytes := [((2 ^ 44 + 5) * 64 + 3, 0x5A)] }, 0, (2 ^ 44 + 5), ⟨3, 0, 0, [.i, .m, .i, .e], 0⟩,
    by unfold HostLine; exact ⟨by decide +kernel, by decide +kernel, links_carry (by decide +kernel), by decide +kernel⟩, by decide +kernel⟩

theorem witness_HostSnoopsAndRequests_2_1 : ∃ (s : State) (p : HostId) (g : Nat) (d : DevLine), (HostLine g d s) ∧ (shingleOf s g = .e) :=
  ⟨{ user with coh.dev := [((2 ^ 44 + 5) / 4, some ⟨3, 0, 0, [.i, .e, .i, .e], 0⟩)], mem.bytes := [((2 ^ 44 + 5) * 64 + 3, 0x5A)] }, 0, (2 ^ 44 + 5), ⟨3, 0, 0, [.i, .e, .i, .e], 0⟩,
    by unfold HostLine; exact ⟨by decide +kernel, by decide +kernel, links_carry (by decide +kernel), by decide +kernel⟩, by decide +kernel⟩

theorem witness_HostSnoopsAndRequests_2_2 : ∃ (s : State) (p : HostId) (g : Nat) (d : DevLine), (HostLine g d s) ∧ (shingleOf s g = .e) :=
  ⟨{ user with coh.dev := [((2 ^ 44 + 5) / 4, some ⟨3, 0, 0, [.i, .e, .i, .e], 0⟩)], mem.bytes := [((2 ^ 44 + 5) * 64 + 3, 0x5A)] }, 0, (2 ^ 44 + 5), ⟨3, 0, 0, [.i, .e, .i, .e], 0⟩,
    by unfold HostLine; exact ⟨by decide +kernel, by decide +kernel, links_carry (by decide +kernel), by decide +kernel⟩, by decide +kernel⟩

theorem witness_HostSnoopsAndRequests_2_3 : ∃ (s : State) (p : HostId) (g : Nat) (d : DevLine), (HostLine g d s) ∧ (shingleOf s g = .e) :=
  ⟨{ user with coh.dev := [((2 ^ 44 + 5) / 4, some ⟨3, 0, 0, [.i, .e, .i, .e], 0⟩)], mem.bytes := [((2 ^ 44 + 5) * 64 + 3, 0x5A)] }, 0, (2 ^ 44 + 5), ⟨3, 0, 0, [.i, .e, .i, .e], 0⟩,
    by unfold HostLine; exact ⟨by decide +kernel, by decide +kernel, links_carry (by decide +kernel), by decide +kernel⟩, by decide +kernel⟩

theorem witness_HostSnoopsAndRequests_3_1 : ∃ (s : State) (p : HostId) (g : Nat) (d : DevLine), (HostLine g d s) ∧ (shingleOf s g = .s) :=
  ⟨{ user with coh.dev := [((2 ^ 44 + 5) / 4, some ⟨3, 0, 0, [.i, .s, .i, .e], 0⟩)], mem.bytes := [((2 ^ 44 + 5) * 64 + 3, 0x5A)] }, 0, (2 ^ 44 + 5), ⟨3, 0, 0, [.i, .s, .i, .e], 0⟩,
    by unfold HostLine; exact ⟨by decide +kernel, by decide +kernel, links_carry (by decide +kernel), by decide +kernel⟩, by decide +kernel⟩

theorem witness_HostSnoopsAndRequests_3_2 : ∃ (s : State) (p : HostId) (g : Nat) (d : DevLine), (HostLine g d s) ∧ (shingleOf s g = .s) :=
  ⟨{ user with coh.dev := [((2 ^ 44 + 5) / 4, some ⟨3, 0, 0, [.i, .s, .i, .e], 0⟩)], mem.bytes := [((2 ^ 44 + 5) * 64 + 3, 0x5A)] }, 0, (2 ^ 44 + 5), ⟨3, 0, 0, [.i, .s, .i, .e], 0⟩,
    by unfold HostLine; exact ⟨by decide +kernel, by decide +kernel, links_carry (by decide +kernel), by decide +kernel⟩, by decide +kernel⟩

theorem witness_HostSnoopsAndRequests_3_3 : ∃ (s : State) (p : HostId) (g : Nat) (d : DevLine), (HostLine g d s) ∧ (shingleOf s g = .s) :=
  ⟨{ user with coh.dev := [((2 ^ 44 + 5) / 4, some ⟨3, 0, 0, [.i, .s, .i, .e], 0⟩)], mem.bytes := [((2 ^ 44 + 5) * 64 + 3, 0x5A)] }, 0, (2 ^ 44 + 5), ⟨3, 0, 0, [.i, .s, .i, .e], 0⟩,
    by unfold HostLine; exact ⟨by decide +kernel, by decide +kernel, links_carry (by decide +kernel), by decide +kernel⟩, by decide +kernel⟩

theorem witness_HostSnoopsAndRequests_4 : ∃ (s : State) (p : HostId) (g : Nat) (i : Instr), ((fabOn s = true) ∧ (s.acts = [])) ∧ (LinksCarry s) ∧
    (getDir s g = {}) ∧ (shingleOf s g = .i) ∧ (getTxn s g = none) ∧ ((∀ q ∈ s.coh.queued, q.req.pa / 64 ≠ g)) ∧ (i ∈ [.snpdata p g, .snpinv p g,
    .snpcur p g]) :=
  ⟨user, 0, (2 ^ 44 + 5), .snpinv 0 (2 ^ 44 + 5), by decide +kernel, links_carry (by decide +kernel), by decide +kernel⟩

theorem witness_HostSnoopsAndRequests_5 : ∃ (s : State) (p : HostId) (g : Nat) (d : DevLine) (rsp : H2d) (line : Line), (HostLine g d s) ∧ (hostUp s
    p = true) ∧ (s.coh.missing = [(g / 4, g)]) ∧ (s.coh.queued = []) ∧ ((∀ i, i < 4 → getTxn s (g / 4 * 4 + i) = none)) ∧ (rsp ≠ .pull) :=
  ⟨{ user with hosts := [(0, { link := 2 })], coh.missing := [((2 ^ 44 + 5) / 4, (2 ^ 44 + 5))], coh.dev := [((2 ^ 44 + 5) / 4, some ⟨3, 0, 0, [.i, .i, .i, .e], 0⟩)], mem.bytes := [((2 ^ 44 + 5) * 64 + 3, 0x5A)] }, 0, (2 ^ 44 + 5), ⟨3, 0, 0, [.i, .i, .i, .e], 0⟩, .goE, 0x77,
    by unfold HostLine; exact ⟨by decide +kernel, by decide +kernel, links_carry (by decide +kernel), by decide +kernel⟩, by decide +kernel⟩

theorem witness_HostSnoopsAndRequests_6 : ∃ (s : State) (p : HostId) (g : Nat) (rsp : H2d), (fabOn s = true) ∧ (s.acts = []) ∧ (hostUp s p = true) ∧
    (s.coh.missing = []) :=
  ⟨{ user with hosts := [(0, { link := 2 })], coh.evicting := [((2 ^ 44 + 5), true)] }, 0, (2 ^ 44 + 5), .goI, by decide +kernel⟩

theorem witness_HostSnoopsAndRequests_7 : ∃ (s : State) (p : HostId) (d : Fin 8) (base : Nat) (size : Nat) (dpa : Nat) (ways : Fin 2) (gran : Fin
    7), (fabOn s = true) ∧ (s.acts = []) ∧ (dpa + size / (ways.val + 1) ≤ stackBytes s) :=
  ⟨user, 0, 3, 0x1000000, 0x1000, 0, 0, 0, by decide +kernel⟩

theorem witness_HostSnoopsAndRequests_8 : ∃ (s : State) (p : HostId) (d : Fin 8) (base : Nat) (size : Nat) (dpa : Nat) (ways : Fin 2) (gran : Fin
    7), (fabOn s = true) ∧ (s.acts = []) ∧ (stackBytes s < dpa + size / (ways.val + 1)) :=
  ⟨user, 0, 3, 0x1000000, 0x1000, 2 ^ 60, 0, 0, by decide +kernel⟩

theorem witness_HostSnoopsAndRequests_9 : ∃ (s : State) (p : HostId) (d : Fin 8) (base : Nat) (size : Nat) (dpa : Nat) (ways : Fin 2) (gran : Fin
    7), (fabOn s = true) ∧ (s.acts = []) :=
  ⟨user, 0, 3, 0x1000000, 0x1000, 0, 0, 0, by decide +kernel⟩

theorem witness_HostSnoopsAndRequests_10_1 : ∃ (s : State) (p : HostId) (hpa : Nat) (mv : Meta) (d : CohData), ((fabOn s = true) ∧ (s.acts = [])) ∧
    (LinksCarry s) ∧ (decoderOf s p hpa = none) :=
  ⟨user, 0, 0x1000040, .any, ⟨0, 0, false⟩, by decide +kernel, links_carry (by decide +kernel), by decide +kernel⟩

theorem witness_HostSnoopsAndRequests_10_2 : ∃ (s : State) (p : HostId) (hpa : Nat) (mv : Meta) (d : CohData), ((fabOn s = true) ∧ (s.acts = [])) ∧
    (LinksCarry s) ∧ (decoderOf s p hpa = none) :=
  ⟨user, 0, 0x1000040, .any, ⟨5, 3, false⟩, by decide +kernel, links_carry (by decide +kernel), by decide +kernel⟩

theorem witness_HostSnoopsAndRequests_11_1 : ∃ (s : State) (p : HostId) (hpa : Nat) (g : Nat) (c : Nat) (k : Nat), (HomesQuiet s) ∧ (c < 4096) ∧ (k
    < 4096) ∧ (hdmTarget s p hpa = some (g, c, k)) ∧ (target (g * 64) = .stacks) ∧ (poisonAt s g = false) :=
  ⟨{ user with coh.near := [], coh.dir := [], hosts := [(0, { link := 2, decoders := [(0, ⟨true, 0x1000000, 0x1000, 1, 256, 0⟩)] })], objs := [(okey 0x5001 1, some 5), (okey 0x5001 2, some 3)] }, 0, 0x1000040, 1, 5, 3,
    by unfold HomesQuiet; decide +kernel⟩

theorem witness_HostSnoopsAndRequests_11_2 : ∃ (s : State) (p : HostId) (hpa : Nat) (g : Nat) (c : Nat) (k : Nat), (HomesQuiet s) ∧ (c < 4096) ∧ (k
    < 4096) ∧ (hdmTarget s p hpa = some (g, c, k)) ∧ (target (g * 64) = .stacks) ∧ (poisonAt s g = false) :=
  ⟨{ user with coh.near := [], coh.dir := [], hosts := [(0, { link := 2, decoders := [(0, ⟨true, 0x1000000, 0x1000, 1, 256, 0⟩)] })], objs := [(okey 0x5001 1, some 5), (okey 0x5001 2, some 3)] }, 0, 0x1000040, 1, 5, 3,
    by unfold HomesQuiet; decide +kernel⟩

theorem witness_HostSnoopsAndRequests_11_3 : ∃ (s : State) (p : HostId) (hpa : Nat) (g : Nat) (c : Nat) (k : Nat), (HomesQuiet s) ∧ (c < 4096) ∧ (k
    < 4096) ∧ (hdmTarget s p hpa = some (g, c, k)) ∧ (target (g * 64) = .stacks) ∧ (poisonAt s g = false) :=
  ⟨{ user with coh.near := [], coh.dir := [], hosts := [(0, { link := 2, decoders := [(0, ⟨true, 0x1000000, 0x1000, 1, 256, 0⟩)] })], objs := [(okey 0x5001 1, some 5), (okey 0x5001 2, some 3)] }, 0, 0x1000040, 1, 5, 3,
    by unfold HomesQuiet; decide +kernel⟩

theorem witness_HostSnoopsAndRequests_12 : ∃ (s : State) (p : HostId) (hpa : Nat) (g : Nat) (c : Nat) (k : Nat), (HomesQuiet s) ∧ (c < 4096) ∧ (k <
    4096) ∧ (hdmTarget s p hpa = some (g, c, k)) ∧ (target (g * 64) = .stacks) ∧ (poisonAt s g = false) :=
  ⟨{ user with coh.near := [], coh.dir := [], hosts := [(0, { link := 2, decoders := [(0, ⟨true, 0x1000000, 0x1000, 1, 256, 0⟩)] })], objs := [(okey 0x5001 1, some 5), (okey 0x5001 2, some 3)] }, 0, 0x1000040, 1, 5, 3,
    by unfold HomesQuiet; decide +kernel⟩

theorem witness_HostSnoopsAndRequests_13 : ∃ (s : State) (p : HostId) (hpa : Nat) (g : Nat) (c : Nat) (k : Nat) (d : CohData), (HomesQuiet s) ∧ (c <
    4096) ∧ (k < 4096) ∧ (hdmTarget s p hpa = some (g, c, k)) ∧ (target (g * 64) = .stacks) ∧ ((∀ b ∈ (getHost s p).bisnp, b.1 ≠ g)) ∧ ((d.poison =
    true → ringOn s.flt.ring = false)) :=
  ⟨{ user with coh.near := [], coh.dir := [], hosts := [(0, { link := 2, decoders := [(0, ⟨true, 0x1000000, 0x1000, 1, 256, 0⟩)] })], objs := [(okey 0x5001 1, some 5), (okey 0x5001 2, some 3)] }, 0, 0x1000040, 1, 5, 3, ⟨5, 3, false⟩,
    by unfold HomesQuiet; decide +kernel⟩

theorem witness_HostSnoopsAndRequests_14 : ∃ (s : State) (p : HostId) (g : Nat) (k : SnpKind) (x : Txn) (rsp : BiRsp), (fabOn s = true) ∧ (s.acts =
    []) ∧ ((getHost s p).bisnp = [(g, k)]) ∧ (getTxn s g = some x) ∧ (x.asked = [0xF0, 0]) :=
  ⟨{ user with hosts := [(0, { link := 2, bisnp := [(1, .getI)] })], coh.txns := [(1, some { kind := .rdX, req := ⟨2, 64, 5, 3, 0, 0, false⟩, data := noData, aop := 0, size := 0, asked := [0xF0, 0], fwd := none, wbWait := none, memWait := false, doneWait := false, form := .plain })] }, 0, 1, .getI, { kind := .rdX, req := ⟨2, 64, 5, 3, 0, 0, false⟩, data := noData, aop := 0, size := 0, asked := [0xF0, 0], fwd := none, wbWait := none, memWait := false, doneWait := false, form := .plain }, .i,
    by decide +kernel⟩

theorem witness_HostSnoopsAndRequests_15 : ∃ (s : State) (p : HostId) (g : Nat) (k : SnpKind), ((fabOn s = true) ∧ (s.acts = [])) ∧ (LinksCarry s) ∧
    ((g, k) ∈ (getHost s p).bisnp) :=
  ⟨{ user with hosts := [(0, { link := 2, bisnp := [(1, .getI)] })] }, 0, 1, .getI, by decide +kernel, links_carry (by decide +kernel),
    by decide +kernel⟩

/-! `PeerLinksAndFlits` -/

theorem witness_PeerLinksAndFlits_1 : ∃ (s : State) (l : PeerId) (p : PeerLink) (f : PeerFlit), (LinkActive l p s) ∧ (f.crcOk = true) ∧ (f.tagOk =
    true) ∧ (f.seq.toNat = p.recvSeq) ∧ (f.slots = 1) ∧ (pmBlocks (f.body.extractLsb' 0 256) = 0) :=
  ⟨{ user with coh.near := [], coh.dir := [], peers := [(2, { state := 3, session := some 0, recvSeq := 5 })] }, 2, { state := 3, session := some 0, recvSeq := 5 }, ⟨5, 0, 2, 3, 1, BitVec.ofNat 1792 (1 * 2 ^ 80), true, true⟩,
    by unfold LinkActive; decide +kernel⟩

theorem witness_PeerLinksAndFlits_2 : ∃ (s : State) (l : PeerId) (p : PeerLink) (f : PeerFlit), (LinkActive l p s) ∧ (f.crcOk = false) :=
  ⟨{ user with coh.near := [], coh.dir := [], peers := [(2, { state := 3, session := some 0, recvSeq := 5 })] }, 2, { state := 3, session := some 0, recvSeq := 5 }, ⟨5, 0, 2, 3, 1, 0, false, true⟩,
    by unfold LinkActive; decide +kernel⟩

theorem witness_PeerLinksAndFlits_3 : ∃ (s : State) (l : PeerId) (p : PeerLink) (f : PeerFlit), (LinkActive l p s) ∧ (f.crcOk = true) ∧ (f.tagOk =
    true) ∧ (f.seq.toNat ≠ p.recvSeq) :=
  ⟨{ user with coh.near := [], coh.dir := [], peers := [(2, { state := 3, session := some 0, recvSeq := 5 })] }, 2, { state := 3, session := some 0, recvSeq := 5 }, ⟨7, 0, 2, 3, 1, 0, true, true⟩,
    by unfold LinkActive; decide +kernel⟩

theorem witness_PeerLinksAndFlits_4 : ∃ (s : State) (l : PeerId) (p : PeerLink) (f : PeerFlit), (LinkActive l p s) ∧ (f.crcOk = true) ∧ (f.tagOk =
    false) ∧ (p.tagRun = 2) ∧ (s.ports = []) ∧ (p.out = []) ∧ (RecordsQuietly s) :=
  ⟨{ user with coh.near := [], coh.dir := [], peers := [(2, { state := 3, session := some 0, recvSeq := 5, tagRun := 2 })] }, 2, { state := 3, session := some 0, recvSeq := 5, tagRun := 2 }, ⟨5, 0, 2, 3, 1, 0, true, false⟩,
    by unfold LinkActive RecordsQuietly; decide +kernel⟩

theorem witness_PeerLinksAndFlits_5 : ∃ (s : State) (l : PeerId) (p : PeerLink) (f : PeerFlit), (LinkActive l p s) ∧ (f.crcOk = true) :=
  ⟨{ user with coh.near := [], coh.dir := [], peers := [(2, { state := 3, session := some 0, recvSeq := 5 })] }, 2, { state := 3, session := some 0, recvSeq := 5 }, ⟨5, 0, 2, 3, 1, 0, true, true⟩,
    by unfold LinkActive; decide +kernel⟩

theorem witness_PeerLinksAndFlits_6 : ∃ (s : State) (l : PeerId) (p : PeerLink) (f : PeerFlit) (g : PeerFlit) (n : Nat), (LinkActive l
    { p with replay := [] } { s with peers := tset {} s.peers l { p with replay := [] } }) ∧ (getPeer s l = p) ∧ (p.replay = [(n, g)]) ∧ (f.crcOk =
    true) ∧ (serialGe 16 f.ack.toNat g.seq.toNat = true) :=
  ⟨{ user with coh.near := [], coh.dir := [], peers := [(2, { state := 3, session := some 0, recvSeq := 5, replay := [(3, ⟨9, 0, 2, 3, 1, 0, true, true⟩)] })] }, 2, { state := 3, session := some 0, recvSeq := 5, replay := [(3, ⟨9, 0, 2, 3, 1, 0, true, true⟩)] }, ⟨5, 9, 2, 3, 1, 0, true, true⟩, ⟨9, 0, 2, 3, 1, 0, true, true⟩, 3,
    by unfold LinkActive; decide +kernel⟩

theorem witness_PeerLinksAndFlits_7 : ∃ (s : State) (l : PeerId) (p : PeerLink) (f : PeerFlit) (g : PeerFlit) (n : Nat), (LinkActive l
    { p with replay := [] } { s with peers := tset {} s.peers l { p with replay := [] } }) ∧ (getPeer s l = p) ∧ (p.replay = [(n, g)]) ∧ (f.crcOk =
    true) ∧ (serialGe 16 f.ack.toNat g.seq.toNat = false) ∧ (p.rounds < 8) ∧ (RecordsQuietly s) :=
  ⟨{ user with coh.near := [], coh.dir := [], peers := [(2, { state := 3, session := some 0, recvSeq := 5, replay := [(3, ⟨9, 0, 2, 3, 1, 0, true, true⟩)] })] }, 2, { state := 3, session := some 0, recvSeq := 5, replay := [(3, ⟨9, 0, 2, 3, 1, 0, true, true⟩)] }, ⟨5, 8, 2, 3, 1, 0, true, true⟩, ⟨9, 0, 2, 3, 1, 0, true, true⟩, 3,
    by unfold LinkActive RecordsQuietly; decide +kernel⟩

theorem witness_PeerLinksAndFlits_8 : ∃ (s : State) (l : PeerId) (p : PeerLink) (f : PeerFlit), (LinkActive l p s) ∧ (f.crcOk = true) :=
  ⟨{ user with coh.near := [], coh.dir := [], peers := [(2, { state := 3, session := some 0, recvSeq := 5 })] }, 2, { state := 3, session := some 0, recvSeq := 5 }, ⟨5, 0, 2, 3, 1, 0, true, true⟩,
    by unfold LinkActive; decide +kernel⟩

theorem witness_PeerLinksAndFlits_9 : ∃ (s : State) (l : PeerId) (p : PeerLink) (f : PeerFlit), (linkOn s = true) ∧ (s.acts = []) ∧ (getPeer s l =
    p) ∧ (p.state = 4) ∧ (p.outq = []) ∧ (f.crcOk = true) :=
  ⟨{ user with coh.near := [], coh.dir := [], peers := [(2, { state := 4, session := some 0, recvSeq := 5 })] }, 2, { state := 4, session := some 0, recvSeq := 5 }, ⟨5, 0, 2, 3, 1, 0, true, true⟩,
    by decide +kernel⟩

theorem witness_PeerLinksAndFlits_10 : ∃ (s : State) (l : PeerId) (lanes : Fin 65), (linkOn s = true) ∧ (s.acts = []) ∧ ((getPeer s l).state ≤ 1) :=
  ⟨{ user with coh.near := [], coh.dir := [], peers := [(2, { state := 1, session := none, recvSeq := 5 })] }, 2, 16, by decide +kernel⟩

theorem witness_PeerLinksAndFlits_11 : ∃ (s : State) (l : PeerId) (p : PeerLink), (linkOn s = true) ∧ (s.acts = []) ∧ (getPeer s l = p) ∧ (p.state ≠
    0) ∧ (p.out = []) ∧ (s.ports = []) ∧ (RecordsQuietly s) :=
  ⟨{ user with coh.near := [], coh.dir := [], peers := [(2, { state := 3, session := some 0, recvSeq := 5, replay := [(3, ⟨9, 0, 2, 3, 1, 0, true, true⟩)] })], aoncnt := 6000 }, 2, { state := 3, session := some 0, recvSeq := 5, replay := [(3, ⟨9, 0, 2, 3, 1, 0, true, true⟩)] },
    by unfold RecordsQuietly; decide +kernel⟩

theorem witness_PeerLinksAndFlits_12 : ∃ (s : State) (l : PeerId), ((linkOn s = true) ∧ (s.acts = [])) ∧ ((∀ n f rest, (getPeer s l).replay = (n, f)
    :: rest → s.aoncnt < n + 5000)) :=
  ⟨{ user with coh.near := [], coh.dir := [], peers := [(2, { state := 3, session := some 0, recvSeq := 5 })] }, 2,
    by decide +kernel, fun _ _ _ h => nomatch h⟩

/-! `PeerRequestsAreServed` -/

theorem witness_PeerRequestsAreServed_1 : ∃ (s : State) (l : PeerId) (m : BitVec 256) (data : List Byte) (pa : Nat), (PeerAsks l 1 needR m data pa
    s) :=
  ⟨{ user with coh.near := [], coh.dir := [], peers := [(2, { state := 3, session := some 0, recvSeq := 5, inbox := [(pmMake 1 0 9 7 0 0 0 1 8 0, [])] })], objs := [(okey (0x5410 + 64 * 2 + 1) 1, some 15), (okey (0x5410 + 64 * 2 + 1) 3, some 1), (okey (0x5410 + 64 * 2 + 1) 4, some 5), (okey (0x5410 + 64 * 2 + 1) 5, some 3)] }, 2, pmMake 1 0 9 7 0 0 0 1 8 0, [], 8,
    by unfold PeerAsks; exact ⟨⟨{ state := 3, session := some 0, recvSeq := 5, inbox := [(pmMake 1 0 9 7 0 0 0 1 8 0, [])] },
    by unfold LinkActive; decide +kernel⟩, by unfold WayClear; decide +kernel⟩⟩

theorem witness_PeerRequestsAreServed_2 : ∃ (s : State) (l : PeerId) (m : BitVec 256) (data : List Byte) (pa : Nat), (PeerAsks l 2 needW m data pa
    s) ∧ (pmBlocks m = 1) ∧ (data.length = 64) ∧ (pmPoison m = 0) :=
  ⟨{ user with coh.near := [], coh.dir := [], peers := [(2, { state := 3, session := some 0, recvSeq := 5, inbox := [(pmMake 2 0 9 7 1 0 0 1 8 0, List.replicate 64 7)] })], objs := [(okey (0x5410 + 64 * 2 + 1) 1, some 15), (okey (0x5410 + 64 * 2 + 1) 3, some 1), (okey (0x5410 + 64 * 2 + 1) 4, some 5), (okey (0x5410 + 64 * 2 + 1) 5, some 3)] }, 2, pmMake 2 0 9 7 1 0 0 1 8 0, List.replicate 64 7, 8,
    by unfold PeerAsks; exact ⟨⟨{ state := 3, session := some 0, recvSeq := 5, inbox := [(pmMake 2 0 9 7 1 0 0 1 8 0, List.replicate 64 7)] },
    by unfold LinkActive; decide +kernel⟩, by unfold WayClear; decide +kernel⟩, by decide +kernel⟩

theorem witness_PeerRequestsAreServed_3 : ∃ (s : State) (l : PeerId) (m : BitVec 256) (data : List Byte) (pa : Nat) (n : Nat), (PeerAsks l 3 needRWA
    m data pa s) ∧ (n = pmSize m + 1) ∧ ((n = 4 ∨ n = 8)) ∧ (pmOffset m % n = 0) ∧ (pmAop m < 10) ∧ (pmBlocks m = 1) ∧ (data.length = 64) :=
  ⟨{ user with coh.near := [], coh.dir := [], peers := [(2, { state := 3, session := some 0, recvSeq := 5, inbox := [(pmMake 3 0 9 7 1 0 2 1 8 3, List.replicate 64 7)] })], objs := [(okey (0x5410 + 64 * 2 + 1) 1, some 15), (okey (0x5410 + 64 * 2 + 1) 3, some 1), (okey (0x5410 + 64 * 2 + 1) 4, some 5), (okey (0x5410 + 64 * 2 + 1) 5, some 3)] }, 2, pmMake 3 0 9 7 1 0 2 1 8 3, List.replicate 64 7, 8, 8,
    by unfold PeerAsks; exact ⟨⟨{ state := 3, session := some 0, recvSeq := 5, inbox := [(pmMake 3 0 9 7 1 0 2 1 8 3, List.replicate 64 7)] },
    by unfold LinkActive; decide +kernel⟩, by unfold WayClear; decide +kernel⟩, by decide +kernel⟩

theorem witness_PeerRequestsAreServed_4_1 : ∃ (s : State) (l : PeerId) (m : BitVec 256) (data : List Byte) (p : PeerLink) (st : Status), (LinkActive
    l p s) ∧ (p.inbox = [(m, data)]) ∧ (pmSize m < 256) ∧ (st ≠ .ok) ∧ (pmOp m = 1) ∧ (windowVerdict s l (pmWindow m) (pmOffset m) (pmSize m + 1)
    needR false = st) :=
  ⟨{ user with coh.near := [], coh.dir := [], peers := [(2, { state := 3, session := some 0, recvSeq := 5, inbox := [(pmMake 1 0 9 7 0 0 0 4 8 0, [])] })], objs := [(okey (0x5410 + 64 * 2 + 1) 1, some 15), (okey (0x5410 + 64 * 2 + 1) 3, some 1), (okey (0x5410 + 64 * 2 + 1) 4, some 5), (okey (0x5410 + 64 * 2 + 1) 5, some 3)] }, 2, pmMake 1 0 9 7 0 0 0 4 8 0, [], { state := 3, session := some 0, recvSeq := 5, inbox := [(pmMake 1 0 9 7 0 0 0 4 8 0, [])] }, .xlateFault,
    by unfold LinkActive; decide +kernel⟩

theorem witness_PeerRequestsAreServed_4_2 : ∃ (s : State) (l : PeerId) (m : BitVec 256) (data : List Byte) (p : PeerLink) (st : Status), (LinkActive
    l p s) ∧ (p.inbox = [(m, data)]) ∧ (pmSize m < 256) ∧ (st ≠ .ok) ∧ (pmOp m = 2) ∧ (pmBlocks m = blocksOf (pmSize m + 1)) ∧ (windowVerdict s l
    (pmWindow m) (pmOffset m) (pmSize m + 1) needW false = st) :=
  ⟨{ user with coh.near := [], coh.dir := [], peers := [(2, { state := 3, session := some 0, recvSeq := 5, inbox := [(pmMake 2 0 9 7 1 0 0 4 8 0, List.replicate 64 7)] })], objs := [(okey (0x5410 + 64 * 2 + 1) 1, some 15), (okey (0x5410 + 64 * 2 + 1) 3, some 1), (okey (0x5410 + 64 * 2 + 1) 4, some 5), (okey (0x5410 + 64 * 2 + 1) 5, some 3)] }, 2, pmMake 2 0 9 7 1 0 0 4 8 0, List.replicate 64 7, { state := 3, session := some 0, recvSeq := 5, inbox := [(pmMake 2 0 9 7 1 0 0 4 8 0, List.replicate 64 7)] }, .xlateFault,
    by unfold LinkActive; decide +kernel⟩

theorem witness_PeerRequestsAreServed_5 : ∃ (s : State) (l : PeerId) (m : BitVec 256) (data : List Byte) (p : PeerLink) (st : Status), (LinkActive l
    p s) ∧ (p.inbox = [(m, data)]) ∧ (pmOp m = 4) ∧ (windowVerdict s l (pmWindow m) (pmOffset m) (pmOperand m % 2 ^ 40 + 1) (pmAop m % 8) true = st)
    :=
  ⟨{ user with coh.near := [], coh.dir := [], peers := [(2, { state := 3, session := some 0, recvSeq := 5, inbox := [(pmMake 4 0 9 7 0 0 1 1 0 100, [])] })], objs := [(okey (0x5410 + 64 * 2 + 1) 1, some 15), (okey (0x5410 + 64 * 2 + 1) 3, some 1), (okey (0x5410 + 64 * 2 + 1) 4, some 5), (okey (0x5410 + 64 * 2 + 1) 5, some 3)] }, 2, pmMake 4 0 9 7 0 0 1 1 0 100, [], { state := 3, session := some 0, recvSeq := 5, inbox := [(pmMake 4 0 9 7 0 0 1 1 0 100, [])] }, .ok,
    by unfold LinkActive; decide +kernel⟩

theorem witness_PeerRequestsAreServed_6_1 : ∃ (s : State) (l : PeerId) (m : BitVec 256) (data : List Byte) (p : PeerLink) (c : Nat) (n : Nat),
    (LinkActive l p s) ∧ (p.inbox = [(m, data)]) ∧ (pmOp m = 5) ∧ (c = nbits (pmOperand m) 32 17) ∧ (n = pmOperand m % 2 ^ 32) ∧ (flag (ctrlOf
    s.sync c) 0 = true) ∧ (flag (ctrlOf s.sync c) (8 + l) = true) ∧ (s.sync.watches = []) ∧ (n ≠ 0) ∧ (valueOf s.sync c + n < 2 ^ 32) ∧ (boundTo
    s.sync c (fld (ctrlOf s.sync c) 20 12) = true) :=
  ⟨{ user with coh.near := [], coh.dir := [], peers := [(2, { state := 3, session := some 0, recvSeq := 5, inbox := [(pmMake 5 0 9 7 0 0 0 1 8 (3 + 6 * 2 ^ 32), [])] })], sync.value := [(6, 9)], sync.ctrl := [(6, BitVec.ofNat 64 (1 + 2 ^ 10 + 5 * 2 ^ 20))] }, 2, pmMake 5 0 9 7 0 0 0 1 8 (3 + 6 * 2 ^ 32), [], { state := 3, session := some 0, recvSeq := 5, inbox := [(pmMake 5 0 9 7 0 0 0 1 8 (3 + 6 * 2 ^ 32), [])] }, 6, 3,
    by unfold LinkActive; decide +kernel⟩

theorem witness_PeerRequestsAreServed_6_2 : ∃ (s : State) (l : PeerId) (m : BitVec 256) (data : List Byte) (p : PeerLink) (c : Nat) (n : Nat),
    (LinkActive l p s) ∧ (p.inbox = [(m, data)]) ∧ (pmOp m = 5) ∧ (c = nbits (pmOperand m) 32 17) ∧ (n = pmOperand m % 2 ^ 32) ∧ (flag (ctrlOf
    s.sync c) (8 + l) = false) :=
  ⟨{ user with coh.near := [], coh.dir := [], peers := [(2, { state := 3, session := some 0, recvSeq := 5, inbox := [(pmMake 5 0 9 7 0 0 0 1 8 (3 + 6 * 2 ^ 32), [])] })] }, 2, pmMake 5 0 9 7 0 0 0 1 8 (3 + 6 * 2 ^ 32), [], { state := 3, session := some 0, recvSeq := 5, inbox := [(pmMake 5 0 9 7 0 0 0 1 8 (3 + 6 * 2 ^ 32), [])] }, 6, 3,
    by unfold LinkActive; decide +kernel⟩

theorem witness_PeerRequestsAreServed_7 : ∃ (s : State) (l : PeerId) (m : BitVec 256) (data : List Byte) (p : PeerLink) (k : Nat) (i : Instr) (op :
    Nat), (linkOn s = true) ∧ (s.acts = []) ∧ (getPeer s l = p) ∧ (p.state = 2) ∧ (p.outq = []) ∧ (p.inbox = [(m, data)]) ∧ (pmOp m = op) ∧ ((i, op)
    ∈ [(.peerSpdm l [] (some k), 0x06), (.spdmRsp l [] (some k), 0x86)]) :=
  ⟨{ user with coh.near := [], coh.dir := [], peers := [(2, { state := 2, session := none, recvSeq := 5, inbox := [(pmMake 6 0 9 7 0 0 0 1 8 0, [])] })] }, 2, pmMake 6 0 9 7 0 0 0 1 8 0, [], { state := 2, session := none, recvSeq := 5, inbox := [(pmMake 6 0 9 7 0 0 0 1 8 0, [])] }, 7, .peerSpdm 2 [] (some 7), 6,
    by decide +kernel⟩

/-! `PeerResponsesEndTheirRequests` -/

theorem witness_PeerResponsesEndTheirRequests_1 : ∃ (s : State) (l : PeerId) (p : PortId) (o : PortOp) (r : PeerReq) (m : BitVec 256) (data : List
    Byte), (PeerAwaits l p o r m data s) ∧ (opCode o = opLoad) ∧ (r.op = 0) ∧ (pmOp m = 0x81) ∧ (pmTag m = r.slot) ∧ (pmStatus m = 0) ∧ (pmPoison m
    = 0) :=
  ⟨{ user with coh.near := [], coh.dir := [], peers := [(2, { state := 3, session := some 0, recvSeq := 5, inbox := [(pmMake 129 0 9 7 0 0 0 1 8 0, List.replicate 64 7)], out := [⟨9, .portOp 3 4, 0, 2 ^ 51, 8, 10, 50, false, false, [], false⟩] })], ports := [(3, { ops := [entry (req 0 0 0) (2 ^ 51) (.peer 0)] })] }, 2, 3, entry (req 0 0 0) (2 ^ 51) (.peer 0), ⟨9, .portOp 3 4, 0, 2 ^ 51, 8, 10, 50, false, false, [], false⟩, pmMake 129 0 9 7 0 0 0 1 8 0, List.replicate 64 7,
    by unfold PeerAwaits CorePortFree; and_intros; rotate_right; exact ⟨{ state := 3, session := some 0, recvSeq := 5, inbox := [(pmMake 129 0 9 7 0 0 0 1 8 0, List.replicate 64 7)], out := [⟨9, .portOp 3 4, 0, 2 ^ 51, 8, 10, 50, false, false, [], false⟩] },
    by decide +kernel⟩; all_goals decide +kernel, by decide +kernel⟩

theorem witness_PeerResponsesEndTheirRequests_2 : ∃ (s : State) (l : PeerId) (p : PortId) (o : PortOp) (r : PeerReq) (m : BitVec 256) (data : List
    Byte), (PeerAwaits l p o r m data s) ∧ (opCode o = opStore) ∧ (r.op = 1) ∧ (pmOp m = 0x82) ∧ (pmTag m = r.slot) ∧ (pmStatus m = 0) :=
  ⟨{ user with coh.near := [], coh.dir := [], peers := [(2, { state := 3, session := some 0, recvSeq := 5, inbox := [(pmMake 130 0 9 7 0 0 0 1 8 0, [])], out := [⟨9, .portOp 3 4, 1, 2 ^ 51, 8, 10, 50, false, false, [], false⟩] })], ports := [(3, { ops := [entry (req 1 0 0xAB) (2 ^ 51) (.peer 0)] })] }, 2, 3, entry (req 1 0 0xAB) (2 ^ 51) (.peer 0), ⟨9, .portOp 3 4, 1, 2 ^ 51, 8, 10, 50, false, false, [], false⟩, pmMake 130 0 9 7 0 0 0 1 8 0, [],
    by unfold PeerAwaits CorePortFree; and_intros; rotate_right; exact ⟨{ state := 3, session := some 0, recvSeq := 5, inbox := [(pmMake 130 0 9 7 0 0 0 1 8 0, [])], out := [⟨9, .portOp 3 4, 1, 2 ^ 51, 8, 10, 50, false, false, [], false⟩] },
    by decide +kernel⟩; all_goals decide +kernel, by decide +kernel⟩

theorem witness_PeerResponsesEndTheirRequests_3 : ∃ (s : State) (l : PeerId) (p : PortId) (o : PortOp) (r : PeerReq) (m : BitVec 256) (data : List
    Byte), (PeerAwaits l p o r m data s) ∧ (opCode o = opAtomic) ∧ (r.op = 2) ∧ (pmOp m = 0x83) ∧ (pmTag m = r.slot) ∧ (pmStatus m = 0) :=
  ⟨{ user with coh.near := [], coh.dir := [], peers := [(2, { state := 3, session := some 0, recvSeq := 5, inbox := [(pmMake 131 0 9 7 0 0 0 1 8 0, List.replicate 64 7)], out := [⟨9, .portOp 3 4, 2, 2 ^ 51, 8, 10, 50, false, false, [], false⟩] })], ports := [(3, { ops := [entry (req 4 2 3) (2 ^ 51) (.peer 0)] })] }, 2, 3, entry (req 4 2 3) (2 ^ 51) (.peer 0), ⟨9, .portOp 3 4, 2, 2 ^ 51, 8, 10, 50, false, false, [], false⟩, pmMake 131 0 9 7 0 0 0 1 8 0, List.replicate 64 7,
    by unfold PeerAwaits CorePortFree; and_intros; rotate_right; exact ⟨{ state := 3, session := some 0, recvSeq := 5, inbox := [(pmMake 131 0 9 7 0 0 0 1 8 0, List.replicate 64 7)], out := [⟨9, .portOp 3 4, 2, 2 ^ 51, 8, 10, 50, false, false, [], false⟩] },
    by decide +kernel⟩; all_goals decide +kernel, by decide +kernel⟩

theorem witness_PeerResponsesEndTheirRequests_4 : ∃ (s : State) (l : PeerId) (p : PortId) (o : PortOp) (r : PeerReq) (m : BitVec 256) (data : List
    Byte) (slot : BitVec 16), (PeerAwaits l p o r m data s) ∧ (opCode o = opLoad) ∧ (slot.toNat = r.slot) ∧ ((getPeer s l).state ≠ 4) ∧ (r.issued +
    r.limit ≤ s.aoncnt) :=
  ⟨{ user with coh.near := [], coh.dir := [], peers := [(2, { state := 3, session := some 0, recvSeq := 5, inbox := [(pmMake 129 0 9 7 0 0 0 1 8 0, List.replicate 64 7)], out := [⟨9, .portOp 3 4, 0, 2 ^ 51, 8, 10, 50, false, false, [], false⟩] })], ports := [(3, { ops := [entry (req 0 0 0) (2 ^ 51) (.peer 0)] })], aoncnt := 60 }, 2, 3, entry (req 0 0 0) (2 ^ 51) (.peer 0), ⟨9, .portOp 3 4, 0, 2 ^ 51, 8, 10, 50, false, false, [], false⟩, pmMake 129 0 9 7 0 0 0 1 8 0, List.replicate 64 7, 9,
    by unfold PeerAwaits CorePortFree; and_intros; rotate_right; exact ⟨{ state := 3, session := some 0, recvSeq := 5, inbox := [(pmMake 129 0 9 7 0 0 0 1 8 0, List.replicate 64 7)], out := [⟨9, .portOp 3 4, 0, 2 ^ 51, 8, 10, 50, false, false, [], false⟩] },
    by decide +kernel⟩; all_goals decide +kernel, by decide +kernel⟩

theorem witness_PeerResponsesEndTheirRequests_5 : ∃ (s : State) (l : PeerId) (slot : BitVec 16), (fabOn s = true) ∧ (s.acts = []) ∧ ((∀ r ∈ (getPeer
    s l).out, r.slot = slot.toNat → s.aoncnt < r.issued + r.limit)) :=
  ⟨{ user with coh.near := [], coh.dir := [], peers := [(2, { state := 3, session := some 0, recvSeq := 5, out := [⟨9, .portOp 3 4, 0, 2 ^ 51, 8, 10, 50, false, false, [], false⟩] })] }, 2, 9,
    by decide +kernel⟩

theorem witness_PeerResponsesEndTheirRequests_6 : ∃ (s : State) (l : PeerId) (m : BitVec 256) (data : List Byte) (i : Instr) (op : Nat), (fabOn s =
    true) ∧ (s.acts = []) ∧ ((getPeer s l).inbox = [(m, data)]) ∧ ((getPeer s l).out = []) ∧ (pmOp m = op) ∧ ((i, op) ∈ [(.readRsp l, 0x81),
    (.writeAck l, 0x82), (.atomicRsp l, 0x83), (.probeRsp l, 0x84), (.syncRsp l, 0x85)]) :=
  ⟨{ user with coh.near := [], coh.dir := [], peers := [(2, { state := 3, session := some 0, recvSeq := 5, inbox := [(pmMake 129 0 9 7 0 0 0 1 8 0, List.replicate 64 7)] })] }, 2, pmMake 129 0 9 7 0 0 0 1 8 0, List.replicate 64 7, .readRsp 2, 0x81,
    by decide +kernel⟩

theorem witness_PeerResponsesEndTheirRequests_7 : ∃ (s : State) (l : PeerId) (m : BitVec 256) (data : List Byte) (r : PeerReq) (a : Nat) (id : Nat),
    (fabOn s = true) ∧ (s.acts = []) ∧ ((getPeer s l).inbox = [(m, data)]) ∧ ((getPeer s l).out = [r]) ∧ (r.waiter = .array a id) ∧ (r.op = 4) ∧
    (r.landed = false) ∧ (r.remote = false) ∧ (pmOp m = 0x84) ∧ (pmTag m = r.slot) ∧ (pmStatus m = 0) :=
  ⟨{ user with coh.near := [], coh.dir := [], peers := [(2, { state := 3, session := some 0, recvSeq := 5, inbox := [(pmMake 132 0 9 7 0 0 0 1 8 0, [])], out := [⟨9, .array 0 1, 4, 2 ^ 51, 8, 10, 50, false, false, [], false⟩] })] }, 2, pmMake 132 0 9 7 0 0 0 1 8 0, [], ⟨9, .array 0 1, 4, 2 ^ 51, 8, 10, 50, false, false, [], false⟩, 0, 1,
    by decide +kernel⟩

theorem witness_PeerResponsesEndTheirRequests_8 : ∃ (s : State) (l : PeerId) (m : BitVec 256) (data : List Byte) (r : PeerReq) (a : Nat) (id : Nat),
    (fabOn s = true) ∧ (s.acts = []) ∧ ((getPeer s l).inbox = [(m, data)]) ∧ ((getPeer s l).out = [r]) ∧ (r.waiter = .array a id) ∧ (r.op = 0) ∧
    (r.landed = false) ∧ (r.remote = true) ∧ (pmOp m = 0x81) ∧ (pmTag m = r.slot) ∧ (pmStatus m = 0) :=
  ⟨{ user with coh.near := [], coh.dir := [], peers := [(2, { state := 3, session := some 0, recvSeq := 5, inbox := [(pmMake 129 0 9 7 0 0 0 1 8 0, List.replicate 64 7)], out := [⟨9, .array 0 1, 0, 2 ^ 51, 8, 10, 50, false, true, [], false⟩] })] }, 2, pmMake 129 0 9 7 0 0 0 1 8 0, List.replicate 64 7, ⟨9, .array 0 1, 0, 2 ^ 51, 8, 10, 50, false, true, [], false⟩, 0, 1,
    by decide +kernel⟩

/-! `ASignalReleasesInOrder` -/

theorem witness_ASignalReleasesInOrder_1 : ∃ (u : SyncUnit) (c : Nat) (n : Nat), (valueOf u c + n ≤ 0xFFFFFFFF) :=
  ⟨{ watches := [⟨3, 5, 2, true, none, 44, 0, .host, 7⟩] }, 5, 2, by decide +kernel⟩

/-! `CounterErrorsAreReported` -/

theorem witness_CounterErrorsAreReported_1_1 : ∃ (s : State) (x : Nat) (c : Nat) (n : Nat), (underTest s 0x9000 = false) :=
  ⟨ready, 0, 0, 0, by decide +kernel⟩

theorem witness_CounterErrorsAreReported_1_2 : ∃ (s : State) (x : Nat) (c : Nat) (n : Nat), (underTest s 0x9000 = false) ∧ (boundTo s.sync c x =
    true) ∧ (0xFFFFFFFF < valueOf s.sync c + n) ∧ (n ≠ 0) :=
  ⟨{ ready with sync.value := [(5, 0xFFFFFFFF)], sync.ctrl := [(5, BitVec.ofNat 64 (1 + 7 * 2 ^ 20))] }, 7, 5, 1, by decide +kernel⟩

theorem witness_CounterErrorsAreReported_1_3 : ∃ (s : State) (x : Nat) (c : Nat) (n : Nat), (underTest s 0x9000 = false) ∧ (boundTo s.sync c x =
    true) ∧ (valueOf s.sync c < n) :=
  ⟨{ ready with sync.value := [(5, 2)], sync.ctrl := [(5, BitVec.ofNat 64 (1 + 7 * 2 ^ 20))] }, 7, 5, 3, by decide +kernel⟩

/-! `ProductsAndSumsAreExact` -/

theorem witness_ProductsAndSumsAreExact_1 : ∃ (f : Nat) (g : Nat) (x : Nat) (y : Nat) (ra : Int) (rb : Int) (n : Int) (e : Int) (m : Int) (k : Int)
    (r : Int), (((f ∈ [0, 1] ∧ g ∈ [0, 1]) ∨ (f ∈ [2, 3, 4, 5, 6] ∧ g ∈ [2, 3, 4, 5, 6]))) ∧ (x < 2 ^ fmtBits f) ∧ (y < 2 ^ fmtBits g) ∧ (decodeElem
    f false x = .fin n e) ∧ (decodeElem g false y = .fin m k) ∧ (r = courseRidge (clampRidge f false ra).1 (clampRidge g false rb).1) ∧ (n * m ≠ 0)
    ∧ (log2Val (n * m) (e + k) ≤ r) :=
  ⟨5, 5, 0x38, 0x38, 0, 0, 8, -3, 8, -3, 1, by decide +kernel⟩

theorem witness_ProductsAndSumsAreExact_2 : ∃ (r : Int) (w : Bool) (ps : List Val) (qs : List Val), (ps.Perm qs) :=
  ⟨1, true, [.fin 1 0, .fin 3 (-2)], [.fin 3 (-2), .fin 1 0], List.Perm.swap _ _ _⟩

theorem witness_ProductsAndSumsAreExact_3 : ∃ (r : Int) (w : Bool) (ps : List Val) (qs : List Val), ((ps ++ qs).length ≤ 2 ^ 48) :=
  ⟨1, true, [.fin 1 0, .fin 3 (-2)], [.fin 5 1], by decide +kernel⟩

theorem witness_ProductsAndSumsAreExact_4 : ∃ (r : Int) (w : Bool) (rows : List (List Val)) (more : List (List Val)), ((rows.flatten ++
    more.flatten).length ≤ 2 ^ 48) ∧ (rows.Perm more) :=
  ⟨1, true, [[.fin 1 0], [.fin 3 (-2)]], [[.fin 3 (-2)], [.fin 1 0]], by decide +kernel, List.Perm.swap _ _ _⟩

theorem witness_ProductsAndSumsAreExact_5 : ∃ (r : Int) (w : Bool) (rows : List (List Val)), (rows.flatten.length ≤ 2 ^ 48) :=
  ⟨1, true, [[.fin 1 0], [.fin 3 (-2)]], by decide +kernel⟩

theorem witness_ProductsAndSumsAreExact_6 : ∃ (r : Int) (w : Bool) (n : Int) (e : Int), (n ≠ 0) :=
  ⟨1, true, 1, 0, by decide +kernel⟩


/-! `EveryStepEndsWithNothingOwed` -/

theorem witness_EveryStepEndsWithNothingOwed_1 : ∃ s : State, s.acts = [] ∧ step s = .next s := ⟨{ user with pending := [], pins.pwrOk := false }, rfl, rfl⟩

/-! `RoundingFollowsTheMode` -/

/-- The FP8 values around 33/32: none lies between 1 and 9/8. -/
theorem near_one : ∀ code, code < 256 → ∀ n e, decodeElem 5 false code = .fin n e →
    -30 ≤ e ∧ (n * 2 ^ (e + 30).toNat ≤ 33 * 2 ^ 25 → n * 2 ^ (e + 30).toNat ≤ 2 ^ 30) ∧ (33 * 2 ^ 25 ≤ n * 2 ^ (e + 30).toNat → 9 * 2 ^ 27 ≤ n * 2 ^ (e + 30).toNat) := by
  have h : ∀ code, code < 256 → (match decodeElem 5 false code with
      | .fin n e => decide (-30 ≤ e ∧ (n * 2 ^ (e + 30).toNat ≤ 33 * 2 ^ 25 → n * 2 ^ (e + 30).toNat ≤ 2 ^ 30) ∧ (33 * 2 ^ 25 ≤ n * 2 ^ (e + 30).toNat → 9 * 2 ^ 27 ≤ n * 2 ^ (e + 30).toNat))
      | _ => true) = true := by decide +kernel
  intro code hc n e hd
  have := h code hc
  rw [hd] at this
  exact of_decide_eq_true this
/-- A value of at least the unit 2^−30, in that unit. -/
theorem scaled (n e : Int) (h : -30 ≤ e) : (n : ℚ) * (2 : ℚ) ^ e = ((n * 2 ^ (e + 30).toNat : Int) : ℚ) / 2 ^ 30 := by
  have : ((2 : ℚ) ^ (e + 30).toNat) = (2 : ℚ) ^ (e + 30) := by
    rw [← zpow_natCast, Int.toNat_of_nonneg (by omega)]
  push_cast
  rw [this, zpow_add₀ (by norm_num)]
  norm_num
  ring
theorem witness_RoundingFollowsTheMode_1 : ∃ (f mode r32 : Nat) (sat : Bool) (n e : Int) (S a b : ℚ), f ∈ [5, 6, 7, 8, 9] ∧ mode ≤ 4 ∧ n ≠ 0 ∧ S = n * (2 : ℚ) ^ e ∧
    IsValue f a ∧ a ≤ S ∧ (∀ w, IsValue f w → w ≤ S → w ≤ a) ∧ IsValue f b ∧ S ≤ b ∧ (∀ w, IsValue f w → S ≤ w → b ≤ w) ∧ a ≠ b := by
  refine ⟨5, 0, 0, false, 33, -5, 33 / 32, 1, 9 / 8, by decide, by decide, by decide, by norm_num,
    ⟨0x38, 8, -3, by decide, by decide, by norm_num⟩, by norm_num, ?_, ⟨0x39, 9, -3, by decide, by decide, by norm_num⟩, by norm_num, ?_, by norm_num⟩
  · rintro w ⟨code, n, e, hc, hd, rfl⟩ h
    obtain ⟨h1, h2, -⟩ := near_one code hc n e hd
    rw [scaled n e h1] at h ⊢
    have h3 : n * 2 ^ (e + 30).toNat ≤ 33 * 2 ^ 25 := by
      rw [div_le_iff₀ (by norm_num)] at h
      exact_mod_cast (h.trans (by norm_num : (33 / 32 : ℚ) * 2 ^ 30 ≤ ((33 * 2 ^ 25 : Int) : ℚ)))
    rw [div_le_iff₀ (by norm_num), one_mul]
    exact_mod_cast h2 h3
  · rintro w ⟨code, n, e, hc, hd, rfl⟩ h
    obtain ⟨h1, -, h2⟩ := near_one code hc n e hd
    rw [scaled n e h1] at h ⊢
    have h3 : 33 * 2 ^ 25 ≤ n * 2 ^ (e + 30).toNat := by
      rw [le_div_iff₀ (by norm_num)] at h
      exact_mod_cast ((by norm_num : ((33 * 2 ^ 25 : Int) : ℚ) ≤ (33 / 32 : ℚ) * 2 ^ 30).trans h)
    rw [le_div_iff₀ (by norm_num)]
    have h4 := h2 h3
    have h5 : ((9 * 2 ^ 27 : Int) : ℚ) ≤ ((n * 2 ^ (e + 30).toNat : Int) : ℚ) := by exact_mod_cast h4
    refine le_trans ?_ h5
    norm_num

end Sys2Proof.Tests
end

section
namespace Sys2Proof.Machine

/-! ### What a step on an empty queue can do -/

/-- A step takes the front command off the queue and runs it on the rest. -/
theorem step_of_cons {s : State} {c : Instr} {rest : List Instr} (h : s.pending = c :: rest) :
    step s = exec c { s with pending := rest } := by
  unfold step; rw [h]

theorem step_of_empty {s : State} (h : s.pending = []) : step s = .next (tick s) := by
  unfold step; rw [h]

theorem idleTick_of_runs {s : State} (h : aonRuns s = true) : ∃ nj, idleTick s =
    { s with aoncnt := s.aoncnt + 1, mgmt.mpQueue := s.mgmt.mpQueue - 1, sched.tickNj := nj } :=
  ⟨_, if_pos h⟩

/-- The late switch of a power point (R24) changes the clusters alone. -/
theorem switchLate_clusters (s : State) : ∃ cl, switchLate s = { s with power.clusters := cl } := by
  unfold switchLate
  split
  · refine List.foldlRecOn (motive := fun t => ∃ cl : Table Cluster, t = { s with power.clusters := cl }) _ _ ⟨s.power.clusters, rfl⟩ ?_
    rintro _ ⟨cl, rfl⟩ c -
    split
    · exact ⟨cl, rfl⟩
    · exact ⟨_, rfl⟩
  · exact ⟨s.power.clusters, rfl⟩

/-- The watch of the idle period (R21) changes its own record alone. -/
theorem watchIdle_idleFrom (s : State) : ∃ i, watchIdle s = { s with power.idleFrom := i } := ⟨_, rfl⟩

theorem tick_of_stopped {s : State} (h : aonRuns s = false) : tick s = s := by
  unfold tick; simp [h]

/-- All that a tick of the running clock does: AONCNT and the MP's queue move by one, and the tick's energy, the idle period and the clusters
take new values. -/
theorem tick_of_runs {s : State} (h : aonRuns s = true) : ∃ nj i cl, tick s =
    { s with aoncnt := s.aoncnt + 1, mgmt.mpQueue := s.mgmt.mpQueue - 1, sched.tickNj := nj, power.idleFrom := i, power.clusters := cl } := by
  obtain ⟨nj, hidle⟩ := idleTick_of_runs h
  obtain ⟨cl, hlate⟩ := switchLate_clusters (idleTick s)
  obtain ⟨i, hwatch⟩ := watchIdle_idleFrom (switchLate (idleTick s))
  exact ⟨nj, i, cl, by rw [tick, if_pos h, hwatch, hlate, hidle]⟩

end Sys2Proof.Machine
end

section
open Sys2Proof Sys2Proof.Machine

/-- Settles O1: a command in front is run by `step_of_cons`; on an empty queue the step is one `tick`, of a running or of a stopped clock. -/
theorem stepTakesTheFrontOrIdles : Obligations.StepTakesTheFrontOrIdles := by
  refine ⟨fun c s => step_of_cons rfl, fun s hempty => ⟨tick s, step_of_empty hempty, ?_⟩⟩
  cases hruns : aonRuns s with
  | false => simp [tick_of_stopped hruns]
  | true =>
    obtain ⟨nj, i, cl, htick⟩ := tick_of_runs hruns
    simp [htick]

end

section
namespace Sys2Proof.Machine

/-! ### One change at every key of a list

The cores' AWAKE lines, the stacks' self-refresh and the loft's retention change together: each is one idempotent change, folded
over a list of keys. -/

/-- A table with the value at each listed key changed. It is irreducible so that no unification runs the fold over the 192 ports:
`tmodAll_nil` and `tmodAll_cons` say what it does. -/
@[irreducible] def tmodAll {α : Type} [DecidableEq α] (d : α) (ks : List Nat) (f : α → α) (t : Table α) : Table α :=
  ks.foldl (fun t k => tmod d t k f) t

theorem tmodAll_nil {α : Type} [DecidableEq α] (d : α) (f : α → α) (t : Table α) : tmodAll d [] f t = t := by
  unfold tmodAll; rfl

theorem tmodAll_cons {α : Type} [DecidableEq α] (d : α) (k : Nat) (ks : List Nat) (f : α → α) (t : Table α) :
    tmodAll d (k :: ks) f t = tmodAll d ks f (tmod d t k f) := by
  unfold tmodAll; rfl

/-- A key that is listed more than once is changed once all the same, as the change is idempotent. -/
theorem tget_tmodAll {α : Type} [DecidableEq α] (d : α) (ks : List Nat) (f : α → α) (hf : ∀ x, f (f x) = f x) (t : Table α) (j : Nat) :
    tget d (tmodAll d ks f t) j = if j ∈ ks then f (tget d t j) else tget d t j := by
  induction ks generalizing t with
  | nil => simp [tmodAll_nil]
  | cons k ks ih =>
    rw [tmodAll_cons, ih, tget_tmod]
    by_cases hjk : j = k
    · subst hjk; simp [hf]
    · simp [hjk]

theorem foldl_modPort (ks : List Nat) (f : Port → Port) (s : State) :
    ks.foldl (fun st p => modPort p f st) s = { s with ports := tmodAll {} ks f s.ports } := by
  induction ks generalizing s with
  | nil => rw [tmodAll_nil]; rfl
  | cons k ks ih => rw [List.foldl_cons, ih, tmodAll_cons]; rfl

theorem foldl_modStack (ks : List Nat) (f : Stack → Stack) (s : State) :
    ks.foldl (fun st k => modStack k f st) s = { s with mem.stackRecs := tmodAll {} ks f s.mem.stackRecs } := by
  induction ks generalizing s with
  | nil => rw [tmodAll_nil]; rfl
  | cons k ks ih => rw [List.foldl_cons, ih, tmodAll_cons]; rfl

/-! ### Waking up (R21, R450) -/

/-- The ports once every CPn_AWAKE has the level `b`. -/
def awakePorts (b : Bool) (ports : Table Port) : Table Port :=
  tmodAll {} (List.range 192) (fun x => { x with awake := b }) ports

theorem tget_awakePorts (b : Bool) (ports : Table Port) (p : Nat) :
    tget {} (awakePorts b ports) p = if p < 192 then { tget {} ports p with awake := b } else tget {} ports p := by
  rw [awakePorts, tget_tmodAll]
  · simp only [List.mem_range]
  · exact fun _ => rfl

/-- Raising or lowering every CPn_AWAKE changes the ports alone. -/
theorem setAwake_eq (b : Bool) (s : State) : setAwake b s = { s with ports := awakePorts b s.ports } := foldl_modPort _ _ s

/-- A sleeping block that wakes up changes its ports and ASLEEP alone. -/
theorem wakeUp_of_asleep {s : State} (h : s.asleep = true) :
    wakeUp s = { s with asleep := false, ports := awakePorts true s.ports } := by
  rw [wakeUp, if_pos h, setAwake_eq]

theorem getPort_wakeUp_of_asleep {s : State} (h : s.asleep = true) (p : Nat) :
    getPort (wakeUp s) p = if p < 192 then { getPort s p with awake := true } else getPort s p := by
  rw [wakeUp_of_asleep h]; exact tget_awakePorts true s.ports p

@[simp] theorem wakeUp_acts (s : State) : (wakeUp s).acts = s.acts := by
  cases h : s.asleep with
  | false => rw [wakeUp_awake h]
  | true => rw [wakeUp_of_asleep h]

/-- A wake event wakes the block up wherever the data path is served. -/
theorem exec_wakeEvent {s : State} (ha : s.acts = []) (hd : dataOn s = true) : exec .wakeEvent s = .next (wakeUp s) :=
  calc exec .wakeEvent s = done (onWake id s) := rfl
    _ = done (wakeUp s) := by rw [onWake, if_pos hd, id]
    _ = .next (wakeUp s) := done_of_quiet _ (by rw [wakeUp_acts, ha])

/-- The line CPn_WAKE of a port at the level `high`. -/
def driveWake (p : Nat) (high : Bool) (s : State) : State := modPort p (fun x => { x with wake := high }) s

theorem dataOn_driveWake (p : Nat) (high : Bool) (s : State) : dataOn (driveWake p high s) = dataOn s := rfl

@[simp] theorem driveWake_asleep (p : Nat) (high : Bool) (s : State) : (driveWake p high s).asleep = s.asleep := rfl

@[simp] theorem driveWake_acts (p : Nat) (high : Bool) (s : State) : (driveWake p high s).acts = s.acts := rfl

@[simp] theorem getPort_driveWake (p q : Nat) (high : Bool) (s : State) :
    getPort (driveWake p high s) q = if q = p then { getPort s p with wake := high } else getPort s q := getPort_modPort p q _ s

/-- CPn_WAKE takes its new level wherever the data path is served, and a rise wakes the block up. -/
theorem exec_cpnWake {s : State} (p : PortId) (high : Bool) (ha : s.acts = []) (hd : dataOn s = true) :
    exec (.cpnWake p high) s = .next (if high then wakeUp (driveWake p high s) else driveWake p high s) :=
  calc exec (.cpnWake p high) s
      = done (onAon (fun s => if high then onWake id (driveWake p high s) else driveWake p high s) s) := rfl
    _ = done (if high then wakeUp (driveWake p high s) else driveWake p high s) := by
      rw [onAon_run _ (aonRuns_of_dataOn hd), onWake, dataOn_driveWake, if_pos hd, id]
    _ = _ := done_of_quiet _ (by split <;> simp [ha])

/-! ### Falling asleep (R21) -/

/-- What ASLEEP makes of the block: every CPn_AWAKE is low, the whole loft retained and each active stack in self-refresh. -/
def asleepOf (s : State) : State :=
  { s with asleep := true, ports := awakePorts false s.ports, power.idleFrom := none,
           mem.retained := tmodAll false (List.range 192) (fun _ => true) s.mem.retained,
           mem.stackRecs := tmodAll {} (activeStacks s) (fun x => { x with selfRefresh := true }) s.mem.stackRecs }

/-- Under the conditions of R21, held for SLEEP_DELAY, the READY block falls asleep. -/
theorem fallAsleep_of_idle {s : State} (hlong : idleLong s = true) (hready : s.start.state = 1) (hidle : allIdle s = true) :
    fallAsleep s = asleepOf s := by
  have hretain : (List.range 192).foldl (fun t k => tset false t k true) s.mem.retained = tmodAll false (List.range 192) (fun _ => true) s.mem.retained := by
    unfold tmodAll; rfl
  rw [fallAsleep, if_pos (by simp [hlong, hready, hidle]), hretain, setAwake_eq, foldl_modStack]
  rfl

theorem exec_sleepDelayExpiry {s : State} (ha : s.acts = []) (hf : fabOn s = true) (hlong : idleLong s = true) (hready : s.start.state = 1)
    (hidle : allIdle s = true) : exec .sleepDelayExpiry s = .next (asleepOf s) :=
  calc exec .sleepDelayExpiry s = done (onFab fallAsleep s) := rfl
    _ = done (asleepOf s) := by rw [onFab_run _ hf, fallAsleep_of_idle hlong hready hidle]
    _ = .next (asleepOf s) := done_of_quiet _ ha

theorem getPort_asleepOf (s : State) (p : PortId) : getPort (asleepOf s) p = { getPort s p with awake := false } :=
  (tget_awakePorts false s.ports p).trans (if_pos p.isLt)

theorem selfRefresh_asleepOf {s : State} {k : Nat} (hk : k ∈ activeStacks s) : (getStack (asleepOf s) k).selfRefresh = true := by
  unfold getStack asleepOf
  rw [tget_tmodAll, if_pos hk]
  exact fun _ => rfl

theorem retained_asleepOf (s : State) (n : Fin 192) : tget false (asleepOf s).mem.retained n = true :=
  (tget_tmodAll false (List.range 192) (fun _ => true) (fun _ => rfl) s.mem.retained n).trans (if_pos (List.mem_range.mpr n.isLt))

end Sys2Proof.Machine
end

section
open Sys2Proof Sys2Proof.Machine

/-- Settles O12: a wake event and a rise of CPn_WAKE come down to `wakeUp`, and the expiry of SLEEP_DELAY to `asleepOf`. -/
theorem sleepAndWake : Obligations.SleepAndWake := by
  refine ⟨fun s ha hd hs => ?wake, fun s ha hf => ?awake, fun s ha hf hlong hready hidle => ?sleep,
    fun s p high ha hf => ?line, fun s p ha hd hs => ?rise⟩
  case wake =>
    refine ⟨wakeUp s, exec_wakeEvent ha hd, by rw [wakeUp_of_asleep hs], fun p => ?_, fun p => ?_, by rw [wakeUp_of_asleep hs]⟩
    · rw [getPort_wakeUp_of_asleep hs, if_pos p.isLt]
    · rw [getPort_wakeUp_of_asleep hs]
      split <;> rfl
  case awake =>
    rw [exec_wakeEvent ha (dataOn_of_fabOn hf), wakeUp_of_fabOn hf]
  case sleep =>
    exact ⟨asleepOf s, exec_sleepDelayExpiry ha hf hlong hready hidle, rfl, fun p => by rw [getPort_asleepOf],
      fun k hk => selfRefresh_asleepOf hk, retained_asleepOf s, rfl, rfl, rfl, rfl⟩
  case line =>
    have hawake : wakeUp (driveWake p high s) = driveWake p high s := wakeUp_awake (awake_of_fabOn hf)
    refine ⟨driveWake p high s, ?_, by simp, fun q hq => by simp [hq], rfl⟩
    rw [exec_cpnWake p high ha (dataOn_of_fabOn hf), hawake, ite_self]
  case rise =>
    have hasleep : (driveWake p true s).asleep = true := by simp [hs]
    refine ⟨wakeUp (driveWake p true s), exec_cpnWake p true ha hd, ?_⟩
    rw [getPort_wakeUp_of_asleep hasleep, if_pos p.isLt, wakeUp_of_asleep hasleep]
    simp

end

section
namespace Sys2Proof.Machine

/-! ### Elements of the floating-point formats (Table 2.2)

A finite element is a signed significand at the weight of its exponent field. -/

/-- A significand with its sign. -/
def signed (neg : Bool) (n : Nat) : Int := if neg then -(n : Int) else (n : Int)

@[simp] theorem signed_natAbs (neg : Bool) (n : Nat) : (signed neg n).natAbs = n := by
  cases neg <;> simp [signed]

/-- Exponent bits of a format. -/
def expBits (f : Nat) : Nat := (fmtParams f).1

/-- Fraction bits of a format. -/
def fracBits (f : Nat) : Nat := (fmtParams f).2.1

/-- The exponent of a format's subnormals. -/
def minExp (f : Nat) : Int := 1 - (fmtParams f).2.2 - fracBits f

/-- R28, R29 for the floating-point formats: NaN, the infinities, the subnormals and the normal values. -/
theorem decodeElem_float {f : Nat} (hf : 2 ≤ f) (mx : Bool) (v : Nat) : decodeElem f mx v =
    if f = 5 && nbits v (fracBits f) (expBits f) = 2 ^ expBits f - 1 && nbits v 0 (fracBits f) = 7 then .nan
    else if 6 ≤ f && nbits v (fracBits f) (expBits f) = 2 ^ expBits f - 1 then
      if nbits v 0 (fracBits f) = 0 then .inf (nbit v (expBits f + fracBits f)) else .nan
    else if nbits v (fracBits f) (expBits f) = 0 then .fin (signed (nbit v (expBits f + fracBits f)) (nbits v 0 (fracBits f))) (minExp f)
    else .fin (signed (nbit v (expBits f + fracBits f)) (2 ^ fracBits f + nbits v 0 (fracBits f)))
      ((nbits v (fracBits f) (expBits f) : Int) - (fmtParams f).2.2 - fracBits f) := by
  obtain ⟨k, rfl⟩ := Nat.exists_eq_add_of_le' hf
  rfl

/-- The exponent of a finite element is at least that of the subnormals. -/
theorem decodeElem_exp_lower {f v : Nat} {mx : Bool} {n e : Int} (hf : 2 ≤ f) (h : decodeElem f mx v = .fin n e) : minExp f ≤ e := by
  rw [decodeElem_float hf] at h
  split at h
  · cases h
  split at h
  · split at h <;> cases h
  split at h
  · cases h; exact le_rfl
  next hex => cases h; unfold minExp; omega

/-- An element of a narrow format has no bit below 2^-16. -/
theorem decodeElem_narrow_exp {f v : Nat} {n e : Int} (hf : f ≤ 6) (h : decodeElem f false v = .fin n e) : -16 ≤ e := by
  rcases Nat.lt_or_ge f 2 with hint | hfloat
  · interval_cases f <;> cases h <;> decide
  · have hlow := decodeElem_exp_lower hfloat h
    have hparams : -16 ≤ minExp f := by interval_cases f <;> decide
    omega

/-- The ridge of a narrow operand without MX scaling, once clamped (R38), is at most 15. -/
theorem clampRidge_narrow_le {f : Nat} (hf : f ≤ 6) (ra : Int) : (clampRidge f false ra).1 ≤ 15 := by
  have hmax : fmtEmax f false ≤ 15 := by interval_cases f <;> decide
  have hnotWide : ¬(f = 9 ∨ f = 10) := by omega
  simp only [clampRidge, Bool.or_eq_true, decide_eq_true_eq, hnotWide, if_false, Bool.false_eq_true]
  split <;> simp only <;> omega

theorem courseRidge_le (ra rb : Int) : courseRidge ra rb ≤ max (-512) (ra + rb + 1) := by
  unfold courseRidge clampI; omega

/-! ### Products (R36, R41, R57) -/

/-- On a grid that is no coarser than the value, nothing is truncated. -/
theorem truncTo_of_le {n e k : Int} (h : k ≤ e) : truncTo n e k = n * 2 ^ (e - k).toNat := if_pos h

theorem truncTo_neg (n e k : Int) : truncTo (-n) e k = -truncTo n e k := by
  unfold truncTo
  split
  · rw [Int.neg_mul]
  · rw [Int.neg_tdiv]

theorem log2Val_neg (n e : Int) : log2Val (-n) e = log2Val n e := by unfold log2Val; rw [Int.natAbs_neg]

/-- A product under its ridge is not clipped. -/
theorem productUnits_of_fits {r n e : Int} (h : log2Val n e ≤ r) : productUnits r false n e = truncTo n e (r - 126) := by
  have hfits : ¬ r + 1 ≤ log2Val n e := by omega
  simp [productUnits, hfits]

/-- A product of the opposite sign adds the opposite (R36: clipping and truncation are symmetric). -/
theorem productUnits_neg (r : Int) (w : Bool) {n : Int} (e : Int) (hn : n ≠ 0) : productUnits r w (-n) e = -productUnits r w n e := by
  rcases lt_or_gt_of_ne hn with hneg | hpos
  · by_cases hclip : r + 1 ≤ log2Val n e <;> cases w <;>
      simp [productUnits, log2Val_neg, truncTo_neg, hclip, hneg, hneg.not_gt]
  · by_cases hclip : r + 1 ≤ log2Val n e <;> cases w <;>
      simp [productUnits, log2Val_neg, truncTo_neg, hclip, hpos, hpos.not_gt]

/-- A value that is not above 2^r has fewer units of 2^(r+1-b) than 2^b. -/
theorem abs_truncTo_lt {n e r : Int} (b : Nat) (h : log2Val n e ≤ r) : |truncTo n e (r + 1 - b)| < 2 ^ b := by
  have hlog : n.natAbs < 2 ^ (Nat.log2 n.natAbs + 1) := Nat.lt_log2_self
  have habs : |n| < 2 ^ (Nat.log2 n.natAbs + 1) := by rw [Int.abs_eq_natAbs]; exact_mod_cast hlog
  unfold log2Val at h
  unfold truncTo
  split
  next hle =>
    rw [abs_mul, abs_pow, abs_two]
    calc |n| * 2 ^ (e - (r + 1 - b)).toNat
        < 2 ^ (Nat.log2 n.natAbs + 1) * 2 ^ (e - (r + 1 - b)).toNat := by gcongr
      _ = 2 ^ (Nat.log2 n.natAbs + 1 + (e - (r + 1 - b)).toNat) := (pow_add _ _ _).symm
      _ ≤ 2 ^ b := pow_le_pow_right₀ (by norm_num) (by omega)
  next hgt =>
    rw [Int.abs_eq_natAbs, Int.natAbs_tdiv, Int.natAbs_pow]
    have hdiv : n.natAbs / 2 ^ (r + 1 - b - e).toNat < 2 ^ b := by
      refine Nat.div_lt_of_lt_mul (hlog.trans_le ?_)
      rw [← pow_add]
      exact Nat.pow_le_pow_right (by norm_num) (by omega)
    exact_mod_cast hdiv

/-- One product takes at most 127 bits of the sum (R41), so that 2^48 of them stay within its 176. -/
theorem abs_productUnits_le (r : Int) (w : Bool) (n e : Int) : |productUnits r w n e| ≤ 2 ^ 127 - 1 := by
  have hnarrow : ¬ r + 1 ≤ log2Val n e → |truncTo n e (r - 126)| < 2 ^ 127 := fun h => by
    have := abs_truncTo_lt 127 (show log2Val n e ≤ r by omega)
    rwa [show r + 1 - (127 : Nat) = r - 126 by omega] at this
  have hwindow : ¬ r + 1 ≤ log2Val n e → |truncTo n e (r - 62)| < 2 ^ 63 := fun h => by
    have := abs_truncTo_lt 63 (show log2Val n e ≤ r by omega)
    rwa [show r + 1 - (63 : Nat) = r - 62 by omega] at this
  unfold productUnits
  rw [abs_le]
  by_cases hclip : r + 1 ≤ log2Val n e
  · by_cases hneg : n < 0 <;> cases w <;> simp [hclip, hneg]
  · have hn := hnarrow hclip
    have hw := hwindow hclip
    rw [abs_lt] at hn hw
    cases w
    · simp only [hclip, if_false, Bool.false_eq_true]; omega
    · simp only [hclip, if_false, if_true]; omega

/-! ### Gutters as sums

Without its limit, joining gutters is the sum of their parts: associative and commutative. -/

/-- Two gutters together, the sum not limited to 176 bits. -/
def exactJoin (a b : Gutter) : Gutter :=
  { sum := a.sum + b.sum, obs := max a.obs b.obs, breach := a.breach || b.breach, ninf := a.ninf || b.ninf, pinf := a.pinf || b.pinf,
    nan := a.nan || b.nan, sat := a.sat || b.sat }

theorem exactJoin_assoc (a b c : Gutter) : exactJoin (exactJoin a b) c = exactJoin a (exactJoin b c) := by
  simp [exactJoin, add_assoc, max_assoc, Bool.or_assoc]

theorem exactJoin_comm (a b : Gutter) : exactJoin a b = exactJoin b a := by
  simp [exactJoin, add_comm, max_comm, Bool.or_comm]

theorem exactJoin_empty {g : Gutter} (h : -512 ≤ g.obs) : exactJoin g {} = g := by
  simp [exactJoin, h]

/-- What one product adds is a gutter of its own, joined. -/
theorem addProduct_eq_exactJoin (r : Int) (w : Bool) {g : Gutter} (p : Val) (h : -512 ≤ g.obs) :
    addProduct r w g p = exactJoin g (addProduct r w {} p) := by
  cases p with
  | nan => simp [addProduct, exactJoin, h]
  | inf s => cases s <;> simp [addProduct, exactJoin, h]
  | fin n e =>
    by_cases hn : n = 0
    · simp [addProduct, hn, exactJoin_empty h]
    · have hobs : max (-512) (clampI (-511) 511 (log2Val n e)) = clampI (-511) 511 (log2Val n e) := by unfold clampI; omega
      simp [addProduct, hn, exactJoin, hobs]

theorem addProduct_obs_ge (r : Int) (w : Bool) {g : Gutter} (p : Val) (h : -512 ≤ g.obs) : -512 ≤ (addProduct r w g p).obs := by
  rw [addProduct_eq_exactJoin r w p h]
  exact le_max_of_le_left h

/-- A row's products in two parts: its partial sum is the parts' sums together. -/
theorem foldl_addProduct (r : Int) (w : Bool) {g : Gutter} (ps : List Val) (h : -512 ≤ g.obs) :
    ps.foldl (addProduct r w) g = exactJoin g (rowPart r w ps) := by
  induction ps generalizing g with
  | nil => exact (exactJoin_empty h).symm
  | cons p ps ih =>
    have hp : -512 ≤ (addProduct r w {} p).obs := addProduct_obs_ge r w p le_rfl
    calc (p :: ps).foldl (addProduct r w) g = ps.foldl (addProduct r w) (addProduct r w g p) := rfl
      _ = exactJoin (addProduct r w g p) (rowPart r w ps) := ih (addProduct_obs_ge r w p h)
      _ = exactJoin (exactJoin g (addProduct r w {} p)) (rowPart r w ps) := by rw [addProduct_eq_exactJoin r w p h]
      _ = exactJoin g (exactJoin (addProduct r w {} p) (rowPart r w ps)) := exactJoin_assoc _ _ _
      _ = exactJoin g (rowPart r w (p :: ps)) := by rw [← ih hp]; rfl

theorem rowPart_obs_ge (r : Int) (w : Bool) (ps : List Val) : -512 ≤ (rowPart r w ps).obs :=
  List.foldlRecOn (motive := fun g : Gutter => -512 ≤ g.obs) ps _ le_rfl fun _ h p _ => addProduct_obs_ge r w p h

theorem rowPart_append (r : Int) (w : Bool) (ps qs : List Val) :
    rowPart r w (ps ++ qs) = exactJoin (rowPart r w ps) (rowPart r w qs) :=
  calc rowPart r w (ps ++ qs) = qs.foldl (addProduct r w) (rowPart r w ps) := List.foldl_append
    _ = _ := foldl_addProduct r w qs (rowPart_obs_ge r w ps)

/-- R34: the order of a row's products does not matter. -/
theorem rowPart_perm (r : Int) (w : Bool) {ps qs : List Val} (h : ps.Perm qs) : rowPart r w ps = rowPart r w qs := by
  have hcons : ∀ p ps, rowPart r w (p :: ps) = exactJoin (rowPart r w [p]) (rowPart r w ps) := fun p ps => rowPart_append r w [p] ps
  induction h with
  | nil => rfl
  | cons p _ ih => rw [hcons, ih, ← hcons]
  | swap p q ps =>
    rw [hcons q (p :: ps), hcons p ps, hcons p (q :: ps), hcons q ps, ← exactJoin_assoc, ← exactJoin_assoc,
      exactJoin_comm (rowPart r w [q])]
  | trans _ _ ih₁ ih₂ => exact ih₁.trans ih₂

theorem addProduct_sat (r : Int) (w : Bool) (g : Gutter) (p : Val) : (addProduct r w g p).sat = g.sat := by
  unfold addProduct
  repeat' split
  all_goals rfl

theorem rowPart_sat (r : Int) (w : Bool) (ps : List Val) : (rowPart r w ps).sat = false :=
  List.foldlRecOn (motive := fun g : Gutter => g.sat = false) ps _ rfl fun g h p _ => (addProduct_sat r w g p).trans h

theorem abs_addProduct_sum_le (r : Int) (w : Bool) (p : Val) : |(addProduct r w {} p).sum| ≤ 2 ^ 127 - 1 := by
  cases p with
  | nan => simp [addProduct]
  | inf s => cases s <;> simp [addProduct]
  | fin n e =>
    by_cases hn : n = 0
    · simp [addProduct, hn]
    · simpa [addProduct, hn] using abs_productUnits_le r w n e

theorem abs_rowPart_sum_le (r : Int) (w : Bool) (ps : List Val) : |(rowPart r w ps).sum| ≤ ps.length * (2 ^ 127 - 1) := by
  induction ps with
  | nil => simp [rowPart]
  | cons p ps ih =>
    have hp := abs_addProduct_sum_le r w p
    have hsum : (rowPart r w (p :: ps)).sum = (addProduct r w {} p).sum + (rowPart r w ps).sum := by
      rw [show p :: ps = [p] ++ ps from rfl, rowPart_append]; rfl
    have htriangle := abs_add_le (addProduct r w {} p).sum (rowPart r w ps).sum
    rw [hsum, List.length_cons]
    push_cast
    linarith

/-- R37: a sum that stays within the 176 bits is not limited. -/
theorem joinGutter_of_fits {a b : Gutter} (hlow : -(2 ^ 175) ≤ a.sum + b.sum) (hhigh : a.sum + b.sum < 2 ^ 175) (hb : b.sat = false) :
    joinGutter a b = exactJoin a b := by
  have hsum : addSum b.sum a = { a with sum := a.sum + b.sum } :=
    (if_neg (not_lt.mpr hlow)).trans (if_neg (not_le.mpr hhigh))
  simp [joinGutter, hsum, exactJoin, hb]

/-- R34, R37, R53: rows that are joined are one row, while their products are at most 2^48. -/
theorem joinGutter_rowPart (r : Int) (w : Bool) {ps qs : List Val} (h : (ps ++ qs).length ≤ 2 ^ 48) :
    joinGutter (rowPart r w ps) (rowPart r w qs) = rowPart r w (ps ++ qs) := by
  have hsum : (rowPart r w ps).sum + (rowPart r w qs).sum = (rowPart r w (ps ++ qs)).sum := by rw [rowPart_append]; rfl
  have hlength : ((ps ++ qs).length : Int) ≤ 2 ^ 48 := by exact_mod_cast h
  have hbound : |(rowPart r w (ps ++ qs)).sum| ≤ 2 ^ 48 * (2 ^ 127 - 1) :=
    (abs_rowPart_sum_le r w (ps ++ qs)).trans (mul_le_mul_of_nonneg_right hlength (by norm_num))
  rw [abs_le] at hbound
  rw [rowPart_append, joinGutter_of_fits (by omega) (by omega) (rowPart_sat r w qs)]

/-- Rows joined one after another are the one row of all their products. -/
theorem foldl_joinGutter_rowPart (r : Int) (w : Bool) (rows : List (List Val)) (ps : List Val) (h : (ps ++ rows.flatten).length ≤ 2 ^ 48) :
    (rows.map (rowPart r w)).foldl joinGutter (rowPart r w ps) = rowPart r w (ps ++ rows.flatten) := by
  induction rows generalizing ps with
  | nil => simp
  | cons row rows ih =>
    rw [List.flatten_cons, ← List.append_assoc] at h
    have hrow : (ps ++ row).length ≤ 2 ^ 48 := by rw [List.length_append] at h; omega
    rw [List.map_cons, List.foldl_cons, joinGutter_rowPart r w hrow, ih _ h, List.flatten_cons, List.append_assoc]

/-- R36, R54: a product of two narrow elements that does not breach is a whole number of units. -/
theorem narrow_product_exact {f g x y : Nat} {ra rb n e m k r : Int} (hf : f ≤ 6) (hg : g ≤ 6)
    (hx : decodeElem f false x = .fin n e) (hy : decodeElem g false y = .fin m k)
    (hr : r = courseRidge (clampRidge f false ra).1 (clampRidge g false rb).1) (hfits : log2Val (n * m) (e + k) ≤ r) :
    r - 126 ≤ e + k ∧ productUnits r false (n * m) (e + k) = n * m * 2 ^ (e + k - (r - 126)).toNat := by
  have he := decodeElem_narrow_exp hf hx
  have hk := decodeElem_narrow_exp hg hy
  have hra := clampRidge_narrow_le hf ra
  have hrb := clampRidge_narrow_le hg rb
  have hridge := courseRidge_le (clampRidge f false ra).1 (clampRidge g false rb).1
  have hgrid : r - 126 ≤ e + k := by omega
  exact ⟨hgrid, by rw [productUnits_of_fits hfits, truncTo_of_le hgrid]⟩

end Sys2Proof.Machine
end

section
open Sys2Proof Sys2Proof.Machine

/-- Settles O59: `narrow_product_exact` for the products, `rowPart_perm` for their order, `joinGutter_rowPart` and
`foldl_joinGutter_rowPart` for the split over rows and courses, and `productUnits_neg` for the sign. -/
theorem productsAndSumsAreExact : Obligations.ProductsAndSumsAreExact := by
  have hfold : ∀ (r : Int) (w : Bool) (rows : List (List Val)), rows.flatten.length ≤ 2 ^ 48 →
      (rows.map (rowPart r w)).foldl joinGutter {} = rowPart r w rows.flatten :=
    fun r w rows h => foldl_joinGutter_rowPart r w rows [] h
  refine ⟨?products, fun r w ps qs h => rowPart_perm r w h, fun r w ps qs h => (joinGutter_rowPart r w h).symm, ?order, hfold,
    fun r w n e hn => productUnits_neg r w e hn⟩
  case products =>
    intro f g x y ra rb n e m k r hformats _ _ hx hy hr _ hfits
    simp only [List.mem_cons, List.not_mem_nil, or_false] at hformats
    exact narrow_product_exact (by omega) (by omega) hx hy hr hfits
  case order =>
    intro r w rows more hlength hperm
    rw [List.length_append] at hlength
    rw [hfold r w rows (by omega), hfold r w more (by omega), rowPart_perm r w hperm.flatten]

end

section
namespace Sys2Proof.Machine

/-! ### Codes of the output formats (Table 2.2, Table 2.3)

Below its sign, the code of a finite value counts the magnitudes of its format upwards from zero: the magnitude of a code is
strictly monotone, and the codes after `maxCode` are not finite. -/

/-- The significand of the magnitude code `c`. -/
def codeSig (f c : Nat) : Nat := if c < 2 ^ fracBits f then c else 2 ^ fracBits f + c % 2 ^ fracBits f

/-- The exponent of the magnitude code `c`. -/
def codeExp (f c : Nat) : Int := if c < 2 ^ fracBits f then minExp f else minExp f + ((c / 2 ^ fracBits f : Nat) : Int) - 1

/-- The magnitude that the code `c` below the sign stands for. -/
def codeMag (f c : Nat) : ℚ := codeSig f c * (2 : ℚ) ^ codeExp f c

/-- A sign on a rational. -/
def signedRat (neg : Bool) (x : ℚ) : ℚ := if neg then -x else x

theorem signed_cast (neg : Bool) (n : Nat) : ((signed neg n : Int) : ℚ) = signedRat neg n := by
  cases neg <;> simp [signed, signedRat]

theorem signedRat_mul (neg : Bool) (x y : ℚ) : signedRat neg x * y = signedRat neg (x * y) := by
  cases neg <;> simp [signedRat]

@[simp] theorem abs_signedRat (neg : Bool) (x : ℚ) : |signedRat neg x| = |x| := by
  cases neg <;> simp [signedRat]

/-- `q` units of a binade: the fraction carries into the exponent, up to and including the next binade's first value. -/
theorem codeMag_binade (f j q : Nat) (hlow : 2 ^ fracBits f ≤ q ∨ j = 0) (hhigh : q ≤ 2 ^ (fracBits f + 1)) :
    codeMag f (j * 2 ^ fracBits f + q) = q * (2 : ℚ) ^ (minExp f + j) := by
  have hpos : 0 < 2 ^ fracBits f := Nat.two_pow_pos _
  rw [pow_succ] at hhigh
  rcases Nat.lt_or_ge q (2 ^ fracBits f) with hsub | hnormal
  · obtain rfl : j = 0 := by omega
    simp [codeMag, codeSig, codeExp, hsub]
  have hnotSub : ¬ j * 2 ^ fracBits f + q < 2 ^ fracBits f := by
    have := Nat.zero_le (j * 2 ^ fracBits f); omega
  rcases Nat.lt_or_ge q (2 * 2 ^ fracBits f) with hbelow | hcarry
  · obtain ⟨r, rfl⟩ := Nat.exists_eq_add_of_le hnormal
    have hr : r < 2 ^ fracBits f := by omega
    have hcode : j * 2 ^ fracBits f + (2 ^ fracBits f + r) = r + 2 ^ fracBits f * (j + 1) := by ring
    have hexp : minExp f + (((j + 1 : Nat) : Int)) - 1 = minExp f + j := by push_cast; ring
    simp only [codeMag, codeSig, codeExp, hnotSub, if_false]
    rw [hcode, Nat.add_mul_mod_self_left, Nat.mod_eq_of_lt hr, Nat.add_mul_div_left _ _ hpos, Nat.div_eq_of_lt hr, Nat.zero_add, hexp]
  · obtain rfl : q = 2 * 2 ^ fracBits f := by omega
    have hcode : j * 2 ^ fracBits f + 2 * 2 ^ fracBits f = 2 ^ fracBits f * (j + 2) := by ring
    have hexp : minExp f + (((j + 2 : Nat) : Int)) - 1 = minExp f + j + 1 := by push_cast; ring
    simp only [codeMag, codeSig, codeExp, hnotSub, if_false]
    rw [hcode, Nat.mul_mod_right, Nat.mul_div_cancel_left _ hpos, hexp, zpow_add_one₀ (by norm_num)]
    push_cast
    ring

/-- Every magnitude code lies in a binade, with the next code in it too. -/
theorem exists_binade (f c : Nat) : ∃ j q, c = j * 2 ^ fracBits f + q ∧ (2 ^ fracBits f ≤ q ∨ j = 0) ∧ q < 2 ^ (fracBits f + 1) := by
  have hpos : 0 < 2 ^ fracBits f := Nat.two_pow_pos _
  rw [pow_succ]
  rcases Nat.lt_or_ge c (2 ^ fracBits f) with hsub | hnormal
  · exact ⟨0, c, by simp, Or.inr rfl, by omega⟩
  · have hmod := Nat.mod_lt c hpos
    have hquot : 1 ≤ c / 2 ^ fracBits f := Nat.div_pos hnormal hpos
    obtain ⟨j, hj⟩ := Nat.exists_eq_add_of_le' hquot
    have hsplit := Nat.div_add_mod c (2 ^ fracBits f)
    refine ⟨j, 2 ^ fracBits f + c % 2 ^ fracBits f, ?_, Or.inl (by omega), by omega⟩
    rw [hj] at hsplit
    linarith

/-- Codes count magnitudes upwards. -/
theorem codeMag_strictMono (f : Nat) : StrictMono (codeMag f) := by
  refine strictMono_nat_of_lt_succ fun c => ?_
  obtain ⟨j, q, rfl, hlow, hhigh⟩ := exists_binade f c
  rw [codeMag_binade f j q hlow hhigh.le, add_assoc, codeMag_binade f j (q + 1) (by omega) hhigh]
  have : (0 : ℚ) < 2 ^ (minExp f + j) := by positivity
  push_cast
  nlinarith

theorem codeMag_nonneg (f c : Nat) : 0 ≤ codeMag f c := by unfold codeMag; positivity

/-- The output formats of a rounded sum. -/
def OutFormat (f : Nat) : Prop := f ∈ [5, 6, 7, 8, 9]

/-- The fields of a code: its sign, exponent and fraction. -/
theorem fields_signBit_add {eb m c : Nat} (neg : Bool) (hc : c < 2 ^ (eb + m)) :
    nbit ((if neg then 2 ^ (eb + m) else 0) + c) (eb + m) = neg ∧ nbits ((if neg then 2 ^ (eb + m) else 0) + c) m eb = c / 2 ^ m ∧
      nbits ((if neg then 2 ^ (eb + m) else 0) + c) 0 m = c % 2 ^ m := by
  have hdiv : c / 2 ^ m < 2 ^ eb := Nat.div_lt_of_lt_mul (by rwa [← pow_add, add_comm])
  cases neg
  · simp only [nbit, nbits, Bool.false_eq_true, if_false, Nat.zero_add, Nat.div_eq_of_lt hc, Nat.mod_eq_of_lt hdiv]
    simp
  · have htop : (2 ^ (eb + m) + c) / 2 ^ (eb + m) = 1 := by
      rw [Nat.add_div_left _ (Nat.two_pow_pos _), Nat.div_eq_of_lt hc]
    have hmid : (2 ^ (eb + m) + c) / 2 ^ m = c / 2 ^ m + 2 ^ eb := by
      rw [show 2 ^ (eb + m) + c = c + 2 ^ m * 2 ^ eb by rw [pow_add]; ring, Nat.add_mul_div_left _ _ (Nat.two_pow_pos m)]
    have hlow : (2 ^ (eb + m) + c) % 2 ^ m = c % 2 ^ m := by
      rw [show 2 ^ (eb + m) + c = c + 2 ^ m * 2 ^ eb by rw [pow_add]; ring, Nat.add_mul_mod_self_left]
    simp only [nbit, nbits, if_true, htop, hmid, Nat.add_mod_right, Nat.mod_eq_of_lt hdiv, pow_zero, Nat.div_one, hlow]
    simp

/-- The sign stands above the exponent and the fraction. -/
theorem fmtBits_eq {f : Nat} (hf : OutFormat f) : fmtBits f = expBits f + fracBits f + 1 := by
  simp only [OutFormat, List.mem_cons, List.not_mem_nil, or_false] at hf
  rcases hf with rfl | rfl | rfl | rfl | rfl <;> rfl

/-- A magnitude code is finite up to `maxCode`: after it the exponent field is all ones, and in FP8 E4M3 the fraction too. -/
theorem le_maxCode_iff {f c : Nat} (hf : OutFormat f) (hc : c < 2 ^ (fmtBits f - 1)) : c ≤ maxCode f ↔
    ¬ (c / 2 ^ fracBits f = 2 ^ expBits f - 1 ∧ (f = 5 → c % 2 ^ fracBits f = 7)) := by
  simp only [OutFormat, List.mem_cons, List.not_mem_nil, or_false] at hf
  rcases hf with rfl | rfl | rfl | rfl | rfl <;> simp [fmtBits, maxCode, fracBits, expBits, fmtParams] at hc ⊢ <;> omega

/-- Reading a code: a finite value up to `maxCode`, and NaN or an infinity after it. -/
theorem decodeElem_code {f : Nat} (hf : OutFormat f) (neg : Bool) {c : Nat} (hc : c < 2 ^ (fmtBits f - 1)) :
    (c ≤ maxCode f → decodeElem f false (signBit f neg + c) = .fin (signed neg (codeSig f c)) (codeExp f c)) ∧
    (¬ c ≤ maxCode f → ∀ n e, decodeElem f false (signBit f neg + c) ≠ .fin n e) := by
  have hfinite := le_maxCode_iff hf hc
  have hsign : fmtBits f - 1 = expBits f + fracBits f := by rw [fmtBits_eq hf]; rfl
  rw [hsign] at hc
  obtain ⟨hneg, hexp, hfrac⟩ := fields_signBit_add neg hc
  have hfloat : 2 ≤ f := by
    simp only [OutFormat, List.mem_cons, List.not_mem_nil, or_false] at hf; omega
  have hfive : 6 ≤ f ↔ f ≠ 5 := by
    simp only [OutFormat, List.mem_cons, List.not_mem_nil, or_false] at hf; omega
  rw [signBit, hsign, decodeElem_float hfloat, hneg, hexp, hfrac]
  have hzero : c / 2 ^ fracBits f = 0 ↔ c < 2 ^ fracBits f := Nat.div_eq_zero_iff_lt (Nat.two_pow_pos _)
  rw [hfinite]
  constructor
  · intro h
    have hnan : ¬ (f = 5 ∧ c / 2 ^ fracBits f = 2 ^ expBits f - 1 ∧ c % 2 ^ fracBits f = 7) := fun ⟨_, h1, h2⟩ => h ⟨h1, fun _ => h2⟩
    have htop : ¬ (6 ≤ f ∧ c / 2 ^ fracBits f = 2 ^ expBits f - 1) := fun ⟨h0, h1⟩ => h ⟨h1, fun h5 => absurd h5 (hfive.mp h0)⟩
    simp only [Bool.and_eq_true, decide_eq_true_eq, and_assoc, hnan, htop, hzero, if_false]
    by_cases hsub : c < 2 ^ fracBits f
    · simp only [codeSig, codeExp, hsub, if_true, Nat.mod_eq_of_lt]
    · simp only [codeSig, codeExp, hsub, if_false, minExp]
      congr 1
      ring
  · intro h n e
    obtain ⟨htop, hseven⟩ := not_not.mp h
    by_cases h5 : f = 5
    · rw [if_pos (by simp only [htop, hseven h5]; simp [h5])]
      simp
    · simp only [hfive.mpr h5, h5, htop, decide_true, decide_false, Bool.false_and, Bool.false_eq_true, if_false, Bool.and_self, if_true]
      split <;> simp

/-- A code is a sign above a magnitude code. -/
theorem exists_sign_code {f code : Nat} (hf : OutFormat f) (h : code < 2 ^ fmtBits f) :
    ∃ neg c, c < 2 ^ (fmtBits f - 1) ∧ code = signBit f neg + c := by
  have hbits : fmtBits f = fmtBits f - 1 + 1 := by rw [fmtBits_eq hf]; rfl
  rw [hbits, pow_succ] at h
  rcases Nat.lt_or_ge code (2 ^ (fmtBits f - 1)) with hpos | hneg
  · exact ⟨false, code, hpos, by simp [signBit]⟩
  · exact ⟨true, code - 2 ^ (fmtBits f - 1), by omega, by simp [signBit]; omega⟩
theorem maxCode_lt {f : Nat} (hf : OutFormat f) : maxCode f < 2 ^ (fmtBits f - 1) := by
  simp only [OutFormat, List.mem_cons, List.not_mem_nil, or_false] at hf
  rcases hf with rfl | rfl | rfl | rfl | rfl <;> decide

theorem signBit_add_lt {f : Nat} (hf : OutFormat f) (neg : Bool) {c : Nat} (hc : c < 2 ^ (fmtBits f - 1)) :
    signBit f neg + c < 2 ^ fmtBits f := by
  have hbits : fmtBits f = fmtBits f - 1 + 1 := by rw [fmtBits_eq hf]; rfl
  rw [hbits, pow_succ]
  cases neg <;> simp [signBit] <;> omega

/-- The values of an output format are the magnitudes up to `maxCode`, of either sign. -/
theorem isValue_iff {f : Nat} (hf : OutFormat f) (w : ℚ) : IsValue f w ↔ ∃ neg c, c ≤ maxCode f ∧ w = signedRat neg (codeMag f c) := by
  have hvalue : ∀ neg c, ((signed neg (codeSig f c) : Int) : ℚ) * 2 ^ codeExp f c = signedRat neg (codeMag f c) := fun neg c => by
    rw [signed_cast, signedRat_mul, codeMag]
  constructor
  · rintro ⟨code, n, e, hcode, hdecode, rfl⟩
    obtain ⟨neg, c, hc, rfl⟩ := exists_sign_code hf hcode
    obtain ⟨hfinite, hspecial⟩ := decodeElem_code hf neg hc
    by_cases hmax : c ≤ maxCode f
    · obtain ⟨rfl, rfl⟩ := Val.fin.inj ((hfinite hmax).symm.trans hdecode)
      exact ⟨neg, c, hmax, hvalue neg c⟩
    · exact absurd hdecode (hspecial hmax n e)
  · rintro ⟨neg, c, hmax, rfl⟩
    have hc := hmax.trans_lt (maxCode_lt hf)
    exact ⟨signBit f neg + c, _, _, signBit_add_lt hf neg hc, (decodeElem_code hf neg hc).1 hmax, (hvalue neg c).symm⟩

/-! ### Rounding a magnitude (R49, R50) -/

/-- Whether the magnitude is rounded up is asked only where something is left below the unit. -/
theorem roundsUp_zero (mode : Nat) (neg : Bool) (r32 q k : Nat) : roundsUp mode neg r32 q 0 k = false := if_pos rfl

/-- A magnitude is a whole number of units and a fraction below one, and is rounded to one of the two whole numbers about it. -/
theorem roundMag_cases (mode r32 : Nat) (n e u : Int) : ∃ q rem k : Nat, rem < 2 ^ k ∧
    |(n : ℚ)| * 2 ^ e = ((q : ℚ) + (rem : ℚ) / 2 ^ k) * 2 ^ u ∧
    roundMag mode r32 n e u = if roundsUp mode (decide (n < 0)) r32 q rem k then q + 1 else q := by
  have habs : |(n : ℚ)| = (n.natAbs : ℚ) := by rw [Nat.cast_natAbs, Int.cast_abs]
  rw [habs]
  unfold roundMag
  split
  next hle =>
    refine ⟨n.natAbs * 2 ^ (e - u).toNat, 0, 0, by simp, ?_, by simp [roundsUp_zero]⟩
    have hexp : (2 : ℚ) ^ e = 2 ^ (e - u).toNat * 2 ^ u := by
      rw [← zpow_natCast, ← zpow_add₀ (by norm_num), Int.toNat_of_nonneg (by omega), sub_add_cancel]
    rw [hexp]
    push_cast
    ring
  next hgt =>
    refine ⟨n.natAbs / 2 ^ (u - e).toNat, n.natAbs % 2 ^ (u - e).toNat, (u - e).toNat, Nat.mod_lt _ (Nat.two_pow_pos _), ?_, rfl⟩
    have hexp : (2 : ℚ) ^ u = 2 ^ (u - e).toNat * 2 ^ e := by
      rw [← zpow_natCast, ← zpow_add₀ (by norm_num), Int.toNat_of_nonneg (by omega), sub_add_cancel]
    have hsplit : (n.natAbs : ℚ) = 2 ^ (u - e).toNat * (n.natAbs / 2 ^ (u - e).toNat : Nat) + (n.natAbs % 2 ^ (u - e).toNat : Nat) := by
      exact_mod_cast (Nat.div_add_mod n.natAbs (2 ^ (u - e).toNat)).symm
    rw [hexp]
    field_simp
    linarith

/-- The magnitude of a value lies between two powers of two. -/
theorem two_zpow_log2Val_le {n : Int} (e : Int) (hn : n ≠ 0) : (2 : ℚ) ^ log2Val n e ≤ |(n : ℚ)| * 2 ^ e := by
  have hlog : 2 ^ Nat.log2 n.natAbs ≤ n.natAbs := Nat.log2_self_le (by omega)
  have habs : |(n : ℚ)| = (n.natAbs : ℚ) := by rw [Nat.cast_natAbs, Int.cast_abs]
  rw [log2Val, zpow_add₀ (by norm_num), habs, zpow_natCast]
  gcongr
  exact_mod_cast hlog

theorem lt_two_zpow_log2Val_succ (n e : Int) : |(n : ℚ)| * 2 ^ e < (2 : ℚ) ^ (log2Val n e + 1) := by
  have hlog : n.natAbs < 2 ^ (Nat.log2 n.natAbs + 1) := Nat.lt_log2_self
  have habs : |(n : ℚ)| = (n.natAbs : ℚ) := by rw [Nat.cast_natAbs, Int.cast_abs]
  rw [log2Val, add_right_comm, zpow_add₀ (by norm_num), habs]
  gcongr
  exact_mod_cast hlog

/-- On a grid at or below both values, truncation compares them exactly. -/
theorem truncTo_lt_iff {n e m k g : Int} (hn : g ≤ e) (hm : g ≤ k) : truncTo n e g < truncTo m k g ↔ (n : ℚ) * 2 ^ e < m * 2 ^ k := by
  have hscale : ∀ {n e : Int}, g ≤ e → (n : ℚ) * 2 ^ e = (truncTo n e g : ℚ) * 2 ^ g := fun {n e} h => by
    rw [truncTo_of_le h]
    push_cast
    rw [mul_assoc, ← zpow_natCast, ← zpow_add₀ (by norm_num), Int.toNat_of_nonneg (by omega), sub_add_cancel]
  have hpos : (0 : ℚ) < 2 ^ g := by positivity
  rw [hscale hn, hscale hm, mul_lt_mul_iff_left₀ hpos]
  exact Int.cast_lt.symm

/-- The unit of a sum's binade in an output format: the weight of the last fraction bit. -/
def unitExp (f : Nat) (n e : Int) : Int := max (log2Val n e) (1 - (fmtParams f).2.2) - fracBits f

/-- The number of the sum's binade, counted from the subnormals. -/
def binade (f : Nat) (n e : Int) : Nat := (max (log2Val n e) (1 - (fmtParams f).2.2) - (1 - (fmtParams f).2.2)).toNat

theorem unitExp_eq (f : Nat) (n e : Int) : unitExp f n e = minExp f + binade f n e := by
  unfold unitExp minExp binade; omega

/-- The magnitude code that is written for `q` units of `2 ^ u`. -/
def unitsCode (f : Nat) (u : Int) (q : Nat) : Nat :=
  if q = 0 then 0
  else if Nat.log2 q < fracBits f then q
  else (u + fracBits f + (fmtParams f).2.2 + (Nat.log2 q - fracBits f : Nat)).toNat * 2 ^ fracBits f +
    (q / 2 ^ (Nat.log2 q - fracBits f) - 2 ^ fracBits f)

/-- The fraction carries into the exponent field: in one binade the code is a count of units. -/
theorem unitsCode_eq {f j q : Nat} (hlow : 2 ^ fracBits f ≤ q ∨ j = 0) (hhigh : q ≤ 2 ^ (fracBits f + 1)) :
    unitsCode f (minExp f + j) q = j * 2 ^ fracBits f + q := by
  have hpos : 0 < 2 ^ fracBits f := Nat.two_pow_pos _
  unfold unitsCode
  by_cases hzero : q = 0
  · have : j = 0 := by omega
    simp [hzero, this]
  have hlog : Nat.log2 q < fracBits f ↔ q < 2 ^ fracBits f := Nat.log2_lt hzero
  rw [if_neg hzero]
  by_cases hsub : q < 2 ^ fracBits f
  · have : j = 0 := by omega
    simp [hlog, hsub, this]
  rw [if_neg (by rwa [hlog])]
  rcases Nat.lt_or_ge q (2 ^ (fracBits f + 1)) with hbelow | hcarry
  · have hlog : Nat.log2 q = fracBits f := by rw [Nat.log2_eq_iff hzero]; omega
    have hexp : minExp f + (j : Int) + fracBits f + (fmtParams f).2.2 + ((fracBits f - fracBits f : Nat) : Int) = (j + 1 : Nat) := by
      unfold minExp; push_cast; omega
    obtain ⟨r, rfl⟩ := Nat.exists_eq_add_of_le (not_lt.mp hsub)
    rw [hlog, hexp, Int.toNat_natCast, Nat.sub_self, pow_zero, Nat.div_one, Nat.add_sub_cancel_left]
    ring
  · obtain rfl : q = 2 ^ (fracBits f + 1) := le_antisymm hhigh hcarry
    have hexp : minExp f + (j : Int) + fracBits f + (fmtParams f).2.2 + ((fracBits f + 1 - fracBits f : Nat) : Int) = (j + 2 : Nat) := by
      unfold minExp; push_cast; omega
    rw [Nat.log2_two_pow, hexp, Int.toNat_natCast, Nat.add_sub_cancel_left, pow_succ, pow_one, Nat.mul_div_cancel _ (by norm_num), Nat.sub_self]
    ring

/-- A sum whose magnitude, exact and rounded, is not above the largest finite one does not overflow (R51). -/
theorem roundTo_of_fits {f : Nat} (hf : OutFormat f) (mode : Nat) (sat : Bool) (r32 : Nat) {n e : Int} (hn : n ≠ 0)
    (hexact : |(n : ℚ)| * 2 ^ e ≤ codeMag f (maxCode f))
    (hrounded : (roundMag mode r32 n e (unitExp f n e) : ℚ) * 2 ^ unitExp f n e ≤ codeMag f (maxCode f)) :
    roundTo f mode sat r32 n e = signBit f (decide (n < 0)) + unitsCode f (unitExp f n e) (roundMag mode r32 n e (unitExp f n e)) := by
  have htop : decodeElem f false (maxCode f) = .fin (codeSig f (maxCode f)) (codeExp f (maxCode f)) := by
    have := (decodeElem_code hf false (maxCode_lt hf)).1 le_rfl
    simpa [signBit, signed] using this
  have habs : |(n : ℚ)| = ((n.natAbs : Int) : ℚ) := by rw [Int.natCast_natAbs, Int.cast_abs]
  have hnotBeyond : decide (truncTo (codeSig f (maxCode f)) (codeExp f (maxCode f)) (min (codeExp f (maxCode f)) e) <
      truncTo (n.natAbs : Int) e (min (codeExp f (maxCode f)) e)) = false := by
    rw [decide_eq_false_iff_not, truncTo_lt_iff (min_le_left _ _) (min_le_right _ _), not_lt, ← habs]
    exact_mod_cast hexact
  have hnotBig : decide (truncTo (codeSig f (maxCode f)) (codeExp f (maxCode f)) (min (codeExp f (maxCode f)) (unitExp f n e)) <
      truncTo (roundMag mode r32 n e (unitExp f n e) : Int) (unitExp f n e) (min (codeExp f (maxCode f)) (unitExp f n e))) = false := by
    rw [decide_eq_false_iff_not, truncTo_lt_iff (min_le_left _ _) (min_le_right _ _), not_lt]
    exact_mod_cast hrounded
  unfold roundTo
  rw [if_neg hn]
  simp only [htop, hnotBeyond, Bool.and_false, Bool.false_eq_true, if_false,
    show max (log2Val n e) (1 - (fmtParams f).2.2) - ((fmtParams f).2.1 : Int) = unitExp f n e from rfl]
  rw [hnotBig, if_neg Bool.false_ne_true, unitsCode]
  by_cases hzero : roundMag mode r32 n e (unitExp f n e) = 0
  · rw [if_pos hzero, if_pos hzero, Nat.add_zero]
  · rw [if_neg hzero, if_neg hzero]
    by_cases hsub : Nat.log2 (roundMag mode r32 n e (unitExp f n e)) < fracBits f
    · exact (if_pos hsub).trans (by rw [if_pos hsub])
    · exact (if_neg hsub).trans (by rw [if_neg hsub]; exact Nat.add_assoc _ _ _)

/-- The parity of a code is that of its units. -/
theorem even_binade_add {f : Nat} (hf : OutFormat f) (j q : Nat) : (j * 2 ^ fracBits f + q) % 2 = q % 2 := by
  have heven : 2 ∣ 2 ^ fracBits f := by
    simp only [OutFormat, List.mem_cons, List.not_mem_nil, or_false] at hf
    rcases hf with rfl | rfl | rfl | rfl | rfl <;> decide
  have : 2 ∣ j * 2 ^ fracBits f := heven.mul_left j
  omega

/-- What rounding does to a sum within the format: its magnitude lies in one binade, between two codes that follow each other, and it
is rounded to one of them by `roundsUp` of the fraction between them. -/
theorem roundTo_cases {f : Nat} (hf : OutFormat f) (mode : Nat) (sat : Bool) (r32 : Nat) {n e : Int} (hn : n ≠ 0)
    (hmax : |(n : ℚ)| * 2 ^ e ≤ codeMag f (maxCode f)) : ∃ c q rem k : Nat, rem < 2 ^ k ∧ c % 2 = q % 2 ∧
    c ≤ maxCode f ∧ (rem ≠ 0 → c + 1 ≤ maxCode f) ∧
    |(n : ℚ)| * 2 ^ e = codeMag f c + (rem : ℚ) / 2 ^ k * (codeMag f (c + 1) - codeMag f c) ∧
    roundTo f mode sat r32 n e = signBit f (decide (n < 0)) + if roundsUp mode (decide (n < 0)) r32 q rem k then c + 1 else c := by
  obtain ⟨q, rem, k, hrem, hsplit, hround⟩ := roundMag_cases mode r32 n e (unitExp f n e)
  have hunit : (0 : ℚ) < 2 ^ unitExp f n e := by positivity
  have hfrac : 0 ≤ (rem : ℚ) / 2 ^ k ∧ (rem : ℚ) / 2 ^ k < 1 := by
    refine ⟨by positivity, ?_⟩
    rw [div_lt_one (by positivity)]
    exact_mod_cast hrem
  have hhigh : q < 2 ^ (fracBits f + 1) := by
    have hlt := (lt_two_zpow_log2Val_succ n e).trans_le (zpow_le_zpow_right₀ (a := (2 : ℚ)) (by norm_num)
      (show log2Val n e + 1 ≤ ((fracBits f + 1 : Nat) : Int) + unitExp f n e by unfold unitExp; push_cast; omega))
    rw [zpow_add₀ (by norm_num), hsplit, mul_lt_mul_iff_left₀ hunit, zpow_natCast] at hlt
    exact_mod_cast lt_of_le_of_lt (le_add_of_nonneg_right hfrac.1) hlt
  have hlow : 2 ^ fracBits f ≤ q ∨ binade f n e = 0 := by
    by_cases hsub : binade f n e = 0
    · exact Or.inr hsub
    have hge := (zpow_le_zpow_right₀ (a := (2 : ℚ)) (by norm_num)
      (show (fracBits f : Int) + unitExp f n e ≤ log2Val n e by unfold binade at hsub; unfold unitExp; omega)).trans (two_zpow_log2Val_le e hn)
    rw [zpow_add₀ (by norm_num), hsplit, mul_le_mul_iff_left₀ hunit, zpow_natCast] at hge
    have : ((2 ^ fracBits f : Nat) : ℚ) < (q + 1 : Nat) := by push_cast; linarith
    exact Or.inl (Nat.lt_succ_iff.mp (by exact_mod_cast this))
  have hmag : ∀ p, 2 ^ fracBits f ≤ p ∨ binade f n e = 0 → p ≤ 2 ^ (fracBits f + 1) →
      codeMag f (binade f n e * 2 ^ fracBits f + p) = p * 2 ^ unitExp f n e := fun p h1 h2 => by
    rw [codeMag_binade f _ p h1 h2, unitExp_eq]
  have hq := hmag q hlow hhigh.le
  have hq1 := hmag (q + 1) (by omega) hhigh
  have hsum : |(n : ℚ)| * 2 ^ e = codeMag f (binade f n e * 2 ^ fracBits f + q) +
      (rem : ℚ) / 2 ^ k * (codeMag f (binade f n e * 2 ^ fracBits f + (q + 1)) - codeMag f (binade f n e * 2 ^ fracBits f + q)) := by
    rw [hsplit, hq1, hq]
    push_cast
    ring
  have hpartNonneg : 0 ≤ (rem : ℚ) / 2 ^ k * 2 ^ unitExp f n e := mul_nonneg hfrac.1 hunit.le
  have hc : binade f n e * 2 ^ fracBits f + q ≤ maxCode f := by
    rw [← (codeMag_strictMono f).le_iff_le, hq]
    linarith
  have hc1 : rem ≠ 0 → binade f n e * 2 ^ fracBits f + (q + 1) ≤ maxCode f := fun hne => by
    have hpart : 0 < (rem : ℚ) / 2 ^ k * 2 ^ unitExp f n e := by positivity
    rw [← add_assoc, Nat.succ_le_iff, ← (codeMag_strictMono f).lt_iff_lt, hq]
    linarith
  refine ⟨binade f n e * 2 ^ fracBits f + q, q, rem, k, hrem, even_binade_add hf _ q, hc, hc1, hsum, ?_⟩
  have hfits : (roundMag mode r32 n e (unitExp f n e) : ℚ) * 2 ^ unitExp f n e ≤ codeMag f (maxCode f) := by
    rw [hround]
    split
    next hup =>
      have hne : rem ≠ 0 := by rintro rfl; rw [roundsUp_zero] at hup; cases hup
      rw [← hq1]
      exact (codeMag_strictMono f).monotone (hc1 hne)
    next => rw [← hq]; exact (codeMag_strictMono f).monotone hc
  rw [roundTo_of_fits hf mode sat r32 hn hmax hfits, unitExp_eq, unitsCode_eq, ← unitExp_eq, hround]
  · split <;> rfl
  · rw [← unitExp_eq, hround]; split <;> omega
  · rw [← unitExp_eq, hround]; split <;> omega

/-! ### Neighbours -/

/-- `a` and `b` are the neighbours of `S` among the values of a format: the greatest value below it and the least above. -/
structure Neighbours (f : Nat) (S a b : ℚ) : Prop where
  left : IsValue f a
  left_le : a ≤ S
  left_greatest : ∀ w, IsValue f w → w ≤ S → w ≤ a
  right : IsValue f b
  le_right : S ≤ b
  right_least : ∀ w, IsValue f w → S ≤ w → b ≤ w

theorem isValue_neg {f : Nat} (hf : OutFormat f) {w : ℚ} (h : IsValue f w) : IsValue f (-w) := by
  rw [isValue_iff hf] at h ⊢
  obtain ⟨neg, c, hc, rfl⟩ := h
  exact ⟨!neg, c, hc, by cases neg <;> simp [signedRat]⟩

theorem Neighbours.neg {f : Nat} (hf : OutFormat f) {S a b : ℚ} (h : Neighbours f S a b) : Neighbours f (-S) (-b) (-a) where
  left := isValue_neg hf h.right
  left_le := neg_le_neg h.le_right
  left_greatest w hw hS := le_neg.mpr (h.right_least (-w) (isValue_neg hf hw) (le_neg.mpr hS))
  right := isValue_neg hf h.left
  le_right := neg_le_neg h.left_le
  right_least w hw hS := neg_le.mpr (h.left_greatest (-w) (isValue_neg hf hw) (neg_le.mpr hS))

/-- The neighbours of a value are the value. -/
theorem Neighbours.eq_of_isValue {f : Nat} {S a b : ℚ} (h : Neighbours f S a b) (hS : IsValue f S) : a = S ∧ b = S :=
  ⟨le_antisymm h.left_le (h.left_greatest S hS le_rfl), le_antisymm (h.right_least S hS le_rfl) h.le_right⟩

/-- The neighbours of a sum between two codes that follow each other are those codes' values. -/
theorem Neighbours.eq_codes {f : Nat} (hf : OutFormat f) {S a b : ℚ} (h : Neighbours f S a b) {c : Nat} (hc : c + 1 ≤ maxCode f)
    (hlow : codeMag f c < S) (hhigh : S < codeMag f (c + 1)) : a = codeMag f c ∧ b = codeMag f (c + 1) := by
  have hbetween : ∀ w, IsValue f w → codeMag f c < w → codeMag f (c + 1) ≤ w := fun w hw hlt => by
    obtain ⟨neg, d, -, hd⟩ := (isValue_iff hf w).mp hw
    have habs : w = codeMag f d := by
      rw [← abs_of_pos ((codeMag_nonneg f c).trans_lt hlt), hd, abs_signedRat, abs_of_nonneg (codeMag_nonneg f d)]
    rw [habs] at hlt ⊢
    exact (codeMag_strictMono f).monotone ((codeMag_strictMono f).lt_iff_lt.mp hlt)
  have hvalue : ∀ d ≤ maxCode f, IsValue f (codeMag f d) := fun d hd => (isValue_iff hf _).mpr ⟨false, d, hd, rfl⟩
  constructor
  · refine (eq_of_le_of_not_lt (h.left_greatest _ (hvalue c (by omega)) hlow.le) fun hlt => ?_).symm
    exact absurd ((hbetween a h.left hlt).trans h.left_le) (not_le.mpr hhigh)
  · exact le_antisymm (h.right_least _ (hvalue _ hc) hhigh.le) (hbetween b h.right (hlow.trans_le h.le_right))

/-- A sum between its neighbours is not above the largest finite value. -/
theorem Neighbours.abs_le_max {f : Nat} (hf : OutFormat f) {S a b : ℚ} (h : Neighbours f S a b) : |S| ≤ codeMag f (maxCode f) := by
  have hvalue : ∀ w, IsValue f w → |w| ≤ codeMag f (maxCode f) := fun w hw => by
    obtain ⟨neg, d, hd, rfl⟩ := (isValue_iff hf w).mp hw
    rw [abs_signedRat, abs_of_nonneg (codeMag_nonneg f d)]
    exact (codeMag_strictMono f).monotone hd
  have ha := (abs_le.mp (hvalue a h.left)).1
  have hb := (abs_le.mp (hvalue b h.right)).2
  exact abs_le.mpr ⟨ha.trans h.left_le, h.le_right.trans hb⟩

/-! ### The rounding modes (Table 2.10) -/

/-- The rows of Table 2.10, for a sum `S` that lies strictly between its neighbours: the value `v` that is written, its code being
odd or even. -/
structure FollowsMode (mode r32 : Nat) (S a b v : ℚ) (code : Nat) : Prop where
  nearest : mode = 0 → (2 * S < a + b → v = a) ∧ (a + b < 2 * S → v = b) ∧ (2 * S = a + b → (v = a ∨ v = b) ∧ code % 2 = 0)
  towardZero : mode = 1 → v = if 0 < S then a else b
  upward : mode = 2 → v = b
  downward : mode = 3 → v = a
  stochastic : mode = 4 → v = if (r32 : ℤ) < ⌊(S - a) / (b - a) * 2 ^ 32⌋ then b else a

section
variable {rem k : Nat} {x lo hi : ℚ} (hlt : lo < hi) (hx : x = lo + (rem : ℚ) / 2 ^ k * (hi - lo))
include hlt hx

theorem twice_lt_add_iff : 2 * x < lo + hi ↔ 2 * rem < 2 ^ k := by
  have hpow : (0 : ℚ) < 2 ^ k := by positivity
  have hgap : 0 < hi - lo := by linarith
  have hiff : 2 * x < lo + hi ↔ 2 * ((rem : ℚ) / 2 ^ k) * (hi - lo) < 1 * (hi - lo) := by
    rw [hx]; constructor <;> intro h <;> linarith
  rw [hiff, mul_lt_mul_iff_left₀ hgap, ← mul_div_assoc, div_lt_one hpow]
  exact_mod_cast Iff.rfl

theorem add_lt_twice_iff : lo + hi < 2 * x ↔ 2 ^ k < 2 * rem := by
  have hpow : (0 : ℚ) < 2 ^ k := by positivity
  have hgap : 0 < hi - lo := by linarith
  have hiff : lo + hi < 2 * x ↔ 1 * (hi - lo) < 2 * ((rem : ℚ) / 2 ^ k) * (hi - lo) := by
    rw [hx]; constructor <;> intro h <;> linarith
  rw [hiff, mul_lt_mul_iff_left₀ hgap, ← mul_div_assoc, one_lt_div hpow]
  exact_mod_cast Iff.rfl

theorem twice_eq_add_iff : 2 * x = lo + hi ↔ 2 * rem = 2 ^ k := by
  have hlower := twice_lt_add_iff hlt hx
  have hupper := add_lt_twice_iff hlt hx
  constructor
  · intro h; rw [h] at hlower hupper; simp at hlower hupper; omega
  · intro h; rw [h] at hlower hupper; simp at hlower hupper; linarith

/-- The part of the way from the lower neighbour to the upper. -/
theorem sub_low_div_gap : (x - lo) / (hi - lo) = (rem : ℚ) / 2 ^ k := by
  have hgap : hi - lo ≠ 0 := by linarith
  rw [hx, add_sub_cancel_left, mul_div_assoc, div_self hgap, mul_one]

/-- The part of the way from the upper neighbour down to the lower. -/
theorem high_sub_div_gap (hrem : rem < 2 ^ k) : (hi - x) / (hi - lo) = ((2 ^ k - rem : Nat) : ℚ) / 2 ^ k := by
  have hgap : hi - lo ≠ 0 := by linarith
  have hpow : (2 : ℚ) ^ k ≠ 0 := by positivity
  have hpart := sub_low_div_gap hlt hx
  have hwhole : (hi - x) / (hi - lo) = 1 - (x - lo) / (hi - lo) := by field_simp; ring
  rw [hwhole, hpart, Nat.cast_sub hrem.le]
  push_cast
  field_simp

end

/-- The 32-bit threshold of R50. -/
theorem floor_fraction (p k : Nat) : ⌊(p : ℚ) / 2 ^ k * 2 ^ 32⌋ = ((p * 2 ^ 32 / 2 ^ k : Nat) : Int) := by
  rw [div_mul_eq_mul_div, show (p : ℚ) * 2 ^ 32 / 2 ^ k = ((p * 2 ^ 32 : Nat) : ℚ) / ((2 ^ k : Nat) : ℚ) by push_cast; ring,
    Rat.floor_natCast_div_natCast]
  rfl

/-- A positive sum: the greater magnitude is the upper neighbour. -/
theorem followsMode_of_pos {mode r32 q rem k c code : Nat} {x lo hi : ℚ} (hrem0 : rem ≠ 0) (hpos : 0 < x) (hlt : lo < hi)
    (hx : x = lo + (rem : ℚ) / 2 ^ k * (hi - lo)) (hparity : c % 2 = q % 2)
    (hcode : code % 2 = (if roundsUp mode false r32 q rem k then c + 1 else c) % 2) :
    FollowsMode mode r32 x lo hi (if roundsUp mode false r32 q rem k then hi else lo) code where
  nearest := by
    rintro rfl
    rw [twice_lt_add_iff hlt hx, add_lt_twice_iff hlt hx, twice_eq_add_iff hlt hx, hcode]
    simp only [roundsUp, hrem0, if_false, Bool.or_eq_true, Bool.and_eq_true, decide_eq_true_eq]
    refine ⟨fun h => if_neg (by omega), fun h => if_pos (Or.inl h), fun h => ?_⟩
    split <;> simp <;> omega
  towardZero := by rintro rfl; simp [roundsUp, hpos]
  upward := by rintro rfl; simp [roundsUp, hrem0]
  downward := by rintro rfl; simp [roundsUp]
  stochastic := by
    rintro rfl
    rw [sub_low_div_gap hlt hx, floor_fraction]
    simp only [roundsUp, hrem0, if_false, Bool.false_eq_true, decide_eq_true_eq, Nat.cast_lt]

/-- A negative sum: the greater magnitude is the lower neighbour. -/
theorem followsMode_of_neg {mode r32 q rem k c code : Nat} {x lo hi : ℚ} (hrem0 : rem ≠ 0) (hrem : rem < 2 ^ k) (hpos : 0 < x) (hlt : lo < hi)
    (hx : x = lo + (rem : ℚ) / 2 ^ k * (hi - lo)) (hparity : c % 2 = q % 2)
    (hcode : code % 2 = (if roundsUp mode true r32 q rem k then c + 1 else c) % 2) :
    FollowsMode mode r32 (-x) (-hi) (-lo) (if roundsUp mode true r32 q rem k then -hi else -lo) code where
  nearest := by
    rintro rfl
    have hbelow : 2 * -x < -hi + -lo ↔ 2 ^ k < 2 * rem := by rw [← add_lt_twice_iff hlt hx]; constructor <;> intro h <;> linarith
    have habove : -hi + -lo < 2 * -x ↔ 2 * rem < 2 ^ k := by rw [← twice_lt_add_iff hlt hx]; constructor <;> intro h <;> linarith
    have htie : 2 * -x = -hi + -lo ↔ 2 * rem = 2 ^ k := by rw [← twice_eq_add_iff hlt hx]; constructor <;> intro h <;> linarith
    rw [hbelow, habove, htie, hcode]
    simp only [roundsUp, hrem0, if_false, Bool.or_eq_true, Bool.and_eq_true, decide_eq_true_eq]
    refine ⟨fun h => if_pos (Or.inl h), fun h => if_neg (by omega), fun h => ?_⟩
    split <;> simp <;> omega
  towardZero := by rintro rfl; simp [roundsUp, hpos.le]
  upward := by rintro rfl; simp [roundsUp]
  downward := by rintro rfl; simp [roundsUp, hrem0]
  stochastic := by
    rintro rfl
    rw [show -x - -hi = hi - x by ring, show -lo - -hi = hi - lo by ring, high_sub_div_gap hlt hx hrem, floor_fraction]
    simp only [roundsUp, hrem0, if_false, if_true, Nat.cast_lt, Bool.not_eq_true', decide_eq_false_iff_not, ite_not]

theorem signBit_even {f : Nat} (hf : OutFormat f) (neg : Bool) (c : Nat) : (signBit f neg + c) % 2 = c % 2 := by
  have heven : 2 ∣ signBit f neg := by
    simp only [OutFormat, List.mem_cons, List.not_mem_nil, or_false] at hf
    rcases hf with rfl | rfl | rfl | rfl | rfl <;> cases neg <;> decide
  omega

/-- The value and the code of a rounded sum: the sum itself where the format has it, and else the neighbour that the mode names. -/
theorem roundTo_follows {f : Nat} (hf : OutFormat f) (mode : Nat) (sat : Bool) (r32 : Nat) {n e : Int} (hn : n ≠ 0) {a b : ℚ}
    (h : Neighbours f (n * (2 : ℚ) ^ e) a b) : ∃ (d : Nat) (v : ℚ), d ≤ maxCode f ∧ roundTo f mode sat r32 n e = signBit f (decide (n < 0)) + d ∧
      v = signedRat (decide (n < 0)) (codeMag f d) ∧ ((a = b ∧ v = n * (2 : ℚ) ^ e) ∨
        (a ≠ b ∧ FollowsMode mode r32 (n * (2 : ℚ) ^ e) a b v (roundTo f mode sat r32 n e))) := by
  have hscale : (0 : ℚ) < 2 ^ e := by positivity
  have habs : |(n : ℚ) * 2 ^ e| = |(n : ℚ)| * 2 ^ e := by rw [abs_mul, abs_of_pos hscale]
  have hmax := h.abs_le_max hf
  have hne : (n : ℚ) ≠ 0 := by exact_mod_cast hn
  rw [habs] at hmax
  obtain ⟨c, q, rem, k, hrem, hparity, hc, hc1, hsum, hround⟩ := roundTo_cases hf mode sat r32 hn hmax
  have hlt : codeMag f c < codeMag f (c + 1) := codeMag_strictMono f c.lt_succ_self
  have hxpos : 0 < |(n : ℚ)| * 2 ^ e := by positivity
  have hsigned : (n : ℚ) * 2 ^ e = signedRat (decide (n < 0)) (|(n : ℚ)| * 2 ^ e) := by
    rcases lt_or_gt_of_ne hn with hneg | hpos
    · have : (n : ℚ) < 0 := by exact_mod_cast hneg
      simp [signedRat, hneg, abs_of_neg this]
    · have : (0 : ℚ) < n := by exact_mod_cast hpos
      simp [signedRat, hpos.not_gt, abs_of_pos this]
  by_cases hrem0 : rem = 0
  · subst hrem0
    rw [roundsUp_zero, if_neg Bool.false_ne_true] at hround
    have hvalue : (n : ℚ) * 2 ^ e = signedRat (decide (n < 0)) (codeMag f c) := by
      rw [hsigned, hsum]; simp
    obtain ⟨ha, hb⟩ := h.eq_of_isValue ((isValue_iff hf _).mpr ⟨_, c, hc, hvalue⟩)
    exact ⟨c, _, hc, hround, rfl, Or.inl ⟨ha.trans hb.symm, hvalue.symm⟩⟩
  · have hfrac : 0 < (rem : ℚ) / 2 ^ k ∧ (rem : ℚ) / 2 ^ k < 1 := by
      refine ⟨by positivity, ?_⟩
      rw [div_lt_one (by positivity)]
      exact_mod_cast hrem
    have hlow : codeMag f c < |(n : ℚ)| * 2 ^ e := by rw [hsum]; nlinarith
    have hhigh : |(n : ℚ)| * 2 ^ e < codeMag f (c + 1) := by rw [hsum]; nlinarith
    have hcode := congrArg (· % 2) hround
    simp only [signBit_even hf] at hcode
    refine ⟨_, _, ?_, hround, rfl, Or.inr ?_⟩
    · split
      · exact hc1 hrem0
      · exact hc
    · generalize roundTo f mode sat r32 n e = code at hcode ⊢
      rw [hsigned] at h ⊢
      cases hneg : decide (n < 0) with
      | false =>
        rw [hneg] at h hcode
        obtain ⟨rfl, rfl⟩ := h.eq_codes hf (hc1 hrem0) hlow hhigh
        simp only [signedRat, Bool.false_eq_true, if_false, apply_ite (codeMag f)]
        exact ⟨hlt.ne, followsMode_of_pos hrem0 hxpos hlt hsum hparity hcode⟩
      | true =>
        rw [hneg] at h hcode
        simp only [signedRat, if_true] at h ⊢
        have hopposite := h.neg hf
        rw [neg_neg] at hopposite
        obtain ⟨hb, ha⟩ := hopposite.eq_codes hf (hc1 hrem0) hlow hhigh
        obtain rfl := neg_eq_iff_eq_neg.mp ha
        obtain rfl := neg_eq_iff_eq_neg.mp hb
        simp only [apply_ite (codeMag f), apply_ite (Neg.neg : ℚ → ℚ)]
        exact ⟨(neg_lt_neg hlt).ne, followsMode_of_neg hrem0 hrem hxpos hlt hsum hparity hcode⟩

end Sys2Proof.Machine
end

section
open Sys2Proof Sys2Proof.Machine

/-- Settles O60: `roundTo_follows` gives the written code, and `decodeElem_code` the value that it stands for. -/
theorem roundingFollowsTheMode : Obligations.RoundingFollowsTheMode := by
  rintro f mode r32 sat n e S a b hf - hn rfl ha haS hleft hb hSb hright
  obtain ⟨d, v, hd, hcode, hv, hfollows⟩ := roundTo_follows hf mode sat r32 hn ⟨ha, haS, hleft, hb, hSb, hright⟩
  have hmag := hd.trans_lt (maxCode_lt hf)
  refine ⟨_, signed (decide (n < 0)) (codeSig f d), codeExp f d, v, rfl, ?_, ?_, ?_, ?_⟩
  · rw [hcode]; exact signBit_add_lt hf _ hmag
  · rw [hcode]; exact (decodeElem_code hf _ hmag).1 hd
  · rw [hv, signed_cast, signedRat_mul, codeMag]
  · rcases hfollows with ⟨hab, hexact⟩ | ⟨hab, hrow⟩
    · exact ⟨fun _ => hexact, fun h => absurd hab h, fun h => absurd hab h, fun h => absurd hab h, fun h => absurd hab h, fun h => absurd hab h⟩
    · exact ⟨fun h => absurd h hab, fun _ => hrow.nearest, fun _ => hrow.towardZero, fun _ => hrow.upward, fun _ => hrow.downward,
        fun _ => hrow.stochastic⟩

end

section
namespace Sys2Proof.Machine

/-! ### A course whose output lies across the border of the peer windows

`NoPeers` looks at the first byte of each extent alone (R143, R188). The footprint below begins in the last granule of host memory
and goes on in the first peer window, where the course's one output byte lies. A fault of its run keeps the row that was indicative
(R113): its byte goes out as a peer write, the link is down, and DEAD_TARGET ends the course that should have run again (R114). -/

/-- A COURSE of one output element (FP8 E4M3, no lanes of K) at VA 0x1040; VA 0x1000 maps to the last granule below the peer windows. -/
def straddlingCourse : Course :=
  { id := 1, raw := BitVec.ofNat 1024 (1 + 2 ^ 32), ctx := 5, src := .queue 0 0, stream := 0, stage := .running, opS := 0,
    opT := BitVec.ofNat 256 (2 ^ 176), opO := BitVec.ofNat 256 (0x1040 + 5 * 2 ^ 158 + 2 ^ 176 + 2 ^ 192),
    foot := [⟨0x1000, 2 ^ 51 - 64, 128, 0, 0, false, false⟩], ridge := 0, round := 0, sat := false, strict := false, specData := false,
    specCont := false, windowOk := false, diagOk := false, digests := false, notStrict := false, clamps := 0, strictRun := false,
    faultRun := false, reissued := false, resume := 0, pass := 0, intake := 0, part := [], obsSoFar := -512, breachSoFar := false,
    rowSeq := [], bound := [], touched := [], kept := [], stale := false, heldKept := false, home := 0, work := noWork, seen := [],
    blocked := false, result := 0, started := 0, savedOn := 0, wrote := (0, 0) }

/-- The queue command that issued the course. -/
def straddlingCommand : Cmd := newCmd 0 0 0 true

/-- A READY block on whose array 0 the course runs, and nothing else. -/
def straddlingState : State :=
  { start.state := 1, arrays.arr := [(0, { courses := [straddlingCourse], run := some 1 })], queues := [(0, { cmds := [straddlingCommand] })] }

/-- A run whose first row was indicative. -/
def firstRowRun : RunLog := ⟨noWork, 1, 0, 0, false, []⟩

theorem straddlingCourse_runsAlone : RunsAlone (0 : ArrayId) straddlingCourse 0 0 straddlingCommand straddlingState := by
  unfold RunsAlone ArrayRuns
  decide +kernel

theorem straddlingCourse_noPeers : NoPeers (0 : ArrayId) straddlingCourse straddlingState := by
  unfold NoPeers
  decide +kernel

theorem straddlingCourse_wayClear : WayClear straddlingState [] (courseWrites straddlingState straddlingCourse) := by
  unfold WayClear
  decide +kernel

/-- After the fault of its run the course has left the array. -/
theorem straddlingCourse_ends : ∃ t, exec (.courseFault 0 .crcExhausted firstRowRun) straddlingState = .next t ∧
    (getArr t (0 : ArrayId)).courses = [] ∧ (getQueue t 0).cmds.map (·.fin) = [some .deadTarget] :=
  ⟨_, rfl, by decide +kernel⟩

end Sys2Proof.Machine
end

section
open Sys2Proof Sys2Proof.Machine

/-- Refutes O43: its first clause fails for `straddlingCourse`, which ends DEAD_TARGET instead of running again. -/
theorem not_runningCoursesAreStoppedAndRepeated : ¬ Obligations.RunningCoursesAreStoppedAndRepeated := by
  rintro ⟨hfault, -⟩
  have hquiet : QuietStorage straddlingState := ⟨rfl, nofun⟩
  obtain ⟨hrerun, -⟩ := hfault straddlingState 0 straddlingCourse firstRowRun .crcExhausted 0 0 straddlingCommand
    straddlingCourse_runsAlone rfl rfl hquiet straddlingCourse_noPeers (by decide) (Or.inr straddlingCourse_wayClear)
  obtain ⟨t, x, hstep, hcourses, -⟩ := hrerun rfl
  obtain ⟨u, hends, hnone, -⟩ := straddlingCourse_ends
  obtain rfl : t = u := Host.Outcome.next.inj (hstep.symm.trans hends)
  exact absurd (hcourses.symm.trans hnone) (List.cons_ne_nil x [])

end

section
namespace Sys2Proof.Machine

/-! ### What an access leaves as it is

An access of an array moves copies, wakes storage and sends at host ports (R163, R220, R224); the bookkeeping of a run counts and
charges (R122, R138). Neither changes what follows. -/

/-- What neither an access nor bookkeeping changes: every other part of the state, with the keys of memory and its errors. -/
def besideAccess (s : State) : State :=
  { s with free := 0, out := [], stalled := [], ctrs := [], wraps := [], mem := { slots := s.mem.slots, flaws := s.mem.flaws },
           ports := [], coh := {}, hosts := [], sched := {}, accums := [], power := {} }

/-- `t` is `s` after accesses and bookkeeping: the parts beside them and the count of delivered results (0x4100:05) are the same. -/
structure Aside (s t : State) : Prop where
  beside : besideAccess t = besideAccess s
  results : ctr t 0x4100 5 = ctr s 0x4100 5

/-- An access that stores nothing: the bytes and the keys of their granules are the same too. -/
structure Reads (s t : State) : Prop extends Aside s t where
  bytes : t.mem.bytes = s.mem.bytes
  keyOf : t.mem.keyOf = s.mem.keyOf

/-- Bookkeeping: memory is the same. -/
structure Books (s t : State) : Prop extends Aside s t where
  mem : t.mem = s.mem

theorem Aside.refl (s : State) : Aside s s := ⟨rfl, rfl⟩
theorem Reads.refl (s : State) : Reads s s := ⟨.refl s, rfl, rfl⟩
theorem Books.refl (s : State) : Books s s := ⟨.refl s, rfl⟩

theorem Aside.trans {s t u : State} (h : Aside s t) (k : Aside t u) : Aside s u :=
  ⟨k.beside.trans h.beside, k.results.trans h.results⟩
theorem Reads.trans {s t u : State} (h : Reads s t) (k : Reads t u) : Reads s u :=
  ⟨h.toAside.trans k.toAside, k.bytes.trans h.bytes, k.keyOf.trans h.keyOf⟩
theorem Books.trans {s t u : State} (h : Books s t) (k : Books t u) : Books s u :=
  ⟨h.toAside.trans k.toAside, k.mem.trans h.mem⟩

theorem Books.toReads {s t : State} (h : Books s t) : Reads s t := ⟨h.toAside, by rw [h.mem], by rw [h.mem]⟩

theorem Aside.arrays {s t : State} (h : Aside s t) : t.arrays = s.arrays := (congrArg (fun x : State => x.arrays) h.beside :)
theorem Aside.queues {s t : State} (h : Aside s t) : t.queues = s.queues := (congrArg (fun x : State => x.queues) h.beside :)
theorem Aside.peers {s t : State} (h : Aside s t) : t.peers = s.peers := (congrArg (fun x : State => x.peers) h.beside :)
theorem Aside.acts {s t : State} (h : Aside s t) : t.acts = s.acts := (congrArg (fun x : State => x.acts) h.beside :)
theorem Aside.slots {s t : State} (h : Aside s t) : t.mem.slots = s.mem.slots := (congrArg (fun x : State => x.mem.slots) h.beside :)
theorem Aside.flaws {s t : State} (h : Aside s t) : t.mem.flaws = s.mem.flaws := (congrArg (fun x : State => x.mem.flaws) h.beside :)
theorem Aside.getArr {s t : State} (h : Aside s t) (a : Nat) : getArr t a = getArr s a := by unfold Machine.getArr; rw [h.arrays]
theorem Aside.getQueue {s t : State} (h : Aside s t) (q : Nat) : getQueue t q = getQueue s q := by unfold Machine.getQueue; rw [h.queues]

/-- A read changes nothing in which key a granule stands under. -/
theorem Reads.keyIs {s t : State} (h : Reads s t) (g k : Nat) : keyIs t g k = keyIs s g k := by
  unfold Machine.keyIs getSlot
  rw [h.keyOf, h.slots]

/-- Steps that store nothing, one after another, of a storage without errors. -/
theorem Reads.foldl {α : Type} {f : State → α → State} (hf : ∀ s x, s.mem.flaws = [] → Reads s (f s x)) (l : List α) {s : State}
    (hflaws : s.mem.flaws = []) : Reads s (l.foldl f s) := by
  induction l generalizing s with
  | nil => exact .refl s
  | cons x l ih =>
    have hx := hf s x hflaws
    exact hx.trans (ih (hx.flaws.trans hflaws))

theorem Books.ite {c : Prop} [Decidable c] {s t u : State} (ht : Books s t) (hu : Books s u) : Books s (if c then t else u) := by
  split
  · exact ht
  · exact hu

/-! ### Accesses -/

theorem books_countN {i j : Nat} (n : Nat) (s : State) (h : okey 0x4100 5 ≠ okey i j) : Books s (countN i j n s) where
  beside := rfl
  results := by rw [ctr_countN, if_neg h]
  mem := rfl

theorem books_count {i j : Nat} (s : State) (h : okey 0x4100 5 ≠ okey i j) : Books s (count i j s) := books_countN 1 s h

theorem books_portSend (p : Nat) (o : Out) (s : State) : Books s (portSend p o s) := by
  unfold portSend
  split <;> exact ⟨⟨rfl, rfl⟩, rfl⟩

theorem reads_touchSlice (k : Nat) (s : State) : Reads s (touchSlice k s) := ⟨⟨rfl, rfl⟩, rfl, rfl⟩

theorem reads_touchStack (g : Nat) (s : State) : Reads s (touchStack g s) := ⟨⟨rfl, rfl⟩, rfl, rfl⟩

theorem reads_touch (g : Nat) (s : State) : Reads s (touch g s) := by
  unfold touch
  split
  · exact reads_touchSlice _ s
  · split
    · exact reads_touchStack _ s
    · exact reads_touchSlice _ s
  · exact reads_touchStack _ s
  · split
    · exact .refl s
    · exact reads_touchSlice _ s
  · exact .refl s

/-- In a storage without errors a read finds none, -/
theorem meetFlaw_sound {s : State} (h : s.mem.flaws = []) (c : Option Nat) (op g : Nat) : meetFlaw c op g s = s := by
  unfold meetFlaw flawAt
  rw [h]
  rfl

/-- and a write finds none. -/
theorem meetWrite_sound {s : State} (h : s.mem.flaws = []) (c : Option Nat) (g : Nat) (full : Bool) : meetWrite c g full s = s := by
  unfold meetWrite flawAt
  rw [h]
  rfl

theorem reads_setNear (p g : Nat) (l : NearLine) (s : State) : Reads s (setNear p g l s) := by
  unfold setNear
  dsimp only
  split <;> exact ⟨⟨rfl, rfl⟩, rfl, rfl⟩

theorem reads_setDir (g : Nat) (e : DirEntry) (s : State) : Reads s (setDir g e s) := ⟨⟨rfl, rfl⟩, rfl, rfl⟩

theorem reads_dropCopies {s : State} (hflaws : s.mem.flaws = []) (g : Nat) : Reads s (dropCopies g s) := by
  unfold dropCopies
  dsimp only
  refine Reads.trans ?_ (reads_setDir g {} _)
  have hround : Reads s (if (getDir s g).st = .broadcast then count 0x3800 0x0B s else s) :=
    (Books.ite (books_count s (by decide)) (.refl s)).toReads
  refine hround.trans ?_
  refine Reads.foldl (fun st p _ => ?_) _ (hround.flaws.trans hflaws)
  split
  · exact reads_setNear p g {} st
  · exact ((books_portSend _ _ st).trans (books_count _ (by decide))).toReads

theorem reads_setLine (l : Nat) (d : Option DevLine) (s : State) : Reads s (setLine l d s) := ⟨⟨rfl, rfl⟩, rfl, rfl⟩

theorem reads_setShingle (g : Nat) (x : Shingle) (s : State) : Reads s (setShingle g x s) := by
  unfold setShingle
  have hthrough : Reads s (if x = .i then { s with coh.through := s.coh.through.filter (· ≠ g) } else s) := by
    split
    · exact ⟨⟨rfl, rfl⟩, rfl, rfl⟩
    · exact .refl s
  dsimp only
  split
  · exact hthrough.trans (reads_setLine _ _ _)
  · exact hthrough

theorem reads_d2h (g : Nat) (req : String) (data : Option Line) (mask : Word) (poison : Bool) (s : State) :
    Reads s (d2h g req data mask poison s) := by
  unfold d2h
  dsimp only
  refine Reads.trans ?_ (books_portSend _ _ _).toReads
  split <;> exact ⟨⟨rfl, rfl⟩, rfl, rfl⟩

theorem reads_releaseShingle (g : Nat) (s : State) : Reads s (releaseShingle g s) := by
  unfold releaseShingle
  split
  · exact (reads_d2h _ _ _ _ _ s).trans (reads_setShingle _ _ _)
  · exact (reads_d2h _ _ _ _ _ s).trans (reads_setShingle _ _ _)
  · exact (reads_d2h _ _ _ _ _ s).trans (reads_setShingle _ _ _)
  · exact reads_setShingle _ _ s

theorem reads_recallNear {s : State} (hflaws : s.mem.flaws = []) (g : Nat) : Reads s (recallNear g s) := by
  unfold recallNear
  dsimp only
  split
  · exact (reads_dropCopies hflaws g).trans (reads_setShingle _ _ _)
  · exact reads_dropCopies hflaws g

theorem reads_evictLine {s : State} (hflaws : s.mem.flaws = []) (l : Nat) : Reads s (evictLine l s) := by
  unfold evictLine
  dsimp only
  refine Reads.trans ?_ (reads_setLine l none _)
  split
  · exact Reads.foldl (fun st g h => (reads_recallNear h g).trans (reads_releaseShingle g _)) _ hflaws
  · split
    · exact reads_touchStack _ s
    · exact .refl s

theorem reads_stepWay (h i : Nat) (s : State) : Reads s (stepWay h i s).2 := ⟨⟨rfl, rfl⟩, rfl, rfl⟩

theorem reads_allocLine {s t : State} (hflaws : s.mem.flaws = []) {l keySlot : Nat} (h : allocLine l keySlot s = some t) : Reads s t := by
  unfold allocLine at h
  dsimp only at h
  split at h
  · cases h
  split at h
  · cases h; exact reads_setLine _ _ s
  have hway := reads_stepWay (homeOf s (4 * l)) 0 s
  split at h
  · cases h
  split at h
  · cases h
    exact hway.trans ((reads_evictLine (hway.flaws.trans hflaws) _).trans (reads_setLine _ _ _))
  · cases h
    exact hway.trans (reads_setLine _ _ _)

end Sys2Proof.Machine
end

section
namespace Sys2Proof.Machine

/-! ### The device cache's part in an access -/

theorem reads_unfresh (gs : List Nat) (s : State) : Reads s (unfresh gs s) := by
  unfold unfresh
  split
  · exact .refl s
  · exact ⟨⟨rfl, rfl⟩, rfl, rfl⟩

theorem Reads.ite {c : Prop} [Decidable c] {s t u : State} (ht : Reads s t) (hu : Reads s u) : Reads s (if c then t else u) := by
  split
  · exact ht
  · exact hu

/-- The device cache's part in an access to a stack granule stores nothing. -/
theorem reads_stackLine {s : State} (hflaws : s.mem.flaws = []) (g keySlot cache : Nat) (write full : Bool) :
    Reads s (stackLine g keySlot cache write full s) := by
  unfold stackLine
  extract_lets l s₁ fetch fill s₂ s₃
  have hevict : Reads s s₁ := by
    unfold s₁
    split
    · exact (reads_evictLine hflaws l).ite (.refl s)
    · exact .refl s
  have hfetch (st : State) : Reads st (fetch st) := (Reads.ite (.refl st) (reads_touchStack g st)).trans (reads_setShingle _ _ _)
  have hfill {st : State} (h : st.mem.flaws = []) : Reads st (fill st) := by
    refine Reads.ite ((hfetch st).trans (Reads.foldl (fun x k hx => ?_) _ ((hfetch st).flaws.trans h))) (hfetch st)
    rw [meetFlaw_sound hx]
    exact Reads.ite (.refl x) (reads_setShingle _ _ _)
  have hflaws₁ : s₁.mem.flaws = [] := hevict.flaws.trans hflaws
  have hline : Reads s₁ s₂ := by
    unfold s₂
    have hcount {j : Nat} (h : okey 0x4100 5 ≠ okey 0x3800 j) (st : State) : Reads st (count 0x3800 j st) := (books_count st h).toReads
    split
    · exact Reads.ite (Reads.ite (reads_touchStack g s₁) ((hcount (by decide) s₁).trans (hfetch _))) (hcount (by decide) s₁)
    · split
      · exact reads_touchStack g s₁
      · split
        next st hst =>
          have hst := reads_allocLine hflaws₁ hst
          have hmiss := hst.trans (hcount (by decide : okey 0x4100 5 ≠ okey 0x3800 6) st)
          exact hmiss.trans (hfill (hmiss.flaws.trans hflaws₁))
        next => exact reads_touchStack g s₁
  have hthrough : Reads s₂ s₃ := Reads.ite (reads_touchStack g s₂) (.refl s₂)
  exact hevict.trans (hline.trans (hthrough.trans ((Reads.ite (reads_setShingle _ _ _) (.refl s₃)).trans (reads_touch g _))))

/-! ### Bytes of a granule -/

@[simp] theorem length_toLe (n v : Nat) : (toLe n v).length = n := by
  induction n generalizing v with
  | zero => rfl
  | succ n ih => simp [toLe, ih]

/-- Byte `i` of a number written little-endian. -/
theorem getD_toLe {n i : Nat} (h : i < n) (v : Nat) : (toLe n v).getD i 0 = BitVec.ofNat 8 (v / 2 ^ (8 * i)) := by
  induction n generalizing v i with
  | zero => omega
  | succ n ih =>
    cases i with
    | zero => simp [toLe]
    | succ i =>
      rw [toLe, List.getD_cons_succ, ih (by omega), Nat.div_div_eq_div_mul, show 8 * (i + 1) = 8 + 8 * i by ring, pow_add,
        show (2 : Nat) ^ 8 = 256 from rfl]

/-- A number read from bytes gives them back. -/
theorem byte_ofLe (l : List Byte) (i : Nat) : BitVec.ofNat 8 (ofLe l / 2 ^ (8 * i)) = l.getD i 0 := by
  induction l generalizing i with
  | nil => simp [ofLe]
  | cons b l ih =>
    cases i with
    | zero =>
      apply BitVec.eq_of_toNat_eq
      have := b.isLt
      simp [ofLe]
      omega
    | succ i =>
      have hrest : ofLe (b :: l) / 2 ^ (8 * (i + 1)) = ofLe l / 2 ^ (8 * i) := by
        have := b.isLt
        rw [show 8 * (i + 1) = 8 + 8 * i by ring, pow_add, ← Nat.div_div_eq_div_mul, ofLe]
        congr 1
        omega
      rw [hrest, ih, List.getD_cons_succ]

theorem ofLe_lt (l : List Byte) : ofLe l < 2 ^ (8 * l.length) := by
  induction l with
  | nil => simp [ofLe]
  | cons b l ih =>
    have := b.isLt
    rw [List.length_cons, show 8 * (l.length + 1) = 8 + 8 * l.length by ring, pow_add, ofLe]
    omega

/-- Byte `i` of a granule read from bytes. -/
theorem lineByte_ofBytes {l : List Byte} (h : l.length ≤ 64) (i : Nat) : lineByte (ofBytes 512 l) i = l.getD i 0 := by
  have hlt : ofLe l < 2 ^ 512 := (ofLe_lt l).trans_le (by gcongr <;> omega)
  rw [lineByte, ofBytes, BitVec.toNat_ofNat, Nat.mod_eq_of_lt hlt, byte_ofLe]

/-- Byte `i` of a granule's stored data. -/
theorem lineByte_lineAt (s : State) (g : Nat) {i : Nat} (h : i < 64) : lineByte (lineAt s g) i = byteAt s (g * 64 + i) := by
  rw [lineAt, lineByte_ofBytes (by simp [bytesAt])]
  simp [bytesAt, h]

/-- Byte `i` of merged data. -/
theorem lineByte_mergeLine (old new : Line) (m : Word) {i : Nat} (h : i < 64) :
    lineByte (mergeLine old new m) i = if maskBit m i then lineByte new i else lineByte old i := by
  rw [mergeLine, lineByte_ofBytes (by simp)]
  simp [h]

theorem nbit_eq_testBit (v i : Nat) : nbit v i = v.testBit i := by
  rw [nbit, Nat.testBit_eq_decide_div_mod_eq]

/-- The mask of a run names the bytes of the run. -/
theorem maskBit_maskOf {o n i : Nat} (h : i < 64) : maskBit (maskOf o n) i = decide (o ≤ i ∧ i < o + n) := by
  rw [maskBit, maskOf, BitVec.toNat_ofNat, nbit_eq_testBit, Nat.testBit_mod_two_pow, Nat.testBit_mul_two_pow]
  by_cases ho : o ≤ i
  · simp [h, ho]
    omega
  · simp [ho]

/-- Byte `i` of a run put at byte `o` of a granule. -/
theorem lineByte_shifted {l : List Byte} {o i : Nat} (hfit : o + l.length ≤ 64) (ho : o ≤ i) :
    lineByte (BitVec.ofNat 512 (ofLe l * 2 ^ (8 * o))) i = l.getD (i - o) 0 := by
  have hlt : ofLe l * 2 ^ (8 * o) < 2 ^ 512 := calc
    _ < 2 ^ (8 * l.length) * 2 ^ (8 * o) := Nat.mul_lt_mul_of_pos_right (ofLe_lt l) (by positivity)
    _ = 2 ^ (8 * (o + l.length)) := by rw [← pow_add]; ring_nf
    _ ≤ 2 ^ 512 := Nat.pow_le_pow_right Nat.two_pos (show 8 * (o + l.length) ≤ 512 by omega)
  rw [lineByte, BitVec.toNat_ofNat, Nat.mod_eq_of_lt hlt, ← byte_ofLe, show 8 * i = 8 * o + 8 * (i - o) by omega, pow_add,
    ← Nat.div_div_eq_div_mul, Nat.mul_div_cancel _ (by positivity)]

/-! ### A write inside one granule of the stacks -/

/-- `t` is `s` with the bytes `bs` stored at `pa`, after accesses and bookkeeping. -/
structure Stores (pa : Nat) (bs : List Byte) (s t : State) : Prop extends Aside s t where
  stored : bytesAt t pa bs.length = bs
  others : ∀ b, b < pa ∨ pa + bs.length ≤ b → byteAt t b = byteAt s b

theorem Reads.byteAt {s t : State} (h : Reads s t) (b : Nat) : byteAt t b = byteAt s b := by
  unfold Machine.byteAt
  rw [h.bytes]

theorem Reads.stores {pa : Nat} {bs : List Byte} {s t u : State} (h : Reads s t) (k : Stores pa bs t u) : Stores pa bs s u :=
  ⟨h.toAside.trans k.toAside, k.stored, fun b hb => (k.others b hb).trans (h.byteAt b)⟩

theorem Stores.reads {pa : Nat} {bs : List Byte} {s t u : State} (h : Stores pa bs s t) (k : Reads t u) : Stores pa bs s u := by
  refine ⟨h.toAside.trans k.toAside, ?_, fun b hb => (k.byteAt b).trans (h.others b hb)⟩
  rw [← h.stored]
  simp only [bytesAt, k.byteAt, List.length_map, List.length_range]

/-- A run that ends in its first granule touches that one. -/
theorem granulesOf_single {pa n : Nat} (hn : 0 < n) (hfit : pa % 64 + n ≤ 64) : granulesOf pa n = [pa / 64] := by
  have hlast : (pa + n - 1) / 64 = pa / 64 := by omega
  rw [granulesOf, if_neg (by omega), hlast, Nat.sub_self]
  rfl

/-- A granule of the stacks written under its own key. -/
theorem byteAt_writeGranule_stacks {s : State} {c k g : Nat} (hg : target (g * 64) = .stacks) (hkey : keyIs s g k = true) (d : Line)
    (m : Word) (b : Nat) : byteAt (writeGranule c k g d m false s) b =
      if g * 64 ≤ b ∧ b < g * 64 + 64 ∧ maskBit m (b - g * 64) = true then lineByte d (b - g * 64) else byteAt s b := by
  have hbytes : (writeGranule c k g d m false s).mem.bytes = putBytes s.mem.bytes (g * 64) (bytesOf 64 (mergeLine (lineAt s g) d m)) := by
    rw [writeGranule, hg]
    simp only [hkey, if_true]
  unfold byteAt
  rw [hbytes]
  by_cases hb : g * 64 ≤ b ∧ b < g * 64 + 64
  · obtain ⟨i, rfl⟩ := Nat.exists_eq_add_of_le hb.1
    have hi : i < 64 := by omega
    rw [tget_putBytes_inside _ _ _ i (by simpa [bytesOf]), ← List.getD_eq_getElem (d := 0), bytesOf, getD_toLe hi]
    change lineByte _ i = _
    rw [lineByte_mergeLine _ _ _ hi, lineByte_lineAt s g hi, Nat.add_sub_cancel_left]
    simp [hi, byteAt]
  · rw [tget_putBytes_outside _ _ _ _ (by simp [bytesOf]; omega), if_neg (by tauto)]

theorem aside_writeGranule_stacks {s : State} {c k g : Nat} (hg : target (g * 64) = .stacks) (d : Line) (m : Word) :
    Aside s (writeGranule c k g d m false s) := by
  rw [writeGranule, hg]
  exact ⟨rfl, rfl⟩

/-- A run that lies in one granule of the stacks, written under the granule's own key. -/
theorem stores_writeRun {s : State} {c k pa : Nat} {bs : List Byte} (hflaws : s.mem.flaws = []) (hn : 0 < bs.length)
    (hfit : pa % 64 + bs.length ≤ 64) (hg : target (pa / 64 * 64) = .stacks) (hkey : keyIs s (pa / 64) k = true) :
    Stores pa bs s (writeRun c k pa bs false s) := by
  have htouch := reads_touch (pa / 64) s
  have hlo : max pa (pa / 64 * 64) = pa := by omega
  have hhi : min (pa + bs.length) (pa / 64 * 64 + 64) = pa + bs.length := by omega
  have hoff : pa - pa / 64 * 64 = pa % 64 := by omega
  rw [writeRun, granulesOf_single hn hfit]
  simp only [List.foldl_cons, List.foldl_nil, hlo, hhi, hoff, Nat.sub_self, List.drop_zero, Nat.add_sub_cancel_left, List.take_length,
    meetWrite_sound hflaws]
  refine htouch.stores ⟨aside_writeGranule_stacks hg _ _, List.ext_getElem (by simp [bytesAt]) fun i hi _ => ?_, fun b hb => ?_⟩
  · have hi : i < bs.length := by simpa [bytesAt] using hi
    simp only [bytesAt, List.getElem_map, List.getElem_range]
    rw [byteAt_writeGranule_stacks hg (htouch.keyIs _ _ ▸ hkey), maskBit_maskOf (by omega), if_pos (by simp; omega),
      lineByte_shifted hfit (by omega), ← List.getD_eq_getElem (d := 0)]
    congr 1
    omega
  · rw [byteAt_writeGranule_stacks hg (htouch.keyIs _ _ ▸ hkey)]
    refine if_neg fun h => ?_
    rw [maskBit_maskOf (by omega)] at h
    simp at h
    omega

/-- The home's part in such a write: every copy leaves and the device cache takes it. -/
theorem stores_homeWrite {s : State} {c k pa cache : Nat} {bs : List Byte} (hflaws : s.mem.flaws = []) (hn : 0 < bs.length)
    (hfit : pa % 64 + bs.length ≤ 64) (hpa : target pa = .stacks) (hg : target (pa / 64 * 64) = .stacks)
    (hkey : keyIs s (pa / 64) k = true) : Stores pa bs s (homeWrite c k pa bs false cache s) := by
  unfold homeWrite
  simp only [granulesOf_single hn hfit, List.foldl_cons, List.foldl_nil, hpa, if_true, meetWrite_sound hflaws, reduceCtorEq, if_false]
  have hdrop := reads_dropCopies hflaws (pa / 64)
  have hbefore := hdrop.trans (reads_stackLine (hdrop.flaws.trans hflaws) (pa / 64) k cache true
    (decide (pa ≤ pa / 64 * 64) && decide (pa / 64 * 64 + 64 ≤ pa + bs.length)))
  exact (hbefore.stores (stores_writeRun (hbefore.flaws.trans hflaws) hn hfit hg (by rw [hbefore.keyIs, hkey]))).reads (reads_unfresh _ _)

end Sys2Proof.Machine
end

section
namespace Sys2Proof.Machine

/-! ### Bookkeeping -/

theorem books_chargeInd (c : Nat) (w : Work) (s : State) : Books s (chargeInd c w s) := ⟨⟨rfl, rfl⟩, rfl⟩

theorem books_chargeSquash (c outs : Nat) (w : Work) (s : State) : Books s (chargeSquash c outs w s) := ⟨⟨rfl, rfl⟩, rfl⟩

theorem books_countEnded (c outs : Nat) (s : State) : Books s (countEnded c outs s) :=
  Books.ite (.refl s) ((books_chargeSquash c outs noWork s).trans (books_countN _ _ (by decide)))

theorem books_countRun (r : RunLog) (s : State) : Books s (countRun r s) := by
  unfold countRun
  extract_lets s₁ s₂
  have hidle : Books s s₁ := Books.ite (.refl s) (books_countN _ s (by decide))
  have hstalls : Books s₁ s₂ := Books.ite (.refl s₁) (books_countN _ s₁ (by decide))
  exact hidle.trans (hstalls.trans (Books.ite (books_count s₂ (by decide)) (.refl s₂)))

theorem books_countControls (clamps loose : Nat) (c : Course) (s : State) : Books s (countControls clamps loose c s) := by
  unfold countControls
  extract_lets s₁ s₂
  have hclamps : Books s s₁ := Books.ite (.refl s) (books_countN _ s (by decide))
  have hstrict : Books s₁ s₂ := Books.ite (books_count s₁ (by decide)) (.refl s₁)
  exact hclamps.trans (hstrict.trans (Books.ite (.refl s₂) (books_countN _ s₂ (by decide))))

/-- The rows that an array has presented are not the delivered results. -/
theorem books_countRows (a n : Nat) (s : State) : Books s (countN (0x4101 + a) 5 n s) :=
  books_countN n s (by unfold okey; omega)

theorem books_countOutputs (a : Nat) (ext : Ext) (c : Course) (base : State) (ms : List Nat) (lo hi runs : Nat) (s : State) :
    Books s (countOutputs a ext c base ms lo hi runs s) :=
  (books_countN _ s (by decide)).trans (books_countRows a _ _)

theorem books_foldDigest (c tensor : Nat) (d : BitVec 64) (s : State) : Books s (foldDigest c tensor d s) := by
  unfold foldDigest
  refine Books.ite (Books.trans ?_ (books_count _ (by decide))) (books_count s (by decide))
  exact ⟨⟨rfl, rfl⟩, rfl⟩

/-! ### A course that ends -/

@[simp] theorem getArr_modArr (a : Nat) (f : ArrayU → ArrayU) (s : State) : getArr (modArr a f s) a = f (getArr s a) := by
  unfold getArr modArr
  rw [tget_tmod, if_pos rfl]

/-- With no peer request out there is nothing to drop. -/
theorem dropLanded_of_noPeers {s : State} (h : s.peers = []) (w : Waiter) : dropLanded w s = s := by
  cases s
  simp_all [dropLanded]

/-- What the array holds once a course has left it. -/
theorem getArr_leaveArray (a : Nat) (c : Course) (s : State) : getArr (leaveArray a c s) a =
    { getArr s a with
      run := if (getArr s a).run = some c.id then none else (getArr s a).run
      ask := if (getArr s a).run = some c.id then false else (getArr s a).ask
      store := if ((getArr s a).run = some c.id || isSaved c) && ownStore (getArr s a).store c && !(getArr s a).store.chain then {}
        else (getArr s a).store } := by
  have hrows : getArr (if (getArr s a).run = some c.id then rowsIssued a s else s) a = getArr s a := by split <;> rfl
  unfold leaveArray
  rw [getArr_modArr, hrows]

theorem leaveArray_besideArray (a : Nat) (c : Course) (s : State) :
    (leaveArray a c s).mem = s.mem ∧ (leaveArray a c s).acts = s.acts ∧ (leaveArray a c s).peers = s.peers ∧
    (leaveArray a c s).queues = s.queues ∧ (leaveArray a c s).ctrs = s.ctrs := by
  unfold leaveArray
  split <;> exact ⟨rfl, rfl, rfl, rfl, rfl⟩

/-- Course `c` of command `idx` of queue `q` is the one course of array `a`, and the command is the one command of its queue. -/
structure OnlyCourse (a : Nat) (c : Course) (q idx : Nat) (k : Cmd) (s : State) : Prop where
  courses : ∀ d ∈ (getArr s a).courses, d.id = c.id
  run : (getArr s a).run = some c.id ∨ (getArr s a).run = none
  src : c.src = .queue q idx
  cmds : (getQueue s q).cmds = [k]
  idx : k.idx = idx
  fin : k.fin = none
  noSignal : cdSignal c.raw = false
  noPeers : s.peers = []

/-- What a course's end counts (Table 2.15, Table 4.11). -/
def countEnd (st : Status) (s : State) : State :=
  let s := count 0x4100 5 s
  let s := if st = .malformed || st = .boundFault then count 0x4100 6 s else s
  if st = .inexact then count 0x4000 6 s else s

theorem besideAccess_countEnd (st : Status) (s : State) : besideAccess (countEnd st s) = besideAccess s := by
  unfold countEnd
  dsimp only
  split <;> split <;> rfl

theorem mem_countEnd (st : Status) (s : State) : (countEnd st s).mem = s.mem := by
  unfold countEnd
  dsimp only
  split <;> split <;> rfl

theorem results_countEnd (st : Status) (s : State) : ctr (countEnd st s) 0x4100 5 = ctr s 0x4100 5 + 1 := by
  unfold countEnd
  dsimp only
  split <;> split <;> simp [ctr_count, okey]

/-- The end of a course whose issuer is a queue command, without signal and without peers. -/
theorem endCourse_eq {a : Nat} {c : Course} {q idx : Nat} {k : Cmd} {s : State} (h : OnlyCourse a c q idx k s) (unit : Nat) (st : Status)
    (obs : Int) : endCourse a unit c st obs s = tellIssuer c st (courseResult c unit st obs)
      (modArr a (fun x => { x with courses := x.courses.filter fun d => d.id ≠ c.id }) (leaveArray a c (countEnd st s))) := by
  have hbeside := besideAccess_countEnd st s
  have hpeers : (countEnd st s).peers = [] := (congrArg (fun x : State => x.peers) hbeside :).trans h.noPeers
  unfold endCourse
  rw [h.noSignal]
  simp only [Bool.false_eq_true, if_false]
  rw [dropLanded_of_noPeers]
  · rfl
  · exact (leaveArray_besideArray a c _).2.2.1.trans hpeers

section
variable {a : Nat} {c : Course} {q idx : Nat} {k : Cmd} {s : State} (h : OnlyCourse a c q idx k s) (unit : Nat) (st : Status) (obs : Int)
include h

theorem endCourse_mem : (endCourse a unit c st obs s).mem = s.mem := by
  rw [endCourse_eq h, tellIssuer, h.src]
  change (leaveArray a c (countEnd st s)).mem = s.mem
  rw [(leaveArray_besideArray a c _).1, mem_countEnd]

theorem endCourse_acts : (endCourse a unit c st obs s).acts = s.acts := by
  rw [endCourse_eq h, tellIssuer, h.src]
  change (leaveArray a c (countEnd st s)).acts = s.acts
  rw [(leaveArray_besideArray a c _).2.1]
  exact (congrArg (fun x : State => x.acts) (besideAccess_countEnd st s) :)

/-- The array that a course leaves, but for the courses. -/
theorem getArr_endCourse : getArr (endCourse a unit c st obs s) a =
    { getArr (leaveArray a c s) a with courses := (getArr s a).courses.filter fun d => d.id ≠ c.id } := by
  have harr : getArr (countEnd st s) a = getArr s a := by
    have harrays : (countEnd st s).arrays = s.arrays := (congrArg (fun x : State => x.arrays) (besideAccess_countEnd st s) :)
    unfold getArr
    rw [harrays]
  rw [endCourse_eq h, tellIssuer, h.src]
  change getArr (modArr a _ _) a = _
  rw [getArr_modArr, getArr_leaveArray, getArr_leaveArray, harr]

theorem endCourse_ended : CourseEnded a unit c q st obs s (endCourse a unit c st obs s) := by
  have harr := getArr_endCourse h unit st obs
  have hqueue : getQueue (countEnd st s) q = getQueue s q := by
    have hqueues : (countEnd st s).queues = s.queues := (congrArg (fun x : State => x.queues) (besideAccess_countEnd st s) :)
    unfold getQueue
    rw [hqueues]
  refine ⟨?_, ?_, ?_, { k with fin := some st, detail := courseResult c unit st obs, reissued := c.reissued }, ?_, rfl, rfl⟩
  · rw [harr]
    exact List.filter_eq_nil_iff.2 fun d hd => by simpa using h.courses d hd
  · rw [harr, getArr_leaveArray]
    rcases h.run with hrun | hrun <;> simp [hrun]
  · rw [endCourse_eq h, tellIssuer, h.src, ← results_countEnd st s]
    unfold ctr
    change tget 0 (leaveArray a c (countEnd st s)).ctrs _ = _
    rw [(leaveArray_besideArray a c _).2.2.2.2]
  · have hleft : getQueue (leaveArray a c (countEnd st s)) q = getQueue s q := by
      rw [← hqueue]
      unfold getQueue
      rw [(leaveArray_besideArray a c _).2.2.2.1]
    rw [endCourse_eq h, tellIssuer, h.src]
    dsimp only
    rw [getQueue_modQueue, if_pos rfl]
    change (getQueue (leaveArray a c (countEnd st s)) q).cmds.map _ = _
    simp [hleft, h.cmds, h.idx, h.fin]

/-- A course's end keeps an open chain in its array's store. -/
theorem endCourse_store (hchain : (getArr s a).store.chain = true) : (getArr (endCourse a unit c st obs s) a).store = (getArr s a).store := by
  rw [getArr_endCourse h, getArr_leaveArray]
  simp [hchain]

end

end Sys2Proof.Machine
end

section
namespace Sys2Proof.Machine

/-! ### A course that has nothing against its completion -/

/-- Course `c` can complete with the run `r`: it runs alone, its way is clear, its inputs are in reach and sound, and it continues no
chain. -/
structure Completing (a : Nat) (c : Course) (q idx : Nat) (k : Cmd) (r : RunLog) (s : State) : Prop where
  alone : RunsAlone a c q idx k s
  stage : c.stage = .running
  unblocked : c.blocked = false
  blocksHere : blocksOut s a = false
  way : WayClear s (runReads s a c) (courseWrites s c)
  inputs : hostInputsDead s c = false
  verdict : footVerdict s c.ctx c.foot = .ok
  free : outputsFree s (viewExt s a c r.ext) a c = false
  sound : ∀ va, footPoison s c.ctx c.foot va = false
  notImage : cdFromImage c.raw = false
  noMap : cdSeqMode c.raw = 0
  opens : continues c = false

theorem runningCourse_of_runsAlone {a : Nat} {c : Course} {q idx : Nat} {k : Cmd} {s : State} (h : RunsAlone a c q idx k s) :
    runningCourse s a = some c := by
  obtain ⟨-, hcourses, hrun, -⟩ := h
  simp [Machine.runningCourse, hrun, findCourse, hcourses]

theorem noPeers_of_runsAlone {a : Nat} {c : Course} {q idx : Nat} {k : Cmd} {s : State} (h : RunsAlone a c q idx k s) : s.peers = [] := by
  obtain ⟨-, -, -, -, -, -, -, -, -, -, hpeers, -⟩ := h
  exact hpeers

theorem onlyCourse_of_runsAlone {a : Nat} {c : Course} {q idx : Nat} {k : Cmd} {s : State} (h : RunsAlone a c q idx k s) :
    OnlyCourse a c q idx k s := by
  obtain ⟨-, hcourses, hrun, hsrc, hcmds, hidx, hfin, -, -, hsignal, hpeers, -⟩ := h
  exact ⟨by simp [hcourses], .inl hrun, hsrc, hcmds, hidx, hfin, hsignal, hpeers⟩

/-- Where the way is clear an access is made at once. -/
theorem bulkReady_of_wayClear {s : State} {reads writes : List Extent} (h : WayClear s reads writes) (c : Nat) :
    bulkReady c reads writes s = (true, s) := by
  have hnone : (bulkGranules true writes ++ bulkGranules false reads).filter (bulkWaits s) = [] :=
    List.filter_eq_nil_iff.2 fun b hb => by simp [h b hb]
  simp [bulkReady, accessReady, hnone]

section
variable {a : Nat} {c : Course} {q idx : Nat} {k : Cmd} {r : RunLog} {s : State} (h : Completing a c q idx k r s)
include h

theorem Completing.noRows : c.bound = [] ∧ c.rowSeq = [] := by
  obtain ⟨-, -, -, -, -, -, -, -, -, -, -, hbound, hseq⟩ := h.alone
  exact ⟨hbound, hseq⟩

/-- No row of the course serves a sequence. -/
theorem Completing.rowVerdict (m : Nat) : rowVerdict c m = 1 := by
  simp [Machine.rowVerdict, h.noRows.2]

theorem Completing.chainLive : chainLive s a c = List.range (outShape c.raw c.opS c.opT).1 := by
  simp [Machine.chainLive, liveRows, h.rowVerdict, chainDead, h.opens]

theorem Completing.consumed (va : Nat) : consumed s a c va = false := by
  simp [Machine.consumed, h.sound, landedBad, noPeers_of_runsAlone h.alone]

theorem Completing.outPoison (m n : Nat) : outPoison s a c m n = false := by
  simp [Machine.outPoison, h.consumed, imagePoison, h.notImage]

theorem Completing.mapPoison (m : Nat) : mapPoison s c m = false := by
  simp [Machine.mapPoison, h.noMap]

theorem Completing.chainPoison (m : Nat) : chainPoison s a c m = false := by
  simp [Machine.chainPoison, h.opens]

theorem Completing.rowBad (lo hi m : Nat) : rowBad s a c lo hi m = false := by
  simp [Machine.rowBad, h.outPoison, h.mapPoison]

/-- No row of the course consumes poison. -/
theorem Completing.firstPoison (ms : List Nat) : firstPoison s a c ms = none := by
  unfold Machine.firstPoison
  dsimp only
  split
  · simp [h.consumed, h.rowBad]
  · split <;> simp [h.mapPoison, h.chainPoison, h.outPoison, rowPoison, h.rowBad]

theorem Completing.runVerdict : runVerdict s a (viewExt s a c r.ext) c = .ok := by
  simp [Machine.runVerdict, h.inputs, h.verdict, imagesAgree, h.notImage, worst]

theorem Completing.notJournaled : journaledCmd s c = none ∧ inPlaceCmd s c = none := by
  obtain ⟨-, -, -, hsrc, -, -, -, -, hcfg, -⟩ := h.alone
  simp [journaledCmd, inPlaceCmd, hsrc, hcfg]

/-- Nothing holds the completion up. -/
theorem Completing.goes : (peerWaits s (.array a c.id) || decide (c.stage ≠ .running) || c.blocked || blocksOut s a ||
    c.bound.any fun b => b.2.2 = 0) = false := by
  simp [peerWaits, noPeers_of_runsAlone h.alone, h.stage, h.noRows.1, h.unblocked, h.blocksHere]

end

/-- Completion awaits every verdict. -/
theorem completeCourse_pending {a : Nat} {c : Course} {s : State} (r : RunLog) (hrun : runningCourse s a = some c)
    (hpending : ∃ b ∈ c.bound, b.2.2 = 0) : completeCourse a r s = s := by
  have hany : c.bound.any (fun b => b.2.2 = 0) = true := by simpa using hpending
  simp [completeCourse, hrun, hany]

/-- A course that ends takes its cost with it. -/
def spent (c : Course) : Course := { c with work := noWork }

/-! ### The held set as the course that ends used it -/

/-- A kept held set that agrees with memory still does once it is extended from memory. -/
theorem extended_agrees {l bs : List Byte} (h : (l.zip bs).any (fun p => p.1 ≠ p.2) = false) :
    ((l ++ bs.drop l.length).zip bs).any (fun p => p.1 ≠ p.2) = false := by
  induction l generalizing bs with
  | nil =>
    refine List.any_eq_false.2 fun p hp => ?_
    rw [List.nil_append, List.length_nil, List.drop_zero, List.zip_eq_zipWith, List.zipWith_self] at hp
    obtain ⟨b, -, rfl⟩ := List.mem_map.1 hp
    simp
  | cons b l ih =>
    cases bs with
    | nil => simp
    | cons d bs =>
      simp only [List.zip_cons_cons, List.any_cons, Bool.or_eq_false_iff, List.cons_append, List.length_cons, List.drop_succ_cons] at h ⊢
      exact ⟨h.1, ih h.2⟩

theorem outputsFree_noteHeld {s : State} {a : Nat} {ext : Ext} {c : Course} (h : outputsFree s ext a c = false) :
    outputsFree (noteHeld a ext c s) ext a c = false := by
  have hbytes : heldBytes (noteHeld a ext c s) ext c = heldBytes s ext c := rfl
  unfold outputsFree heldStale at h ⊢
  rw [hbytes]
  unfold noteHeld
  rw [getArr_modArr]
  cases hset : (getArr s a).heldSet with
  | none => simpa [hset] using h
  | some x =>
    cases hkept : c.heldKept with
    | false => simpa [hkept] using h
    | true =>
      rw [hset, hkept] at h
      simp only [Bool.true_and, Bool.or_eq_false_iff, Option.map_some] at h ⊢
      exact ⟨h.1, extended_agrees h.2⟩

end Sys2Proof.Machine
end

section
namespace Sys2Proof.Machine

/-! ### Outputs outside the journal, and the course around them -/

theorem stagedWhole_of_notJournaled {s : State} {c : Course} (h : journaledCmd s c = none) : stagedWhole c s = s := by
  simp [stagedWhole, h]

/-- A course is journaled by its queue's configuration. -/
theorem journaledCmd_congr {s t : State} (h : t.queues = s.queues) (c : Course) : journaledCmd t c = journaledCmd s c := by
  have hqueue (q : Nat) : getQueue t q = getQueue s q := by rw [getQueue, h, getQueue]
  simp only [journaledCmd, hqueue]

theorem Aside.journaledCmd {s t : State} (h : Aside s t) (c : Course) : journaledCmd t c = journaledCmd s c :=
  journaledCmd_congr h.queues c

/-- The outputs of a course outside the journal go to memory through its footprint. -/
theorem writeOut_stacks {s : State} {c : Course} {x : Extent} {va : Nat} (hjournal : journaledCmd s c = none)
    (hext : extentOf c.foot va = some x) (hpa : target (x.pa + (va - x.va)) = .stacks) (a id : Nat) (bs : List Byte) :
    writeOut (.array a id) c va bs false s = homeWrite c.ctx x.keySlot (x.pa + (va - x.va)) bs false x.cache s := by
  simp only [writeOut, hjournal, writeFoot, hext, hpa]

theorem stores_writeOut {s : State} {c : Course} {x : Extent} {va : Nat} (hjournal : journaledCmd s c = none)
    (hext : extentOf c.foot va = some x) (hpa : target (x.pa + (va - x.va)) = .stacks) {bs : List Byte} (hflaws : s.mem.flaws = [])
    (hn : 0 < bs.length) (hfit : (x.pa + (va - x.va)) % 64 + bs.length ≤ 64) (hg : target ((x.pa + (va - x.va)) / 64 * 64) = .stacks)
    (hkey : keyIs s ((x.pa + (va - x.va)) / 64) x.keySlot = true) (a id : Nat) :
    Stores (x.pa + (va - x.va)) bs s (writeOut (.array a id) c va bs false s) := by
  rw [writeOut_stacks hjournal hext hpa]
  exact stores_homeWrite hflaws hn hfit hpa hg hkey

theorem Stores.bytes {pa : Nat} {bs : List Byte} {s t u : State} (h : Stores pa bs s t) (hmem : u.mem = t.mem) :
    bytesAt u pa bs.length = bs ∧ ∀ b, b < pa ∨ pa + bs.length ≤ b → byteAt u b = byteAt s b := by
  have hbyte (b : Nat) : byteAt u b = byteAt t b := by
    unfold byteAt
    rw [hmem]
  refine ⟨?_, fun b hb => (hbyte b).trans (h.others b hb)⟩
  rw [← h.stored]
  simp only [bytesAt, hbyte, List.length_map, List.length_range]

theorem OnlyCourse.congr {a : Nat} {c : Course} {q idx : Nat} {k : Cmd} {s t : State} (h : OnlyCourse a c q idx k s)
    (hcourses : (getArr t a).courses = (getArr s a).courses) (hrun : (getArr t a).run = (getArr s a).run) (hqueues : t.queues = s.queues)
    (hpeers : t.peers = s.peers) : OnlyCourse a c q idx k t where
  courses := hcourses ▸ h.courses
  run := hrun ▸ h.run
  src := h.src
  cmds := by unfold getQueue; rw [hqueues]; exact h.cmds
  idx := h.idx
  fin := h.fin
  noSignal := h.noSignal
  noPeers := hpeers.trans h.noPeers

theorem OnlyCourse.aside {a : Nat} {c : Course} {q idx : Nat} {k : Cmd} {s t : State} (h : OnlyCourse a c q idx k s) (hst : Aside s t) :
    OnlyCourse a c q idx k t := h.congr (by rw [hst.getArr]) (by rw [hst.getArr]) hst.queues hst.peers

theorem OnlyCourse.noteHeld {a : Nat} {c : Course} {q idx : Nat} {k : Cmd} {s : State} (h : OnlyCourse a c q idx k s) (ext : Ext) :
    OnlyCourse a c q idx k (noteHeld a ext c s) :=
  h.congr (by rw [Machine.noteHeld, getArr_modArr]) (by rw [Machine.noteHeld, getArr_modArr]) rfl rfl

/-- The cost of a course does not show in how it ends. -/
theorem OnlyCourse.spent {a : Nat} {c : Course} {q idx : Nat} {k : Cmd} {s : State} (h : OnlyCourse a c q idx k s) :
    OnlyCourse a (spent c) q idx k s := ⟨h.courses, h.run, h.src, h.cmds, h.idx, h.fin, h.noSignal, h.noPeers⟩

/-- The completion of a course on an array that runs. -/
theorem exec_courseComplete {s : State} {a : ArrayId} (h : ArrayRuns a s) (r : RunLog) :
    exec (.courseComplete a r) s = done (completeCourse a r s) := by
  obtain ⟨hfab, -, hstopped⟩ := h
  change done (onArr a.val (completeCourse a.val r) s) = _
  simp [onArr, onFab, hfab, hstopped]

theorem courseEnded_of_results {a unit : Nat} {c : Course} {q : Nat} {st : Status} {obs : Int} {s u t : State}
    (h : CourseEnded a unit c q st obs u t) (hresults : ctr u 0x4100 5 = ctr s 0x4100 5) : CourseEnded a unit c q st obs s t := by
  obtain ⟨hcourses, hrun, hcount, hcmd⟩ := h
  exact ⟨hcourses, hrun, hresults ▸ hcount, hcmd⟩

/-- The record of a ridge scan: the old one, with every element folded in (R103). -/
def scanRecord (s : State) (ext : Ext) (c : Course) : Nat :=
  ((List.range (cdRows c.raw)).flatMap fun m => (List.range (odCols c.opS)).map fun n =>
    elemVal (footByte s ext c.ctx c.foot) c.opS (!(odOrient c.opS)) m n).foldl foldRidge
      (ofLe (footBytes s [] c.ctx c.foot (odRecord c.opO) 8))

section
variable {a : Nat} {c : Course} {q idx : Nat} {k : Cmd} {r : RunLog} {s : State} (h : Completing a c q idx k r s)
include h

/-- A scan stores its record, and then its books are kept. -/
theorem completeCourse_scan (hop : cdOp c.raw = 2) {pa : Nat}
    (hstore : let s' := noteHeld a (viewExt s a c r.ext) c s
      let bs := toLe 8 (scanRecord s (viewExt s a c r.ext) c)
      Stores pa bs s' (writeOut (.array a c.id) (spent c) (odRecord c.opO) bs false s')) :
    ∃ u, Stores pa (toLe 8 (scanRecord s (viewExt s a c r.ext) c)) (noteHeld a (viewExt s a c r.ext) c s) u ∧
      completeCourse a r s = endCourse a (0x4000 + a) (spent c) .ok (-512) u := by
  obtain ⟨hjournal, hinPlace⟩ := h.notJournaled
  have hbooks (w : Work) (u : State) : Books u (chargeInd c.ctx w (countN (0x4101 + a) 5 (cdRows c.raw)
      (countRun r (countControls c.clamps 0 (spent c) u)))) :=
    (books_countControls _ _ _ _).trans ((books_countRun r _).trans ((books_countRows a _ _).trans (books_chargeInd _ _ _)))
  simp only [completeCourse, runningCourse_of_runsAlone h.alone, h.goes, Bool.false_eq_true, if_false, bulkReady_of_wayClear h.way,
    Bool.not_true, h.firstPoison, h.runVerdict, ne_self_iff_false, keepOutside, hinPlace, outputsFree_noteHeld h.free, hop, if_true]
  have hends := hstore.reads (hbooks (addWork (addWork r.work c.work) (segWork c.foot (courseSegs c.raw c.opS c.opT c.opO))) _).toReads
  rw [stagedWhole_of_notJournaled]
  · exact ⟨_, hends, rfl⟩
  · exact (hends.journaledCmd (spent c)).trans hjournal

/-- The clause of a ridge scan. -/
theorem scan_ends (hop : cdOp c.raw = 2) {x : Extent} {pa : Nat} (hflaws : s.mem.flaws = []) (hext : extentOf c.foot (odRecord c.opO) = some x)
    (hpa : pa = x.pa + (odRecord c.opO - x.va)) (halign : pa % 8 = 0) (hkey : keyIs s (pa / 64) x.keySlot = true)
    (hg : target (pa / 64 * 64) = .stacks) (hstack : target pa = .stacks) :
    ∃ t, completeCourse a r s = t ∧ t.acts = [] ∧ CourseEnded a (0x4000 + a) c q .ok (-512) s t ∧
      bytesAt t pa 8 = toLe 8 (scanRecord s (viewExt s a c r.ext) c) ∧ ∀ b, b < pa ∨ pa + 8 ≤ b → byteAt t b = byteAt s b := by
  subst hpa
  have hlen := length_toLe 8 (scanRecord s (viewExt s a c r.ext) c)
  have hstore := stores_writeOut (s := noteHeld a (viewExt s a c r.ext) c s) (c := spent c) h.notJournaled.1 hext hstack hflaws
    (hlen.symm ▸ (by decide : 0 < 8)) (by omega) hg hkey a c.id
  obtain ⟨u, hu, hcomplete⟩ := completeCourse_scan h hop hstore
  have honly := (((onlyCourse_of_runsAlone h.alone).noteHeld _).aside hu.toAside).spent
  obtain ⟨⟨-, hacts, -⟩, -⟩ := h.alone
  refine ⟨_, hcomplete, ?_, courseEnded_of_results (endCourse_ended honly (0x4000 + a) .ok (-512)) hu.results, ?_⟩
  · rw [endCourse_acts honly, hu.acts]
    exact hacts
  · have hbytes := hu.bytes (endCourse_mem honly (0x4000 + a) .ok (-512))
    rw [hlen] at hbytes
    exact hbytes

end
end Sys2Proof.Machine
end

section
namespace Sys2Proof.Machine

/-! ### The sums of a forwarding course -/

/-- What a fold stores at distinct keys reads back. -/
theorem tget_foldl_tset {α β : Type} [DecidableEq β] (d : β) (key : α → Nat) (val : α → β) (l : List α) (t : Table β) {x : α}
    (hx : x ∈ l) (hkey : ∀ y ∈ l, key y = key x → y = x) : tget d (l.foldl (fun t y => tset d t (key y) (val y)) t) (key x) = val x := by
  induction l using List.reverseRecOn with
  | nil => simp at hx
  | append_singleton l y ih =>
    rw [List.foldl_append, List.foldl_cons, List.foldl_nil, tget_tset]
    split
    next heq => rw [hkey y (by simp) heq.symm]
    next hne =>
      have hmem : x ∈ l := by
        rcases List.mem_append.1 hx with hmem | hlast
        · exact hmem
        · rw [List.mem_singleton] at hlast
          exact absurd (congrArg key hlast) hne
      exact ih hmem fun z hz => hkey z (List.mem_append_left _ hz)

/-- Store indices of two outputs differ, as far as the store reaches (R72). -/
theorem storeIndex_inj {d : BitVec 1024} {rows cols m n m' n' : Nat} (hfits : if cdFlat d then rows ≤ 16 else cols ≤ 128)
    (hm : m < rows) (hn : n < cols) (hm' : m' < rows) (hn' : n' < cols) (heq : storeIndex d m n = storeIndex d m' n') : m = m' ∧ n = n' := by
  unfold storeIndex at heq
  split at hfits
  next hflat => simp only [hflat, if_true] at heq; omega
  next hflat => simp only [hflat, Bool.false_eq_true, if_false] at heq; omega

/-- The entries of a store that an opening course fills. -/
theorem tget_storeFill {d : BitVec 1024} {rows cols : Nat} (hfits : if cdFlat d then rows ≤ 16 else cols ≤ 128) (g : Nat → Nat → Gutter)
    {m n : Nat} (hm : m < rows) (hn : n < cols) :
    tget none ((List.range rows).foldl (fun t m => (List.range cols).foldl (fun t n => tset none t (storeIndex d m n) (some (g m n))) t) [])
      (storeIndex d m n) = some (g m n) := by
  let places : List (Nat × Nat) := (List.range rows).flatMap fun m => (List.range cols).map (m, ·)
  have hplaces (p : Nat × Nat) : p ∈ places ↔ p.1 < rows ∧ p.2 < cols := by
    obtain ⟨i, j⟩ := p
    simp [places]
  have hfold := tget_foldl_tset none (fun p : Nat × Nat => storeIndex d p.1 p.2) (fun p => some (g p.1 p.2)) places []
    ((hplaces (m, n)).2 ⟨hm, hn⟩) fun p hp heq => by
      obtain ⟨hp₁, hp₂⟩ := (hplaces p).1 hp
      exact Prod.ext_iff.2 (storeIndex_inj hfits hp₁ hp₂ hm hn heq)
  simpa only [places, List.foldl_flatMap, List.foldl_map] using hfold

/-- The gutter of an output of a course that starts from zero. -/
theorem outGutter_fromZero {s : State} {ext : Ext} {a : Nat} {c : Course} (hacc : cdAccumulate c.raw = false) (hintake : c.intake = 0)
    (m n : Nat) : outGutter s ext a c m n =
      courseGutter (footByte s ext c.ctx c.foot) c.raw c.opS c.opT c.ridge {} 0 (kUsed c.raw c.opT) m n := by
  have hlanes : lanesDone c n = 0 := by simp [lanesDone, hintake]
  simp [outGutter, gutterTo, hlanes, startGutter, gutterFrom, hacc]

/-- The store after a course that opens a chain: its gutters, its description, and the course itself as the first member. -/
theorem keepSums_store {a : Nat} {ext : Ext} {w : Work} {c : Course} {s : State} (hopens : continues c = false)
    (hfree : outputsFree s ext a c = false) : ∃ st, getArr (keepSums a ext w c s) a = { getArr s a with store := st } ∧
      st.ctx = some c.ctx ∧ st.chain = true ∧ st.ridge = c.ridge ∧ st.home = c.home ∧ st.members = [c] ∧
      st.entries = (List.range (outShape c.raw c.opS c.opT).1).foldl (fun t m => (List.range (outShape c.raw c.opS c.opT).2).foldl (fun t n =>
        tset none t (storeIndex c.raw m n) (some (outGutter s ext a c m n))) t) [] := by
  have hcharge (u : State) (b : Bool) : getArr (if b then chargeSquash c.ctx 0 (getArr s a).store.work u else u) a = getArr u a := by
    split <;> rfl
  unfold keepSums
  simp only [hopens, hfree, Bool.not_false, Bool.false_eq_true, if_false, if_true, List.nil_append, getArr_modArr, hcharge]
  exact ⟨_, rfl, rfl, rfl, rfl, rfl, rfl, rfl⟩

theorem keepSums_besideArray (a : Nat) (ext : Ext) (w : Work) (c : Course) (s : State) :
    (keepSums a ext w c s).mem = s.mem ∧ (keepSums a ext w c s).acts = s.acts ∧ (keepSums a ext w c s).peers = s.peers ∧
    (keepSums a ext w c s).queues = s.queues ∧ (keepSums a ext w c s).ctrs = s.ctrs := by
  have hcharge (b : Bool) (old : Work) : let u := if b then chargeSquash c.ctx 0 old s else s
      u.mem = s.mem ∧ u.acts = s.acts ∧ u.peers = s.peers ∧ u.queues = s.queues ∧ u.ctrs = s.ctrs := by
    cases b <;> exact ⟨rfl, rfl, rfl, rfl, rfl⟩
  exact hcharge (!(continues c) && (getArr s a).store.chain) (getArr s a).store.work

section
variable {a : Nat} {c : Course} {q idx : Nat} {k : Cmd} {r : RunLog} {s : State} (h : Completing a c q idx k r s)
include h

/-- A forwarding course keeps its sums, and then its books are kept. -/
theorem completeCourse_forward (hop : cdOp c.raw = 1) (hforward : cdForward c.raw = true) :
    ∃ u obs, Books (keepSums a (viewExt s a c r.ext) (addWork r.work c.work) (spent c) (noteHeld a (viewExt s a c r.ext) c s)) u ∧
      completeCourse a r s = endCourse a (0x4000 + a) (spent c) .ok obs u := by
  obtain ⟨hjournal, hinPlace⟩ := h.notJournaled
  simp only [completeCourse, runningCourse_of_runsAlone h.alone, h.goes, Bool.false_eq_true, if_false, bulkReady_of_wayClear h.way,
    Bool.not_true, h.firstPoison, h.runVerdict, ne_self_iff_false, keepOutside, hinPlace, outputsFree_noteHeld h.free, hop,
    OfNat.one_ne_ofNat, hforward, if_true]
  refine ⟨_, _, Books.trans ?_ (books_countRun r _), rfl⟩
  exact ⟨⟨rfl, rfl⟩, rfl⟩

/-- The clause of a forwarding course. -/
theorem forward_ends (hop : cdOp c.raw = 1) (hforward : cdForward c.raw = true) (hacc : cdAccumulate c.raw = false) (hintake : c.intake = 0)
    (hfits : if cdFlat c.raw then (outShape c.raw c.opS c.opT).1 ≤ 16 else (outShape c.raw c.opS c.opT).2 ≤ 128) :
    ∃ t obs st, completeCourse a r s = t ∧ t.acts = [] ∧ CourseEnded a (0x4000 + a) c q .ok obs s t ∧ t.mem = s.mem ∧ (getArr t a).store = st ∧
      st.ctx = some c.ctx ∧ st.chain = true ∧ st.ridge = c.ridge ∧ st.home = c.home ∧ st.members = [spent c] ∧
      ∀ m n, m < (outShape c.raw c.opS c.opT).1 → n < (outShape c.raw c.opS c.opT).2 → tget none st.entries (storeIndex c.raw m n) =
        some (courseGutter (footByte s (viewExt s a c r.ext) c.ctx c.foot) c.raw c.opS c.opT c.ridge {} 0 (kUsed c.raw c.opT) m n) := by
  obtain ⟨u, obs, hu, hcomplete⟩ := completeCourse_forward h hop hforward
  obtain ⟨st, hst, hctx, hchain, hridge, hhome, hmembers, hentries⟩ :=
    keepSums_store (a := a) (ext := viewExt s a c r.ext) (w := addWork r.work c.work) (c := spent c)
      (s := noteHeld a (viewExt s a c r.ext) c s) h.opens (outputsFree_noteHeld h.free)
  obtain ⟨hmem, hacts, hpeers, hqueues, hctrs⟩ :=
    keepSums_besideArray a (viewExt s a c r.ext) (addWork r.work c.work) (spent c) (noteHeld a (viewExt s a c r.ext) c s)
  have hnoted := ((onlyCourse_of_runsAlone h.alone).noteHeld (viewExt s a c r.ext)).spent
  have honly := (hnoted.congr (by rw [hst]) (by rw [hst]) hqueues hpeers).aside hu.toAside
  have hstore : (getArr u a).store = st := by rw [hu.getArr, hst]
  have hresults : ctr u 0x4100 5 = ctr s 0x4100 5 := hu.results.trans (by unfold ctr; rw [hctrs]; rfl)
  obtain ⟨⟨-, hquiet, -⟩, -⟩ := h.alone
  refine ⟨_, obs, st, hcomplete, ?_, courseEnded_of_results (endCourse_ended honly _ _ _) hresults, ?_, ?_, hctx, hchain, hridge, hhome,
    hmembers, fun m n hm hn => ?_⟩
  · rw [endCourse_acts honly, hu.acts, hacts]
    exact hquiet
  · rw [endCourse_mem honly, hu.mem, hmem]
    rfl
  · rw [endCourse_store honly _ _ _ (by rw [hstore, hchain]), hstore]
  · rw [hentries]
    have hfill := tget_storeFill hfits
      (fun m n => outGutter (noteHeld a (viewExt s a c r.ext) c s) (viewExt s a c r.ext) a (spent c) m n) hm hn
    exact hfill.trans (congrArg some (outGutter_fromZero (c := spent c) hacc hintake m n))

end
end Sys2Proof.Machine
end

section
namespace Sys2Proof.Machine

/-! ### The bytes of one output -/

/-- The bytes `bs` at rising addresses from `va`. -/
def placed (va : Nat) (bs : List Byte) : List (Nat × Byte) := (List.range bs.length).map fun i => (va + i, bs.getD i 0)

theorem placed_cons (va : Nat) (b : Byte) (bs : List Byte) : placed va (b :: bs) = (va, b) :: placed (va + 1) bs := by
  simp [placed, List.range_succ_eq_map, List.map_map, Function.comp_def, Nat.add_assoc, Nat.add_comm 1]

/-- Bytes inside one granule are one run. -/
theorem byteRuns_placed {va : Nat} {bs : List Byte} (hne : 0 < bs.length) (hfit : va % 64 + bs.length ≤ 64) :
    byteRuns (placed va bs) = [(va, bs)] := by
  induction bs generalizing va with
  | nil => simp at hne
  | cons b bs ih =>
    rw [placed_cons]
    cases bs with
    | nil => rfl
    | cons d bs =>
      simp only [List.length_cons] at hfit ih
      have hrest := ih (va := va + 1) (by omega) (by omega)
      have hnext : (va + 1) % 64 ≠ 0 := by omega
      unfold byteRuns at hrest ⊢
      rw [List.foldr_cons, hrest]
      simp [hnext]

/-- A row of one output, whose format has neither blocks of scales nor a record, goes out as one write. -/
theorem writeRow_single {a : Nat} {ext : Ext} {c : Course} {base s : State} {m : Nat} (bs ss : List Byte)
    (hcols : (outShape c.raw c.opS c.opT).2 = 1) (hfree : outputsFree base ext a c = false) (himage : odFmt c.opO ≠ 11)
    (hmx : odMx c.opO = false) (hrec : odRec c.opO = false) (hbytes : 0 < fmtBits (odFmt c.opO) / 8)
    (hfit : outAddr c.opO m 0 % 64 + fmtBits (odFmt c.opO) / 8 ≤ 64) :
    (writeRow a ext c base 0 1 (s, bs, ss) m).1 = writeOut (.array a c.id) c (outAddr c.opO m 0)
      (toLe (fmtBits (odFmt c.opO) / 8) (roundVal (odFmt c.opO) c.round c.sat (outExact base ext a c m 0).2.1 (outExact base ext a c m 0).1))
      false s := by
  unfold writeRow
  simp only [hcols, hfree, rowCodes, himage, hmx, hrec, if_false, Bool.false_eq_true]
  simp only [Bool.false_and, Bool.false_eq_true, if_false, show rangeFrom 0 (1 - 0) = [0] from rfl, List.range_one, List.map_cons,
    List.map_nil, List.getD_cons_zero, List.flatMap_cons, List.flatMap_nil, List.append_nil, List.isEmpty_cons, List.length_nil,
    List.range_zero]
  generalize roundVal (odFmt c.opO) c.round c.sat (outExact base ext a c m 0).2.1 (outExact base ext a c m 0).1 = v
  have hlen := length_toLe (fmtBits (odFmt c.opO) / 8) v
  have hrun := byteRuns_placed (va := outAddr c.opO m 0) (bs := toLe (fmtBits (odFmt c.opO) / 8) v) (by omega) (by omega)
  rw [placed, hlen] at hrun
  rw [hrun]
  rfl

/-! ### Reading a result back (Table 4.4) -/

/-- A field within a structure's width. -/
theorem fld_ofNat {w lo n : Nat} (h : lo + n ≤ w) (v : Nat) : fld (BitVec.ofNat w v) lo n = nbits v lo n := by
  unfold fld nbits
  rw [BitVec.toNat_ofNat]
  apply Nat.eq_of_testBit_eq
  intro i
  simp only [Nat.testBit_mod_two_pow, Nat.testBit_div_two_pow]
  by_cases hi : i < n
  · simp [hi, show i + lo < w by omega]
  · simp [hi]

theorem statusOfCode_code (st : Status) : statusOfCode st.code = st := by cases st <;> rfl

theorem code_lt (st : Status) : st.code < 2 ^ 8 := by cases st <;> decide

theorem courseResult_status (c : Course) (unit : Nat) (st : Status) (obs : Int) :
    statusOfCode (fld (courseResult c unit st obs) 0 8) = st := by
  rw [courseResult, fld_ofNat (by decide), nbits_pack_first, Nat.mod_eq_of_lt (code_lt st), statusOfCode_code]

theorem courseResult_observed (c : Course) (unit : Nat) (st : Status) (obs : Int) :
    fld (courseResult c unit st obs) 32 10 = (obs % 1024).toNat := by
  rw [courseResult, fld_ofNat (by decide), show 32 = 8 + (8 + (1 + (1 + (1 + (13 + 0))))) from rfl]
  simp only [nbits_pack_next, nbits_pack_first]
  omega

theorem courseResult_unit (c : Course) {unit : Nat} (hunit : unit < 2 ^ 16) (st : Status) (obs : Int) :
    fld (courseResult c unit st obs) 48 16 = unit := by
  rw [courseResult, fld_ofNat (by decide), show 48 = 8 + (8 + (1 + (1 + (1 + (13 + (10 + (6 + 0))))))) from rfl]
  simp only [nbits_pack_next, nbits_pack_first]
  exact Nat.mod_eq_of_lt hunit

/-- A result shows the observed ridge in 10 bits. -/
theorem courseResult_congr (c : Course) (unit : Nat) (st : Status) {obs obs' : Int} (h : obs' % 1024 = obs % 1024) :
    courseResult c unit st obs' = courseResult c unit st obs := by rw [courseResult, courseResult, h]

theorem signOf_observed (obs : Int) : signOf 10 (obs % 1024).toNat % 1024 = obs % 1024 := by
  unfold signOf
  split <;> omega

end Sys2Proof.Machine
end

section
namespace Sys2Proof.Machine

/-! ### A course of one output -/

/-- Course `c` reduces to one output, in a format of whole bytes without scales and record; it starts from zero, and ends its chain. -/
structure SoleOutput (c : Course) : Prop where
  op : cdOp c.raw = 1
  ends : cdForward c.raw = false
  fromZero : cdAccumulate c.raw = false
  lenient : c.strict = false
  unresumed : c.resume = 0
  noIntake : c.intake = 0
  shape : outShape c.raw c.opS c.opT = (1, 1)
  fmt : odFmt c.opO ∈ [5, 6, 7, 8, 9]
  noScales : odMx c.opO = false
  noRecord : odRec c.opO = false
  aligned : outAddr c.opO 0 0 % (fmtBits (odFmt c.opO) / 8) = 0
  inStacks : ∀ y ∈ c.foot, target y.pa = .stacks

/-- The cost of a course is not part of its shape. -/
theorem SoleOutput.spent {c : Course} (h : SoleOutput c) : SoleOutput (spent c) :=
  ⟨h.op, h.ends, h.fromZero, h.lenient, h.unresumed, h.noIntake, h.shape, h.fmt, h.noScales, h.noRecord, h.aligned, h.inStacks⟩

/-- Bytes of the one output. -/
def soleBytes (c : Course) : Nat := fmtBits (odFmt c.opO) / 8

/-- The gutter of the one output. -/
def soleGutter (s : State) (ext : Ext) (c : Course) : Gutter :=
  courseGutter (footByte s ext c.ctx c.foot) c.raw c.opS c.opT c.ridge {} 0 (kUsed c.raw c.opT) 0 0

/-- The code of the one output. -/
def soleCode (s : State) (ext : Ext) (c : Course) : Nat :=
  roundVal (odFmt c.opO) c.round c.sat (srValue (cdSeed c.raw) (cdTensor c.raw) (elemIndex c.raw c.opO 0 0))
    (gutterVal c.ridge (soleGutter s ext c))

/-- An element of whole bytes at an aligned address lies in one granule. -/
theorem soleBytes_fit {c : Course} (hfmt : odFmt c.opO ∈ [5, 6, 7, 8, 9]) {va : Nat} (h : va % soleBytes c = 0) :
    0 < soleBytes c ∧ va % 64 + soleBytes c ≤ 64 := by
  have hbytes : soleBytes c = 1 ∨ soleBytes c = 2 ∨ soleBytes c = 4 := by
    unfold soleBytes
    simp only [List.mem_cons, List.not_mem_nil, or_false] at hfmt
    rcases hfmt with hf | hf | hf | hf | hf <;> rw [hf] <;> decide
  rcases hbytes with hb | hb | hb <;> rw [hb] at h ⊢ <;> omega

/-- The exact result of the one output. -/
theorem outExact_sole {c : Course} (hc : SoleOutput c) (s : State) (ext : Ext) (a : Nat) : outExact s ext a c 0 0 =
    (gutterVal c.ridge (soleGutter s ext c), srValue (cdSeed c.raw) (cdTensor c.raw) (elemIndex c.raw c.opO 0 0), soleGutter s ext c) := by
  have hop : cdOp c.raw ≠ 3 := by rw [hc.op]; decide
  rw [outExact, if_neg hop, outGutter_fromZero hc.fromZero hc.noIntake]
  rfl

/-- What the one output writes. -/
theorem writeRow_sole {c : Course} (hc : SoleOutput c) {s base : State} {ext : Ext} {a : Nat} (hfree : outputsFree base ext a c = false)
    (bs ss : List Byte) : (writeRow a ext c base 0 1 (s, bs, ss) 0).1 =
      writeOut (.array a c.id) c (outAddr c.opO 0 0) (toLe (soleBytes c) (soleCode base ext c)) false s := by
  obtain ⟨hpos, hfit⟩ := soleBytes_fit hc.fmt hc.aligned
  have himage : odFmt c.opO ≠ 11 := fun h => absurd hc.fmt (by rw [h]; decide)
  rw [writeRow_single bs ss (by rw [hc.shape]) hfree himage hc.noScales hc.noRecord hpos hfit, outExact_sole hc]
  rfl

/-- The digest of a course outside the journal is folded at once. -/
theorem books_foldFor {s : State} {c : Course} (h : journaledCmd s c = none) (d : BitVec 64) : Books s (foldFor c d s) := by
  simp only [foldFor, h]
  exact books_foldDigest _ _ _ _

/-- A course whose footprint lies in the stacks writes nothing at a host port. -/
theorem writesNeed_stacks {c : Course} (h : ∀ y ∈ c.foot, target y.pa = .stacks) (s : State) : writesNeed s c = (0, 0) := by
  have hany (g : Segment) : (c.foot.any fun x => target x.pa = .host && x.flushed && x.va < g.va + g.len && g.va < x.va + x.len) = false :=
    List.any_eq_false.2 fun y hy => by simp [h y hy]
  simp [writesNeed, hany]

/-- The outputs of the course are on their way, with its result (R202). -/
def onItsWay (a : Nat) (c : Course) (st : Status) (obs : Int) (s : State) : State :=
  modCourse a c.id (fun x => { x with stage := .writing 0 0, work := noWork, result := courseResult c (0x4000 + a) st obs }) s

/-- The status of a course of one gutter (R43). -/
def soleStatus (c : Course) (g : Gutter) : Status := if c.breachSoFar || g.breach then .inexact else .ok

section
variable {a : Nat} {c : Course} {q idx : Nat} {k : Cmd} {r : RunLog} {s : State} (h : Completing a c q idx k r s)
include h

/-- A course of one output stores it, keeps its books, and leaves its array; its result is to be delivered. -/
theorem completeCourse_write (hc : SoleOutput c) {pa : Nat}
    (hstore : let s' := noteHeld a (viewExt s a c r.ext) c s
      let bs := toLe (soleBytes c) (soleCode s (viewExt s a c r.ext) c)
      Stores pa bs s' (writeOut (.array a c.id) (spent c) (outAddr c.opO 0 0) bs false s')) :
    ∃ u, ∃ clear : Bool, Stores pa (toLe (soleBytes c) (soleCode s (viewExt s a c r.ext) c)) (noteHeld a (viewExt s a c r.ext) c s) u ∧
      completeCourse a r s = owe (.arrayDone a) (leaveArray a c (onItsWay a c
        (soleStatus c (soleGutter s (viewExt s a c r.ext) c)) (max c.obsSoFar (soleGutter s (viewExt s a c r.ext) c).obs)
        (if clear then modArr a (fun x => { x with store := {} }) u else u))) := by
  obtain ⟨hjournal, hinPlace⟩ := h.notJournaled
  have hlive : chainLive s a c = [0] := by rw [h.chainLive, hc.shape]; rfl
  have hwritten : writtenRows c = 0 := by simp [writtenRows, writtenOf, hc.unresumed]
  obtain ⟨t, ht⟩ : ∃ t, t = completeCourse a r s := ⟨_, rfl⟩
  rw [← ht]
  unfold completeCourse at ht
  simp -zeta only [runningCourse_of_runsAlone h.alone, h.goes, Bool.false_eq_true, if_false, bulkReady_of_wayClear h.way,
    Bool.not_true, h.firstPoison, keepOutside, hinPlace] at ht
  extract_lets w ext d live fresh bad s₀ cost changed c₁ _ _ _ _ _ _ _ gs obs₀ breach s₁ obs s₂ _ base s₃ lo whole stream digest s₄ x s₅
    late s₆ store chain s₇ s₈ s₉ s₁₀ st s₁₁ at ht
  have hc₁ : SoleOutput c₁ := hc.spent
  have hchanged : changed = false := outputsFree_noteHeld h.free
  have hopens : continues c₁ = false := h.opens
  have hs₃ : s₃ = s₀ := by
    unfold s₃ s₂ s₁
    rw [hopens, hchanged]
    rfl
  have hfresh : fresh = [0] := by
    unfold fresh live
    rw [hlive, hwritten]
    simp
  have hlo : lo = 0 := by
    unfold lo
    rw [hc₁.unresumed, ite_self]
  have hgs : gs = [soleGutter s ext c] := by
    unfold gs live
    rw [hlive, hc.shape, List.range_one]
    exact congrArg (fun x : Val × Nat × Gutter => [x.2.2]) (outExact_sole hc₁ s₀ ext a)
  have hrow : (fresh.foldl (writeRow a ext c₁ base lo (outShape d c.opS c.opT).2) (s₃, [], [])).1 =
      writeOut (.array a c.id) c₁ (outAddr c.opO 0 0) (toLe (soleBytes c) (soleCode s ext c)) false s₀ := by
    rw [hfresh, hlo, hs₃, hc.shape]
    exact writeRow_sole hc₁ hchanged [] []
  have hdigest : Stores pa (toLe (soleBytes c) (soleCode s ext c)) s₀ s₄ := by
    unfold s₄
    rw [hrow, hchanged]
    split
    · exact hstore
    · exact hstore.reads (books_foldFor ((hstore.journaledCmd c₁).trans hjournal) digest).toReads
  have hbooks : Books s₄ s₉ := by
    have hcharge : Books s₄ s₅ := books_chargeInd _ _ s₄
    have hsquash : Books s₅ s₆ := (Books.ite (.refl s₅) (books_chargeSquash _ _ _ s₅)).trans (books_countEnded _ _ _)
    have hcontrols : Books s₆ s₇ := Books.ite (.refl s₆) (books_countControls _ _ _ s₆)
    exact hcharge.trans (hsquash.trans (hcontrols.trans ((books_countOutputs _ _ _ _ _ _ _ _ s₇).trans (books_countRun r s₈))))
  have hu := hdigest.reads hbooks.toReads
  have hqueues : s₁₀.queues = s.queues := by
    have hclear : s₁₀.queues = s₉.queues := by unfold s₁₀; split <;> rfl
    rw [hclear, hu.queues]
    rfl
  have hway : s₁₁ = onItsWay a c (soleStatus c (soleGutter s ext c)) (max c.obsSoFar (soleGutter s ext c).obs) s₁₀ := by
    have hst : st = soleStatus c (soleGutter s ext c) := by
      unfold st breach
      rw [hgs, soleStatus, List.any_cons, List.any_nil, Bool.or_false]
    have hobs : obs = max c.obsSoFar (soleGutter s ext c).obs := by
      unfold obs obs₀
      rw [hchanged, hgs]
      rfl
    unfold s₁₁
    rw [stagedWhole_of_notJournaled ((journaledCmd_congr (t := modCourse a c₁.id _ s₁₀) hqueues c₁).trans hjournal),
      writesNeed_stacks hc₁.inStacks, hst, hobs]
    rfl
  have hframed : unitsFramed s₁₁ c₁ = true := by
    obtain ⟨-, -, -, hsrc, hcmds, -, -, hstaged, -⟩ := h.alone
    have hqueue : getQueue s₁₁ q = getQueue s q := by
      rw [hway]
      unfold getQueue
      exact congrArg (fun x => tget {} x q) hqueues
    rw [unitsFramed, show c₁.src = .queue q idx from hsrc]
    simp [hqueue, hcmds, hstaged]
  rw [if_neg (not_not.2 h.runVerdict), if_neg (by rw [hc.op]; decide), if_neg (by rw [hc.ends]; decide),
    if_neg (by rw [hc₁.lenient]; exact Bool.false_ne_true), if_pos hframed, hway] at ht
  exact ⟨s₉, chain || c₁.strict || multiPass c₁, hu, ht⟩
end
end Sys2Proof.Machine
end

section
namespace Sys2Proof.Machine

/-! ### The result is delivered -/

/-- The course as it waits for its outputs to be performed. -/
def onItsWayCourse (a : Nat) (c : Course) (st : Status) (obs : Int) (d : Course) : Course :=
  { d with stage := .writing 0 0, work := noWork, result := courseResult c (0x4000 + a) st obs }

theorem getArr_onItsWay (a : Nat) (c : Course) (st : Status) (obs : Int) (s : State) : getArr (onItsWay a c st obs s) a =
    { getArr s a with courses := (getArr s a).courses.map fun d => if d.id = c.id then onItsWayCourse a c st obs d else d } := by
  rw [onItsWay, modCourse, getArr_modArr]
  rfl

theorem OnlyCourse.onItsWay {a : Nat} {c : Course} {q idx : Nat} {k : Cmd} {s : State} (h : OnlyCourse a c q idx k s) (st : Status)
    (obs : Int) : OnlyCourse a c q idx k (onItsWay a c st obs s) where
  courses d hd := by
    rw [getArr_onItsWay] at hd
    obtain ⟨d', hd', rfl⟩ := List.mem_map.1 hd
    rw [if_pos (h.courses d' hd')]
    exact h.courses d' hd'
  run := by rw [getArr_onItsWay]; exact h.run
  src := h.src
  cmds := h.cmds
  idx := h.idx
  fin := h.fin
  noSignal := h.noSignal
  noPeers := h.noPeers

theorem OnlyCourse.leaveArray {a : Nat} {c : Course} {q idx : Nat} {k : Cmd} {s : State} (h : OnlyCourse a c q idx k s) :
    OnlyCourse a c q idx k (leaveArray a c s) := by
  obtain ⟨-, -, hpeers, hqueues, -⟩ := leaveArray_besideArray a c s
  refine ⟨?_, ?_, h.src, ?_, h.idx, h.fin, h.noSignal, hpeers.trans h.noPeers⟩
  · rw [getArr_leaveArray]
    exact h.courses
  · rw [getArr_leaveArray]
    rcases h.run with hrun | hrun <;> simp [hrun]
  · unfold getQueue
    rw [hqueues]
    exact h.cmds

/-- A course whose outputs are performed ends with the result that it waited with. -/
theorem arrayDone_single {a : Nat} (ha : a < 192) {c : Course} {q idx : Nat} {k : Cmd} {s : State} {st : Status} {obs : Int} {d : Course}
    (honly : OnlyCourse a (onItsWayCourse a c st obs d) q idx k s) (hstaged : k.staged = [])
    (hcourses : (getArr s a).courses = [onItsWayCourse a c st obs d]) :
    ∃ obs', obs' % 1024 = obs % 1024 ∧ arrayDone a s = endCourse a (0x4000 + a) (onItsWayCourse a c st obs d) st obs' s := by
  have hperformed : outputsPerformed s a (onItsWayCourse a c st obs d) 0 0 = true := by simp [outputsPerformed, honly.noPeers]
  have hframed : unitsFramed s (onItsWayCourse a c st obs d) = true := by simp [unitsFramed, honly.src, honly.cmds, hstaged]
  have hstatus : statusOfCode (fld (onItsWayCourse a c st obs d).result 0 8) = st := courseResult_status c _ st obs
  have hunit : fld (onItsWayCourse a c st obs d).result 48 16 = 0x4000 + a := courseResult_unit c (by omega) st obs
  have hobs : fld (onItsWayCourse a c st obs d).result 32 10 = (obs % 1024).toNat := courseResult_observed c _ st obs
  refine ⟨signOf 10 (obs % 1024).toNat, signOf_observed obs, ?_⟩
  rw [arrayDone, hcourses, List.foldl_cons, List.foldl_nil]
  change (if statusClass (statusOfCode (fld (onItsWayCourse a c st obs d).result 0 8)) = 0 && !(unitsFramed s (onItsWayCourse a c st obs d)) then s
    else if outputsPerformed s a (onItsWayCourse a c st obs d) 0 0 then endCourse a (fld (onItsWayCourse a c st obs d).result 48 16)
      (onItsWayCourse a c st obs d) (statusOfCode (fld (onItsWayCourse a c st obs d).result 0 8))
      (signOf 10 (fld (onItsWayCourse a c st obs d).result 32 10)) s else _) = _
  rw [hstatus, hframed, hperformed, hunit, hobs]
  simp

/-- An action owed by a step that owes nothing else is run next. -/
theorem settle_owe {s : State} (h : s.acts = []) (act : Act) : settle (owe act s) = settleN 999999 (runAct act s) := by
  rw [settle_cons (owe act s) act [] (by simp [owe, h])]
  cases s
  subst h
  rfl

theorem courseEnded_of_observed {a unit : Nat} {c : Course} {q : Nat} {st : Status} {obs obs' : Int} {s t : State}
    (h : CourseEnded a unit c q st obs' s t) (hobs : obs' % 1024 = obs % 1024) : CourseEnded a unit c q st obs s t := by
  obtain ⟨hcourses, hrun, hcount, k, hcmds, hfin, hdetail⟩ := h
  exact ⟨hcourses, hrun, hcount, k, hcmds, hfin, hdetail.trans (courseResult_congr c unit st hobs)⟩

/-- A course on its way that has left its array: what the delivery of its result starts from. -/
theorem waitingState {a : Nat} {c : Course} {q idx : Nat} {k : Cmd} {u : State} (honly : OnlyCourse a c q idx k u)
    (hcourses : (getArr u a).courses = [c]) (st : Status) (obs : Int) (clear : Bool) :
    let z := leaveArray a c (onItsWay a c st obs (if clear then modArr a (fun x => { x with store := {} }) u else u))
    OnlyCourse a (onItsWayCourse a c st obs c) q idx k z ∧ (getArr z a).courses = [onItsWayCourse a c st obs c] ∧
      z.mem = u.mem ∧ z.acts = u.acts ∧ z.ctrs = u.ctrs := by
  intro z
  obtain ⟨v, hv⟩ : ∃ v, v = if clear then modArr a (fun x => { x with store := {} }) u else u := ⟨_, rfl⟩
  have hcleared : (getArr v a).courses = (getArr u a).courses ∧ (getArr v a).run = (getArr u a).run ∧ v.queues = u.queues ∧
      v.peers = u.peers ∧ v.mem = u.mem ∧ v.acts = u.acts ∧ v.ctrs = u.ctrs := by
    rw [hv]
    cases clear
    · exact ⟨rfl, rfl, rfl, rfl, rfl, rfl, rfl⟩
    · simp only [if_true, getArr_modArr]
      exact ⟨trivial, trivial, rfl, rfl, rfl, rfl, rfl⟩
  obtain ⟨hcs, hrun, hqueues, hpeers, hmem, hacts, hctrs⟩ := hcleared
  have hz : z = leaveArray a c (onItsWay a c st obs v) := by rw [hv]
  obtain ⟨hmem', hacts', -, -, hctrs'⟩ := leaveArray_besideArray a c (onItsWay a c st obs v)
  obtain ⟨hids, hruns, hsrc, hcmds, hidx, hfin, hsignal, hno⟩ := ((honly.congr hcs hrun hqueues hpeers).onItsWay st obs).leaveArray
  rw [hz]
  refine ⟨⟨hids, hruns, hsrc, hcmds, hidx, hfin, hsignal, hno⟩, ?_, hmem'.trans hmem, hacts'.trans hacts, hctrs'.trans hctrs⟩
  rw [getArr_leaveArray, getArr_onItsWay]
  simp [hcs, hcourses]

section
variable {a : Nat} {c : Course} {q idx : Nat} {k : Cmd} {r : RunLog} {s : State} (h : Completing a c q idx k r s)
include h

/-- The clause of a course of one output. -/
theorem sole_ends (ha : a < 192) (hc : SoleOutput c) {x : Extent} {pa : Nat} (hflaws : s.mem.flaws = [])
    (hext : extentOf c.foot (outAddr c.opO 0 0) = some x) (hpa : pa = x.pa + (outAddr c.opO 0 0 - x.va)) (halign : pa % soleBytes c = 0)
    (hkey : keyIs s (pa / 64) x.keySlot = true) (hg : target (pa / 64 * 64) = .stacks) (hstack : target pa = .stacks) :
    ∃ t, done (completeCourse a r s) = .next t ∧ CourseEnded a (0x4000 + a) c q (soleStatus c (soleGutter s (viewExt s a c r.ext) c))
        (max c.obsSoFar (soleGutter s (viewExt s a c r.ext) c).obs) s t ∧
      bytesAt t pa (soleBytes c) = toLe (soleBytes c) (soleCode s (viewExt s a c r.ext) c) ∧
      ∀ b, b < pa ∨ pa + soleBytes c ≤ b → byteAt t b = byteAt s b := by
  subst hpa
  obtain ⟨hpos, hfit⟩ := soleBytes_fit hc.fmt halign
  have hlen := length_toLe (soleBytes c) (soleCode s (viewExt s a c r.ext) c)
  have hstore := stores_writeOut (s := noteHeld a (viewExt s a c r.ext) c s) (c := spent c)
    (bs := toLe (soleBytes c) (soleCode s (viewExt s a c r.ext) c)) h.notJournaled.1 hext hstack hflaws (by omega) (by omega) hg hkey a c.id
  obtain ⟨u, clear, hu, hcomplete⟩ := completeCourse_write h hc hstore
  obtain ⟨⟨-, hquiet, -⟩, hcourses, -, -, -, -, -, hstaged, -⟩ := h.alone
  have honly := (((onlyCourse_of_runsAlone h.alone).noteHeld _).aside hu.toAside)
  have hleft : (getArr u a).courses = [c] := by
    rw [hu.getArr, noteHeld, getArr_modArr]
    exact hcourses
  generalize soleStatus c (soleGutter s (viewExt s a c r.ext) c) = st at hcomplete ⊢
  generalize max c.obsSoFar (soleGutter s (viewExt s a c r.ext) c).obs = obs at hcomplete ⊢
  obtain ⟨hwaits, hone, hmem, hacts, hctrs⟩ := waitingState honly hleft st obs clear
  obtain ⟨obs', hobs, hdone⟩ := arrayDone_single ha hwaits hstaged hone
  have hended := courseEnded_of_observed (endCourse_ended hwaits (0x4000 + a) st obs') hobs
  have hacts₀ : u.acts = [] := hu.acts.trans hquiet
  have hsettle := settle_owe (hacts.trans hacts₀) (.arrayDone a)
  rw [← hcomplete, runAct, hdone, settleN_of_quiet _ _ ((endCourse_acts hwaits _ _ _).trans (hacts.trans hacts₀))] at hsettle
  have hbytes := hu.bytes ((endCourse_mem hwaits (0x4000 + a) st obs').trans hmem)
  rw [hlen] at hbytes
  exact ⟨_, by rw [done, hsettle], courseEnded_of_results hended ((congrArg (fun l => tget 0 l (okey 0x4100 5)) hctrs).trans hu.results), hbytes⟩

end

end Sys2Proof.Machine
end

section
namespace Sys2Proof.Machine

/-- A course whose footprint lies in the stacks reads no host memory. -/
theorem hostInputsDead_of_stacks {c : Course} (h : ∀ y ∈ c.foot, target y.pa = .stacks) (s : State) : hostInputsDead s c = false := by
  have hany : (c.foot.any fun x => target x.pa = .host && !(outsideOut c x.va)) = false :=
    List.any_eq_false.2 fun y hy => by simp [h y hy]
  simp [hostInputsDead, hany]

/-- A course that does not accumulate continues no chain. -/
theorem continues_of_fromZero {c : Course} (h : cdAccumulate c.raw = false) : continues c = false := by simp [continues, h]

end Sys2Proof.Machine
end

section
open Sys2Proof Sys2Proof.Machine

/-- Settles O42: a pending verdict stops completion at its first test (`completeCourse_pending`); otherwise nothing stands against the
course (`Completing`), and each kind of course ends as `scan_ends`, `forward_ends` and `sole_ends` say. -/
theorem coursesComplete : Obligations.CoursesComplete := by
  unfold Obligations.CoursesComplete
  refine ⟨?pending, ?scan, ?forward, ?output⟩
  case pending =>
    intro s a c r hruns hrunning _ hpending
    obtain ⟨-, hacts, -⟩ := id hruns
    rw [exec_courseComplete hruns, completeCourse_pending r hrunning hpending, done_of_quiet s hacts]
  case scan =>
    intro s a c r q idx k x halone hstage hblocked hblocks hop himage hmap hflaws hway hinputs hverdict hfree hsound hext halign hkey hg hstack
    have hopens : continues c = false := by simp [continues, hop]
    obtain ⟨t, ht, hacts, hended, hbytes⟩ := scan_ends
      ⟨halone, hstage, hblocked, hblocks, hway, hinputs, hverdict, hfree, hsound, himage, hmap, hopens⟩ hop hflaws hext rfl halign hkey hg hstack
    obtain ⟨hruns, -⟩ := halone
    exact ⟨t, by rw [exec_courseComplete hruns, ht, done_of_quiet t hacts], hended, hbytes⟩
  case forward =>
    intro s a c r q idx k halone hstage hblocked hblocks hop hforward hacc himage hmap hintake hway hinputs hverdict hfree hsound hfits
    obtain ⟨t, obs, st, ht, hacts, hended, hmem, hst, hctx, hchain, hridge, hhome, hmembers, hentries⟩ := forward_ends
      ⟨halone, hstage, hblocked, hblocks, hway, hinputs, hverdict, hfree, hsound, himage, hmap, continues_of_fromZero hacc⟩
      hop hforward hacc hintake hfits
    obtain ⟨hruns, -⟩ := halone
    subst hst
    exact ⟨t, obs, by rw [exec_courseComplete hruns, ht, done_of_quiet t hacts], hended, hctx, hchain, hridge, hhome, hmembers, hentries, hmem⟩
  case output =>
    intro s a c r q idx k x pa halone hstage hblocked hblocks hfree hop hforward hacc himage hmap hstrict hresume hintake hflaws hway hverdict
      haligned hshape hfmt hmx hrec hstacks hsound hext hpa halign hstack hg hkey
    obtain ⟨t, ht, hended, hbytes⟩ := sole_ends
      ⟨halone, hstage, hblocked, hblocks, hway, hostInputsDead_of_stacks hstacks s, hverdict, hfree, hsound, himage, hmap,
        continues_of_fromZero hacc⟩
      a.isLt ⟨hop, hforward, hacc, hstrict, hresume, hintake, hshape, hfmt, hmx, hrec, haligned, hstacks⟩ hflaws hext hpa halign hkey hg hstack
    obtain ⟨hruns, -⟩ := halone
    exact ⟨t, by rw [exec_courseComplete hruns, ht], hended, hbytes⟩

end

section
namespace Sys2Proof.Machine

/-! ### A context out of range at a committed decoder

The owner writes 4,096 to DEC_CONTEXT of a decoder that its host has committed. The range of the value is examined before the
chapter's condition (R375, R248), so the answer is MALFORMED and not BUSY. -/

/-- A READY block whose MP runs; master 0 is registered and owns it, and its host 0 has committed decoder 0. -/
def committedDecoder : State :=
  { start := { state := 1, step := 23, due := false, cur := [(3, 1)] }
    mgmt := { masters := [(0, { used := true, session := 5, claim := 1 })], owner := some 0, lease := 1000, chainAddr := 9 }
    sec := { ready := true, sessions := [⟨5, 0, true, true, 0, 0, 0⟩] }
    hosts := [(0, { link := 2, decoders := [(0, { committed := true })] })] }

theorem committedDecoder_served : OwnerServed (0 : MasterId) committedDecoder := by
  unfold OwnerServed DictionaryServed
  decide +kernel

/-- A context above 4,095 is refused MALFORMED, although the decoder is committed. -/
theorem decContext_outOfRange_refused : ∃ t, exec (.decContext 0 0 0 false 4096#16) committedDecoder = .next t ∧
    t.out.head? = some (Out.answer 0 ⟨2, .malformed, 0, []⟩) :=
  ⟨_, rfl, by decide +kernel⟩

end Sys2Proof.Machine
end

section
open Sys2Proof Sys2Proof.Machine

/-- Refutes O21: its last clause asks for BUSY at a committed decoder whatever the value, and a DEC_CONTEXT of 4,096 is MALFORMED. -/
theorem not_ownerFencesUnits : ¬ Obligations.OwnerFencesUnits := by
  rintro ⟨-, -, -, -, -, -, -, -, -, -, hbusy⟩
  obtain ⟨t, hstep, ⟨r, hanswer, hdisp⟩, -⟩ := hbusy committedDecoder 0 0 0 false 4096#16 committedDecoder_served (by decide +kernel)
  obtain ⟨u, hrefused, hmalformed⟩ := decContext_outOfRange_refused
  obtain rfl : t = u := Host.Outcome.next.inj (hstep.symm.trans hrefused)
  obtain rfl : r = ⟨2, .malformed, 0, []⟩ := by simpa using hanswer.symm.trans hmalformed
  exact absurd hdisp (by decide)

end

section
namespace Sys2Proof.Machine

/-! ### A record raised by an awake block whose ring, where it is on, lies in host memory

The laws of `RingAway` ask for the ring's address even where the ring is off. `RecordsQuietly` asks for it only where the ring is on:
a record of a ring that is off goes nowhere. -/

/-- The block is awake, and its next fault record goes to host memory or nowhere. -/
def RingQuiet (s : State) : Prop := s.asleep = false ∧ (ringOn s.flt.ring = true → target (ringAddr s.flt.ring 64) = .host)

theorem ringRecord_off (img : BitVec 512) {s : State} (h : ringOn s.flt.ring = false) : ringRecord img s = s := by
  simp [ringRecord, h]

/-- What every law about a host ring leaves, a ring that is off leaves too. -/
theorem ringRecord_quiet {α : Type} (f : State → α)
    (ha : ∀ (img : BitVec 512) (x : State), target (ringAddr x.flt.ring 64) = .host → f (ringRecord img x) = f x) (img : BitVec 512) {s : State}
    (hq : ringOn s.flt.ring = true → target (ringAddr s.flt.ring 64) = .host) : f (ringRecord img s) = f s := by
  by_cases hon : ringOn s.flt.ring = true
  · exact ha img s (hq hon)
  · rw [ringRecord_off img (by simpa using hon)]

/-- The collector without its ring. -/
def sansRing (s : State) : FaultUnit := { s.flt with ring := {} }

theorem sansRing_ringRecord (img : BitVec 512) (s : State) (ha : target (ringAddr s.flt.ring 64) = .host) :
    sansRing (ringRecord img s) = sansRing s :=
  ringRecord_away sansRing (fun pa bs x => hostPost_away sansRing (fun _ _ => rfl) (fun _ _ => rfl) (fun _ _ => rfl) pa bs false x)
    (fun _ => rfl) (fun _ _ => rfl) (fun v x => msix_away _ (fun _ _ => rfl) (fun _ _ => rfl) v x) img ha

/-- The ring stays, or has moved one record on. -/
theorem ring_ringRecord (img : BitVec 512) (s : State) :
    (ringRecord img s).flt.ring = s.flt.ring ∨ (ringRecord img s).flt.ring = ringBump s.flt.ring := by
  have hring (v : Nat) (x : State) : (msix v x).flt = x.flt := msix_away (·.flt) (fun _ _ => rfl) (fun _ _ => rfl) v x
  unfold ringRecord
  simp only
  split
  · exact .inl rfl
  · split
    · exact .inl rfl
    · refine .inr ?_
      split
      · rw [hring]; rfl
      · rfl

theorem startGrace_flt (e : Event) (n : Nat) (s : State) :
    ∃ l, (startGrace e n s).flt = { s.flt with grace := s.flt.grace ++ l } ∧ l.length ≤ 1 := by
  have howe (a u : Nat) (c : Option Nat) (x : State) : (oweAction a u c x).flt = x.flt := by
    unfold oweAction
    split
    · rfl
    · split <;> rfl
    · rfl
    · rfl
  unfold startGrace
  simp only
  split
  · exact ⟨[], by simp, by simp⟩
  · split
    · exact ⟨[_], rfl, by simp⟩
    · exact ⟨[], by rw [howe, List.append_nil]; rfl, by simp⟩

/-- A seal changes no bit below it. -/
theorem nbits_sealCrc (n v lo m : Nat) (h : lo + m ≤ 8 * (n - 4)) : nbits (sealCrc n v) lo m = nbits v lo m := by
  unfold nbits sealCrc
  apply Nat.eq_of_testBit_eq
  intro i
  rw [Nat.mul_comm (crc32c _), Nat.add_comm]
  simp only [Nat.testBit_mod_two_pow, Nat.testBit_div_two_pow, Nat.testBit_two_pow_mul_add _ (Nat.mod_lt v (Nat.two_pow_pos _))]
  by_cases hi : i < m
  · simp [hi, show i + lo < 8 * (n - 4) by omega]
  · simp [hi]

/-- The class of a record stands in its bits 191..184 (Table 14.4). -/
theorem recordImage_cls (s : State) (e : Event) (sev seen : Nat) (esc first : Bool) (phase : Nat) (h : e.cls < 256) :
    fld (recordImage s e sev seen esc first phase) 184 8 = e.cls := by
  unfold recordImage
  rw [fld_ofNat (by decide), nbits_sealCrc _ _ _ _ (by decide)]
  exact (nbits_pack_next 167 _ 17 8 _).trans <| (nbits_pack_next 1 _ 16 8 _).trans <| (nbits_pack_next 8 _ 8 8 _).trans <|
    (nbits_pack_next 8 _ 0 8 _).trans <| (nbits_pack_first 8 _ _).trans (Nat.mod_eq_of_lt h)

/-- What one record leaves behind: the serial number goes up, the record is the last one, its ring may go one on and its grace timer
may start; nothing else of the collector that a proof here asks for changes, nor anything of `outsideRaiseAway`. -/
structure RecordTaken (cls : Nat) (s t : State) : Prop where
  away : outsideRaiseAway t = outsideRaiseAway s
  serial : t.flt.serial = (s.flt.serial + 1) % 2 ^ 32
  last : cls < 256 → fld t.flt.last 184 8 = cls
  gen : t.flt.capacityGen = s.flt.capacityGen
  ring : t.flt.ring = s.flt.ring ∨ t.flt.ring = ringBump s.flt.ring
  grace : t.flt.grace.length ≤ s.flt.grace.length + 1
  acts : s.flt.grace.length < 64 → t.acts = s.acts
  ctr : cls < 256 → ∀ i j, outsideFaultCounters (okey i j) → ctr t i j = ctr s i j

/-- The grace timer of a record, where it starts. -/
theorem recordTaken_startGrace {cls n : Nat} {s t : State} (e : Event) (h : RecordTaken cls s t) (hg : t.flt.grace = s.flt.grace) (c : Prop) [Decidable c] :
    RecordTaken cls s (if c then startGrace e n t else t) := by
  split
  · obtain ⟨l, hf, hl⟩ := startGrace_flt e n t
    exact { away := (outsideRaiseAway_startGrace e n t).trans h.away
            serial := by rw [hf]; exact h.serial
            last := by rw [hf]; exact h.last
            gen := by rw [hf]; exact h.gen
            ring := by rw [hf]; exact h.ring
            grace := by rw [hf, hg]; simpa using hl
            acts := fun hs => (startGrace_acts e n t (by rwa [hg])).trans (h.acts hs)
            ctr := fun hc i j hk => (ctr_startGrace e n t hk).trans (h.ctr hc i j hk) }
  · exact h

/-- A record with its latches set, before it goes out. -/
theorem recordTaken_latched {cls sev : Nat} {s : State} {img : BitVec 512} (first latchable : Bool) (hcls : cls < 256 → fld img 184 8 = cls) (hsev : sev < 8) :
    RecordTaken cls s (modFlt (latchRecord img first latchable) (count 0x8000 (0x08 + sev) s)) where
  away := rfl
  serial := by cases first <;> cases latchable <;> rfl
  last := by cases first <;> cases latchable <;> exact hcls
  gen := by cases first <;> cases latchable <;> rfl
  ring := .inl (latchRecord_ring _ _ _ s.flt)
  grace := by cases first <;> cases latchable <;> exact Nat.le_succ _
  acts := fun _ => rfl
  ctr := fun _ i j hk => ctr_count_out 0x8000 (0x08 + sev) s hk rfl (.inl ⟨by omega, by omega, by omega⟩)

theorem graceActs_ringRecord_quiet (img : BitVec 512) {s : State} (hq : ringOn s.flt.ring = true → target (ringAddr s.flt.ring 64) = .host) :
    graceActs (ringRecord img s) = graceActs s :=
  ringRecord_quiet graceActs (fun img _ h => graceActs_ringRecord img h) img hq

/-- The record's way out. -/
theorem recordTaken_ringRecord {cls : Nat} {s t : State} (img : BitVec 512) (h : RecordTaken cls s t) (hr : t.flt.ring = s.flt.ring)
    (hq : ringOn t.flt.ring = true → target (ringAddr t.flt.ring 64) = .host) : RecordTaken cls s (ringRecord img t) := by
  have hflt : sansRing (ringRecord img t) = sansRing t := ringRecord_quiet sansRing sansRing_ringRecord img hq
  have hgr : graceActs (ringRecord img t) = graceActs t := graceActs_ringRecord_quiet img hq
  exact { away := (ringRecord_quiet outsideRaiseAway (fun img x h => outsideRaiseAway_ringRecord img h) img hq).trans h.away
          serial := (congrArg FaultUnit.serial hflt :).trans h.serial
          last := fun hc => (congrArg (fun f : FaultUnit => fld f.last 184 8) hflt :).trans (h.last hc)
          gen := (congrArg FaultUnit.capacityGen hflt :).trans h.gen
          ring := by rw [← hr]; exact ring_ringRecord img t
          grace := (congrArg (fun x => x.1.length) hgr :).trans_le h.grace
          acts := fun hs => (congrArg Prod.snd hgr :).trans (h.acts hs)
          ctr := fun hc i j hk => (ringRecord_quiet (fun x => ctr x i j) (fun img x h => ctr_ringRecord img h hk) img hq).trans (h.ctr hc i j hk) }

theorem recordTaken_raiseRecord (e : Event) {sev : Nat} (seen : Nat) (esc timed : Bool) {s : State} (hsev : sev < 8)
    (hq : ringOn s.flt.ring = true → target (ringAddr s.flt.ring 64) = .host) : RecordTaken e.cls s (raiseRecord e sev seen esc timed s) := by
  unfold raiseRecord
  simp only
  generalize hfirst : (decide (obj s 0x8000 2 2 ≤ sev) && !s.flt.firstValid) = first
  generalize himg : recordImage s e sev seen esc first _ = img
  have hlatched := recordTaken_latched (s := s) first (decide (obj s 0x8000 2 2 ≤ sev)) (fun hc => himg ▸ recordImage_cls s e sev seen esc first _ hc) hsev
  generalize ht : modFlt (latchRecord img first _) (count 0x8000 (0x08 + sev) s) = t at hlatched ⊢
  have hring : t.flt.ring = s.flt.ring := ht ▸ latchRecord_ring _ _ _ s.flt
  have hgrace : t.flt.grace = s.flt.grace := by
    subst ht
    cases first <;> cases decide (obj s 0x8000 2 2 ≤ sev) <;> rfl
  have hq' : ringOn t.flt.ring = true → target (ringAddr t.flt.ring 64) = .host := by rwa [hring]
  have hout (c : Prop) [Decidable c] : RecordTaken e.cls s (if c then ringRecord img t else t) ∧ (if c then ringRecord img t else t).flt.grace = s.flt.grace := by
    split
    · exact ⟨recordTaken_ringRecord img hlatched hring hq', (congrArg Prod.fst (graceActs_ringRecord_quiet img hq') :).trans hgrace⟩
    · exact ⟨hlatched, hgrace⟩
  exact recordTaken_startGrace e (hout _).1 (hout _).2 _

/-- An event counted under its source, before its record. -/
theorem recordTaken_counted {s t : State} {cls : Nat} {x : State} (h : RecordTaken cls x t) (haway : outsideRaiseAway x = outsideRaiseAway s)
    (hflt : { x.flt with sources := [] } = { s.flt with sources := [] }) (hacts : x.acts = s.acts)
    (hctr : cls < 256 → ∀ i j, outsideFaultCounters (okey i j) → ctr x i j = ctr s i j) : RecordTaken cls s t where
  away := h.away.trans haway
  serial := by rw [h.serial, show x.flt.serial = s.flt.serial from (congrArg FaultUnit.serial hflt :)]
  last := h.last
  gen := h.gen.trans (congrArg FaultUnit.capacityGen hflt :)
  ring := by rw [← show x.flt.ring = s.flt.ring from (congrArg FaultUnit.ring hflt :)]; exact h.ring
  grace := by rw [← show x.flt.grace = s.flt.grace from (congrArg FaultUnit.grace hflt :)]; exact h.grace
  acts := by rw [← show x.flt.grace = s.flt.grace from (congrArg FaultUnit.grace hflt :), ← hacts]; exact h.acts
  ctr := fun hc i j hk => (h.ctr hc i j hk).trans (hctr hc i j hk)

/-- An awake block whose ring is in host memory or off takes a record and leaves the rest of the block alone. -/
theorem recordTaken_raise (e : Event) {s : State} (h : RingQuiet s) : RecordTaken e.cls s (raise e s) := by
  obtain ⟨hawake, hq⟩ := h
  have hcls : classBase e.cls < 8 := by unfold classBase; split <;> omega
  have hcount (b : Nat) (hb : b < 256) (hc : e.cls < 256) (x : State) {i j : Nat} (hk : outsideFaultCounters (okey i j)) :
      ctr (count (0x8000 + e.cls) b x) i j = ctr x i j := ctr_count_out _ _ _ hk rfl (.inl ⟨by omega, by omega, hb⟩)
  unfold raise
  simp only [wakeUp_awake hawake]
  split
  · exact recordTaken_raiseRecord { e with op := 0x0D } 0 false false hcls hq
  · refine recordTaken_counted (recordTaken_raiseRecord e _ _ true (sourceStep_sev s e.cls e.unit) ?_) ?_ ?_ ?_ ?_
    · split <;> exact hq
    · split <;> rfl
    · split <;> rfl
    · split <;> rfl
    · intro hc i j hk
      split
      · exact (hcount 6 (by decide) hc _ hk).trans (hcount 5 (by decide) hc _ hk)
      · exact hcount 5 (by decide) hc _ hk

end Sys2Proof.Machine
end

section
namespace Sys2Proof.Machine

/-! ### Droop inputs, gating and power points change the record of one cluster -/

/-- `t` is `s` with the record of cluster `c` changed by `f`. -/
def OneCluster (c : Nat) (f : Cluster → Cluster) (s t : State) : Prop :=
  getCluster t c = f (getCluster s c) ∧ (∀ d, d ≠ c → getCluster t d = getCluster s d) ∧ { t with power.clusters := s.power.clusters } = s

theorem oneCluster_modCluster (c : Nat) (f : Cluster → Cluster) (s : State) : OneCluster c f s (modCluster c f s) :=
  ⟨by simp, fun d hd => by simp [hd], rfl⟩

theorem OneCluster.trans {c : Nat} {f g : Cluster → Cluster} {s t u : State} (h : OneCluster c f s t) (h' : OneCluster c g t u) :
    OneCluster c (g ∘ f) s u := by
  obtain ⟨hc, hd, hs⟩ := h
  obtain ⟨hc', hd', hs'⟩ := h'
  exact ⟨by rw [hc', hc]; rfl, fun d hne => (hd' d hne).trans (hd d hne),
    (congrArg (fun x : State => { x with power.clusters := s.power.clusters }) hs' :).trans hs⟩

/-- A command that changes one cluster and owes nothing answers that state. -/
theorem OneCluster.done {c : Nat} {f : Cluster → Cluster} {s t : State} (h : OneCluster c f s t) (hs : s.acts = []) : done t = .next t :=
  done_of_quiet t ((congrArg State.acts h.2.2 :).trans hs)

theorem onAwake_run {s : State} (f : State → State) (h : aonRuns s = true) (ha : s.asleep = false) : onAwake f s = f s := by
  simp [onAwake, h, ha]

/-- No array of the cluster has a fence that waits for its clock. -/
def NoFenceWaits (c : Nat) (s : State) : Prop := ∀ a, 4 * c ≤ a → a < 4 * c + 4 → (getArr s a).fencing = none

theorem mem_rangeFrom {lo n a : Nat} : a ∈ rangeFrom lo n ↔ lo ≤ a ∧ a < lo + n := by
  simp only [rangeFrom, List.mem_map, List.mem_range]
  constructor
  · rintro ⟨k, hk, rfl⟩; omega
  · rintro ⟨h1, h2⟩; exact ⟨a - lo, by omega, by omega⟩

theorem fencesWaiting_of_none {c : Nat} {s : State} (h : NoFenceWaits c s) : fencesWaiting c s = s := by
  unfold fencesWaiting
  have hall : ∀ a ∈ rangeFrom (4 * c) 4, (getArr s a).fencing = none := fun a ha => h a (mem_rangeFrom.1 ha).1 (mem_rangeFrom.1 ha).2
  generalize rangeFrom (4 * c) 4 = l at hall
  induction l with
  | nil => rfl
  | cons a l ih =>
    rw [List.foldl_cons, hall a List.mem_cons_self]
    exact ih fun b hb => hall b (List.mem_cons_of_mem a hb)

/-- A raised guard is a change of that cluster's own record, which keeps its stop. -/
theorem guardRaise_one (c : Nat) (s : State) : ∃ f : Cluster → Cluster, OneCluster c f s (guardRaise c s) ∧ ∀ x, (f x).stopped = x.stopped := by
  unfold guardRaise
  split
  · exact ⟨_, oneCluster_modCluster c _ s, fun _ => rfl⟩
  · exact ⟨id, ⟨rfl, fun _ _ => rfl, rfl⟩, fun _ => rfl⟩

/-- DROOP_STOP_N low stops one cluster. -/
theorem droopStop_one (c : Nat) (s : State) : ∃ f : Cluster → Cluster, OneCluster c f s (droopStop c s) ∧ ∀ x, (f x).stopped = true := by
  obtain ⟨f, hf, hstop⟩ := guardRaise_one c (modCluster c (fun x => { x with stopped := true }) s)
  exact ⟨_, (oneCluster_modCluster c _ s).trans hf, fun x => hstop _⟩

/-- The stop input rises: with no fence waiting, the cluster runs and nothing else changes. -/
theorem droopClears_stop {c : Nat} {s : State} (h : NoFenceWaits c s) :
    droopClears c false s = modCluster c (fun x => { x with stopped := false, half := false }) s := by
  unfold droopClears
  simp only [Bool.false_eq_true, if_false]
  split
  · exact fencesWaiting_of_none h
  · rfl

theorem noFenceWaits_of_arrays {c : Nat} {s t : State} (h : t.arrays = s.arrays) (hs : NoFenceWaits c s) : NoFenceWaits c t := by
  unfold NoFenceWaits getArr
  rw [h]
  exact hs

/-- The cluster whose clock runs again with one idle row in two, its stop counted. -/
def restarted (c : Nat) (s : State) : State := count 0x4100 7 (modCluster c (fun x => { x with stopped := false, half := true }) s)

/-- A stop that persists: the clock restarts and the droop is recorded. -/
theorem droopPersists_restarts {c : Nat} {s : State} (hstop : (getCluster s c).stopped = true) (h : NoFenceWaits c s) :
    droopPersists c s = raise ⟨0x0B, 0x4000 + 4 * c, none, 0, 0, 0, .ok, 0⟩ (restarted c s) := by
  unfold droopPersists
  rw [if_pos hstop]
  exact fencesWaiting_of_none (noFenceWaits_of_arrays (raise_arrays _ _) h)

theorem getArr_modArr_ne {a b : Nat} (f : ArrayU → ArrayU) (s : State) (h : b ≠ a) : getArr (modArr a f s) b = getArr s b :=
  (tget_tmod ({} : ArrayU) s.arrays.arr a b f).trans (if_neg h)

/-- A cluster none of whose arrays runs a course or holds its current is idle. -/
theorem clusterIdle_of_still {c : Nat} {s : State} (h : ∀ a, 4 * c ≤ a → a < 4 * c + 4 → runningCourse s a = none ∧ (getArr s a).current = false) :
    clusterIdle s c = true := by
  have hall (a : Nat) (ha : a ∈ rangeFrom (4 * c) 4) : runningCourse s a = none ∧ (getArr s a).current = false :=
    h a (mem_rangeFrom.1 ha).1 (mem_rangeFrom.1 ha).2
  simp only [clusterIdle, rowFree, Bool.and_eq_true, List.all_eq_true]
  exact ⟨fun a ha => by rw [(hall a ha).1]; rfl, fun a ha => by rw [(hall a ha).2]; rfl⟩

end Sys2Proof.Machine
end

section
open Sys2Proof Sys2Proof.Machine

/-- Settles O10: each event changes the record of its cluster alone; a stop that persists also takes a fault record (`recordTaken_raise`). -/
theorem clusterEventsTouchOneCluster : Obligations.ClusterEventsTouchOneCluster := by
  unfold Obligations.ClusterEventsTouchOneCluster
  refine ⟨?stop, ?persists, ?clear, ?unwarn, ?warn, ?idle, ?point, ?ramp, ?grant⟩
  case stop =>
    intro s c hs
    obtain ⟨f, hf, hstop⟩ := droopStop_one c s
    have hdone := hf.done hs
    obtain ⟨hc, hframe⟩ := hf
    exact ⟨_, hdone, by rw [hc]; exact hstop _, hframe⟩
  case persists =>
    intro s c hs hon hawake hstop hquiet hfence
    obtain ⟨hgrace, hring⟩ := hquiet
    have htaken := recordTaken_raise ⟨0x0B, 0x4000 + 4 * c.val, none, 0, 0, 0, .ok, 0⟩ (s := restarted c s) ⟨hawake, hring⟩
    have hrun : exec (.droopStopPersists c) s = done (raise ⟨0x0B, 0x4000 + 4 * c.val, none, 0, 0, 0, .ok, 0⟩ (restarted c s)) := by
      rw [← droopPersists_restarts hstop hfence, ← onAwake_run (droopPersists c) hon hawake]
      rfl
    refine ⟨_, hrun.trans (done_of_quiet _ ((htaken.acts hgrace).trans hs)), ?_, ?_, ?_, ?_, ?_⟩
    · simp [restarted]
    · rw [htaken.ctr (show 0x0B < 256 by decide) _ _ (by simp [outsideFaultCounters, okey])]
      simp [restarted]
    · intro d hd
      simp [restarted, hd]
    · simp [restarted]
    · simp [restarted]
  case clear =>
    intro s c hs hfence
    have hone := oneCluster_modCluster c.val (fun x => { x with stopped := false, half := false }) s
    rw [← droopClears_stop hfence] at hone
    exact ⟨_, hone.done hs, hone⟩
  case unwarn =>
    intro s c hs
    have hone := oneCluster_modCluster c.val (fun x => { x with warned := false }) s
    exact ⟨_, hone.done hs, hone⟩
  case warn =>
    intro s c hs
    have hone := oneCluster_modCluster c.val (fun x => { x with warned := true }) s
    exact ⟨_, hone.done hs, hone⟩
  case idle =>
    intro s c hs hon hawake hdue hstill
    have hone := oneCluster_modCluster c.val (fun x => { x with gated := true }) s
    refine ⟨_, Eq.trans ?_ (hone.done hs), hone⟩
    show done (onAwake (gateCluster c.val) s) = _
    rw [onAwake_run _ hon hawake, gateCluster, if_pos (by simp [clusterIdle_of_still hstill, hdue])]
  case point =>
    intro s c hs hon hawake hdue
    have hone := oneCluster_modCluster c.val (fun x => { x with point := pointInEffect s }) s
    refine ⟨_, Eq.trans ?_ (hone.done hs), hone⟩
    show done (onAwake (switchPoint c.val) s) = _
    rw [onAwake_run _ hon hawake, switchPoint, if_pos (by simpa using hdue)]
  case ramp =>
    intro s a hs hon hawake hidle
    have hstep : exec (.rampDown a) s = done (modArr a.val (fun x => { x with current := false }) s) := by
      show done (onAwake (rampDown a.val) s) = _
      rw [onAwake_run _ hon hawake, rampDown, if_neg (by simp [hidle])]
    exact ⟨_, hstep.trans (done_of_quiet _ hs), getArr_modArr a.val _ s, fun b hb => getArr_modArr_ne _ s hb, rfl⟩
  case grant =>
    intro s g hs hon
    show done (onAon (fun s => { s with power.grant := g.toNat }) s) = _
    rw [onAon_run _ hon]
    exact done_of_quiet _ hs

end

section
namespace Sys2Proof.Machine

/-! ### A spill area that ends in a peer window

`target x.pa ≠ .peer` looks at the first byte of each extent of the spill area alone (R143, R188). The area below begins in host memory
and its last 64 bytes lie in the first peer window. They go out as a peer write of the waiter `.array 192 0`, which stands for no course
of the block's arrays; the link is down, so that DEAD_TARGET ends course 0 of array 192 in this state. Its core port is served then, and
issues a course to array 0, where the store was spilled. -/

/-- Contexts 5 and 6 are READY in space 1; the spill area of context 6 begins at VA 0x40. -/
def spillContexts : Table (BitVec 512) := [(5, BitVec.ofNat 512 (2 ^ 52 + 2 ^ 116)), (6, BitVec.ofNat 512 (2 ^ 52 + 2 ^ 116 + 64 * 2 ^ 448))]

/-- A TASK_FLUSHED range entry of 201 writable pages from VA 0, the last of which is the first page of the peer windows. -/
def borderEntry : BitVec 256 := BitVec.ofNat 256 (201 * 2 ^ 176 + (2 ^ 39 - 200) * 2 ^ 136 + 2 ^ 12 + 7 * 2 ^ 8 + 1)

/-- The extent that the spill area translates to: 12,799 granules of host memory and one of the first peer window. -/
def borderExtent : Extent := ⟨64, 2251799812866112, 819200, 0, 0, false, true⟩

/-- A forwarding course of context 5, ready to start. -/
def spillingCourse : Course :=
  { id := 1, raw := BitVec.ofNat 1024 (1 + 2 ^ 7), ctx := 5, src := .queue 0 0, stream := 0, stage := .ready, opS := 0, opT := 0, opO := 0,
    foot := [], ridge := 0, round := 0, sat := false, strict := false, specData := false,
    specCont := false, windowOk := false, diagOk := false, digests := false, notStrict := false, clamps := 0, strictRun := false,
    faultRun := false, reissued := false, resume := 0, pass := 0, intake := 0, part := [], obsSoFar := -512, breachSoFar := false,
    rowSeq := [], bound := [], touched := [], kept := [], stale := false, heldKept := false, home := 0, work := noWork, seen := [],
    blocked := false, result := 0, started := 0, savedOn := 0, wrote := (0, 0) }

/-- The course that the waiter of the spilled bytes names: issued by core port 0. -/
def namedCourse : Course := { spillingCourse with id := 0, src := .core 0 0, stage := .issued }

/-- A course that core port 0 has received and not yet issued. -/
def waitingIssue : PortOp := newOp 7 (.course 1) ⟨0, 0, 0, 0, 0, 0⟩ 0 0

/-- A READY block whose array 0 holds the store of context 6. -/
def borderState : State :=
  { start.state := 1
    sched.ctx := spillContexts
    tu := { spaces := [(1, 1)], tlb := [⟨0, 1, 0, borderEntry⟩] }
    ports := [(0, { ops := [waitingIssue] })]
    arrays.arr := [(0, { courses := [spillingCourse], store := { ctx := some 6 } }), (192, { courses := [namedCourse] })] }

theorem borderState_picks : ArrayRuns (0 : ArrayId) borderState ∧ borderState.mem.flaws = [] ∧ pickCourse borderState (0 : ArrayId) = some spillingCourse ∧
    usesStore borderState (0 : ArrayId) spillingCourse = true ∧ needsSpill borderState (0 : ArrayId) spillingCourse = true := by
  unfold ArrayRuns
  decide +kernel

theorem borderState_area : (spillArea (0 : ArrayId) 6 0 needW borderState).1 = some [borderExtent] := by
  decide +kernel

theorem borderExtent_clear : WayClear borderState [] [borderExtent] := by
  unfold WayClear
  decide +kernel

/-- What the spill of one granule of an extent does. -/
def spillGranule (c : Nat) (foot : List Extent) (x : Extent) (s : State) (g : Nat) : State :=
  writeFoot (.array 192 0) c foot (x.va + (max x.pa (g * 64) - x.pa))
    (bytesOf (min (x.pa + x.len) (g * 64 + 64) - max x.pa (g * 64)) (Config.freeBits 512 s.free)) false (takeFree s)

theorem spillBytes_single (c : Nat) (x : Extent) (s : State) :
    spillBytes c [x] s = (granulesOf x.pa x.len).foldl (spillGranule c [x] x) s := rfl

theorem rangeFrom_succ (lo n : Nat) : rangeFrom lo (n + 1) = rangeFrom lo n ++ [lo + n] := by
  simp [rangeFrom, List.range_succ]

/-- A whole granule of a TASK_FLUSHED extent that lies in host memory is lost while no host port is up. -/
theorem spillGranule_lost {s : State} {c g : Nat} {x : Extent} (hdead : proxyAlive s = false) (hflushed : x.flushed = true) (hlo : x.pa ≤ g * 64)
    (hhi : g * 64 < x.pa + x.len) (hhost : target (g * 64) = .host) : spillGranule c [x] x s g = takeFree s := by
  have hin : extentOf [x] (x.va + (g * 64 - x.pa)) = some x := by
    refine List.find?_cons_of_pos ?_
    simp only [Bool.and_eq_true, decide_eq_true_eq]
    omega
  have hpa : x.pa + (x.va + (g * 64 - x.pa) - x.va) = g * 64 := by omega
  unfold spillGranule writeFoot
  simp only [Nat.max_eq_right hlo, hin, hpa, hhost, hflushed, if_true]
  rw [hostPost, if_neg]
  exact fun h => Bool.false_ne_true (hdead.symm.trans h)

/-- The granules below the peer windows are host memory. -/
theorem target_belowPeers {g : Nat} (hlo : 35184372076033 ≤ g) (hhi : g < 35184372088832) : target (g * 64) = .host := by
  unfold target
  rw [show g * 64 / 2 ^ 48 % 16 = 7 by omega]
  rfl

/-- The spill uses up a free value for each lost granule, and does nothing else. -/
theorem spill_lost {s : State} (hdead : proxyAlive s = false) (n : Nat) (hn : n ≤ 12799) :
    (rangeFrom 35184372076033 n).foldl (spillGranule 6 [borderExtent] borderExtent) s = { s with free := s.free + n } := by
  induction n with
  | zero => rfl
  | succ n ih =>
    rw [rangeFrom_succ, List.foldl_append, ih (by omega), List.foldl_cons, List.foldl_nil,
      spillGranule_lost (s := { s with free := s.free + n }) hdead rfl (by rw [show borderExtent.pa = 2251799812866112 from rfl]; omega)
        (by rw [show borderExtent.pa + borderExtent.len = 2251799813685312 from rfl]; omega) (target_belowPeers (by omega) (by omega))]
    rfl

/-- The bytes of the last granule, which go to the peer. -/
def peerBytes : List Byte := bytesOf 64 (Config.freeBits 512 12799)

theorem borderExtent_granules : granulesOf borderExtent.pa borderExtent.len = rangeFrom 35184372076033 (12799 + 1) := by
  rw [granulesOf, if_neg (by decide)]
  congr 1

theorem borderState_spill : spillBytes 6 [borderExtent] borderState =
    owe (.peerSend (.array 192 0) 1 2251799813685248 peerBytes false) { borderState with free := 12800 } := by
  rw [spillBytes_single, borderExtent_granules, rangeFrom_succ,
    List.foldl_append, spill_lost (by decide +kernel) 12799 (Nat.le_refl _)]
  rfl

theorem spillArea_state {a c home need : Nat} {s : State} {foot : List Extent} (h : (spillArea a c home need s).1 = some foot) :
    spillArea a c home need s = (some foot, s) := by
  unfold spillArea at h ⊢
  split at h
  · split at h
    · rename_i hok
      simp only [Option.some.injEq] at h
      subst h
      simp [hok]
    · simp at h
  · simp at h

/-- A store that has a translated spill area goes there whole. -/
theorem spillStore_area {a o : Nat} {s : State} {foot : List Extent} (ho : (getArr s a).store.ctx = some o) (hsure : (getArr s a).store.unsure = false)
    (harea : (spillArea a o (getArr s a).store.home needW s).1 = some foot) :
    spillStore a s = (count 0x4100 0x0B (spillBytes o foot s), (getArr s a).store) := by
  unfold spillStore
  simp only [ho, hsure, Bool.false_eq_true, if_false, spillArea_state harea]

/-- The array after the spill of its store: the store is empty, and stands in the spill table. -/
def storeGone (o : Nat) (x : ArrayU) (y : ArrayU) : ArrayU :=
  { y with store := {}, spills := tset none y.spills (spillKey o x.store.home) (some x.store) }

/-- A course that another context's store stands in the way of, and that has none of its own to reload, spills that store. -/
theorem spillFor_area {a o : Nat} {c : Course} {s : State} {foot : List Extent} (ho : (getArr s a).store.ctx = some o)
    (hsure : (getArr s a).store.unsure = false) (harea : (spillArea a o (getArr s a).store.home needW s).1 = some foot)
    (hown : ownStore (getArr s a).store c = false)
    (hnone : tget none (getArr (modArr a (storeGone o (getArr s a)) (count 0x4100 0x0B (spillBytes o foot s))) a).spills (spillKey c.ctx c.home) = none) :
    spillFor a c s = modArr a (storeGone o (getArr s a)) (count 0x4100 0x0B (spillBytes o foot s)) := by
  unfold spillFor
  simp only [ho, hown, Bool.false_eq_true, if_false, spillStore_area ho hsure harea]
  unfold storeGone at hnone ⊢
  rw [hnone]

/-- The state in which the store of array 0 has gone, and its last granule is owed to the peer. -/
def spilledState : State :=
  modArr (0 : ArrayId) (storeGone 6 (getArr borderState (0 : ArrayId)))
    (count 0x4100 0x0B (owe (.peerSend (.array 192 0) 1 2251799813685248 peerBytes false) { borderState with free := 12800 }))

/-- The area of the store that array 0 holds. -/
theorem borderState_spillArea :
    (spillArea (0 : ArrayId) 6 (getArr borderState (0 : ArrayId)).store.home needW borderState).1 = some [borderExtent] := by
  rw [show (getArr borderState (0 : ArrayId)).store.home = 0 by decide +kernel]
  exact borderState_area

theorem borderState_spillFor : spillFor (0 : ArrayId) spillingCourse borderState = spilledState := by
  have hstate : modArr (0 : ArrayId) (storeGone 6 (getArr borderState (0 : ArrayId))) (count 0x4100 0x0B (spillBytes 6 [borderExtent] borderState)) = spilledState := by
    rw [borderState_spill, spilledState]
  rw [spillFor_area (o := 6) (by decide +kernel) (by decide +kernel) borderState_spillArea (by decide +kernel) (by rw [hstate]; decide +kernel), hstate]

theorem borderState_chainSpill : exec (.chainSpill 0) borderState = done spilledState := by
  obtain ⟨⟨hfab, -, hclock⟩, -, hpick, -, hneeds⟩ := borderState_picks
  have hready : spillReady (0 : ArrayId) spillingCourse borderState = (true, borderState) := by
    unfold spillReady
    rw [show (getArr borderState (0 : ArrayId)).store = { ctx := some 6 } by decide +kernel]
    simp only [hneeds, show ownStore { ctx := some 6 } spillingCourse = false by decide +kernel, Bool.not_true, Bool.or_false, Bool.false_eq_true, if_false]
    rw [show (spillArea (0 : ArrayId) 6 0 needW borderState).1 = some [borderExtent] from borderState_area]
    exact bulkReady_of_wayClear borderExtent_clear 6
  show done (onArr _ _ _) = _
  rw [onArr, onFab_run _ hfab, if_neg (by rw [hclock]; exact Bool.false_ne_true), hpick]
  simp only [hneeds, hready, if_true, borderState_spillFor]

/-- The peer write fails, course 0 of array 192 ends DEAD_TARGET, and its core port issues a second course to array 0. -/
theorem spilledState_issues : ∃ t, done spilledState = .next t ∧ (getArr t (0 : ArrayId)).courses.length = 2 :=
  ⟨_, rfl, by decide +kernel⟩

end Sys2Proof.Machine
end

section
open Sys2Proof Sys2Proof.Machine

/-- Refutes O41: its third clause fails for `borderState`, where the spill of array 0's store makes a core port issue a second course to
that array. -/
theorem not_coursesStartAndResume : ¬ Obligations.CoursesStartAndResume := by
  rintro ⟨-, -, hspill, -⟩
  obtain ⟨hruns, hflaws, hpick, huses, -⟩ := borderState_picks
  obtain ⟨t, hstep, -, -, hcourses, -⟩ := hspill borderState 0 spillingCourse 6 [borderExtent] hruns hflaws hpick huses (by decide +kernel) (by decide +kernel)
    (by decide +kernel) (by decide +kernel) borderState_spillArea borderExtent_clear (by decide +kernel)
  obtain ⟨u, hissues, htwo⟩ := spilledState_issues
  obtain rfl : t = u := Host.Outcome.next.inj (hstep.symm.trans (borderState_chainSpill.trans hissues))
  rw [hcourses] at htwo
  exact absurd htwo (by decide +kernel)

end

section
namespace Sys2Proof.Machine

/-! ### Checked blocks (R341, R343) -/

/-- What arrives at a unit whose clock runs has its effect. -/
theorem onUnit_run {u : Nat} {s : State} (f : State → State) (hfab : fabOn s = true) (hruns : UnitRuns u s) : onUnit u f s = f s := by
  unfold onUnit onArr
  split
  next hu =>
    obtain ⟨hlo, hhi⟩ : 0x4000 ≤ u ∧ u < 0x40C0 := by simpa using hu
    rw [onFab_run _ hfab, if_neg (by rw [hruns hlo hhi]; exact Bool.false_ne_true)]
  next => exact onFab_run f hfab

theorem onArr_run {a : Nat} {s : State} (f : State → State) (h : ArrayRuns a s) : onArr a f s = f s := by
  obtain ⟨hfab, -, hclock⟩ := h
  rw [onArr, onFab_run _ hfab, if_neg (by rw [hclock]; exact Bool.false_ne_true)]

/-- What changes nothing changes nothing at a unit. -/
theorem onUnit_same {u : Nat} {s : State} {f : State → State} (h : f s = s) : onUnit u f s = s := by
  unfold onUnit onArr onFab
  simp only [h, ite_self]

theorem exec_blockCheck_fails {rc sn : BitVec 16} {s : State} (g : Nat) (w : Bool) (r : RunLog) (hfab : fabOn s = true) (hruns : UnitRuns rc.toNat s)
    (hrc : unitOk rc.toNat = true) (hsn : unitOk sn.toNat = true) :
    exec (.blockCheck rc sn g false w r) s = done (checkFails rc.toNat sn.toNat g w r s) := by
  show done (onUnit rc.toNat _ s) = _
  rw [onUnit_run _ hfab hruns, hrc, hsn]
  rfl

theorem exec_blockResend {rc sn : BitVec 16} {s : State} (g : Nat) (ok : Bool) (r : RunLog) (hfab : fabOn s = true) (hruns : UnitRuns rc.toNat s)
    (hrc : unitOk rc.toNat = true) (hsn : unitOk sn.toNat = true) :
    exec (.blockResend rc sn g ok r) s = done (resendArrives rc.toNat sn.toNat g ok r s) := by
  show done (onUnit rc.toNat _ s) = _
  rw [onUnit_run _ hfab hruns, hrc, hsn]
  rfl

/-- Which running course receives a block is a matter of the arrays alone. -/
theorem arrayReceiver_congr {s t : State} (h : t.arrays = s.arrays) (u g : Nat) : arrayReceiver t u g = arrayReceiver s u g := by
  unfold arrayReceiver runningCourse findCourse runReads getArr
  rw [h]

theorem checkFails_plain {u v g : Nat} {s : State} (w : Bool) (r : RunLog) (hnew : findXfer s u v g = none) (hplain : arrayReceiver s u g = none) :
    checkFails u v g w r s = { s with xfers := s.xfers ++ [⟨u, v, g, w, 0⟩] } := by
  unfold checkFails
  rw [hnew]
  have hplain' : arrayReceiver { s with xfers := s.xfers ++ [⟨u, v, g, w, 0⟩] } u g = none := hplain
  simp only [Option.isSome_none, Bool.false_eq_true, if_false, hplain']

/-- A re-send that fails before the fourth is asked for again. -/
theorem resendArrives_again {u v g : Nat} {x : Transfer} {s : State} (r : RunLog) (hx : findXfer s u v g = some x) (hfails : x.fails < 3) :
    resendArrives u v g false r s =
      { count 0x8000 0x13 s with xfers := s.xfers.erase x ++ [{ x with fails := x.fails + 1 }] } := by
  unfold resendArrives
  rw [hx]
  simp only [Bool.false_eq_true, if_false, show ¬ 3 ≤ x.fails by omega]
  rfl

theorem findXfer_key {u v g : Nat} {x : Transfer} {s : State} (hx : findXfer s u v g = some x) : x.receiver = u ∧ x.sender = v ∧ x.granule = g := by
  have h := List.find?_some hx
  simp only [Bool.and_eq_true, decide_eq_true_eq] at h
  exact ⟨h.1.1, h.1.2, h.2⟩

/-- The event of a re-sent block that passes, where no course receives it. -/
def passEvent (x : Transfer) : Event :=
  ⟨1, x.sender, none, x.granule * 64, 1, if x.write then 2 else 1, .ok, x.receiver + (x.fails + 1) * 2 ^ 16⟩

theorem resendArrives_passes {u v g : Nat} {x : Transfer} {s : State} (r : RunLog) (hx : findXfer s u v g = some x) (hplain : arrayReceiver s u g = none) :
    resendArrives u v g true r s = raise (passEvent x) (dropXfer x (count 0x8000 0x13 s)) := by
  obtain ⟨hu, -, hg⟩ := findXfer_key hx
  have hplain' : arrayReceiver (dropXfer x (count 0x8000 0x13 s)) x.receiver x.granule = none := by rw [hu, hg]; exact hplain
  have hevent : blockEvent 1 .ok x (x.fails + 1) (dropXfer x (count 0x8000 0x13 s)) = raise (passEvent x) (dropXfer x (count 0x8000 0x13 s)) := by
    unfold blockEvent
    rw [hplain']
    rfl
  unfold resendArrives
  rw [hx]
  simp only [if_true, hevent]
  have hstill : arrayReceiver (raise (passEvent x) (dropXfer x (count 0x8000 0x13 s))) u g = none :=
    (arrayReceiver_congr (raise_arrays _ _) u g).trans hplain
  rw [hstill]

/-! ### Records of a fence (R359) -/

/-- After a record the block still has a quiet ring, where the record after it goes to host memory too. -/
theorem RecordTaken.ringQuiet {cls : Nat} {s t : State} (h : RecordTaken cls s t) (hq : RingQuiet s)
    (hnext : ringOn s.flt.ring = true → target (ringAddr (ringBump s.flt.ring) 64) = .host) : RingQuiet t := by
  obtain ⟨hawake, hring⟩ := hq
  refine ⟨(congrArg State.asleep h.away :).trans hawake, ?_⟩
  rcases h.ring with hr | hr
  · rwa [hr]
  · rw [hr]
    exact hnext

theorem ringQuiet_of_twice {s : State} (hfab : fabOn s = true) (h : RecordsTwice s) : RingQuiet s := by
  obtain ⟨-, hring⟩ := h
  exact ⟨awake_of_fabOn hfab, fun hon => (hring hon).1⟩

/-- A fence or a return to use, told to the collector: the generation goes up, and what `RecordTaken` lists may change. -/
structure CapacityTold (s t : State) : Prop where
  away : outsideRaiseAway t = outsideRaiseAway s
  gen : t.flt.capacityGen = (s.flt.capacityGen + 1) % 2 ^ 32
  acts : s.flt.grace.length < 64 → t.acts = s.acts
  ctr : ∀ i j, outsideFaultCounters (okey i j) → ctr t i j = ctr s i j

theorem capacityTold {s : State} (fenced : Bool) (unit cause : Nat) (h : RingQuiet s) : CapacityTold s (capacityChanged fenced unit cause s) := by
  unfold capacityChanged raiseControl
  extract_lets _ s₁ s₂
  have haway : outsideRaiseAway s₂ = outsideRaiseAway s := by unfold s₂; split <;> rfl
  have hacts : s₂.acts = s.acts := by unfold s₂; split <;> rfl
  have hflt : s₂.flt = { s.flt with capacityGen := (s.flt.capacityGen + 1) % 2 ^ 32 } := by unfold s₂; split <;> rfl
  have hquiet : RingQuiet s₂ := ⟨(congrArg State.asleep haway :).trans h.1, by rw [hflt]; exact h.2⟩
  have htaken := recordTaken_raise { cls := 0x11, unit := unit, ctx := none, op := 0x0F, detail := (if fenced then 0 else 1) + 4 * cause } hquiet
  exact { away := htaken.away.trans haway
          gen := htaken.gen.trans (by rw [hflt])
          acts := fun hg => (htaken.acts (by rw [hflt]; exact hg)).trans hacts
          ctr := fun i j hk => by
            rw [htaken.ctr (show 0x11 < 256 by decide) i j hk]
            unfold s₂
            split
            · exact ctr_count_out _ _ _ hk rfl (.inl (by norm_num))
            · rfl }

end Sys2Proof.Machine
end

section
namespace Sys2Proof.Machine

/-! ### Units whose duplicated machines differ (R118, R360)

Two records are raised, the mismatch and the fence. -/

/-- The record of the mismatch, in a block that can take two records: what `RecordTaken` says, and the ring is quiet still. -/
structure MismatchTold (s t : State) : Prop where
  away : outsideRaiseAway t = outsideRaiseAway s
  gen : t.flt.capacityGen = s.flt.capacityGen
  acts : t.acts = s.acts
  quiet : RingQuiet t
  grace : t.flt.grace.length < 64
  ctr : ∀ i j, outsideFaultCounters (okey i j) → ctr t i j = ctr s i j

theorem mismatchTold {s : State} (unit : Nat) (hawake : s.asleep = false) (htwice : RecordsTwice s) : MismatchTold s (mismatchEvent unit s) := by
  obtain ⟨hgrace, hring⟩ := htwice
  have hq : RingQuiet s := ⟨hawake, fun hon => (hring hon).1⟩
  have htaken := recordTaken_raise ⟨7, unit, none, 0, 0, 0x0C, .fencedUnit, 0⟩ hq
  exact { away := htaken.away
          gen := htaken.gen
          acts := htaken.acts (by omega)
          quiet := htaken.ringQuiet hq fun hon => (hring hon).2
          grace := htaken.grace.trans_lt hgrace
          ctr := htaken.ctr (show 7 < 256 by decide) }

/-- A change beside the collector between the two records. -/
theorem MismatchTold.fence {s t u : State} (h : MismatchTold s t) (hflt : u.flt = t.flt) (hawake : u.asleep = t.asleep) (hacts : u.acts = t.acts)
    (unit cause : Nat) : CapacityTold u (capacityChanged true unit cause u) ∧ (capacityChanged true unit cause u).acts = s.acts ∧
      (capacityChanged true unit cause u).flt.capacityGen = (s.flt.capacityGen + 1) % 2 ^ 32 := by
  have htold := capacityTold true unit cause (s := u) ⟨hawake.trans h.quiet.1, by rw [hflt]; exact h.quiet.2⟩
  refine ⟨htold, ?_, ?_⟩
  · rw [htold.acts (by rw [hflt]; exact h.grace), hacts, h.acts]
  · rw [htold.gen, hflt, h.gen]

/-! #### Arrays -/

/-- With no course to move, a fenced array's move changes neither the collector nor which arrays are fenced. -/
structure MovesNothing (s t : State) : Prop where
  flt : t.flt = s.flt
  asleep : t.asleep = s.asleep
  acts : t.acts = s.acts
  ports : t.ports = s.ports
  ctrs : t.ctrs = s.ctrs
  fenced : ∀ b, (getArr t b).fenced = (getArr s b).fenced
  cause : ∀ b, (getArr t b).cause = (getArr s b).cause

/-- A field of an array's record that a change of the record leaves is left at every array. -/
theorem getArr_modArr_field {α : Type} (p : ArrayU → α) {a : Nat} {f : ArrayU → ArrayU} (hf : ∀ x, p (f x) = p x) (s : State) (b : Nat) :
    p (getArr (modArr a f s) b) = p (getArr s b) := by
  by_cases hb : b = a
  · rw [hb, getArr_modArr, hf]
  · rw [getArr_modArr_ne f s hb]

theorem moveCourses_idle {a : Nat} {s : State} (faulted : Bool) (hcourses : (getArr s a).courses = []) : MovesNothing s (moveCourses a faulted s) := by
  unfold moveCourses
  simp only [hcourses, List.partition_eq_filter_filter, List.filter_nil]
  split
  · exact ⟨rfl, rfl, rfl, rfl, rfl, fun _ => rfl, fun _ => rfl⟩
  · simp only [List.foldl_nil]
    exact ⟨rfl, rfl, rfl, rfl, rfl,
      fun b => by
        refine (getArr_modArr_field (·.fenced) ?_ _ b).trans (getArr_modArr_field (·.fenced) ?_ _ b) <;> exact fun _ => rfl,
      fun b => by
        refine (getArr_modArr_field (·.cause) ?_ _ b).trans (getArr_modArr_field (·.cause) ?_ _ b) <;> exact fun _ => rfl⟩

/-- The array as fenced, with no other change to it. -/
def arrayFenced (a cause : Nat) (s : State) : State := modArr a (fun x => { x with fenced := true, cause := cause, fencing := none }) s

/-- The fence of an unfenced array that runs nothing, after a sequencer mismatch. -/
theorem fenceArray_idle {a : Nat} {s : State} (cause fenceCause : Nat) (r : RunLog) (hfenced : (getArr s a).fenced = false)
    (hrun : (getArr s a).run = none) : fenceArray a cause fenceCause (some r) s =
      capacityChanged true (0x4000 + a) cause (moveCourses a true (arrayFenced a fenceCause s)) := by
  have hidle : mismatchedCourse a r s = s := by
    unfold mismatchedCourse runningCourse
    rw [hrun]
  unfold fenceArray
  simp only [hfenced, Bool.false_eq_true, if_false, hidle]
  rfl

theorem arrayFenced_same (a cause : Nat) (s : State) : (getArr (arrayFenced a cause s) a).fenced = true ∧ (getArr (arrayFenced a cause s) a).cause = cause := by
  rw [arrayFenced, getArr_modArr]
  exact ⟨rfl, rfl⟩

theorem arrayFenced_ne {a b : Nat} (cause : Nat) (s : State) (h : b ≠ a) : getArr (arrayFenced a cause s) b = getArr s b := getArr_modArr_ne _ s h

/-- The state of a sequencer mismatch, counted for the block and for the array. -/
def mismatchCounted (a : Nat) (s : State) : State := count 0x4100 8 (count (0x4101 + a) 8 s)

theorem ctr_mismatchCounted {a : Nat} (ha : a < 192) (s : State) :
    ctr (mismatchCounted a s) 0x4100 8 = ctr s 0x4100 8 + 1 ∧ ctr (mismatchCounted a s) (0x4101 + a) 8 = ctr s (0x4101 + a) 8 + 1 := by
  have hne : okey 0x4100 8 ≠ okey (0x4101 + a) 8 := by simp only [okey]; omega
  unfold mismatchCounted
  exact ⟨by rw [ctr_count_same, ctr_count, if_neg hne], by rw [ctr_count, if_neg hne.symm, ctr_count_same]⟩

theorem outsideFaultCounters_array {i j : Nat} (hi : 0x4100 ≤ i) (hi' : i < 0x4200) (hj : j < 256) : outsideFaultCounters (okey i j) := by
  simp only [outsideFaultCounters, okey]
  omega

/-- An unfenced array that runs nothing and has no courses is fenced by a mismatch of its sequencers (R118). -/
theorem sequencersDiffer_fences {a : Nat} {s : State} (r : RunLog) (ha : a < 192) (hfab : fabOn s = true) (htwice : RecordsTwice s)
    (hfenced : (getArr s a).fenced = false) (hcourses : (getArr s a).courses = []) (hrun : (getArr s a).run = none) :
    let t := sequencersDiffer a r s
    t.acts = s.acts ∧ (getArr t a).fenced = true ∧ (getArr t a).cause = 2 ∧ ctr t 0x4100 8 = ctr s 0x4100 8 + 1 ∧
      ctr t (0x4101 + a) 8 = ctr s (0x4101 + a) 8 + 1 ∧ (∀ b, b ≠ a → (getArr t b).fenced = (getArr s b).fenced) ∧ t.ports = s.ports := by
  have hmis := mismatchTold (s := mismatchCounted a s) (0x4000 + a) (awake_of_fabOn hfab) htwice
  generalize hs₁ : mismatchEvent (0x4000 + a) (mismatchCounted a s) = s₁ at hmis
  have harr (b : Nat) : getArr s₁ b = getArr s b := by
    rw [← hs₁]
    exact congrArg (fun x : ArrayUnit => tget ({} : ArrayU) x.arr b) (raise_arrays _ _)
  have hmove := moveCourses_idle (a := a) (s := arrayFenced a 2 s₁) true (by rw [arrayFenced, getArr_modArr, harr, hcourses])
  have hstep : sequencersDiffer a r s = capacityChanged true (0x4000 + a) 2 (moveCourses a true (arrayFenced a 2 s₁)) := by
    rw [← fenceArray_idle 2 2 r (by rw [harr, hfenced]) (by rw [harr, hrun]), sequencersDiffer, if_neg (by rw [hfenced]; exact Bool.false_ne_true), ← hs₁]
    rfl
  obtain ⟨htold, hacts, -⟩ := hmis.fence hmove.flt hmove.asleep hmove.acts (0x4000 + a) 2
  rw [hstep]
  generalize capacityChanged true (0x4000 + a) 2 (moveCourses a true (arrayFenced a 2 s₁)) = t at htold hacts
  have hget (b : Nat) : getArr t b = getArr (moveCourses a true (arrayFenced a 2 s₁)) b :=
    (congrArg (fun x : State => tget ({} : ArrayU) x.arrays.arr b) htold.away :)
  have hctr {i j : Nat} (h : outsideFaultCounters (okey i j)) : ctr t i j = ctr (mismatchCounted a s) i j := by
    rw [htold.ctr i j h, ctr, hmove.ctrs]
    exact hmis.ctr i j h
  obtain ⟨hone, hself⟩ := ctr_mismatchCounted ha s
  obtain ⟨hf, hc⟩ := arrayFenced_same a 2 s₁
  refine ⟨hacts, ?_, ?_, ?_, ?_, fun b hb => ?_, ?_⟩
  · rw [hget, hmove.fenced, hf]
  · rw [hget, hmove.cause, hc]
  · rw [hctr (outsideFaultCounters_array (by omega) (by omega) (by omega)), hone]
  · rw [hctr (outsideFaultCounters_array (by omega) (by omega) (by omega)), hself]
  · rw [hget, hmove.fenced, arrayFenced_ne 2 s₁ hb, harr]
  · rw [show t.ports = (moveCourses a true (arrayFenced a 2 s₁)).ports from (congrArg State.ports htold.away :), hmove.ports]
    exact (congrArg State.ports hmis.away :)

end Sys2Proof.Machine
end

section
namespace Sys2Proof.Machine

/-! #### Copy engines and walkers -/

/-- Steps each of which leaves a state as it is leave it as it is. -/
theorem foldl_still {α : Type} {f : State → α → State} {s : State} : ∀ {l : List α}, (∀ x ∈ l, f s x = s) → l.foldl f s = s
  | [], _ => rfl
  | x :: l, h => by
    rw [List.foldl_cons, h x List.mem_cons_self]
    exact foldl_still fun y hy => h y (List.mem_cons_of_mem x hy)

/-- Without queue commands none is stranded. -/
theorem strandCmds_of_none {s : State} (h : ∀ kv ∈ s.queues, kv.2.cmds = []) : strandCmds s = s :=
  foldl_still fun kv hkv => by rw [h kv hkv]; rfl

theorem engineFaults_of_idle {e : Nat} {s : State} (st : Status) (h : (getEngine s e).job = none) : engineFaults e st s = s := by
  unfold engineFaults
  rw [h]

/-- The engine as fenced, with no other change to it. -/
def engineFenced (e : Nat) (s : State) : State := modEngine e (fun x => { x with fenced := true, fencing := false }) s

theorem unit_toNat {b k : Nat} (h : b + k < 2 ^ 16) : (BitVec.ofNat 16 b + BitVec.ofNat 16 k).toNat = b + k := by
  rw [BitVec.toNat_add, BitVec.toNat_ofNat, BitVec.toNat_ofNat]
  omega

/-- The state after both records of an engine's mismatch. -/
def engineTold (e : Nat) (s : State) : State := capacityChanged true (0x8000 + e) 2 (engineFenced e (mismatchEvent (0x8000 + e) s))

theorem machinesDiffer_told {e : Nat} {s : State} (he : e < 40) (hfenced : (getEngine s e).fenced = false)
    (hmigrate : (getEngine (engineTold e s) e).migrate = none) :
    machinesDiffer (0x8000 + e) s = strandCmds (engineFaults e .fencedUnit (engineTold e s)) := by
  unfold machinesDiffer
  rw [if_pos (by simp; omega)]
  simp only [Nat.add_sub_cancel_left, hfenced, Bool.false_eq_true, if_false]
  split
  next h => exact absurd (h.symm.trans hmigrate) (Option.some_ne_none _)
  next => rfl

/-- An idle engine of a block without queue commands is fenced by a mismatch of its machines (R360). -/
theorem machinesDiffer_engine {e : Nat} {s : State} (he : e < 40) (hfab : fabOn s = true) (htwice : RecordsTwice s) (hidle : getEngine s e = {})
    (hqueues : ∀ kv ∈ s.queues, kv.2.cmds = []) :
    let t := machinesDiffer (0x8000 + e) s
    t.acts = s.acts ∧ (getEngine t e).fenced = true ∧ (∀ d, d ≠ e → getEngine t d = getEngine s d) ∧
      t.flt.capacityGen = (s.flt.capacityGen + 1) % 2 ^ 32 ∧ t.queues = s.queues ∧ t.ports = s.ports := by
  have hmis := mismatchTold (0x8000 + e) (awake_of_fabOn hfab) htwice
  obtain ⟨htold, hacts, hgen⟩ := hmis.fence (u := engineFenced e (mismatchEvent (0x8000 + e) s)) rfl rfl rfl (0x8000 + e) 2
  have hget (d : Nat) : getEngine (engineTold e s) d = if d = e then { fenced := true } else getEngine s d := by
    rw [show getEngine (engineTold e s) d = getEngine (engineFenced e (mismatchEvent (0x8000 + e) s)) d from
      (congrArg (fun x : State => tget ({} : Engine) x.engines d) htold.away :), engineFenced, getEngine_modEngine]
    unfold mismatchEvent
    rw [getEngine_raise, getEngine_raise, hidle]
  have hself : getEngine (engineTold e s) e = { fenced := true } := (hget e).trans (if_pos rfl)
  have hqs : (engineTold e s).queues = s.queues := (congrArg State.queues htold.away :).trans (congrArg State.queues hmis.away :)
  have hports : (engineTold e s).ports = s.ports := (congrArg State.ports htold.away :).trans (congrArg State.ports hmis.away :)
  have hstep : machinesDiffer (0x8000 + e) s = engineTold e s := by
    rw [machinesDiffer_told he (by rw [hidle]) (by rw [hself]), engineFaults_of_idle _ (by rw [hself]),
      strandCmds_of_none (by rw [hqs]; exact hqueues)]
  rw [hstep]
  exact ⟨hacts, by rw [hself], fun d hd => (hget d).trans (if_neg hd), hgen, hqs, hports⟩

/-- The walker as fenced; it had no walk. -/
def walkerFenced (k : Nat) (s : State) : State :=
  { s with tu.walkerFenced := tset false s.tu.walkerFenced k true, tu.walks := tset none s.tu.walks k none }

/-- An idle walker is fenced by a mismatch of its machines (R175, R360). -/
theorem machinesDiffer_walker {k : Nat} {s : State} (hk : k < 64) (hfab : fabOn s = true) (htwice : RecordsTwice s)
    (hfenced : tget false s.tu.walkerFenced k = false) (hidle : tget none s.tu.walks k = none) :
    let t := machinesDiffer (0x7000 + k) s
    t.acts = s.acts ∧ tget false t.tu.walkerFenced k = true ∧ t.tu.tlb = s.tu.tlb ∧ t.ports = s.ports := by
  have hmis := mismatchTold (0x7000 + k) (awake_of_fabOn hfab) htwice
  have htu : (mismatchEvent (0x7000 + k) s).tu = s.tu := raise_tu _ _
  have hstep : machinesDiffer (0x7000 + k) s = capacityChanged true (0x7000 + k) 2 (walkerFenced k (mismatchEvent (0x7000 + k) s)) := by
    unfold machinesDiffer
    rw [if_neg (by simp; omega), if_pos (by simp; omega)]
    simp only [Nat.add_sub_cancel_left, hfenced, Bool.false_eq_true, if_false]
    unfold fenceWalker
    rw [htu, hfenced, hidle]
    simp only [Bool.false_eq_true, if_false, walkerFenced, htu]
  obtain ⟨htold, hacts, -⟩ := hmis.fence (u := walkerFenced k (mismatchEvent (0x7000 + k) s)) rfl rfl rfl (0x7000 + k) 2
  have htu' : (capacityChanged true (0x7000 + k) 2 (walkerFenced k (mismatchEvent (0x7000 + k) s))).tu = (walkerFenced k (mismatchEvent (0x7000 + k) s)).tu :=
    (congrArg State.tu htold.away :)
  rw [hstep]
  refine ⟨hacts, ?_, ?_, ?_⟩
  · rw [htu']
    exact tget_tset_same _ _ _ _
  · rw [htu']
    exact congrArg (·.tlb) htu
  · exact (congrArg State.ports htold.away :).trans (congrArg State.ports hmis.away :)

end Sys2Proof.Machine
end

section
namespace Sys2Proof.Machine

/-! ### Step lists (R326 to R329) -/

/-- What an access of storage leaves of the step lists: the scheduler's state and the count of the lists (0x6C00:08). -/
def listsOf (s : State) : Sched × BitVec 64 := (s.sched, ctr s 0x6C00 8)

theorem listsOf_count {i j : Nat} (s : State) (h : okey 0x6C00 8 ≠ okey i j) : listsOf (count i j s) = listsOf s := by
  unfold listsOf
  rw [ctr_count, if_neg h]
  rfl

theorem listsOf_portSend (p : Nat) (o : Out) (s : State) : listsOf (portSend p o s) = listsOf s := by
  unfold portSend
  split <;> rfl

theorem listsOf_touch (g : Nat) (s : State) : listsOf (touch g s) = listsOf s := by
  unfold touch
  split
  · rfl
  · split <;> rfl
  · rfl
  · split <;> rfl
  · rfl

theorem listsOf_setNear (p g : Nat) (l : NearLine) (s : State) : listsOf (setNear p g l s) = listsOf s := by
  unfold setNear
  dsimp only
  split <;> rfl

theorem listsOf_unfresh (gs : List Nat) (s : State) : listsOf (unfresh gs s) = listsOf s := by
  unfold unfresh
  split <;> rfl

theorem listsOf_foldl {α : Type} {f : State → α → State} (h : ∀ s x, listsOf (f s x) = listsOf s) (l : List α) (s : State) :
    listsOf (l.foldl f s) = listsOf s := by
  induction l generalizing s with
  | nil => rfl
  | cons x l ih => rw [List.foldl_cons, ih, h]

theorem listsOf_dropCopies (g : Nat) (s : State) : listsOf (dropCopies g s) = listsOf s := by
  unfold dropCopies
  dsimp only
  have hdir (e : DirEntry) (x : State) : listsOf (setDir g e x) = listsOf x := rfl
  rw [hdir, listsOf_foldl]
  · split
    · exact listsOf_count s (by decide)
    · rfl
  · intro x p
    split
    · exact listsOf_setNear p g {} x
    · rw [listsOf_count _ (by decide), listsOf_portSend]

/-- A step of a write between the addresses `lo` and `hi`: outside them memory keeps its bytes, and the step lists are as they were. -/
structure WritesWithin (lo hi : Nat) (s t : State) : Prop extends Aside s t where
  lists : listsOf t = listsOf s
  others : ∀ b, b < lo ∨ hi ≤ b → byteAt t b = byteAt s b

theorem WritesWithin.refl (lo hi : Nat) (s : State) : WritesWithin lo hi s s := ⟨.refl s, rfl, fun _ _ => rfl⟩

theorem WritesWithin.trans {lo hi : Nat} {s t u : State} (h : WritesWithin lo hi s t) (k : WritesWithin lo hi t u) : WritesWithin lo hi s u :=
  ⟨h.toAside.trans k.toAside, k.lists.trans h.lists, fun b hb => (k.others b hb).trans (h.others b hb)⟩

theorem Reads.within {lo hi : Nat} {s t : State} (h : Reads s t) (hl : listsOf t = listsOf s) : WritesWithin lo hi s t :=
  ⟨h.toAside, hl, fun b _ => h.byteAt b⟩

/-- Steps of a write, one after another, in a storage without errors. -/
theorem WritesWithin.foldl {α : Type} {f : State → α → State} {lo hi : Nat} :
    ∀ {l : List α} {s : State}, s.mem.flaws = [] → (∀ x ∈ l, ∀ t : State, t.mem.flaws = [] → WritesWithin lo hi t (f t x)) → WritesWithin lo hi s (l.foldl f s)
  | [], s, _, _ => .refl lo hi s
  | x :: l, s, hflaws, hf => by
    have hx := hf x List.mem_cons_self s hflaws
    exact hx.trans (WritesWithin.foldl (hx.flaws.trans hflaws) fun y hy => hf y (List.mem_cons_of_mem x hy))

/-- A change of memory's bytes inside one granule. -/
theorem within_bytes {lo hi g : Nat} {s : State} {x : MemUnit} {v : Line} (n : Nat) (hslots : x.slots = s.mem.slots) (hflaws : x.flaws = s.mem.flaws)
    (hbytes : x.bytes = putBytes s.mem.bytes (g * 64) (bytesOf 64 v)) (hlo : lo ≤ g * 64) (hhi : g * 64 + 64 ≤ hi) :
    WritesWithin lo hi s { s with mem := x, free := n } where
  beside := by rw [besideAccess, besideAccess, hslots, hflaws]
  results := rfl
  lists := rfl
  others := fun b hb => by
    rw [byteAt, hbytes]
    exact tget_putBytes_outside _ _ _ _ (by rw [bytesOf, length_toLe]; omega)

theorem within_writeGranule {lo hi c k g : Nat} (d : Line) (m : Word) (poison : Bool) (s : State) (hlo : lo ≤ g * 64) (hhi : g * 64 + 64 ≤ hi) :
    WritesWithin lo hi s (writeGranule c k g d m poison s) := by
  unfold writeGranule
  dsimp only
  split <;> exact within_bytes (v := mergeLine _ d m) _ rfl rfl (by dsimp only) hlo hhi

/-- The granules of an aligned run of whole granules lie in it. -/
theorem mem_granulesOf_aligned {pa n g : Nat} (hpa : pa % 64 = 0) (hn : n % 64 = 0) (h : g ∈ granulesOf pa n) : pa ≤ g * 64 ∧ g * 64 + 64 ≤ pa + n := by
  unfold granulesOf at h
  split at h
  · cases h
  · obtain ⟨hlo, hhi⟩ := mem_rangeFrom.1 h
    omega

/-- A write of whole granules of scratch changes memory inside its run alone (Table 9.5). -/
theorem within_homeWrite {s : State} {c k pa cache : Nat} {bs : List Byte} (hflaws : s.mem.flaws = []) (hpa : pa % 64 = 0) (hn : bs.length % 64 = 0)
    (hscratch : target pa = .scratch) : WritesWithin pa (pa + bs.length) s (homeWrite c k pa bs false cache s) := by
  unfold homeWrite
  simp only [hscratch, reduceCtorEq, if_false]
  have hdrop : WritesWithin pa (pa + bs.length) s
      ((granulesOf pa bs.length).foldl (fun st g => dropCopies g (meetWrite (some c) g (decide (pa ≤ g * 64) && decide (g * 64 + 64 ≤ pa + bs.length)) st)) s) := by
    refine WritesWithin.foldl hflaws fun g _ t ht => ?_
    rw [meetWrite_sound ht]
    exact (reads_dropCopies ht g).within (listsOf_dropCopies g t)
  refine hdrop.trans (WritesWithin.trans ?_ ((reads_unfresh _ _).within (listsOf_unfresh _ _)))
  unfold writeRun
  refine WritesWithin.foldl (hdrop.flaws.trans hflaws) fun g hg t ht => ?_
  obtain ⟨hlo, hhi⟩ := mem_granulesOf_aligned hpa hn hg
  dsimp only
  rw [meetWrite_sound ht]
  exact ((reads_touch g t).within (listsOf_touch g t)).trans (within_writeGranule _ _ false _ hlo hhi)

theorem length_flatMap_const {α β : Type} {f : α → List β} {k : Nat} (h : ∀ x, (f x).length = k) (l : List α) : (l.flatMap f).length = l.length * k := by
  induction l with
  | nil => simp
  | cons x l ih => rw [List.flatMap_cons, List.length_append, h, ih, List.length_cons]; ring

/-- A bank holds 4,096 row-map entries of 4 bytes and 4,096 sequence records of 16 (R326). -/
theorem length_bankImage (s : State) (qs : List Nat) : (bankImage s qs).length = 81920 := by
  rw [bankImage, List.length_append, length_flatMap_const (k := 4), length_flatMap_const (k := 16), List.length_range]
  · intro r
    split <;> simp
  · intro r
    split <;> simp

/-- A bank lies in scratch, at a granule's border. -/
theorem bankAddr_scratch (s : State) (c : Nat) {b : Nat} (hb : b < 2) : target (bankAddr s c b) = .scratch ∧ bankAddr s c b % 64 = 0 := by
  have hlt : fld (getCtx s c) 320 32 < 2 ^ 32 := Nat.mod_lt _ (Nat.two_pow_pos 32)
  unfold bankAddr target
  generalize fld (getCtx s c) 320 32 = x at hlt
  have hone : (2 ^ 48 + x * 64 + 81920 * b) / 2 ^ 48 = 1 := by omega
  rw [hone]
  exact ⟨rfl, by omega⟩

/-- What binding does to sequence `q`'s entry: a chosen one takes its row and its next step, another of the context no row. -/
def boundEntry (c : Nat) (qs : List Nat) (q : Nat) (e : BitVec 512) : BitVec 512 :=
  if sqState e ≠ 0 && sqCtx e = c then
    match qs.idxOf? q with
    | some r => putSeq [(80, 16, r), (224, 32, sqBound e + 1)] e
    | none => putSeq [(80, 16, 0xFFFF)] e
  else e

/-- An entry that is not there stays so. -/
theorem boundEntry_zero (c : Nat) (qs : List Nat) (q : Nat) : boundEntry c qs q 0 = 0 :=
  if_neg (by rw [show sqState (0 : BitVec 512) = 0 by decide +kernel]; exact Bool.false_ne_true)

/-- A change of every listed entry by its key and value, which leaves the entry that an unlisted key reads as. -/
theorem tget_mapEntries {α : Type} {d : α} {f : Nat → α → α} (hd : ∀ k, f k d = d) (m : Table α) (k : Nat) :
    tget d (m.map fun kv => (kv.1, f kv.1 kv.2)) k = f k (tget d m k) := by
  induction m with
  | nil => exact (hd k).symm
  | cons x m ih =>
    obtain ⟨j, v⟩ := x
    rw [List.map_cons, tget, tget]
    split
    next h => rw [h]
    next => exact ih

theorem getSeq_bindRows (c : Nat) (qs : List Nat) (s : State) (q : Nat) : getSeq (bindRows c qs s) q = boundEntry c qs q (getSeq s q) := by
  have hmap : (bindRows c qs s).sched.seqs = s.sched.seqs.map fun kv => (kv.1, boundEntry c qs kv.1 kv.2) := by
    refine List.map_congr_left fun kv _ => ?_
    unfold boundEntry
    split <;> rfl
  unfold getSeq
  rw [hmap]
  exact tget_mapEntries (f := boundEntry c qs) (boundEntry_zero c qs) s.sched.seqs q

/-- The bank that the next list of a context goes to. -/
def nextBank (s : State) (c : Nat) : Nat := bankAddr s c (((getRun s c).built + 1) % 2)

/-- What follows the write of a list: the charge, the count, the binding of its sequences, and the step's record. -/
def listBound (c : Nat) (qs : List Nat) (n pa len : Nat) (u : State) : State :=
  modRun c (fun r => { r with built := n, issuing := some n, gate := 0 }) (bindRows c qs (count 0x6C00 8 (chargeBytes c pa len u)))

theorem getRun_modRun (c : Nat) (f : StepRun → StepRun) (s : State) : getRun (modRun c f s) c = f (getRun s c) :=
  (tget_tmod ({} : StepRun) s.sched.steps c c f).trans (if_pos rfl)

theorem books_modRun (c : Nat) (f : StepRun → StepRun) (s : State) : Books s (modRun c f s) := ⟨⟨rfl, rfl⟩, rfl⟩

theorem books_bindRows (c : Nat) (qs : List Nat) (s : State) : Books s (bindRows c qs s) := ⟨⟨rfl, rfl⟩, rfl⟩

theorem books_chargeBytes (c pa n : Nat) (s : State) : Books s (chargeBytes c pa n s) := books_chargeInd c _ s

theorem books_listBound (c : Nat) (qs : List Nat) (n pa len : Nat) (u : State) : Books u (listBound c qs n pa len u) :=
  (books_chargeBytes c pa len u).trans <| (books_count _ (by decide)).trans <| (books_bindRows c qs _).trans (books_modRun c _ _)

theorem listBound_ctr (c : Nat) (qs : List Nat) (n pa len : Nat) (u : State) : ctr (listBound c qs n pa len u) 0x6C00 8 = ctr u 0x6C00 8 + 1 :=
  ctr_count_same 0x6C00 8 _

theorem getRun_listBound (c : Nat) (qs : List Nat) (n pa len : Nat) (u : State) :
    getRun (listBound c qs n pa len u) c = { getRun u c with built := n, issuing := some n, gate := 0 } :=
  getRun_modRun c _ _

theorem getSeq_listBound (c : Nat) (qs : List Nat) (n pa len : Nat) (u : State) (q : Nat) :
    getSeq (listBound c qs n pa len u) q = boundEntry c qs q (getSeq u q) := getSeq_bindRows c qs _ q

/-- The list of a context with eligible sequences is built (R326, R327). -/
structure ListBuilt (c : Nat) (qs : List Nat) (s t : State) : Prop where
  acts : t.acts = s.acts
  run : getRun t c = { getRun s c with built := (getRun s c).built + 1, issuing := some ((getRun s c).built + 1), gate := 0 }
  lists : ctr t 0x6C00 8 = ctr s 0x6C00 8 + 1
  seqs : ∀ q, getSeq t q = boundEntry c qs q (getSeq s q)
  others : ∀ b, b < nextBank s c ∨ nextBank s c + 81920 ≤ b → byteAt t b = byteAt s b

theorem buildList_eq {c : Nat} {s : State} {qs : List Nat} (hqs : qs = (ranked s c).take (fld (getCtx s c) 352 16)) (hne : qs ≠ []) :
    buildList c s = listBound c qs ((getRun s c).built + 1) (nextBank s c) 81920 (homeWrite c blockSlot (nextBank s c) (bankImage s qs) false 2 s) := by
  unfold buildList
  rw [← hqs]
  exact if_neg (by simpa using hne)

theorem buildList_builds {c : Nat} {s : State} {qs : List Nat} (hflaws : s.mem.flaws = []) (hqs : qs = (ranked s c).take (fld (getCtx s c) 352 16))
    (hne : qs ≠ []) : ListBuilt c qs s (buildList c s) := by
  obtain ⟨hscratch, haligned⟩ := bankAddr_scratch s c (Nat.mod_lt ((getRun s c).built + 1) Nat.two_pos)
  have hwrite : WritesWithin (nextBank s c) (nextBank s c + (bankImage s qs).length) s (homeWrite c blockSlot (nextBank s c) (bankImage s qs) false 2 s) :=
    within_homeWrite hflaws haligned (by rw [length_bankImage]) hscratch
  rw [length_bankImage] at hwrite
  rw [buildList_eq hqs hne]
  generalize homeWrite c blockSlot (nextBank s c) (bankImage s qs) false 2 s = u at hwrite
  have hsched : u.sched = s.sched := (congrArg Prod.fst hwrite.lists :)
  have hcount : ctr u 0x6C00 8 = ctr s 0x6C00 8 := (congrArg Prod.snd hwrite.lists :)
  exact { acts := (books_listBound _ _ _ _ _ _).acts.trans hwrite.acts
          run := by rw [getRun_listBound, show getRun u c = getRun s c by rw [getRun, getRun, hsched]]
          lists := by rw [listBound_ctr, hcount]
          seqs := fun q => by rw [getSeq_listBound, show getSeq u q = getSeq s q by rw [getSeq, getSeq, hsched]]
          others := fun b hb => by
            rw [← hwrite.others b hb, byteAt, byteAt, (books_listBound _ _ _ _ _ _).mem] }

theorem range_filter_eq (n c : Nat) : ((List.range n).filter fun k => decide (k = c)) = if c < n then [c] else [] := by
  induction n with
  | zero => rfl
  | succ n ih =>
    rw [List.range_succ, List.filter_append, ih]
    rcases Nat.lt_trichotomy c n with h | rfl | h
    · simp [h, Nat.lt_succ_of_lt h, Nat.ne_of_gt h]
    · simp
    · simp [Nat.not_lt_of_gt h, show ¬ c < n + 1 by omega, Nat.ne_of_lt h]

/-- A scan with one list due builds that list (R329). -/
theorem listScan_one {c : Nat} {s : State} (hc : c < 4096) (hdue : ∀ k, k < 4096 → buildDue s k = decide (k = c)) : listScan s = buildList c s := by
  have hfilter : (List.range 4096).filter (buildDue s) = [c] := by
    rw [List.filter_congr fun k hk => hdue k (List.mem_range.1 hk), range_filter_eq, if_pos hc]
  rw [listScan, hfilter]
  rfl

/-- A scan with no list due changes nothing. -/
theorem listScan_none {s : State} (hdue : ∀ k, k < 4096 → buildDue s k = false) : listScan s = s := by
  have hfilter : (List.range 4096).filter (buildDue s) = [] :=
    List.filter_eq_nil_iff.2 fun k hk => by rw [hdue k (List.mem_range.1 hk)]; exact Bool.false_ne_true
  rw [listScan, hfilter]
  rfl

end Sys2Proof.Machine
end

section
namespace Sys2Proof.Machine

/-! ### A step's courses are issued (R328)

DS reads the step program, which the extents of its footprint hold. A line of the device cache that makes room for it is none of host
memory, so that no port's reservations change. -/

/-- No line of the device cache is one of host memory. -/
def NoHostLines (s : State) : Prop := ∀ l ∈ s.coh.dev, target (l.1 * 256) ≠ .host

/-- A fetch by an agent that keeps no copy: it stores nothing, and the scheduler's and the ports' state are as they were. -/
structure Fetches (s t : State) : Prop extends Reads s t where
  sched : t.sched = s.sched
  ports : t.ports = s.ports
  lines : NoHostLines s → NoHostLines t

theorem Fetches.refl (s : State) : Fetches s s := ⟨.refl s, rfl, rfl, id⟩

theorem Fetches.trans {s t u : State} (h : Fetches s t) (k : Fetches t u) : Fetches s u :=
  ⟨h.toReads.trans k.toReads, k.sched.trans h.sched, k.ports.trans h.ports, k.lines ∘ h.lines⟩

theorem Fetches.ite {c : Prop} [Decidable c] {s t u : State} (ht : Fetches s t) (hu : Fetches s u) : Fetches s (if c then t else u) := by
  split
  · exact ht
  · exact hu

/-- Fetches, one after another, of a quiet storage. -/
theorem Fetches.foldl {α : Type} {f : State → α → State} : ∀ {l : List α} {s : State}, s.mem.flaws = [] → NoHostLines s →
    (∀ x ∈ l, ∀ t : State, t.mem.flaws = [] → NoHostLines t → Fetches t (f t x)) → Fetches s (l.foldl f s)
  | [], s, _, _, _ => .refl s
  | x :: l, s, hflaws, hlines, hf => by
    have hx := hf x List.mem_cons_self s hflaws hlines
    exact hx.trans (Fetches.foldl (hx.flaws.trans hflaws) (hx.lines hlines) fun y hy => hf y (List.mem_cons_of_mem x hy))

theorem fetches_touchSlice (k : Nat) (s : State) : Fetches s (touchSlice k s) := ⟨reads_touchSlice k s, rfl, rfl, id⟩

theorem fetches_touchStack (g : Nat) (s : State) : Fetches s (touchStack g s) := ⟨reads_touchStack g s, rfl, rfl, id⟩

theorem fetches_touch (g : Nat) (s : State) : Fetches s (touch g s) := by
  unfold touch
  split
  · exact fetches_touchSlice _ s
  · exact .ite (fetches_touchStack _ s) (fetches_touchSlice _ s)
  · exact fetches_touchStack _ s
  · exact .ite (.refl s) (fetches_touchSlice _ s)
  · exact .refl s

theorem fetches_count {i j : Nat} (s : State) (h : okey 0x4100 5 ≠ okey i j) : Fetches s (count i j s) :=
  ⟨(books_count s h).toReads, rfl, rfl, id⟩

theorem fetches_noteTag (c g : Nat) (s : State) : Fetches s (noteTag c g s) := .ite (.refl s) (fetches_count s (by decide))

theorem fetches_unfresh (gs : List Nat) (s : State) : Fetches s (unfresh gs s) := by
  refine ⟨reads_unfresh gs s, ?_, ?_, ?_⟩ <;> unfold unfresh <;> split
  · rfl
  · rfl
  · rfl
  · rfl
  · exact id
  · exact id

/-- The keys of a table after a store: the stored one, and keys that it had. -/
theorem mem_tset {α : Type} [DecidableEq α] {d : α} {m : Table α} {k : Nat} {v : α} {x : Nat × α} (h : x ∈ tset d m k v) : x.1 = k ∨ x ∈ m := by
  induction m with
  | nil =>
    unfold tset at h
    split at h
    · cases h
    · exact .inl (by rw [List.mem_singleton.1 h])
  | cons y m ih =>
    obtain ⟨a, w⟩ := y
    unfold tset at h
    split at h
    · rcases List.mem_cons.1 h with rfl | h
      · exact .inl rfl
      · exact .inr h
    · split at h
      · split at h
        · exact (ih h).imp id (List.mem_cons_of_mem _)
        · rcases List.mem_cons.1 h with rfl | h
          · exact .inl rfl
          · exact .inr (List.mem_cons_of_mem _ h)
      · rcases List.mem_cons.1 h with rfl | h
        · exact .inr List.mem_cons_self
        · exact (ih h).imp id (List.mem_cons_of_mem _)

/-- A line that is set is none of host memory. -/
theorem fetches_setLine {l : Nat} (d : Option DevLine) (s : State) (hl : target (l * 256) ≠ .host) : Fetches s (setLine l d s) :=
  ⟨reads_setLine l d s, rfl, rfl, fun hlines x hx => (mem_tset hx).elim (fun h => h ▸ hl) (hlines x)⟩

theorem fetches_setShingle {g : Nat} (x : Shingle) (s : State) (hl : target (g / 4 * 256) ≠ .host) : Fetches s (setShingle g x s) := by
  unfold setShingle
  have hthrough : Fetches s (if x = .i then { s with coh.through := s.coh.through.filter (· ≠ g) } else s) :=
    .ite ⟨⟨⟨rfl, rfl⟩, rfl, rfl⟩, rfl, rfl, id⟩ (.refl s)
  dsimp only
  split
  · exact hthrough.trans (fetches_setLine _ _ hl)
  · exact hthrough

theorem fetches_evictLine {l : Nat} (s : State) (hl : target (l * 256) ≠ .host) : Fetches s (evictLine l s) := by
  unfold evictLine
  dsimp only
  rw [if_neg hl]
  exact (Fetches.ite (fetches_touchStack _ s) (.refl s)).trans (fetches_setLine none _ hl)

theorem fetches_stepWay (h i : Nat) (s : State) : Fetches s (stepWay h i s).2 := ⟨reads_stepWay h i s, rfl, rfl, id⟩

theorem fetches_allocLine {s t : State} {l keySlot : Nat} (hlines : NoHostLines s) (hl : target (l * 256) ≠ .host) (h : allocLine l keySlot s = some t) :
    Fetches s t := by
  unfold allocLine at h
  dsimp only at h
  split at h
  · cases h
  split at h
  · cases h
    exact fetches_setLine _ s hl
  have hway := fetches_stepWay (homeOf s (4 * l)) 0 s
  split at h
  · cases h
  split at h
  next w _ x hx =>
    cases h
    have hheld : target (x.1 * 256) ≠ .host := by
      obtain ⟨kv, hkv, hkx⟩ := List.mem_filterMap.1 (List.mem_of_find?_eq_some hx)
      split at hkx
      · split at hkx
        · cases hkx
          exact hlines kv hkv
        · cases hkx
      · cases hkx
    exact hway.trans ((fetches_evictLine _ hheld).trans (fetches_setLine _ _ hl))
  next =>
    cases h
    exact hway.trans (fetches_setLine _ _ hl)

end Sys2Proof.Machine
end

section
namespace Sys2Proof.Machine

/-! ### The step program's bytes are read (R328) -/

/-- A stack granule's part in the device cache, met by a fetch. -/
theorem fetches_stackLine {s : State} {g : Nat} (hflaws : s.mem.flaws = []) (hlines : NoHostLines s) (hg : target (g / 4 * 256) ≠ .host)
    (keySlot cache : Nat) (write full : Bool) : Fetches s (stackLine g keySlot cache write full s) := by
  unfold stackLine
  extract_lets l s₁ fetch fill s₂ s₃
  have hevict : Fetches s s₁ := by
    unfold s₁
    split
    · exact (fetches_evictLine s hg).ite (.refl s)
    · exact .refl s
  have hfetch (st : State) : Fetches st (fetch st) := (Fetches.ite (.refl st) (fetches_touchStack g st)).trans (fetches_setShingle _ _ hg)
  have hfill {st : State} (h : st.mem.flaws = []) (hl : NoHostLines st) : Fetches st (fill st) := by
    refine Fetches.ite ((hfetch st).trans (Fetches.foldl ((hfetch st).flaws.trans h) ((hfetch st).lines hl) fun k hk x hx _ => ?_)) (hfetch st)
    have hkl : k / 4 = l := by
      obtain ⟨hlo, hhi⟩ := mem_rangeFrom.1 hk
      omega
    rw [meetFlaw_sound hx]
    exact Fetches.ite (.refl x) (fetches_setShingle _ _ (hkl ▸ hg))
  have hflaws₁ : s₁.mem.flaws = [] := hevict.flaws.trans hflaws
  have hlines₁ : NoHostLines s₁ := hevict.lines hlines
  have hline : Fetches s₁ s₂ := by
    unfold s₂
    have hcount {j : Nat} (h : okey 0x4100 5 ≠ okey 0x3800 j) (st : State) : Fetches st (count 0x3800 j st) := fetches_count st h
    split
    · exact Fetches.ite (Fetches.ite (fetches_touchStack g s₁) ((hcount (by decide) s₁).trans (hfetch _))) (hcount (by decide) s₁)
    · split
      · exact fetches_touchStack g s₁
      · split
        next st hst =>
          have hst := fetches_allocLine hlines₁ hg hst
          have hmiss := hst.trans (hcount (by decide : okey 0x4100 5 ≠ okey 0x3800 6) st)
          exact hmiss.trans (hfill (hmiss.flaws.trans hflaws₁) (hmiss.lines hlines₁))
        next => exact fetches_touchStack g s₁
  have hthrough : Fetches s₂ s₃ := Fetches.ite (fetches_touchStack g s₂) (.refl s₂)
  exact hevict.trans (hline.trans (hthrough.trans ((Fetches.ite (fetches_setShingle _ _ hg) (.refl s₃)).trans (fetches_touch g _))))

/-- The stacks' present size is below the reach of their addresses. -/
theorem stackBytes_lt (s : State) : stackBytes s < 2 ^ 48 := by
  have hlen : (activeStacks s).length ≤ 6 := (List.length_filter_le _ _).trans (by simp)
  unfold stackBytes
  omega

/-- Every granule of an access to the stacks that has a place in the address map lies in a line of the stacks. -/
theorem stackLine_not_host {s : State} {pa len g : Nat} (hmap : inMap s pa len = true) (hstacks : target pa = .stacks) (hg : g ∈ granulesOf pa len) :
    target (g / 4 * 256) ≠ .host := by
  have hfit : pa % 2 ^ 48 + len ≤ stackBytes s := by
    rw [inMap, hstacks] at hmap
    exact of_decide_eq_true hmap
  have hsize := stackBytes_lt s
  unfold granulesOf at hg
  split at hg
  · cases hg
  obtain ⟨hlo, hhi⟩ := mem_rangeFrom.1 hg
  have hsame : g / 4 * 256 / 2 ^ 48 = pa / 2 ^ 48 := by
    generalize stackBytes s = n at *
    omega
  rw [show target (g / 4 * 256) = target pa by unfold target; rw [hsame], hstacks]
  decide

theorem inMap_of_ok {s : State} {c k pa len : Nat} (h : accessVerdict s c k pa len = .ok) : inMap s pa len = true := by
  unfold accessVerdict at h
  split at h
  · cases h
  next hmap => simpa using hmap

/-- The reads of a footprint whose every extent has a place in the address map. -/
theorem fetches_noteExtents {c op : Nat} {foot : List Extent} {s s₀ : State} (hflaws : s.mem.flaws = []) (hlines : NoHostLines s)
    (hmap : ∀ x ∈ foot, inMap s₀ x.pa x.len = true) : Fetches s (noteExtents c op foot s) := by
  unfold noteExtents
  refine Fetches.foldl hflaws hlines fun x hx st hst hstl => Fetches.foldl hst hstl fun g hg a ha hal => ?_
  rw [meetFlaw_sound ha]
  split
  next => exact (fetches_touch g a).trans (fetches_noteTag c g _)
  next hstacks => exact fetches_stackLine ha hal (stackLine_not_host (hmap x hx) hstacks hg) _ _ _ _
  next => exact .ite (.refl a) ((fetches_touch g a).trans (fetches_unfresh [g] _))
  next => exact .refl a

/-- What reading and charging a step's program leaves: what it stores nothing of, the contexts, the steps, and the ports. -/
structure ProgramRead (s t : State) : Prop extends Reads s t where
  ctx : t.sched.ctx = s.sched.ctx
  steps : t.sched.steps = s.sched.steps
  ports : t.ports = s.ports

theorem ProgramRead.trans {s t u : State} (h : ProgramRead s t) (k : ProgramRead t u) : ProgramRead s u :=
  ⟨h.toReads.trans k.toReads, k.ctx.trans h.ctx, k.steps.trans h.steps, k.ports.trans h.ports⟩

theorem Fetches.programRead {s t : State} (h : Fetches s t) : ProgramRead s t :=
  ⟨h.toReads, congrArg Sched.ctx h.sched, congrArg Sched.steps h.sched, h.ports⟩

/-- A charge leaves the device cache too. -/
theorem programRead_charges (c : Nat) (foot : List Extent) (s : State) :
    ProgramRead s (foot.foldl (fun acc x => chargeBytes c x.pa x.len acc) s) ∧ (foot.foldl (fun acc x => chargeBytes c x.pa x.len acc) s).coh = s.coh := by
  induction foot generalizing s with
  | nil => exact ⟨⟨.refl s, rfl, rfl, rfl⟩, rfl⟩
  | cons x foot ih =>
    obtain ⟨hread, hcoh⟩ := ih (chargeBytes c x.pa x.len s)
    have hcharge : ProgramRead s (chargeBytes c x.pa x.len s) := ⟨(books_chargeBytes c x.pa x.len s).toReads, rfl, rfl, rfl⟩
    exact ⟨hcharge.trans hread, hcoh⟩

/-- The step program is read and charged. -/
theorem programRead_read {c : Nat} {foot : List Extent} {s : State} (hflaws : s.mem.flaws = []) (hlines : NoHostLines s)
    (hmap : ∀ x ∈ foot, inMap s x.pa x.len = true) :
    ProgramRead s (noteExtents c 4 foot (foot.foldl (fun acc x => chargeBytes c x.pa x.len acc) s)) := by
  obtain ⟨hcharges, hcoh⟩ := programRead_charges c foot s
  have hlines' : NoHostLines (foot.foldl (fun acc x => chargeBytes c x.pa x.len acc) s) := by
    unfold NoHostLines
    rw [hcoh]
    exact hlines
  exact hcharges.trans (fetches_noteExtents (hcharges.flaws.trans hflaws) hlines' hmap).programRead

end Sys2Proof.Machine
end

section
namespace Sys2Proof.Machine

/-! ### The array of a step's course (R328, R332) -/

/-- The array chosen so far is in service. -/
def Chosen (s : State) (best : Option Nat) : Prop := ∀ a, best = some a → (getArr s a).fenced = false

theorem leastArray_unfenced {s : State} {a : Nat} (h : leastArray s = some a) : (getArr s a).fenced = false := by
  have hchosen : Chosen s (leastArray s) := by
    unfold leastArray
    refine List.foldlRecOn (motive := Chosen s) _ _ (fun _ h => by cases h) fun best hbest b _ => ?_
    split
    · exact hbest
    next hb =>
      have hnew : Chosen s (some b) := fun x hx => by
        cases hx
        simpa using hb
      split
      · exact hnew
      · split
        · exact hnew
        · exact hbest
  exact hchosen a h

theorem leastArray_congr {s t : State} (h : t.arrays = s.arrays) : leastArray t = leastArray s := by
  have hget (a : Nat) : getArr t a = getArr s a := by rw [getArr, getArr, h]
  have hrows (a : Nat) : rowsQueued t a = rowsQueued s a := by rw [rowsQueued, rowsQueued, hget]
  unfold leastArray
  simp only [hget, hrows]

/-- An array in service has a substitute, as its cluster has an array in service. -/
theorem substitute_isSome {s : State} {a : Nat} (h : (getArr s a).fenced = false) : (substitute s a).isSome = true := by
  unfold substitute
  rw [List.find?_isSome]
  exact ⟨a, mem_rangeFrom.2 (by omega), by rw [h]; rfl⟩

/-- What handing a course to an array leaves: memory, the scheduler, the ports, and what the step owes. -/
structure Handed (s t : State) : Prop where
  mem : t.mem = s.mem
  sched : t.sched = s.sched
  ports : t.ports = s.ports
  acts : t.acts = s.acts

/-- An array in service takes a course that it is handed. -/
theorem handCourse_takes {s : State} {a : Nat} (h : (getArr s a).fenced = false) (raw : BitVec 1024) (ctx : Nat) (src : CourseSrc) (stream : Nat) :
    Handed s (handCourse a raw ctx src stream s) ∧ ∃ k : Course, (getArr (handCourse a raw ctx src stream s) a).courses = (getArr s a).courses ++ [k] ∧
      k.raw = raw ∧ k.src = src ∧ k.ctx = ctx ∧ k.stage = .issued := by
  obtain ⟨b, hb⟩ := Option.isSome_iff_exists.1 (substitute_isSome (s := { s with arrays.nextId := s.arrays.nextId + 1 }) h)
  have hfenced : (getArr { s with arrays.nextId := s.arrays.nextId + 1 } a).fenced = false := h
  unfold handCourse
  dsimp only
  rw [hb]
  dsimp only
  rw [hfenced, if_neg Bool.false_ne_true, getArr_modArr]
  exact ⟨⟨rfl, rfl, rfl, rfl⟩, _, rfl, rfl, rfl, rfl, rfl⟩

/-! ### A step whose gate has passed (R328) -/

theorem stepCourse_congr {s t : State} (h : t.sched.ctx = s.sched.ctx) (c n : Nat) (raw : BitVec 1024) : stepCourse t c n raw = stepCourse s c n raw := by
  unfold stepCourse getCtx
  rw [h]

theorem length_footBytes (s : State) (ext : Ext) (c : Nat) (foot : List Extent) (va n : Nat) : (footBytes s ext c foot va n).length = n := by
  simp [footBytes]

/-- A program of one course hands that course to its array. -/
theorem issueProgram_one {s : State} {c : Nat} (t : Nat) {bs : List Byte} (hone : progCourses s c = 1) (hlen : bs.length = 128) :
    issueProgram c t bs s = handCourse (stepArray s 0 (stepCourse s c t (ofBytes 1024 bs))) (stepCourse s c t (ofBytes 1024 bs)) c (.ds c) (20000 + c) s := by
  unfold issueProgram
  rw [hone]
  change handCourse (stepArray s 0 (stepCourse s c t (ofBytes 1024 ((bs.drop 0).take 128)))) _ c (.ds c) (20000 + c) s = _
  rw [List.drop_zero, List.take_of_length_le hlen.le]

theorem worstOf_ok {l : List Status} (h : ∀ x ∈ l, x = .ok) : worstOf l = .ok := by
  unfold worstOf
  refine List.foldlRecOn (motive := (· = Status.ok)) l worst rfl fun b hb x hx => ?_
  rw [hb, h x hx]
  rfl

/-- The course of a step's program. -/
def programCourse (s : State) (c n : Nat) (foot : List Extent) : BitVec 1024 :=
  stepCourse s c n (ofBytes 1024 (footBytes s [] c foot (fld (getCtx s c) 384 56) 128))

/-- The one course of a step has gone to array `a`. -/
structure StepIssued (c a : Nat) (raw : BitVec 1024) (s t : State) : Prop where
  course : ∃ k : Course, (getArr t a).courses = (getArr s a).courses ++ [k] ∧ k.raw = raw ∧ k.src = .ds c ∧ k.ctx = c ∧ k.stage = .issued
  run : getRun t c = { getRun s c with issuing := none, gate := 0, waitRec := none }
  bytes : t.mem.bytes = s.mem.bytes
  ports : t.ports = s.ports
  acts : t.acts = s.acts

/-- DS has read a step's program, and may issue it. -/
structure ProgramReady (c : Nat) (foot : List Extent) (s : State) : Prop where
  quiet : QuietStorage s
  one : progCourses s c = 1
  walk : checkFootprint tlbsOfService false (fld (getCtx s c) 116 12) [⟨fld (getCtx s c) 384 56, 128, needR⟩] s = (.good foot, s)
  sound : ∀ x ∈ foot, accessVerdict s c x.keySlot x.pa x.len = .ok ∧ runPoison s c x.pa x.len = false

/-- The state in which a step's courses go out: the program is read and charged. -/
def programRead (c : Nat) (foot : List Extent) (s : State) : State :=
  noteExtents c 4 foot (foot.foldl (fun acc x => chargeBytes c x.pa x.len acc) s)

theorem issueStep_reads {c n : Nat} {foot : List Extent} {s : State} (h : ProgramReady c foot s) :
    issueStep c n s = modRun c (fun r => { r with issuing := none, gate := 0, waitRec := none })
      (issueProgram c n (footBytes s [] c foot (fld (getCtx s c) 384 56) 128) (programRead c foot s)) := by
  have hverdict : worstOf (foot.map fun x => accessVerdict s c x.keySlot x.pa x.len) = .ok :=
    worstOf_ok fun st hst => by
      obtain ⟨x, hx, rfl⟩ := List.mem_map.1 hst
      exact (h.sound x hx).1
  have hpoison : (foot.any fun x => runPoison s c x.pa x.len) = false := by
    rw [List.any_eq_false]
    exact fun x hx => by rw [(h.sound x hx).2]; exact Bool.false_ne_true
  unfold issueStep
  dsimp only
  rw [h.one, Nat.mul_one, h.walk]
  dsimp only
  rw [hverdict, hpoison]
  rfl

theorem issueStep_issues {c n a : Nat} {foot : List Extent} {s : State} (h : ProgramReady c foot s) (hleast : leastArray s = some a)
    (hchain : cdAccumulate (programCourse s c n foot) = false) : StepIssued c a (programCourse s c n foot) s (issueStep c n s) := by
  have hread : ProgramRead s (programRead c foot s) :=
    programRead_read h.quiet.1 h.quiet.2 fun x hx => inMap_of_ok (h.sound x hx).1
  have harrays : (programRead c foot s).arrays = s.arrays := (congrArg State.arrays hread.beside :)
  have hacts : (programRead c foot s).acts = s.acts := (congrArg State.acts hread.beside :)
  have hone : progCourses (programRead c foot s) c = 1 := by
    rw [← h.one, progCourses, progCourses, getCtx, getCtx, hread.ctx]
  rw [issueStep_reads h, issueProgram_one n hone (length_footBytes _ _ _ _ _ _), stepCourse_congr hread.ctx]
  change StepIssued c a (programCourse s c n foot) s (modRun c _ (handCourse (stepArray _ 0 (programCourse s c n foot)) (programCourse s c n foot) c (.ds c) (20000 + c) _))
  have hplace : stepArray (programRead c foot s) 0 (programCourse s c n foot) = a := by
    rw [stepArray, hchain, leastArray_congr harrays, hleast]
    rfl
  generalize programRead c foot s = u at hread harrays hacts hplace
  have hget (b : Nat) : getArr u b = getArr s b := by rw [getArr, getArr, harrays]
  have hunfenced : (getArr u a).fenced = false := by rw [hget]; exact leastArray_unfenced hleast
  obtain ⟨hleft, k, hcourses, hk⟩ := handCourse_takes hunfenced (programCourse s c n foot) c (.ds c) (20000 + c)
  rw [hplace]
  generalize handCourse a (programCourse s c n foot) c (.ds c) (20000 + c) u = v at hleft hcourses
  exact { course := ⟨k, by rw [← hget]; exact hcourses, hk⟩
          run := by rw [getRun_modRun, show getRun v c = getRun s c by rw [getRun, getRun, hleft.sched, hread.steps]]
          bytes := (congrArg MemUnit.bytes hleft.mem).trans hread.bytes
          ports := hleft.ports.trans hread.ports
          acts := hleft.acts.trans hacts }

/-- A step's courses go out once the context is RUNNING, no page is waited for, and no gate is or it has passed. -/
theorem stepIssue_passes {c n : Nat} {s : State} (hrunning : ctxState s c = 1) (hissuing : (getRun s c).issuing = some n) (hwait : (getRun s c).waitRec = none)
    (hgate : flag (getCtx s c) 262 = false ∨ (getRun s c).gate = 2) : stepIssue c s = issueStep c n s := by
  have hpassed : (!flag (getCtx s c) 262 || decide ((getRun s c).gate = 2)) = true := by
    rcases hgate with h | h
    · rw [h]; rfl
    · rw [h]; exact Bool.or_true _
  unfold stepIssue
  dsimp only
  rw [hissuing]
  dsimp only
  rw [hrunning, hwait, if_neg (by decide), if_pos hpassed]

/-- With no step to issue nothing happens. -/
theorem stepIssue_idle {c : Nat} {s : State} (h : (getRun s c).issuing = none) : stepIssue c s = s := by
  unfold stepIssue
  dsimp only
  rw [h]

end Sys2Proof.Machine
end

section
namespace Sys2Proof.Machine

/-! ### The commands of checks and step lists (R118, R326 to R329, R341, R343, R360) -/

/-- A command of the data path whose effect owes nothing. -/
theorem done_onFab {f : State → State} {s : State} (hfab : fabOn s = true) (hacts : (f s).acts = []) : done (onFab f s) = .next (f s) := by
  rw [onFab_run f hfab, done_of_quiet _ hacts]

/-- A command of the data path whose effect is no change. -/
theorem done_onFab_same {f : State → State} {s : State} (hfab : fabOn s = true) (hacts : s.acts = []) (h : f s = s) : done (onFab f s) = .next s := by
  rw [done_onFab hfab (by rw [h, hacts]), h]

theorem exec_blockCheck_passes {rc sn : BitVec 16} {g : Nat} {w : Bool} {r : RunLog} {s : State} (hacts : s.acts = []) :
    exec (.blockCheck rc sn g true w r) s = .next s := by
  show done (onUnit rc.toNat _ s) = _
  rw [onUnit_same, done_of_quiet s hacts]
  rfl

/-- A block whose re-send passes leaves the table of transfers, and a record of class 1 says so (R343). -/
theorem exec_blockResend_passes {rc sn : BitVec 16} {g : Nat} {x : Transfer} (r : RunLog) {s : State} (hfab : fabOn s = true) (hacts : s.acts = [])
    (hruns : UnitRuns rc.toNat s) (hrc : unitOk rc.toNat = true) (hsn : unitOk sn.toNat = true) (hquiet : RecordsQuietly s)
    (hx : findXfer s rc.toNat sn.toNat g = some x) (hplain : arrayReceiver s rc.toNat g = none) :
    ∃ t, exec (.blockResend rc sn g true r) s = .next t ∧ t.xfers = s.xfers.erase x ∧ t.flt.serial = (s.flt.serial + 1) % 2 ^ 32 ∧
      fld t.flt.last 184 8 = 1 ∧ t.coh = s.coh ∧ t.ports = s.ports ∧ t.objs = s.objs := by
  obtain ⟨hgrace, hring⟩ := hquiet
  have hq : RingQuiet (dropXfer x (count 0x8000 0x13 s)) := ⟨awake_of_fabOn hfab, hring⟩
  have htaken := recordTaken_raise (passEvent x) hq
  have hquiet : (raise (passEvent x) (dropXfer x (count 0x8000 0x13 s))).acts = [] := (htaken.acts hgrace).trans hacts
  rw [exec_blockResend g true r hfab hruns hrc hsn, resendArrives_passes r hx hplain, done_of_quiet _ hquiet]
  refine ⟨_, rfl, ?_, htaken.serial, htaken.last (show 1 < 256 by decide), (congrArg State.coh htaken.away :), (congrArg State.ports htaken.away :), ?_⟩
  · rw [raise_xfers]
    rfl
  · rw [raise_objs]
    rfl

theorem exec_sequencerMismatch {a : ArrayId} {r : RunLog} {s : State} (h : ArrayRuns a s) (hacts : (sequencersDiffer a r s).acts = []) :
    exec (.sequencerMismatch a r) s = .next (sequencersDiffer a r s) := by
  show done (onArr a.val (sequencersDiffer a.val r) s) = _
  rw [onArr_run _ h, done_of_quiet _ hacts]

/-- A fenced array takes no second mismatch. -/
theorem sequencersDiffer_fenced {a : Nat} (r : RunLog) {s : State} (h : (getArr s a).fenced = true) : sequencersDiffer a r s = s := by
  unfold sequencersDiffer
  rw [h]
  rfl

/-- A mismatch of the machines of unit `b + k`. -/
theorem exec_smMismatch {b k : Nat} {s : State} (hunit : b + k < 2 ^ 16) (hfab : fabOn s = true) (hacts : (machinesDiffer (b + k) s).acts = []) :
    exec (.smMismatch (BitVec.ofNat 16 b + BitVec.ofNat 16 k)) s = .next (machinesDiffer (b + k) s) := by
  show done (onFab (machinesDiffer (BitVec.ofNat 16 b + BitVec.ofNat 16 k).toNat) s) = _
  rw [unit_toNat hunit, done_onFab hfab hacts]

end Sys2Proof.Machine
end

section
open Sys2Proof Sys2Proof.Machine

/-- Settles O44, clause by clause: a fence's two records leave what they lie beside (`RecordTaken`), a list's write stays inside its bank
(`WritesWithin`), and the read of a step's program stores nothing (`ProgramRead`). -/
theorem checksAndStepLists : Obligations.ChecksAndStepLists := by
  unfold Obligations.ChecksAndStepLists
  refine ⟨?_, ?_, ?_, ?_, ?_, ?_, ?_, ?_, ?_, ?_, ?_, ?_⟩
  case refine_1 => exact fun s rc sn g w r hacts => exec_blockCheck_passes hacts
  case refine_2 =>
    intro s rc sn g w r hfab hacts hruns hrc hsn hnew hplain
    rw [exec_blockCheck_fails g w r hfab hruns hrc hsn, checkFails_plain w r hnew hplain]
    exact ⟨_, done_of_quiet _ hacts, rfl, rfl⟩
  case refine_3 =>
    intro s rc sn g x r hfab hacts hruns hrc hsn hx hfails
    rw [exec_blockResend g false r hfab hruns hrc hsn, resendArrives_again r hx hfails]
    exact ⟨_, done_of_quiet _ hacts, rfl, ctr_count_same 0x8000 0x13 s, rfl⟩
  case refine_4 => exact fun s rc sn g x r hfab hacts hruns hrc hsn hquiet hx hplain => exec_blockResend_passes r hfab hacts hruns hrc hsn hquiet hx hplain
  case refine_5 =>
    intro s a r harr htwice hfenced hcourses hrun
    have ⟨hfab, hacts, _⟩ := harr
    obtain ⟨hquiet, htold⟩ := sequencersDiffer_fences r a.isLt hfab htwice hfenced hcourses hrun
    exact ⟨_, exec_sequencerMismatch harr (hquiet.trans hacts), htold⟩
  case refine_6 =>
    intro s a r harr hfenced
    have hsame := sequencersDiffer_fenced r hfenced
    have ⟨_, hacts, _⟩ := harr
    rw [exec_sequencerMismatch harr (by rw [hsame, hacts]), hsame]
  case refine_7 =>
    intro s e hfab hacts htwice hidle hqueues
    obtain ⟨hquiet, htold⟩ := machinesDiffer_engine e.isLt hfab htwice hidle hqueues
    exact ⟨_, exec_smMismatch (b := 0x8000) (by omega) hfab (hquiet.trans hacts), htold⟩
  case refine_8 =>
    intro s k hfab hacts htwice hfenced hidle
    obtain ⟨hquiet, htold⟩ := machinesDiffer_walker k.isLt hfab htwice hfenced hidle
    exact ⟨_, exec_smMismatch (b := 0x7000) (by omega) hfab (hquiet.trans hacts), htold⟩
  case refine_9 => exact fun s hfab hacts hdue => done_onFab_same hfab hacts (listScan_none hdue)
  case refine_10 =>
    intro s c qs hfab hacts hflaws hdue hqs hne
    have hbuilt := buildList_builds hflaws hqs hne
    have hscan := listScan_one c.isLt hdue
    refine ⟨_, done_onFab hfab (by rw [hscan, hbuilt.acts, hacts]), ?_⟩
    rw [hscan, hbuilt.run]
    refine ⟨rfl, rfl, rfl, hbuilt.lists, fun q => ?_, hbuilt.others⟩
    rw [hbuilt.seqs]
    unfold boundEntry
    simp only [Bool.and_eq_true, decide_eq_true_eq] <;> rfl
  case refine_11 => exact fun s c hfab hacts hissuing => done_onFab_same hfab hacts (stepIssue_idle hissuing)
  case refine_12 =>
    intro s c n a foot hfab hacts hquiet hrunning hissuing hwait hgate hone hwalk hsound hleast hchain
    have hstep := stepIssue_passes hrunning hissuing hwait hgate
    have hissued := issueStep_issues (n := n) ⟨hquiet, hone, hwalk, hsound⟩ hleast hchain
    obtain ⟨k, hcourses, hraw, hsrc, hctx, hstage⟩ := hissued.course
    refine ⟨_, k, done_onFab hfab (by rw [hstep, hissued.acts, hacts]), ?_⟩
    rw [hstep]
    exact ⟨hcourses, hraw, hsrc, hctx, hstage, hissued.run, hissued.bytes, hissued.ports⟩

end

section
namespace Sys2Proof.Machine

/-! ### A write of the owner, served

The MP serves the owner's write between two commands: the request changes the master's record and the lease, the write has its effect,
and the answer goes out (R375, R395). One rule says so for every object; a command's proof then needs the object's effect alone. -/

/-- A number spelled in bytes enough for it. -/
theorem ofLe_toLe (n : Nat) {v : Nat} (h : v < 256 ^ n) : ofLe (toLe n v) = v := by
  induction n generalizing v with
  | zero => simp_all [toLe, ofLe]
  | succ n ih =>
    rw [toLe, ofLe, ih (Nat.div_lt_of_lt_mul (by rwa [pow_succ'] at h)), BitVec.toNat_ofNat]
    exact Nat.mod_add_div v 256

/-- The rows of Table 15.3 that come before a chapter's own conditions: the object is there, an owner may write it, and `v` has its
size and lies in its range. -/
structure WriteAccepted (r : Rec) (o : Obj) (idx sub v : Nat) (s : State) : Prop where
  isRec : recOf idx = some r
  isObj : objAt idx sub = some o
  writable : (decide (o.acc = .const) || decide (o.acc = .ro)) = false
  fits : v < 256 ^ o.ty.size
  bool : o.ty = .bool → v < 2
  range : inRange s r.base sub v = true

/-- The answer to master `m`, once its request is counted unless it was BUSY. -/
def masterAnswered (m : Nat) (e : State × Reply) : State :=
  emit (.answer m e.2) (if e.2.disp = 1 then e.1 else modMaster m (fun x => { x with requests := x.requests + 1 }) e.1)

theorem gate_served {s : State} (read : Bool) (idx sub : Nat) (h : DictionaryServed s) : gate read idx sub s = none := by
  obtain ⟨-, -, hfrozen, hready, hmp, hheld, hrestart, hqueue, -⟩ := h
  simp [gate, hfrozen, hready, hmp, hheld, hrestart, hqueue]

/-- A noted request changes the management record alone, and neither the owner nor who is served. -/
theorem noteRequest_eq (m : Nat) (s : State) : ∃ x : Mgmt, noteRequest m s = { s with mgmt := x } ∧ x.owner = s.mgmt.owner ∧
    ∀ read idx sub, gate read idx sub { s with mgmt := x } = gate read idx sub s := by
  unfold noteRequest
  dsimp only
  split <;> exact ⟨_, rfl, rfl, fun _ _ _ => rfl⟩

theorem ownerWrite_accepted {r : Rec} {o : Obj} {idx sub v : Nat} {s : State} (h : WriteAccepted r o idx sub v s) :
    ownerWrite idx sub (toLe o.ty.size v) s = writeEffect r.base (idx - r.base) sub v (toLe o.ty.size v) s := by
  have hrefused : (decide ((toLe o.ty.size v).length ≠ o.ty.size) || (decide (o.ty = .bool) && decide (2 ≤ v)) || !(inRange s r.base sub v)) = false := by
    have hbool := h.bool
    simp only [length_toLe, h.range, ne_eq, not_true_eq_false, decide_false, Bool.false_or, Bool.not_true, Bool.or_false, Bool.and_eq_false_iff,
      decide_eq_false_iff_not]
    by_cases ht : o.ty = .bool
    · exact .inr (Nat.not_le.2 (hbool ht))
    · exact .inl ht
  unfold ownerWrite
  rw [h.isRec, h.isObj]
  dsimp only
  rw [ofLe_toLe _ h.fits, hrefused]
  rfl

/-- The owner's accepted write has its effect, in a block whose management record alone has changed, and is answered. -/
theorem putValue_accepted {r : Rec} {o : Obj} {m idx sub v : Nat} {s : State} (hserved : OwnerServed m s) (h : WriteAccepted r o idx sub v s) :
    ∃ x : Mgmt, putValue m idx sub v s = masterAnswered m (writeEffect r.base (idx - r.base) sub v (toLe o.ty.size v) { s with mgmt := x }) := by
  obtain ⟨hdict, hawake, hused, howner, -⟩ := hserved
  have hgate := gate_served false idx sub hdict
  obtain ⟨hchain, htrip, -, -, -, -, -, -, hlease⟩ := hdict
  obtain ⟨x, hnoted, hsame, hgates⟩ := noteRequest_eq m s
  have hwrite : writeObject true idx sub (toLe o.ty.size v) { s with mgmt := x } =
      writeEffect r.base (idx - r.base) sub v (toLe o.ty.size v) { s with mgmt := x } := by
    unfold writeObject
    rw [h.isObj]
    dsimp only
    rw [h.writable]
    exact ownerWrite_accepted { h with range := h.range }
  refine ⟨x, ?_⟩
  unfold putValue masterWrite
  rw [h.isObj, hchain, htrip, hused]
  simp only [wakeUp_awake hawake, hlease, hnoted, hgates, hgate, hsame, howner, hwrite, Bool.false_eq_true, Bool.not_false, Bool.and_self,
    if_true, if_false, decide_true]
  rfl

/-- Master `m` has its answer DONE, and its request is counted. -/
def answerDone (m : Nat) (s : State) : State :=
  emit (.answer m (replyDone [])) (modMaster m (fun x => { x with requests := x.requests + 1 }) s)

theorem answeredDone_answerDone (m : Nat) (s : State) : AnsweredDone m (answerDone m s) := rfl

/-- A command whose effect takes place and owes nothing ends with the answer DONE. -/
theorem done_putValue {r : Rec} {o : Obj} {m idx sub v : Nat} {s : State} (e : State → State) (hserved : OwnerServed m s) (h : WriteAccepted r o idx sub v s)
    (heffect : ∀ x : Mgmt, writeEffect r.base (idx - r.base) sub v (toLe o.ty.size v) { s with mgmt := x } = took (e { s with mgmt := x }))
    (hquiet : ∀ x : Mgmt, (e { s with mgmt := x }).acts = s.acts) :
    ∃ x : Mgmt, done (putValue m idx sub v s) = .next (answerDone m (e { s with mgmt := x })) := by
  obtain ⟨x, hput⟩ := putValue_accepted hserved h
  obtain ⟨-, -, -, -, hacts⟩ := hserved
  rw [heffect x] at hput
  exact ⟨x, by rw [hput]; exact done_of_quiet _ ((hquiet x).trans hacts)⟩

/-! #### Objects that persist, and the power point -/

/-- The mirror of a persistent object is owed; nothing but the management record changes (R377). -/
theorem persist_eq (key : Nat) (s : State) : ∃ x : Mgmt, persist key s = { s with mgmt := x } ∧ key ∈ x.mirrorPending := by
  unfold persist
  split
  · next hin => exact ⟨s.mgmt, rfl, by simpa using hin⟩
  · exact ⟨_, rfl, List.mem_append_right _ List.mem_cons_self⟩

theorem putObj_persistent_eq (i j v : Nat) (s : State) :
    ∃ x : Mgmt, putObj i j v true s = { setObj i j v s with mgmt := x } ∧ okey i j ∈ x.mirrorPending := persist_eq (okey i j) (setObj i j v s)

theorem persist_foldl_eq (keys : List Nat) (s : State) : ∃ x : Mgmt, keys.foldl (fun st k => persist k st) s = { s with mgmt := x } := by
  induction keys generalizing s with
  | nil => exact ⟨s.mgmt, rfl⟩
  | cons k keys ih =>
    obtain ⟨x, hx, -⟩ := persist_eq k s
    obtain ⟨y, hy⟩ := ih { s with mgmt := x }
    exact ⟨y, by rw [List.foldl_cons, hx, hy]⟩

/-- R397: the point that the owner's request and the calibration ask for. -/
def pointWanted (s : State) : Nat := if obj s 0x2000 1 1 = 2 ∧ calState s = 1 then 1 else obj s 0x2000 1 1

/-- What following the requested point can do: nothing, or store POINT_IN_EFFECT and its tick. -/
theorem refreshPoint_cases (s : State) :
    refreshPoint s = s ∧ (s.start.state = 1 → pointInEffect s = pointWanted s) ∨
    refreshPoint s = { setObj 0x2000 2 (pointWanted s) s with power.pointAt := s.aoncnt } := by
  have hwanted : (if (decide (obj s 0x2000 1 1 = 2) && decide (calState s = 1)) = true then 1 else obj s 0x2000 1 1) = pointWanted s := by
    simp [pointWanted]
  unfold refreshPoint
  dsimp only
  rw [hwanted]
  by_cases hready : s.start.state = 1
  · by_cases hsame : pointWanted s = pointInEffect s
    · exact .inl ⟨by simp [hsame], fun _ => hsame.symm⟩
    · exact .inr (by simp [hready, hsame])
  · exact .inl ⟨by simp [hready], fun h => absurd h hready⟩

@[simp] theorem refreshPoint_acts (s : State) : (refreshPoint s).acts = s.acts := by
  rcases refreshPoint_cases s with ⟨h, -⟩ | h <;> rw [h]
  rfl

@[simp] theorem refreshPoint_mem (s : State) : (refreshPoint s).mem = s.mem := by
  rcases refreshPoint_cases s with ⟨h, -⟩ | h <;> rw [h]
  rfl

theorem obj_refreshPoint_ne {i j : Nat} (d : Nat) (s : State) (h : okey i j ≠ okey 0x2000 2) : obj (refreshPoint s) i j d = obj s i j d := by
  rcases refreshPoint_cases s with ⟨hs, -⟩ | hs <;> rw [hs]
  exact (obj_setObj _ _ _ _ _ _ _).trans (if_neg h)

theorem pointInEffect_refreshPoint {s : State} (hready : s.start.state = 1) : pointInEffect (refreshPoint s) = pointWanted s := by
  rcases refreshPoint_cases s with ⟨hs, hsame⟩ | hs <;> rw [hs]
  · exact hsame hready
  · exact obj_setObj_same 0x2000 2 (pointWanted s) 1 s

/-! #### The split between scratch and device cache (R154) -/

/-- With no line in a cache, the split moves and scratch that leaves or comes empties; of the rest, counters and the directory alone change. -/
structure SplitMoved (n : Nat) (s t : State) : Prop where
  steps : t.mem.steps = n
  bytes : t.mem.bytes = tdrop s.mem.bytes fun a _ =>
    scratchBetween (min (scratchBytes s) (1472 * 2 ^ 20 - n * 2 ^ 26)) (max (scratchBytes s) (1472 * 2 ^ 20 - n * 2 ^ 26)) (a / 64)
  objs : t.objs = s.objs
  mgmt : t.mgmt = s.mgmt
  acts : t.acts = s.acts

theorem splitMoved_changeSplit (n : Nat) {s : State} (hdev : s.coh.dev = []) (hnear : s.coh.near = []) : SplitMoved n s (changeSplit n s) := by
  unfold changeSplit dropScratchCopies
  rw [hdev]
  simp only [List.map_nil, List.foldl_nil, hnear, List.filter_nil]
  exact ⟨rfl, rfl, rfl, rfl, rfl⟩

theorem target_granule (a : Nat) : target (a / 64 * 64) = target a := by
  unfold target
  rw [show a / 64 * 64 / 2 ^ 48 = a / 2 ^ 48 by omega]

theorem scratchBetween_of_outside {lo hi a : Nat} (h : target a ≠ .scratch ∨ offset a + 64 ≤ lo) : scratchBetween lo hi (a / 64) = false := by
  unfold scratchBetween
  rw [target_granule]
  rcases h with h | h
  · simp [h]
  · have hbelow : ¬ lo ≤ offset (a / 64 * 64) := by unfold offset at h ⊢; omega
    simp [hbelow]

/-- A byte outside scratch, or of scratch that both splits hold, stays. -/
theorem SplitMoved.byteAt {n a : Nat} {s t : State} (h : SplitMoved n s t)
    (ha : target a ≠ .scratch ∨ offset a + 64 ≤ 1472 * 2 ^ 20 - max n s.mem.steps * 2 ^ 26) : byteAt t a = byteAt s a := by
  have hout : scratchBetween (min (scratchBytes s) (1472 * 2 ^ 20 - n * 2 ^ 26)) (max (scratchBytes s) (1472 * 2 ^ 20 - n * 2 ^ 26)) (a / 64) = false := by
    refine scratchBetween_of_outside (ha.imp_right fun hlow => hlow.trans ?_)
    unfold scratchBytes
    omega
  unfold Machine.byteAt
  rw [h.bytes, tdrop, tget_filter_key 0 s.mem.bytes (fun k => !(scratchBetween _ _ (k / 64))), hout]
  rfl

/-! #### Defaults, link hold and the kill of a context -/

/-- Every persistent object reads its default again; the split stands at its own default already (R377). -/
theorem restoreDefaults_eq {s : State} (hsteps : s.mem.steps = 4) :
    ∃ x : Mgmt, restoreDefaults s = refreshPoint { s with objs := tdrop s.objs fun k _ => persistentKeys.contains k, mgmt := x } := by
  obtain ⟨x, hx⟩ := persist_foldl_eq ((s.objs.map (·.1)).filter fun k => persistentKeys.contains k)
    { s with objs := tdrop s.objs fun k _ => persistentKeys.contains k }
  refine ⟨x, ?_⟩
  unfold restoreDefaults
  dsimp only
  rw [hx, if_pos hsteps]

theorem pointInEffect_not_persistent : persistentKeys.contains (okey 0x2000 2) = false := by decide +kernel

theorem obj_restoreDefaults {s : State} (hsteps : s.mem.steps = 4) {i j : Nat} (d : Nat) (h : persistentKeys.contains (okey i j) = true) :
    obj (restoreDefaults s) i j d = d := by
  obtain ⟨x, hx⟩ := restoreDefaults_eq hsteps
  have hne : okey i j ≠ okey 0x2000 2 := fun he => by rw [he, pointInEffect_not_persistent] at h; cases h
  rw [hx, obj_refreshPoint_ne d _ hne]
  unfold obj tdrop
  rw [tget_filter_key none s.objs (fun k => !(persistentKeys.contains k)), h]
  rfl

/-- A held host link is in L0 again. -/
def unheld (h : HostPort) : HostPort := if h.link = 6 then { h with link := 2 } else h

/-- A host port leaves hold. -/
def leaveHostHold (s : State) (p : Nat) : State := if (getHost s p).link = 6 then modHost p (fun h => { h with link := 2 }) s else s

theorem getHost_leaveHostHold (s : State) (p j : Nat) :
    getHost (leaveHostHold s p) j = if j = p then unheld (getHost s j) else getHost s j := by
  unfold leaveHostHold unheld
  by_cases hj : j = p
  · subst hj
    split <;> simp
  · split <;> simp [hj]

theorem leaveHostHold_eq (s : State) (p : Nat) : ∃ x : Table HostPort, leaveHostHold s p = { s with hosts := x } := by
  unfold leaveHostHold
  split
  · exact ⟨_, rfl⟩
  · exact ⟨s.hosts, rfl⟩

/-- With no peer link held, the two host ports alone leave hold. -/
theorem leaveHolds_hosts {s : State} (h : ∀ l, (getPeer s l).state ≠ 4) : leaveHolds s = leaveHostHold (leaveHostHold s 0) 1 := by
  obtain ⟨x, hx⟩ := leaveHostHold_eq s 0
  obtain ⟨y, hy⟩ := leaveHostHold_eq { s with hosts := x } 1
  show (List.range 12).foldl (fun st l => leaveHold l st) (leaveHostHold (leaveHostHold s 0) 1) = _
  rw [hx, hy]
  exact foldl_still fun l _ => if_neg (h l)

theorem leaveHolds_eq {s : State} (h : ∀ l, (getPeer s l).state ≠ 4) : ∃ x : Table HostPort, leaveHolds s = { s with hosts := x } := by
  obtain ⟨x, hx⟩ := leaveHostHold_eq s 0
  obtain ⟨y, hy⟩ := leaveHostHold_eq { s with hosts := x } 1
  exact ⟨y, by rw [leaveHolds_hosts h, hx, hy]⟩

theorem getHost_leaveHolds {s : State} (h : ∀ l, (getPeer s l).state ≠ 4) (p : HostId) : getHost (leaveHolds s) p = unheld (getHost s p) := by
  rw [leaveHolds_hosts h]
  fin_cases p <;> simp [getHost_leaveHostHold]

theorem getCtx_setCtxFld_same (c lo n v : Nat) (s : State) :
    getCtx (setCtxFld c lo n v s) c = BitVec.ofNat 512 (putBits (getCtx s c).toNat lo n v) := tget_tset_same _ _ _ _

theorem fld_setCtxFld_same (c : Nat) {lo n : Nat} (v : Nat) (s : State) (h : lo + n ≤ 512) :
    fld (getCtx (setCtxFld c lo n v s) c) lo n = v % 2 ^ n := by
  rw [getCtx_setCtxFld_same, fld_ofNat h, nbits_putBits_same]

theorem fld_setCtxFld_below (c : Nat) {lo n a k : Nat} (v : Nat) (s : State) (h : a + k ≤ lo) (hw : a + k ≤ 512) :
    fld (getCtx (setCtxFld c lo n v s) c) a k = fld (getCtx s c) a k := by
  rw [getCtx_setCtxFld_same, fld_ofNat hw, nbits_putBits_below _ _ _ _ _ _ h, fld]

/-- A context that enters RELEASING is in STATE 4 (R320). -/
theorem ctxState_enterReleasing (c : Nat) (st : Status) (s : State) : ctxState (enterReleasing c st s) c = 4 :=
  (fld_setCtxFld_below c st.code (setCtxState c 4 s) (by decide) (by decide)).trans (fld_setCtxFld_same c 4 s (by decide))

/-- Entry into RELEASING stays inside the scheduler. -/
theorem enterReleasing_eq (c : Nat) (st : Status) (s : State) : ∃ x : Sched, enterReleasing c st s = { s with sched := x } := by
  have hfld (lo n v : Nat) (u : State) : ∃ x : Sched, setCtxFld c lo n v u = { u with sched := x } := ⟨_, rfl⟩
  have hrun (f : StepRun → StepRun) (u : State) : ∃ x : Sched, modRun c f u = { u with sched := x } := ⟨_, rfl⟩
  obtain ⟨x, hstate⟩ := hfld 52 4 4 s
  obtain ⟨y, hstatus⟩ := hfld 56 8 st.code { s with sched := x }
  obtain ⟨z, hsteps⟩ := hrun (fun _ => {}) { s with sched := y }
  unfold enterReleasing
  rw [setCtxState, hstate, hstatus, hsteps]
  exact ⟨_, rfl⟩

theorem killCourses_of_none {c : Nat} {s : State} (h : s.arrays.arr = []) : killCourses c s = s := by unfold killCourses; rw [h]; rfl
theorem killQueues_of_none {c : Nat} {s : State} (h : s.queues = []) : killQueues c s = s := by unfold killQueues; rw [h]; rfl
theorem endPortOps_of_none {c : Nat} {st : Status} {s : State} (h : s.ports = []) : endPortOps c st s = s := by unfold endPortOps; rw [h]; rfl
theorem pumpAll_of_none {s : State} (h : s.ports = []) : pumpAll s = s := by unfold pumpAll; rw [h]; rfl

/-- With nothing in flight, a kill of a READY context is its entry into RELEASING (R396, R320). -/
theorem ownerKill_idle {c : Nat} {s : State} (hports : s.ports = []) (hqueues : s.queues = []) (harr : s.arrays.arr = []) (hready : ctxState s c = 1) :
    ownerKill c s = enterReleasing c .contextKilled s := by
  obtain ⟨x, hx⟩ := enterReleasing_eq c .contextKilled s
  have hkill : killContext c s = enterReleasing c .contextKilled s := by
    unfold killContext
    rw [hready]
    show endPortOps c .contextKilled (killQueues c (killCourses c (enterReleasing c .contextKilled s))) = _
    rw [hx, killCourses_of_none (s := { s with sched := x }) harr, killQueues_of_none (s := { s with sched := x }) hqueues,
      endPortOps_of_none (s := { s with sched := x }) hports]
  unfold ownerKill ctxCommand
  rw [hready]
  show pumpAll (killContext c s) = _
  rw [hkill, hx, pumpAll_of_none (s := { s with sched := x }) hports]

/-! #### The commands -/

theorem exec_cacheSteps {m : MasterId} {v : Byte} {s : State} (h : OwnerServed m s) (hstill : s.mem.inChange = false) (hv : v.toNat ≤ 8)
    (hdev : s.coh.dev = []) (hnear : s.coh.near = []) :
    ∃ t, exec (.cacheSteps m v) s = .next t ∧ t.mem.steps = v.toNat ∧ obj t 0x3000 3 4 = v.toNat ∧ okey 0x3000 3 ∈ t.mgmt.mirrorPending ∧
      (∀ a, target a ≠ .scratch → byteAt t a = byteAt s a) ∧
      (∀ a, target a = .scratch → offset a + 64 ≤ 1472 * 2 ^ 20 - max v.toNat s.mem.steps * 2 ^ 26 → byteAt t a = byteAt s a) ∧
      AnsweredDone m t := by
  have hacc : WriteAccepted rec3000 ⟨.u 1, .rwp, 4⟩ 0x3000 3 v.toNat s := ⟨rfl, rfl, rfl, v.isLt, nofun, decide_eq_true hv⟩
  have hmoves (x : Mgmt) : ∃ y : Mgmt, okey 0x3000 3 ∈ y.mirrorPending ∧
      SplitMoved v.toNat { setObj 0x3000 3 v.toNat s with mgmt := y } (changeSplit v.toNat (putObj 0x3000 3 v.toNat true { s with mgmt := x })) := by
    obtain ⟨y, hstored, hpending⟩ := putObj_persistent_eq 0x3000 3 v.toNat { s with mgmt := x }
    rw [hstored]
    exact ⟨y, hpending, splitMoved_changeSplit v.toNat hdev hnear⟩
  obtain ⟨x, hnext⟩ := done_putValue (fun u => changeSplit v.toNat (putObj 0x3000 3 v.toNat true u)) h hacc
    (fun x => (if_neg (by simp [hstill]) : writeSteps v.toNat { s with mgmt := x } = _)) (fun x => let ⟨_, _, hmoved⟩ := hmoves x; hmoved.acts)
  obtain ⟨y, hpending, hmoved⟩ := hmoves x
  generalize changeSplit v.toNat (putObj 0x3000 3 v.toNat true { s with mgmt := x }) = u at hnext hmoved
  refine ⟨answerDone m u, hnext, hmoved.steps, ?_, ?_, fun a ha => hmoved.byteAt (.inl ha), fun a _ ha => hmoved.byteAt (.inr ha),
    answeredDone_answerDone m u⟩
  · show obj u 0x3000 3 4 = v.toNat
    unfold obj
    rw [hmoved.objs]
    exact obj_setObj_same 0x3000 3 v.toNat 4 s
  · show okey 0x3000 3 ∈ u.mgmt.mirrorPending
    rw [hmoved.mgmt]
    exact hpending

theorem exec_pointRequested {m : MasterId} {v : Byte} {s : State} (h : OwnerServed m s) (hv : v.toNat ≤ 2) :
    ∃ t, exec (.pointRequested m v) s = .next t ∧ obj t 0x2000 1 1 = v.toNat ∧
      obj t 0x2000 2 1 = (if v.toNat = 2 ∧ calState s = 1 then 1 else v.toNat) ∧ AnsweredDone m t ∧ t.mem = s.mem := by
  have hacc : WriteAccepted rec2000 ⟨.u 1, .rwp, 1⟩ 0x2000 1 v.toNat s := ⟨rfl, rfl, rfl, v.isLt, nofun, decide_eq_true hv⟩
  have hstores (x : Mgmt) := putObj_persistent_eq 0x2000 1 v.toNat { s with mgmt := x }
  obtain ⟨x, hnext⟩ := done_putValue (fun u => refreshPoint (putObj 0x2000 1 v.toNat true u)) h hacc (fun _ => rfl)
    (fun x => by obtain ⟨y, hstored, -⟩ := hstores x; simp [hstored])
  obtain ⟨y, hstored, -⟩ := hstores x
  obtain ⟨⟨-, -, -, hready, -⟩, -⟩ := h
  generalize hu : putObj 0x2000 1 v.toNat true { s with mgmt := x } = u at hnext
  have hrequested : obj u 0x2000 1 1 = v.toNat := by rw [← hu, hstored]; exact obj_setObj_same 0x2000 1 v.toNat 1 s
  have hcal : calState u = calState s := by rw [← hu, hstored]; rfl
  refine ⟨_, hnext, (obj_refreshPoint_ne 1 u (by decide)).trans hrequested, ?_, answeredDone_answerDone m _, ?_⟩
  · rw [← hcal, ← hrequested]
    exact pointInEffect_refreshPoint (by rw [← hu, hstored]; exact hready)
  · exact (refreshPoint_mem u).trans (by rw [← hu, hstored]; rfl)

theorem exec_restoreDefaults {m : MasterId} {s : State} (h : OwnerServed m s) (hsteps : s.mem.steps = 4) :
    ∃ t, exec (.restoreDefaults m 1) s = .next t ∧ (∀ i j d, persistentKeys.contains (okey i j) = true → obj t i j d = d) ∧ AnsweredDone m t ∧
      t.mem = s.mem := by
  have hexec : exec (.restoreDefaults m 1) s = done (putValue m 0x1100 0x0B 1 s) := rfl
  have hacc : WriteAccepted rec1100 ⟨.bool, .wo, 0⟩ 0x1100 0x0B 1 s := ⟨rfl, rfl, rfl, by decide, fun _ => by decide, rfl⟩
  have hdefaults (x : Mgmt) := restoreDefaults_eq (s := { s with mgmt := x }) hsteps
  obtain ⟨x, hnext⟩ := done_putValue restoreDefaults h hacc (fun _ => rfl) (fun x => by obtain ⟨y, hy⟩ := hdefaults x; rw [hy, refreshPoint_acts])
  have hobj (i j d : Nat) := obj_restoreDefaults (s := { s with mgmt := x }) hsteps (i := i) (j := j) d
  have hmem : (restoreDefaults { s with mgmt := x }).mem = s.mem := by obtain ⟨y, hy⟩ := hdefaults x; rw [hy, refreshPoint_mem]
  generalize restoreDefaults { s with mgmt := x } = u at hnext hobj hmem
  exact ⟨answerDone m u, hexec.trans hnext, hobj, answeredDone_answerDone m u, hmem⟩

theorem exec_linkHold_begins {m : MasterId} {s : State} (h : OwnerServed m s) (hfree : s.freeze.hold = 0) :
    ∃ t, exec (.linkHold m 1) s = .next t ∧ t.freeze.hold = 1 ∧ t.freeze.holdSince = s.aoncnt ∧ AnsweredDone m t ∧ t.peers = s.peers ∧
      t.hosts = s.hosts := by
  have hexec : exec (.linkHold m 1) s = done (putValue m 0x9800 2 1 s) := rfl
  have hacc : WriteAccepted rec9800 ⟨.bool, .rw, 0⟩ 0x9800 2 1 s := ⟨rfl, rfl, rfl, by decide, fun _ => by decide, rfl⟩
  obtain ⟨x, hnext⟩ := done_putValue (fun u => { setObj 0x9800 2 1 u with freeze.hold := 1, freeze.holdSince := u.aoncnt }) h hacc
    (fun x => show writeHold 1 { s with mgmt := x } = _ by simp [writeHold, hfree]) (fun _ => rfl)
  exact ⟨_, hexec.trans hnext, rfl, rfl, answeredDone_answerDone m _, rfl, rfl⟩

/-- LINK_HOLD written 0: admission is restored, and the links have still to leave hold (R428). -/
def holdLifted (s : State) : State := setObj 0x9800 2 0 { s with freeze.hold := 0 }

@[simp] theorem getPeer_holdLifted (s : State) (l : Nat) : getPeer (holdLifted s) l = getPeer s l := rfl
@[simp] theorem getHost_holdLifted (s : State) (p : Nat) : getHost (holdLifted s) p = getHost s p := rfl

theorem exec_linkHold_leaves {m : MasterId} {s : State} (h : OwnerServed m s) (hpeers : ∀ l, (getPeer s l).state ≠ 4) :
    ∃ t, exec (.linkHold m 0) s = .next t ∧ t.freeze.hold = 0 ∧
      (∀ p : HostId, (getHost t p).link = if (getHost s p).link = 6 then 2 else (getHost s p).link) ∧ AnsweredDone m t := by
  have hexec : exec (.linkHold m 0) s = done (putValue m 0x9800 2 0 s) := rfl
  have hacc : WriteAccepted rec9800 ⟨.bool, .rw, 0⟩ 0x9800 2 0 s := ⟨rfl, rfl, rfl, by decide, fun _ => by decide, rfl⟩
  have hheld (x : Mgmt) (l : Nat) : (getPeer (holdLifted { s with mgmt := x }) l).state ≠ 4 := by
    rw [getPeer_holdLifted]
    exact hpeers l
  have hhosts (x : Mgmt) := leaveHolds_eq (hheld x)
  obtain ⟨x, hnext⟩ := done_putValue (fun u => leaveHolds (holdLifted u)) h hacc (fun _ => rfl)
    (fun x => by obtain ⟨y, hy⟩ := hhosts x; rw [hy]; rfl)
  have hhost (p : HostId) : getHost (leaveHolds (holdLifted { s with mgmt := x })) p = unheld (getHost s p) :=
    (getHost_leaveHolds (hheld x) p).trans (congrArg unheld (getHost_holdLifted _ p))
  have hhold : (leaveHolds (holdLifted { s with mgmt := x })).freeze.hold = 0 := by obtain ⟨y, hy⟩ := hhosts x; rw [hy]; rfl
  generalize leaveHolds (holdLifted { s with mgmt := x }) = u at hnext hhost hhold
  refine ⟨answerDone m u, hexec.trans hnext, hhold, fun p => ?_, answeredDone_answerDone m u⟩
  show (getHost u p).link = _
  rw [hhost p, unheld]
  split <;> rfl

theorem exec_ownerKill {m : MasterId} {c : BitVec 16} {s : State} (h : OwnerServed m s) (hidle : Idle s) (hc : c.toNat < 4096)
    (hready : ctxState s c.toNat = 1) :
    ∃ t, exec (.ownerKill m c) s = .next t ∧ ctxState t c.toNat = 4 ∧ AnsweredDone m t ∧ t.mem = s.mem := by
  have hacc : WriteAccepted rec1100 ⟨.u 2, .wo, 0⟩ 0x1100 7 c.toNat s := ⟨rfl, rfl, rfl, c.isLt, nofun, decide_eq_true (by omega)⟩
  obtain ⟨-, hports, hqueues, harr, -⟩ := hidle
  have hkills (x : Mgmt) : ownerKill c.toNat { s with mgmt := x } = enterReleasing c.toNat .contextKilled { s with mgmt := x } :=
    ownerKill_idle hports hqueues harr hready
  have hsched (x : Mgmt) := enterReleasing_eq c.toNat .contextKilled { s with mgmt := x }
  obtain ⟨x, hnext⟩ := done_putValue (fun u => enterReleasing c.toNat .contextKilled u) h hacc (fun x => congrArg took (hkills x))
    (fun x => by obtain ⟨y, hy⟩ := hsched x; rw [hy])
  have hstate := ctxState_enterReleasing c.toNat .contextKilled { s with mgmt := x }
  have hmem : (enterReleasing c.toNat .contextKilled { s with mgmt := x }).mem = s.mem := by obtain ⟨y, hy⟩ := hsched x; rw [hy]
  generalize enterReleasing c.toNat .contextKilled { s with mgmt := x } = u at hnext hstate hmem
  exact ⟨answerDone m u, hnext, hstate, answeredDone_answerDone m u, hmem⟩

theorem exec_firstClear {m : MasterId} {s : State} (h : OwnerServed m s) :
    ∃ t, exec (.firstClear m 1) s = .next t ∧ t.flt.first = 0 ∧ t.flt.firstValid = false ∧ t.flt.overflow = false ∧ AnsweredDone m t ∧
      { t with out := s.out, mgmt := s.mgmt, flt.first := s.flt.first, flt.firstValid := s.flt.firstValid, flt.overflow := s.flt.overflow } = s := by
  have hexec : exec (.firstClear m 1) s = done (putValue m 0x8000 5 1 s) := rfl
  have hacc : WriteAccepted rec8000 ⟨.bool, .wo, 0⟩ 0x8000 5 1 s := ⟨rfl, rfl, rfl, by decide, fun _ => by decide, rfl⟩
  obtain ⟨x, hnext⟩ := done_putValue clearFirst h hacc (fun _ => rfl) (fun _ => rfl)
  exact ⟨_, hexec.trans hnext, rfl, rfl, rfl, answeredDone_answerDone m _, rfl⟩

theorem exec_retryMask {m : MasterId} {v : BitVec 32} {s : State} (h : OwnerServed m s) (hv : v.toNat < 2 ^ 24) :
    ∃ t, exec (.retryMask m v) s = .next t ∧ t.start.retryMask = v.toNat ∧ AnsweredDone m t ∧
      { t with out := s.out, mgmt := s.mgmt, start := s.start } = s := by
  have hacc : WriteAccepted rec9000 ⟨.u 4, .wo, 0⟩ 0x9000 7 v.toNat s := ⟨rfl, rfl, rfl, v.isLt, nofun, decide_eq_true hv⟩
  obtain ⟨x, hnext⟩ := done_putValue (fun u => { u with start.retryMask := v.toNat }) h hacc (fun _ => rfl) (fun _ => rfl)
  exact ⟨_, hnext, rfl, answeredDone_answerDone m _, rfl⟩

/-- The table's rows let an owner write DEBUG_UNLOCK; R427's condition comes after them. -/
theorem debugUnlock_accepted (s : State) : WriteAccepted rec9400 ⟨.bool, .rw, 0⟩ 0x9400 0x0B 1 s :=
  ⟨rfl, rfl, rfl, by decide, fun _ => by decide, rfl⟩

theorem exec_debugUnlock_eq {m : MasterId} {s : State} : exec (.debugUnlock m 1) s = done (putValue m 0x9400 0x0B 1 s) := rfl

theorem exec_debugUnlock_unlocks {m : MasterId} {s : State} (h : OwnerServed m s) (hconf : s.sec.confEver = false) :
    ∃ t, exec (.debugUnlock m 1) s = .next t ∧ obj t 0x9400 0x0B 0 = 1 ∧ t.sec.debugEver = true ∧ AnsweredDone m t ∧ t.mem = s.mem := by
  obtain ⟨x, hnext⟩ := done_putValue (fun u => { setObj 0x9400 0x0B 1 u with sec.debugEver := true }) h (debugUnlock_accepted s)
    (fun x => show writeDebug 1 { s with mgmt := x } = _ by simp [writeDebug, hconf]) (fun _ => rfl)
  exact ⟨_, exec_debugUnlock_eq.trans hnext, obj_setObj_same 0x9400 0x0B 1 0 s, rfl, answeredDone_answerDone m _, rfl⟩

theorem exec_debugUnlock_refused {m : MasterId} {s : State} (h : OwnerServed m s) (hconf : s.sec.confEver = true) :
    ∃ t, exec (.debugUnlock m 1) s = .next t ∧ t.out.head? = some (Out.answer m ⟨2, .rightsFault, 0, []⟩) ∧
      { t with out := s.out, mgmt := s.mgmt } = s := by
  obtain ⟨x, hput⟩ := putValue_accepted h (debugUnlock_accepted s)
  have hrefused : writeDebug 1 { s with mgmt := x } = ({ s with mgmt := x }, replyRefused .rightsFault) := by simp [writeDebug, hconf]
  obtain ⟨-, -, -, -, hacts⟩ := h
  exact ⟨_, exec_debugUnlock_eq.trans ((congrArg done (hput.trans (congrArg (masterAnswered m) hrefused))).trans (done_of_quiet _ hacts)), rfl, rfl⟩

end Sys2Proof.Machine
end

section
open Sys2Proof Sys2Proof.Machine

/-- Settles O20: the MP serves each write by one rule (`putValue_accepted`), and each clause is then the effect of its object. -/
theorem ownerWritesThatAct : Obligations.OwnerWritesThatAct := by
  unfold Obligations.OwnerWritesThatAct
  refine ⟨?steps, ?point, ?first, ?defaults, ?mask, ?debug, ?confidential, ?hold, ?leave, ?kill⟩
  case steps => exact fun s m v h hstill hv hdev hnear => exec_cacheSteps h hstill hv hdev hnear
  case point => exact fun s m v h hv => exec_pointRequested h hv
  case first => exact fun s m h => exec_firstClear h
  case defaults => exact fun s m h hsteps => exec_restoreDefaults h hsteps
  case mask => exact fun s m v h hv => exec_retryMask h hv
  case debug => exact fun s m h hconf => exec_debugUnlock_unlocks h hconf
  case confidential => exact fun s m h hconf => exec_debugUnlock_refused h hconf
  case hold => exact fun s m h hfree => exec_linkHold_begins h hfree
  case leave => exact fun s m h hpeers => exec_linkHold_leaves h hpeers
  case kill => exact fun s m c h hidle hc hready => exec_ownerKill h hidle hc hready

end

section
namespace Sys2Proof.Machine

/-! ### A migration whose old grain lies in the stacks

R184 copies a grain of host memory. The clause for a copy that ends well leaves open where the record's old grain lies: here it lies in the
stacks, and a writeback of its first granule is on its way, so that its home slice lets no read of it be made yet (R231). -/

/-- A MIGRATE record of space 1 whose grain moves from stack address 0x40005000 to 0x33000. -/
def stackGrain : PfRec :=
  { space := 1, kind := 2, raised := 0, mask := 0, count := 1, need := 0, va := 0x5000, footEnd := 0x5FFF, paOld := 0x40005000, ctx := 7, unit := 0xA000,
    copied := false, copyStatus := 0, failStatus := .xlateFault, waiters := [], grainLo := 5, grainPages := 1, moving := some 0x33000,
    shownMask := 0, shownNeed := 0, written := false, timeout := 0, drain := [] }

/-- A READY block with that record, which engine 0 copies; near cache 0 is writing the old grain's first granule back. -/
def stackGrainState : State :=
  { Tests.ready with
    tu.recs := [(2, some stackGrain)], hosts := [(0, { link := 2 })], engines := [(0, { migrate := some 2 })]
    coh.wbs := [(0, 0x40005000 / 64)] }

theorem stackGrainState_wayClear : WayClear stackGrainState [] [⟨0, 0x33000, stackGrain.grainPages * 4096, blockSlot, 0, false, false⟩] := by
  unfold WayClear
  decide +kernel

/-- The copy waits for the writeback, and engine 0 keeps its migration. -/
theorem stackGrainState_waits : ∃ t, exec (.migrationCopyDone 0 .ok []) stackGrainState = .next t ∧
    (getEngine t (0 : Fin 16)).migrate = some 2 :=
  ⟨_, rfl, by decide +kernel⟩

end Sys2Proof.Machine
end

section
open Sys2Proof Sys2Proof.Machine

/-- Refutes O36: its last clause fails for `stackGrain`, whose copy waits until its old grain's granules may be read. -/
theorem not_translationUnitActs : ¬ Obligations.TranslationUnitActs := by
  rintro ⟨-, -, -, -, -, -, -, -, hcopied⟩
  obtain ⟨t, hstep, -, -, -, -, hfree, -⟩ := hcopied stackGrainState 0 [] 2 0x33000 stackGrain rfl rfl rfl rfl rfl rfl rfl rfl rfl rfl rfl rfl
    (by decide) (by decide +kernel) stackGrainState_wayClear
  obtain ⟨u, hwaits, hbusy⟩ := stackGrainState_waits
  obtain rfl : t = u := Host.Outcome.next.inj (hstep.symm.trans hwaits)
  exact absurd (hfree.symm.trans hbusy) nofun

end

section
namespace Sys2Proof.Machine

/-! ### A peer's response for an entry marked as a flushed write

`PeerAwaits` says where the entry of the core port goes and what it waits for, and leaves open whether the entry is marked as a flushed write
whose read-back is still to come. Such an entry stays in its port once it is performed, as a SYSTEM barrier may still wait for its read-back
(R201). -/

/-- A LOAD of 8 bytes at offset 0 of window 0 of link 0, sent to the peer; it is marked flushed, and needs write 1 of host port 0 read back. -/
def flushedLoad : PortOp := { Tests.entry (Tests.req 0 0 0) (2 ^ 51) (.peer 0) with flushed := true, need0 := 1 }

/-- The request that it waits on. -/
def flushedRequest : PeerReq := ⟨9, .portOp 3 4, 0, 2 ^ 51, 8, 10, 50, false, false, [], false⟩

/-- The peer's response, which is OK. -/
def flushedResponse : BitVec 256 := pmMake 0x81 0 9 7 0 0 0 1 8 0

/-- A READY block in which core port 3 waits for the response, which has come. -/
def flushedState : State :=
  { Tests.ready with
    peers := [(0, { state := 3, session := some 0, inbox := [(flushedResponse, [])], out := [flushedRequest] })]
    ports := [(3, { ops := [flushedLoad] })] }

theorem flushedState_awaits : PeerAwaits (0 : PeerId) (3 : PortId) flushedLoad flushedRequest flushedResponse [] flushedState := by
  refine ⟨?_, by decide +kernel, rfl, rfl, rfl, rfl, by decide +kernel, rfl, rfl, rfl, _, rfl, rfl, rfl⟩
  unfold CorePortFree
  decide +kernel

/-- Once the response is taken, the entry is still there. -/
theorem flushedState_stays : ∃ t, exec (.readRsp 0) flushedState = .next t ∧ (getPort t (3 : PortId)).ops ≠ [] :=
  ⟨_, rfl, by decide +kernel⟩

end Sys2Proof.Machine
end

section
open Sys2Proof Sys2Proof.Machine

/-- Refutes O55: its first clause fails for `flushedLoad`, which its port keeps after the response. -/
theorem not_peerResponsesEndTheirRequests : ¬ Obligations.PeerResponsesEndTheirRequests := by
  rintro ⟨hread, -⟩
  obtain ⟨t, hstep, -, hgone, -⟩ := hread flushedState 0 3 flushedLoad flushedRequest flushedResponse [] flushedState_awaits
    (by decide +kernel) rfl (by decide +kernel) (by decide +kernel) (by decide +kernel) (by decide +kernel)
  obtain ⟨u, hstays, hops⟩ := flushedState_stays
  obtain rfl : t = u := Host.Outcome.next.inj (hstep.symm.trans hstays)
  exact hops hgone

end

section
namespace Sys2Proof.Machine

/-! ### Register writes (R251, R252)

A 16-byte register is written as its two words: the first stays in the latch, and the second acts with the whole value. -/

/-- The answer OK to a register write: a core receives it, a host none (R259). -/
def regAnswered (w : Requester) (s : State) : State := { s with out := (if isCore w then [.regRsp .ok] else []) ++ s.out }

/-- The first word of a 16-byte register at offset `o` is latched, and answered. -/
def latched (w : Requester) (o : Nat) (raw : BitVec 128) (s : State) : State :=
  regAnswered w (latchWord o (BitVec.ofNat 64 (fld raw 0 64)) s)

theorem regAccess_runs {s : State} (h : RegServed s) : aonRuns s = true ∧ s.start.inReset = false := by
  obtain ⟨hstage, -, -⟩ := h
  unfold regStage at hstage
  split at hstage
  · cases hstage
  · next hc =>
    simp only [Bool.or_eq_true, not_or, Bool.not_eq_true, Bool.not_eq_false'] at hc
    obtain ⟨⟨⟨haon, hreset⟩, -⟩, -⟩ := hc
    exact ⟨haon, hreset⟩

/-- A whole 8-byte write of an awake block that serves its registers. -/
theorem regCommand_ok {s t : State} {w : Requester} {o : Nat} {r : Reg} {d : Word} {ext : Ext} (hstage : regStage s = 2) (hawake : s.asleep = false)
    (ho : o % 8 = 0) (hr : regAt o = some r) (hwrite : writeReg o r d ext (coreCtx w) s = (t, .ok)) : regCommand w o d ext s = regAnswered w t := by
  have hoff : o / 8 * 8 = o := by omega
  have hreg : regWrite (coreCtx w) o 8 d ext s = (t, .ok) := by
    simp [regWrite, hoff, hr, hstage, ho, hwrite]
  unfold regCommand regAccess regAnswered
  rw [wakeUp_awake hawake, hreg]
  cases hw : isCore w <;> simp [hawake, emit]

/-- A 16-byte value from its two words. -/
theorem pair_words (raw : BitVec 128) :
    BitVec.ofNat 128 ((BitVec.ofNat 64 (fld raw 0 64)).toNat + (BitVec.ofNat 64 (fld raw 64 64)).toNat * 2 ^ 64) = raw := by
  apply BitVec.eq_of_toNat_eq
  have := raw.isLt
  simp only [BitVec.toNat_ofNat, fld, nbits]
  omega

/-- Both words of a 16-byte register written: the register acts on the whole value `raw`, as `f` says. -/
theorem regPair_ok {s : State} {w : Requester} {o : Nat} {lo hi : Reg} {raw : BitVec 128} {ext : Ext} {f : BitVec 128 → State → State} (h : RegServed s)
    (ho : o % 8 = 0) (hlo : regAt o = some lo) (hhi : regAt (o + 8) = some hi)
    (hlatch : ∀ d x, writeReg o lo d ext (coreCtx w) x = (latchWord o d x, .ok))
    (hact : ∀ d x, writeReg (o + 8) hi d ext (coreCtx w) x = (f (BitVec.ofNat 128 ((tget 0 x.latch o).toNat + d.toNat * 2 ^ 64)) x, .ok)) :
    regPair w o raw ext s = regAnswered w (f raw (latched w o raw s)) := by
  obtain ⟨hstage, hawake, -⟩ := h
  have hfirst : regCommand w o (BitVec.ofNat 64 (fld raw 0 64)) ext s = latched w o raw s :=
    regCommand_ok hstage hawake ho hlo (hlatch _ s)
  have hword : tget 0 (latched w o raw s).latch o = BitVec.ofNat 64 (fld raw 0 64) := tget_tset_same _ _ _ _
  have hvalue := hact (BitVec.ofNat 64 (fld raw 64 64)) (latched w o raw s)
  rw [hword, pair_words] at hvalue
  unfold regPair
  rw [hfirst]
  exact regCommand_ok (s := latched w o raw s) hstage hawake (by omega) hhi hvalue

/-- Once a command's two words have acted without owing anything, the command ends. -/
theorem done_onReg {s t : State} {g : State → State} (h : RegServed s) (hg : g s = t) (hacts : t.acts = []) : done (onReg g s) = .next t := by
  obtain ⟨haon, hreset⟩ := regAccess_runs h
  rw [onReg_run g haon hreset, hg, done_of_quiet t hacts]

theorem withoutActs_of_quiet {s : State} (h : s.acts = []) : { s with acts := [] } = s := by
  rw [← h]

/-- With one action owed, the step goes on with it from the state `u` that owes nothing more. -/
theorem done_onReg_owes {s t u : State} {g : State → State} {a : Act} (h : RegServed s) (hg : g s = t) (hacts : t.acts = [a]) (hu : { t with acts := [] } = u)
    (hquiet : (runAct a u).acts = []) : done (onReg g s) = .next (runAct a u) := by
  obtain ⟨haon, hreset⟩ := regAccess_runs h
  rw [onReg_run g haon hreset, hg, done, settle_cons t a [] hacts, hu, settleN_of_quiet _ _ hquiet]

/-- Both words are answered OK. -/
theorem regAnswers_twice {s t : State} {w : Requester} (h : t.out = (if isCore w then [.regRsp .ok] else []) ++ ((if isCore w then [.regRsp .ok] else []) ++ s.out)) :
    RegAnswers w [.ok, .ok] s t := by
  rw [RegAnswers, h]
  cases isCore w <;> rfl

/-! ### Address spaces (R166) -/

/-- The entry that a write of SPACE stores. -/
def spaceWord (raw : BitVec 128) : BitVec 128 :=
  BitVec.ofNat 128 (pack [(1, fld raw 0 1), (1, 0), (2, fld raw 2 2), (16, 0), (12, fld raw 20 12), (32, fld raw 32 32)])

theorem fld_mod {n : Nat} (v : BitVec n) (lo k : Nat) : fld v lo k % 2 ^ k = fld v lo k := Nat.mod_mod _ _

theorem flag_eq {n : Nat} (v : BitVec n) (i : Nat) : flag v i = decide (fld v i 1 = 1) := nbit_eq v.toNat i

theorem spaceWord_fields (raw : BitVec 128) : flag (spaceWord raw) 0 = flag raw 0 ∧ fld (spaceWord raw) 2 2 = fld raw 2 2 ∧
    fld (spaceWord raw) 20 12 = fld raw 20 12 ∧ fld (spaceWord raw) 32 32 = fld raw 32 32 := by
  unfold spaceWord
  refine ⟨?_, ?_, ?_, ?_⟩
  · rw [flag_eq, flag_eq, fld_ofNat (by decide), nbits_pack_first, fld_mod]
  · rw [fld_ofNat (by decide), nbits_pack_next 1 _ 1 2, nbits_pack_next 1 _ 0 2, nbits_pack_first, fld_mod]
  · rw [fld_ofNat (by decide), nbits_pack_next 1 _ 19 12, nbits_pack_next 1 _ 18 12, nbits_pack_next 2 _ 16 12, nbits_pack_next 16 _ 0 12,
      nbits_pack_first, fld_mod]
  · rw [fld_ofNat (by decide), nbits_pack_next 1 _ 31 32, nbits_pack_next 1 _ 30 32, nbits_pack_next 2 _ 28 32, nbits_pack_next 16 _ 12 32,
      nbits_pack_next 12 _ 0 32, nbits_pack_first, fld_mod]

/-- A disabled space takes its entry at once; with ENABLE 0 its TLB entries go. -/
theorem writeSpace_disabled {a : Nat} {raw : BitVec 128} {s : State} (h : flag (getSpace s a) 0 = false) : writeSpace a raw s =
    { s with tu.closing := s.tu.closing.filter fun x => x ≠ a, tu.spaces := tset 0 s.tu.spaces a (spaceWord raw)
             tu.tlb := if flag raw 0 then s.tu.tlb else s.tu.tlb.filter fun x => x.space ≠ a } := by
  have hen : flag (spaceWord raw) 0 = flag raw 0 := (spaceWord_fields raw).1
  unfold writeSpace
  simp only [h, Bool.false_and, Bool.false_eq_true, if_false]
  rw [← spaceWord, hen]
  split <;> rfl

/-- The words of SPACE. -/
theorem regAt_space {o : Nat} (hlo : 0x04100000 ≤ o) (hhi : o < 0x04110000) : regAt o = some (.space ((o - 0x04100000) / 0x10) (o / 8 % 2)) := by
  unfold regAt
  rw [if_neg (by omega), if_neg (by omega), if_pos hhi]

theorem regPair_space {s : State} {w : Requester} {a : Fin 4096} {raw : BitVec 128} (h : RegServed s) :
    regPair w (0x04100000 + 0x10 * a.val) raw [] s = regAnswered w (writeSpace a raw (latched w (0x04100000 + 0x10 * a.val) raw s)) := by
  have ha := a.isLt
  have hlo : regAt (0x04100000 + 0x10 * a.val) = some (.space a.val 0) := by
    rw [regAt_space (by omega) (by omega)]
    congr 2 <;> omega
  have hhi : regAt (0x04100000 + 0x10 * a.val + 8) = some (.space a.val 1) := by
    rw [regAt_space (by omega) (by omega)]
    congr 2 <;> omega
  exact regPair_ok h (by omega) hlo hhi (fun _ _ => rfl) (fun _ _ => rfl)

theorem exec_spaceEntry {s : State} {w : Requester} {a : Fin 4096} {raw : BitVec 128} (h : RegServed s) (hoff : flag (getSpace s a) 0 = false) :
    exec (.spaceEntry w a raw) s = .next (regAnswered w (writeSpace a raw (latched w (0x04100000 + 0x10 * a.val) raw s))) := by
  obtain ⟨-, -, hacts⟩ := id h
  refine done_onReg h (regPair_space h) ?_
  rw [writeSpace_disabled (s := latched w _ raw s) hoff]
  exact hacts


theorem exec_spaceEntry_disabled {s : State} {w : Requester} {a : Fin 4096} {raw : BitVec 128} (h : RegServed s) (hoff : flag (getSpace s a) 0 = false) :
    ∃ t, exec (.spaceEntry w a raw) s = .next t ∧ getSpace t a = spaceWord raw ∧ (∀ b, b ≠ a.val → getSpace t b = getSpace s b) ∧
      t.tu.tlb = (if flag raw 0 then s.tu.tlb else s.tu.tlb.filter fun x => x.space ≠ a.val) ∧ RegAnswers w [.ok, .ok] s t ∧
      { t with out := s.out, latch := s.latch, tu.spaces := s.tu.spaces, tu.closing := s.tu.closing, tu.tlb := s.tu.tlb } = s := by
  refine ⟨_, exec_spaceEntry h hoff, ?_⟩
  rw [writeSpace_disabled (s := latched w _ raw s) hoff]
  exact ⟨tget_tset_same _ _ _ _, fun b hb => tget_tset_ne _ _ _ hb, rfl, regAnswers_twice rfl, rfl⟩

/-! ### A step that fails (R328) -/

/-- The step of context `c` has failed, before the record of it. -/
def stepFailed (c : Nat) (st : Status) (s : State) : State :=
  modRun c (fun r => { r with issuing := none, gate := 0, waitRec := none }) (setCtxFld c 44 8 st.code s)

theorem stepFails_taken (c : Nat) (st : Status) {s : State} (h : RingQuiet s) : RecordTaken 0x0C (stepFailed c st s) (stepFails c st s) :=
  recordTaken_raise ⟨0x0C, 0xA000, some c, 0, 0, 4, st, 0⟩ (s := stepFailed c st s) h

theorem stepFails_status (c : Nat) (st : Status) (s : State) : stepStatus (stepFails c st s) c = st.code ∧ (getRun (stepFails c st s) c).issuing = none := by
  have hsched : (stepFails c st s).sched = (stepFailed c st s).sched := raise_sched _ _
  have hctx : getCtx (stepFails c st s) c = getCtx (setCtxFld c 44 8 st.code s) c := (congrArg (fun x : Sched => tget ctxReset x.ctx c) hsched :)
  have hrun : getRun (stepFails c st s) c = getRun (stepFailed c st s) c := (congrArg (fun x : Sched => tget {} x.steps c) hsched :)
  constructor
  · rw [stepStatus, hctx, fld_setCtxFld_same c _ _ (by decide), Nat.mod_eq_of_lt (code_lt st)]
  · rw [hrun, stepFailed, getRun_modRun]

/-! ### Resolutions of page faults (R182) -/

theorem fld_withAction_above (raw : BitVec 128) (a : Nat) {lo n : Nat} (hlo : 4 ≤ lo) (hn : lo + n ≤ 128) : fld (withAction raw 4 a) lo n = fld raw lo n := by
  rw [withAction, fld_ofNat hn, nbits_putBits_above _ _ _ _ _ _ hlo, fld]

theorem fld_withAction (raw : BitVec 128) {a : Nat} (ha : a < 2 ^ 4) : fld (withAction raw 4 a) 0 4 = a := by
  rw [withAction, fld_ofNat (by decide), nbits_putBits_same, Nat.mod_eq_of_lt ha]

theorem resolve_retry (raw : BitVec 128) (s : State) : resolve (withAction raw 4 1) s = resolveRetry (withAction raw 4 1) s := by
  simp only [resolve, fld_withAction raw (a := 1) (by decide)]

theorem resolve_fail (raw : BitVec 128) (s : State) : resolve (withAction raw 4 2) s = resolveFail (withAction raw 4 2) s := by
  simp only [resolve, fld_withAction raw (a := 2) (by decide)]

theorem resolve_migrate (raw : BitVec 128) (s : State) : resolve (withAction raw 4 3) s = startMigration (withAction raw 4 3) s := by
  simp only [resolve, fld_withAction raw (a := 3) (by decide)]

theorem regPair_resolve {s : State} {w : Requester} {raw : BitVec 128} (h : RegServed s) :
    regPair w 0x04110030 raw [] s = regAnswered w (resolve raw (latched w 0x04110030 raw s)) :=
  regPair_ok h (by decide) (lo := .resolve 0) (hi := .resolve 1) rfl rfl (fun _ _ => rfl) (fun _ _ => rfl)

/-- A RESOLVE word names the pending record `r`, number `id` (R182). -/
structure Names (raw : BitVec 128) (id : Nat) (r : PfRec) (s : State) : Prop where
  number : fld raw 8 12 = id
  pending : getRec s id = some r
  space : r.space = fld raw 20 12
  page : r.va / 4096 = fld raw 44 44

theorem Names.resolvable {raw : BitVec 128} {id : Nat} {r : PfRec} {s : State} (h : Names raw id r s) (a : Nat) :
    resolvable s (withAction raw 4 a) = some (id, r) := by
  obtain ⟨hid, hrec, hspace, hpage⟩ := h
  unfold Machine.resolvable
  simp only [fld_withAction_above raw a (lo := 8) (n := 12) (by decide) (by decide), fld_withAction_above raw a (lo := 20) (n := 12) (by decide) (by decide),
    fld_withAction_above raw a (lo := 44) (n := 44) (by decide) (by decide), hid, hrec, hspace, hpage, decide_true, Bool.and_self, if_true]

theorem resolvable_of_none {raw : BitVec 128} {s : State} (h : getRec s (fld raw 8 12) = none) (a : Nat) : resolvable s (withAction raw 4 a) = none := by
  unfold resolvable
  simp only [fld_withAction_above raw a (lo := 8) (n := 12) (by decide) (by decide), h]

/-- A step program is all that waits on record `id`, and nothing waits for a free record. -/
structure StepWaits (c id : Nat) (r : PfRec) (s : State) : Prop where
  waiters : r.waiters = [.ds c]
  waits : (getRun s c).waitRec = some id
  starved : s.tu.starved = []

/-- The record is free, and no copy of it is due. -/
def recFreed (id : Nat) (s : State) : State :=
  { s with tu.recs := tset none s.tu.recs id none, tu.copies := s.tu.copies.filter fun c => c.1 ≠ id, tu.starved := [] }

/-- Freeing the record of a step program owes the program one action. -/
theorem freeRec_step {c id : Nat} {r : PfRec} {s : State} (f : Waiter → Act) (hrec : getRec s id = some r) (h : StepWaits c id r s) :
    freeRec id f s = owe (f (.ds c)) (recFreed id s) := by
  obtain ⟨hwaiters, hwaits, hstarved⟩ := h
  have hattached : attached s id (.ds c) = true := decide_eq_true hwaits
  have hnone (x : State) (l : List Waiter) (hl : l = []) : l.foldl (fun st w => owe (.retryOp w) st) x = x := by rw [hl]; rfl
  unfold freeRec
  simp only [hrec, hwaiters, List.filter_cons, hattached, if_true, List.filter_nil, List.foldl_cons, List.foldl_nil]
  exact hnone _ s.tu.starved hstarved

/-- The state in which a step program goes on, once the RESOLVE word `raw` has freed its record. -/
def resolvedState (w : Requester) (raw : BitVec 128) (id : Nat) (s : State) : State :=
  regAnswered w (recFreed id (latched w 0x04110030 raw s))

theorem getRec_resolvedState (w : Requester) (raw : BitVec 128) (id : Nat) (s : State) :
    getRec (resolvedState w raw id s) id = none ∧ ∀ k, k ≠ id → getRec (resolvedState w raw id s) k = getRec s k :=
  ⟨tget_tset_same _ _ _ _, fun _ hk => tget_tset_ne _ _ _ hk⟩

/-- A RESOLVE that frees the record of a step program ends with the one action that it owes the program. -/
theorem done_resolve_step {s : State} {w : Requester} {raw : BitVec 128} {c n : Nat} {r : PfRec} {f : Waiter → Act} (h : RegServed s) (hwaits : StepWaits c n r s)
    (hrec : getRec s n = some r) (hact : resolve raw (latched w 0x04110030 raw s) = freeRec n f (latched w 0x04110030 raw s))
    (hquiet : (runAct (f (.ds c)) (resolvedState w raw n s)).acts = []) :
    done (onReg (regPair w 0x04110030 raw []) s) = .next (runAct (f (.ds c)) (resolvedState w raw n s)) := by
  obtain ⟨hwaiters, hwait, hstarved⟩ := hwaits
  have hfree := freeRec_step (s := latched w 0x04110030 raw s) f hrec ⟨hwaiters, hwait, hstarved⟩
  obtain ⟨-, -, hacts⟩ := id h
  refine done_onReg_owes h (by rw [regPair_resolve h, hact, hfree]) (congrArg (· ++ [f (.ds c)]) hacts :) ?_ hquiet
  exact withoutActs_of_quiet (s := resolvedState w raw n s) hacts

/-- R182: RETRY frees the record, and the step program checks again. -/
theorem exec_resolveRetry_step {s : State} {w : Requester} {raw : BitVec 128} {c n : Nat} {r : PfRec} (h : RegServed s) (hname : Names raw n r s)
    (hwaits : StepWaits c n r s) :
    exec (.resolveRetry w raw) s = .next (retryStep c (resolvedState w (withAction raw 4 1) n s)) := by
  obtain ⟨-, -, hacts⟩ := id h
  refine done_resolve_step (f := .retryOp) h hwaits hname.pending ?_ hacts
  have hsome := Names.resolvable (s := latched w 0x04110030 (withAction raw 4 1) s) ⟨hname.number, hname.pending, hname.space, hname.page⟩ 1
  rw [resolve_retry, resolveRetry, hsome]

/-- R182: FAIL frees the record, and the step program fails with the record's status. -/
theorem exec_resolveFail_step {s : State} {w : Requester} {raw : BitVec 128} {c n : Nat} {r : PfRec} (h : RegServed s) (hrecords : RecordsQuietly s)
    (hname : Names raw n r s) (hwaits : StepWaits c n r s) :
    exec (.resolveFail w raw) s = .next (stepFails c r.failStatus (resolvedState w (withAction raw 4 2) n s)) := by
  obtain ⟨-, hawake, hacts⟩ := id h
  have hsome := Names.resolvable (s := latched w 0x04110030 (withAction raw 4 2) s) ⟨hname.number, hname.pending, hname.space, hname.page⟩ 2
  refine done_resolve_step (f := fun x => .failOp x r.failStatus) h hwaits hname.pending ?_ ?_
  · rw [resolve_fail, resolveFail, hsome]
  · exact (stepFails_taken c r.failStatus (s := resolvedState w (withAction raw 4 2) n s) ⟨hawake, hrecords.2⟩).acts hrecords.1 |>.trans hacts

/-- R182: a RESOLVE that names no pending record is counted, and nothing else. -/
theorem exec_resolveRetry_unnamed {s : State} {w : Requester} {raw : BitVec 128} (h : RegServed s) (hnone : getRec s (fld raw 8 12) = none) :
    exec (.resolveRetry w raw) s = .next (regAnswered w (count 0x5800 0x0C (latched w 0x04110030 (withAction raw 4 1) s))) := by
  obtain ⟨-, -, hacts⟩ := id h
  refine done_onReg h ?_ hacts
  rw [regPair_resolve h, resolve_retry, resolveRetry, resolvable_of_none (s := latched w 0x04110030 (withAction raw 4 1) s) hnone]

/-! ### The start of a migration (R184) -/

/-- With no array, queue or port at work nothing holds a translation. -/
theorem invHolders_of_none {s : State} (harr : s.arrays.arr = []) (hqueues : s.queues = []) (hports : s.ports = []) (raw : BitVec 128) :
    invHolders raw s = [] := by
  unfold invHolders
  simp only [harr, hqueues, hports, List.flatMap_nil, List.append_nil]

/-- With no engine at work engine 0 takes a migration. -/
theorem placeMigration_of_none {s : State} (h : s.engines = []) (n : Nat) : placeMigration n s = modEngine 0 (fun x => { x with migrate := some n }) s := by
  have hidle : engineIdle s 0 = true := by
    unfold engineIdle getEngine
    rw [h]
    rfl
  unfold placeMigration
  rw [h, List.range_succ_eq_map, List.find?_cons_of_pos hidle]
  rfl

/-- The record's grain moves to `dest`, by engine 0. -/
def migrationStarted (n : Nat) (r : PfRec) (dest : Nat) (s : State) : State :=
  modEngine 0 (fun x => { x with migrate := some n }) (setRec n (some { r with moving := some dest, drain := [] }) s)

/-- The record `r` can be migrated to `dest`. -/
structure Movable (r : PfRec) (dest : Nat) (s : State) : Prop where
  kind : r.kind = 2
  copied : r.copied = false
  moving : r.moving = none
  inStacks : target dest = .stacks
  aligned : dest % (grainPages (getSpace s r.space) * 4096) = 0
  fits : offset dest + r.grainPages * 4096 ≤ stackBytes s

theorem startMigration_starts {s : State} {raw : BitVec 128} {n : Nat} {r : PfRec} (harr : s.arrays.arr = []) (hqueues : s.queues = []) (hports : s.ports = [])
    (hengines : s.engines = []) (hsome : resolvable s raw = some (n, r)) (h : Movable r (fld raw 88 40 * 4096) s) :
    startMigration raw s = migrationStarted n r (fld raw 88 40 * 4096) s := by
  obtain ⟨hkind, hcopied, hmoving, hstacks, haligned, hfits⟩ := h
  have hvalid : (r.kind ≠ 2 || r.copied || r.moving.isSome || target (fld raw 88 40 * 4096) ≠ .stacks ||
      fld raw 88 40 * 4096 % (grainPages (getSpace s r.space) * 4096) ≠ 0 || stackBytes s < offset (fld raw 88 40 * 4096) + r.grainPages * 4096) = false := by
    simp [hkind, hcopied, hmoving, hstacks, haligned, hfits]
  unfold startMigration
  simp only [hsome, hvalid, Bool.false_eq_true, if_false, invHolders_of_none harr hqueues hports, List.foldl_nil]
  exact placeMigration_of_none (s := setRec n _ s) hengines n

/-- R182: MIGRATE_COPY of a record whose grain can move. -/
theorem exec_migrateCopy_starts {s : State} {w : Requester} {raw : BitVec 128} {n : Nat} {r : PfRec} (h : RegServed s) (harr : s.arrays.arr = [])
    (hqueues : s.queues = []) (hports : s.ports = []) (hengines : s.engines = []) (hname : Names raw n r s) (hmove : Movable r (fld raw 88 40 * 4096) s) :
    exec (.migrateCopy w raw) s =
      .next (regAnswered w (migrationStarted n r (fld raw 88 40 * 4096) (latched w 0x04110030 (withAction raw 4 3) s))) := by
  obtain ⟨-, -, hacts⟩ := id h
  have hdest : fld (withAction raw 4 3) 88 40 = fld raw 88 40 := fld_withAction_above raw 3 (by decide) (by decide)
  have hsome := Names.resolvable (s := latched w 0x04110030 (withAction raw 4 3) s) ⟨hname.number, hname.pending, hname.space, hname.page⟩ 3
  have hmove' : Movable r (fld (withAction raw 4 3) 88 40 * 4096) (latched w 0x04110030 (withAction raw 4 3) s) := by
    obtain ⟨hkind, hcopied, hmoving, hstacks, haligned, hfits⟩ := hmove
    rw [hdest]
    exact ⟨hkind, hcopied, hmoving, hstacks, haligned, hfits⟩
  refine done_onReg h ?_ hacts
  rw [regPair_resolve h, resolve_migrate, startMigration_starts (s := latched w _ _ s) harr hqueues hports hengines hsome hmove', hdest]

/-! ### Invalidations (R186, R187) -/

theorem regPair_inval {s : State} {w : Requester} {raw : BitVec 128} (h : RegServed s) :
    regPair w 0x04110040 raw [] s = regAnswered w (invalidate raw (latched w 0x04110040 raw s)) :=
  regPair_ok h (by decide) (lo := .inval 0) (hi := .inval 1) rfl rfl (fun _ _ => rfl) (fun _ _ => rfl)

/-- An invalidation that nothing has to end for: it is in progress, and the TLB entries that it covers are gone. -/
def invalidated (raw : BitVec 128) (s : State) : State :=
  invApply raw { s with tu.issued := (s.tu.issued + 1) % 2 ^ 32, tu.invals := s.tu.invals ++ [⟨(s.tu.issued + 1) % 2 ^ 32, raw, []⟩] }

theorem invalidate_idle {s : State} {raw : BitVec 128} (harr : s.arrays.arr = []) (hqueues : s.queues = []) (hports : s.ports = []) (hok : invMalformed raw = false) :
    invalidate raw s = invalidated raw s := by
  unfold invalidate
  simp only [hok, Bool.false_eq_true, if_false, invHolders_of_none harr hqueues hports, List.foldl_nil, ite_self]
  rfl

/-- A malformed invalidation with none before it is done at once, and counted as malformed and as completed (R186). -/
def malformedDone (s : State) : State :=
  count 0x5800 0x0A (count 0x5800 0x0C
    { s with tu.issued := (s.tu.issued + 1) % 2 ^ 32, tu.invals := [], tu.invDone := (s.tu.issued + 1) % 2 ^ 32 })

theorem invalidate_malformed {s : State} {raw : BitVec 128} (hinvals : s.tu.invals = []) (hbad : invMalformed raw = true) :
    invalidate raw s = malformedDone s := by
  unfold invalidate
  simp only [hbad, if_true, hinvals, List.nil_append]
  unfold advanceInvals
  rw [count_tu]
  simp only [passMalformed, hbad, if_true]
  rfl

theorem exec_inval_idle {s : State} {w : Requester} {raw : BitVec 128} (h : RegServed s) (harr : s.arrays.arr = []) (hqueues : s.queues = [])
    (hports : s.ports = []) (hok : invMalformed raw = false) :
    exec (.inval w raw) s = .next (regAnswered w (invalidated raw (latched w 0x04110040 raw s))) := by
  obtain ⟨-, -, hacts⟩ := id h
  exact done_onReg h ((regPair_inval h).trans (congrArg _ (invalidate_idle (s := latched w _ raw s) harr hqueues hports hok))) hacts

theorem exec_inval_malformed {s : State} {w : Requester} {raw : BitVec 128} (h : RegServed s) (hinvals : s.tu.invals = []) (hbad : invMalformed raw = true) :
    exec (.inval w raw) s = .next (regAnswered w (malformedDone (latched w 0x04110040 raw s))) := by
  obtain ⟨-, -, hacts⟩ := id h
  exact done_onReg h ((regPair_inval h).trans (congrArg _ (invalidate_malformed (s := latched w _ raw s) hinvals hbad))) hacts

/-- The oldest invalidation, with nothing left to end and none behind it, completes. -/
def invalDone (i : InvalCmd) (s : State) : State := count 0x5800 0x0A { s with tu.invals := [], tu.invDone := i.seq }

theorem countN_zero (i j : Nat) (s : State) : ctr (countN i j 0 s) i j = ctr s i j := by
  rw [ctr_countN, if_pos rfl]
  simp

theorem invalCompletes_last {i : InvalCmd} {s : State} (hinvals : s.tu.invals = [i]) (hholders : i.holders = []) :
    invalCompletes s = countN 0x5800 0x0A 0 (invalDone i s) := by
  unfold invalCompletes
  simp only [hinvals, hholders, List.all_nil, if_true]
  rfl

end Sys2Proof.Machine
end

section
open Sys2Proof Sys2Proof.Machine

/-- Settles O35: the register's two words come down to one action on the whole value (`regPair_ok`), and each clause to what that action
does. -/
theorem translationRegistersAct : Obligations.TranslationRegistersAct := by
  refine ⟨?enable, ?disable, ?retry, ?fail, ?unnamed, ?migrate, ?inval, ?malformed, ?complete⟩
  case enable =>
    intro s w a raw h hoff hon
    obtain ⟨t, hstep, hentry, hothers, htlb, hanswers, hframe⟩ := exec_spaceEntry_disabled (w := w) (raw := raw) h hoff
    obtain ⟨henable, hgrain, hslot, htop⟩ := spaceWord_fields raw
    rw [hon, if_pos rfl] at htlb
    exact ⟨t, hstep, by rw [hentry, henable, hon], by rw [hentry, hgrain], by rw [hentry, hslot], by rw [hentry, htop], hothers, hanswers, by rwa [← htlb] at hframe⟩
  case disable =>
    intro s w a raw h hoff hclear
    obtain ⟨t, hstep, hentry, hothers, htlb, hanswers, hframe⟩ := exec_spaceEntry_disabled (w := w) (raw := raw) h hoff
    refine ⟨t, hstep, by rw [hentry, (spaceWord_fields raw).1, hclear], fun x hx => ?_, hothers, hanswers, ?_⟩
    · rw [htlb, hclear] at hx
      exact of_decide_eq_true (List.mem_filter.1 hx).2
    · exact (congrArg (fun x : State => { x with tu := s.tu }) hframe :)
  case retry =>
    intro s w raw c n r h hnumber hrec hspace hpage hwaiters hwait hstarved
    obtain ⟨hgone, hothers⟩ := getRec_resolvedState w (withAction raw 4 1) n s
    refine ⟨_, exec_resolveRetry_step h ⟨hnumber, hrec, hspace, hpage⟩ ⟨hwaiters, hwait, hstarved⟩, hgone, ?_, hothers, ?_, regAnswers_twice rfl, rfl, rfl⟩
    · rw [retryStep, getRun_modRun]
    · exact fun x hx => of_decide_eq_true (List.mem_filter.1 hx).2
  case fail =>
    intro s w raw c n r h hrecords hnumber hrec hspace hpage hwaiters hwait hstarved
    obtain ⟨hgone, hothers⟩ := getRec_resolvedState w (withAction raw 4 2) n s
    obtain ⟨hstatus, hissuing⟩ := stepFails_status c r.failStatus (resolvedState w (withAction raw 4 2) n s)
    have htu : (stepFails c r.failStatus (resolvedState w (withAction raw 4 2) n s)).tu = (resolvedState w (withAction raw 4 2) n s).tu := raise_tu _ _
    refine ⟨_, exec_resolveFail_step h hrecords ⟨hnumber, hrec, hspace, hpage⟩ ⟨hwaiters, hwait, hstarved⟩, ?_, hstatus, hissuing, fun k hk => ?_, raise_objs _ _⟩
    · rw [getRec, htu]; exact hgone
    · rw [getRec, htu]; exact hothers k hk
  case unnamed =>
    intro s w raw h hnone
    exact ⟨_, exec_resolveRetry_unnamed h hnone, ctr_count_same _ _ _, regAnswers_twice rfl, rfl⟩
  case migrate =>
    intro s w raw n r h harr hqueues hports hengines hnumber hrec hspace hpage hkind hcopied hmoving hstacks haligned hfits
    have hmove : Movable r (fld raw 88 40 * 4096) s := ⟨hkind, hcopied, hmoving, hstacks, by rw [Nat.mul_mod_mul_right, haligned, Nat.zero_mul], hfits⟩
    refine ⟨_, exec_migrateCopy_starts h harr hqueues hports hengines ⟨hnumber, hrec, hspace, hpage⟩ hmove, ⟨_, tget_tset_same _ _ _ _, rfl, rfl, hcopied⟩, ?_,
      fun k hk => tget_tset_ne _ _ _ hk, regAnswers_twice rfl, rfl⟩
    exact congrArg Engine.migrate (tget_tset_same _ _ _ _)
  case inval =>
    intro s w raw h harr hqueues hports hok
    refine ⟨_, exec_inval_idle h harr hqueues hports hok, rfl, rfl, rfl, fun x => ?_, regAnswers_twice rfl, rfl⟩
    exact List.mem_filter.trans (and_congr_right fun _ => by rw [Bool.not_eq_true'])
  case malformed =>
    intro s w raw h hinvals hbad
    refine ⟨_, exec_inval_malformed h hinvals hbad, rfl, rfl, rfl, ?_, rfl⟩
    exact ((ctr_count _ _ _ _ _).trans (if_neg (by decide))).trans (ctr_count_same _ _ _)
  case complete =>
    intro s i hfab hacts hinvals hholders
    refine ⟨_, done_onFab (f := invalCompletes) hfab (by rw [invalCompletes_last hinvals hholders]; exact hacts), ?_⟩
    rw [invalCompletes_last hinvals hholders]
    exact ⟨rfl, rfl, (countN_zero _ _ _).trans (ctr_count_same _ _ _), rfl⟩

end

section
namespace Sys2Proof.Machine

/-! ### The messages of a peer link (Tables 17.10, 17.11) -/

/-- A field inside the first one of a packed structure. -/
theorem nbits_pack_within {w lo n : Nat} (h : lo + n ≤ w) (v : Nat) (fs : List (Nat × Nat)) : nbits (pack ((w, v) :: fs)) lo n = nbits v lo n := by
  have hfirst : pack ((w, v) :: fs) % 2 ^ w = v % 2 ^ w := by
    rw [pack, Nat.add_mul_mod_self_left, Nat.mod_mod]
  have hcut (x : Nat) : nbits x lo n = nbits (x % 2 ^ w) lo n := by
    have := fld_ofNat h x
    rwa [fld, BitVec.toNat_ofNat, eq_comm] at this
  rw [hcut, hfirst, ← hcut]

/-- The operation of a message of the block, and the data blocks that follow it. -/
theorem pmMake_fields {op blocks : Nat} (hop : op < 256) (hblocks : blocks < 8) (st tag size poison aop window offset operand : Nat) :
    pmOp (pmMake op st tag size blocks poison aop window offset operand) = op ∧
    pmBlocks (pmMake op st tag size blocks poison aop window offset operand) = blocks := by
  constructor
  · rw [pmOp, pmMake, fld_ofNat (by decide), nbits_pack_next 80 _ 0 8, nbits_pack_first]
    exact Nat.mod_eq_of_lt hop
  · rw [pmBlocks, pmMake, fld_ofNat (by decide), nbits_pack_next 80 _ 42 3, nbits_pack_next 8 _ 34 3, nbits_pack_next 8 _ 26 3, nbits_pack_next 16 _ 10 3,
      nbits_pack_next 10 _ 0 3, nbits_pack_first]
    exact Nat.mod_eq_of_lt hblocks

/-- Byte `i` of a number, as a field of it. -/
theorem nbits_ofLe_byte (l : List Byte) (i : Nat) : nbits (ofLe l) (8 * i) 8 = (l.getD i 0).toNat := by
  rw [← byte_ofLe, BitVec.toNat_ofNat, nbits]

theorem extractLsb'_toNat_eq_fld {w : Nat} (v : BitVec w) (lo n : Nat) : (v.extractLsb' lo n).toNat = fld v lo n := by
  rw [BitVec.extractLsb'_toNat, Nat.shiftRight_eq_div_pow, fld, nbits]

/-- The answer to message `m` of operation `op` (Table 17.11). -/
def answerTo (op : Nat) (m : BitVec 256) (st : Status) (data : List Byte) : BitVec 256 :=
  pmMake op st.code (pmTag m) 0 (blocksOf data.length) 0 0 0 0 0

/-- The flit in which link `p` sends message `a` with `data`. -/
def messageFlit (p : PeerLink) (a : BitVec 256) (data : List Byte) : PeerFlit := makeFlit p p.sendSeq (slotsOf a data)

/-- The first slot of the flit is the message. -/
theorem messageFlit_message (p : PeerLink) (a : BitVec 256) (data : List Byte) :
    (messageFlit p a data).body.extractLsb' 0 256 = a ∧ fld (messageFlit p a data).slots 0 2 = 1 := by
  constructor
  · apply BitVec.eq_of_toNat_eq
    rw [extractLsb'_toNat_eq_fld, messageFlit, makeFlit, slotsOf, fld_ofNat (by decide), List.map_cons, nbits_pack_first]
    exact Nat.mod_eq_of_lt a.isLt
  · rw [messageFlit, makeFlit, slotsOf, fld_ofNat (by decide), List.map_cons, nbits_pack_first]
    rfl

/-- The slots that follow it hold its data. -/
theorem messageFlit_data (p : PeerLink) {a : BitVec 256} {data : List Byte} (hlen : data.length ≤ 64) (hblocks : pmBlocks a = blocksOf data.length)
    {i : Nat} (hi : i < data.length) : (messageFlit p a data).body.extractLsb' (256 + 8 * i) 8 = data.getD i 0 := by
  have hone : blocksOf data.length = 1 := by
    unfold blocksOf
    omega
  apply BitVec.eq_of_toNat_eq
  rw [extractLsb'_toNat_eq_fld, messageFlit, makeFlit, slotsOf, hblocks, hone, fld_ofNat (by omega), List.map_cons, nbits_pack_next 256 _ (8 * i) 8]
  simp only [Nat.mul_one, List.range_succ, List.range_zero, List.nil_append, List.cons_append, List.map_cons, List.map_nil]
  by_cases h : i < 32
  · rw [nbits_pack_within (by omega), nbits_ofLe_byte]
    simp [List.getD_eq_getElem?_getD, h]
  · obtain ⟨k, rfl⟩ := Nat.exists_eq_add_of_le (Nat.le_of_not_lt h)
    rw [show 8 * (32 + k) = 256 + 8 * k by omega, nbits_pack_next, nbits_pack_within (by omega), nbits_ofLe_byte]
    simp [List.getD_eq_getElem?_getD, show k < 32 by omega]

/-! ### What a link's traffic changes -/

/-- Nothing changed but link `l` and what the block put out. -/
structure OnLink (l : Nat) (s t : State) : Prop where
  others : ∀ k, k ≠ l → getPeer t k = getPeer s k
  rest : { t with peers := s.peers, out := s.out } = s

theorem OnLink.trans {l : Nat} {s t u : State} (h : OnLink l s t) (k : OnLink l t u) : OnLink l s u where
  others := fun j hj => (k.others j hj).trans (h.others j hj)
  rest := (congrArg (fun x : State => { x with peers := s.peers, out := s.out }) k.rest).trans h.rest

theorem onLink_modPeer (l : Nat) (f : PeerLink → PeerLink) (s : State) : OnLink l s (modPeer l f s) :=
  ⟨fun k hk => by rw [getPeer_modPeer, if_neg hk], rfl⟩

theorem onLink_emit (l : Nat) (o : Out) (s : State) : OnLink l s (emit o s) := ⟨fun _ _ => rfl, rfl⟩

theorem OnLink.only {l : Nat} {s t : State} (h : OnLink l s t) : OnlyLink l s t :=
  ⟨h.others, congrArg (fun x : State => { x with ctrs := s.ctrs, wraps := s.wraps }) h.rest⟩

theorem onlyLink_trans {l : Nat} {s t u : State} (h : OnlyLink l s t) (k : OnlyLink l t u) : OnlyLink l s u := by
  obtain ⟨hothers, hrest⟩ := h
  obtain ⟨kothers, krest⟩ := k
  exact ⟨fun j hj => (kothers j hj).trans (hothers j hj),
    (congrArg (fun x : State => { x with peers := s.peers, out := s.out, ctrs := s.ctrs, wraps := s.wraps }) krest).trans hrest⟩

theorem onlyLink_count (l i j : Nat) (s : State) : OnlyLink l s (count i j s) := ⟨fun _ _ => rfl, rfl⟩

theorem OnLink.acts {l : Nat} {s t : State} (h : OnLink l s t) : t.acts = s.acts := (congrArg State.acts h.rest :)
theorem OnLink.ctrs {l : Nat} {s t : State} (h : OnLink l s t) : t.ctrs = s.ctrs := (congrArg State.ctrs h.rest :)
theorem OnLink.mem {l : Nat} {s t : State} (h : OnLink l s t) : t.mem = s.mem := (congrArg State.mem h.rest :)
theorem OnLink.objs {l : Nat} {s t : State} (h : OnLink l s t) : t.objs = s.objs := (congrArg State.objs h.rest :)
theorem OnLink.ports {l : Nat} {s t : State} (h : OnLink l s t) : t.ports = s.ports := (congrArg State.ports h.rest :)
theorem OnLink.coh {l : Nat} {s t : State} (h : OnLink l s t) : t.coh = s.coh := (congrArg State.coh h.rest :)
theorem OnLink.sync {l : Nat} {s t : State} (h : OnLink l s t) : t.sync = s.sync := (congrArg State.sync h.rest :)
theorem acts_of_onlyLink {l : Nat} {s t : State} (h : OnlyLink l s t) : t.acts = s.acts := (congrArg State.acts h.2 :)

end Sys2Proof.Machine
end

section
namespace Sys2Proof.Machine

/-! ### Taking a request and answering it (R444, R445) -/

/-- The only message received is of the operation: it is served next. -/
theorem inboxMsg_single {s : State} {l op : Nat} {m : BitVec 256} {data : List Byte} (hbox : (getPeer s l).inbox = [(m, data)]) (hop : pmOp m = op) :
    inboxMsg s l op = some (m, data) := by
  simp [inboxMsg, hbox, hop]

/-- The link once its flit has returned the credits that are owed. -/
def returned (p : PeerLink) : PeerLink := { p with owedReq := p.owedReq - min 63 p.owedReq, owedData := p.owedData - min 255 p.owedData }

theorem getPeer_sendControl (l kind : Nat) (s : State) : getPeer (sendControl l kind s) l = returned (getPeer s l) := by
  rw [sendControl, getPeer_emit, getPeer_modPeer, if_pos rfl, returned]

/-- The link once it has sent flit `f` of a message, which it keeps for replay. -/
def flitSent (now : Nat) (f : PeerFlit) (p : PeerLink) : PeerLink :=
  { returned p with sendSeq := (p.sendSeq + 1) % 65536, flits := p.flits + 1, replay := p.replay ++ [(now, f)] }

theorem getPeer_sendNormal (l : Nat) (ss : List (Nat × Nat)) (s : State) :
    getPeer (sendNormal l ss s) l = flitSent s.aoncnt (makeFlit (getPeer s l) (getPeer s l).sendSeq ss) (getPeer s l) := by
  rw [sendNormal, getPeer_emit, getPeer_modPeer, if_pos rfl, flitSent, returned]

/-- The link once it has handed over its only message, a request, and returned the credits of it. -/
def creditedLink (m : BitVec 256) (p : PeerLink) : PeerLink :=
  returned { p with inbox := [], owedReq := p.owedReq + 1, owedData := p.owedData + 2 * pmBlocks m }

/-- A request has been taken off link `l`, and its credits have gone back. -/
structure Taken (l : Nat) (m : BitVec 256) (s t : State) : Prop where
  out : ∃ a, t.out = .peerFlit l 0 a :: s.out ∧ a.reqCredits.val = min 63 ((getPeer s l).owedReq + 1)
  link : getPeer t l = creditedLink m (getPeer s l)
  onLink : OnLink l s t

theorem taken_takeInbox {s : State} {l : Nat} {m : BitVec 256} {data : List Byte} (hbox : (getPeer s l).inbox = [(m, data)]) (hop : pmOp m < 0x80) :
    Taken l m s (takeInbox l (m, data) s) := by
  have hreq : pmIsRequest m = true := decide_eq_true hop
  unfold takeInbox
  simp only [hreq, if_true]
  refine ⟨⟨_, rfl, ?_⟩, ?_, (onLink_modPeer l _ s).trans ((onLink_modPeer l _ _).trans (onLink_emit l _ _))⟩
  · rw [getPeer_modPeer, if_pos rfl]
    exact Nat.mod_eq_of_lt (by omega)
  · rw [getPeer_sendControl, getPeer_modPeer, if_pos rfl, hbox, List.erase_cons_head]
    rfl

/-- Link `l` has sent message `a` with `data`, and keeps it for replay. -/
structure Sent (l : Nat) (a : BitVec 256) (data : List Byte) (s t : State) : Prop where
  out : t.out = .peerFlit l 1 (messageFlit (getPeer s l) a data) :: s.out
  inbox : (getPeer t l).inbox = (getPeer s l).inbox
  grants : (getPeer t l).grants = (getPeer s l).grants
  kept : (getPeer t l).replay.length = 1
  onLink : OnLink l s t

theorem drainOut_empty {l : Nat} {s : State} (h : (getPeer s l).outq = []) : ∀ n, drainOut l n s = s
  | 0 => rfl
  | n + 1 => by
    rw [drainOut, nextOut, h]

/-- A response that is all that waits, and that the link lets go, is sent next. -/
theorem nextOut_response {p : PeerLink} {a : BitVec 256} {data : List Byte} (hresp : pmIsRequest a = false) (hq : p.outq = [(a, data)])
    (hcan : canSend p (a, data) = true) : nextOut p = some (a, data) := by
  simp [nextOut, hq, hresp, Option.filter, hcan]

/-- An active link lets a response of at most one block go. -/
theorem canSend_response {p : PeerLink} {a : BitVec 256} {data : List Byte} (hresp : pmIsRequest a = false) (hblocks : pmBlocks a ≤ 1) (hstate : p.state = 3)
    (hreplay : p.replay = []) : canSend p (a, data) = true := by
  simp [canSend, hstate, hreplay, hresp]
  omega

/-- Its slots fit in one flit. -/
theorem length_slotsOf_le {a : BitVec 256} (hblocks : pmBlocks a ≤ 1) (data : List Byte) : (slotsOf a data).length ≤ 3 := by
  simp [slotsOf]
  omega

/-- A response handed to an idle link is sent at once. -/
theorem sent_sendPeer {s : State} {l : Nat} {a : BitVec 256} {data : List Byte} (hstate : (getPeer s l).state = 3) (hq : (getPeer s l).outq = [])
    (hreplay : (getPeer s l).replay = []) (hresp : pmIsRequest a = false) (hblocks : pmBlocks a ≤ 1) : Sent l a data s (sendPeer l a data s) := by
  have hlink : getPeer (modPeer l (fun p => { p with outq := p.outq ++ [(a, data)] }) s) l = { getPeer s l with outq := [(a, data)] } := by
    rw [getPeer_modPeer, if_pos rfl, hq]
    rfl
  have hnext : nextOut (getPeer (modPeer l (fun p => { p with outq := p.outq ++ [(a, data)] }) s) l) = some (a, data) := by
    rw [hlink]
    exact nextOut_response hresp rfl (canSend_response hresp hblocks hstate hreplay)
  have hslots := length_slotsOf_le hblocks data
  have htake : (slotsOf a data).take 7 = slotsOf a data := List.take_of_length_le (by omega)
  have hlen : (getPeer (modPeer l (fun p => { p with outq := p.outq ++ [(a, data)] }) s) l).outq.length = 1 := by rw [hlink]; rfl
  rw [sendPeer, drainPeer, hlen]
  simp only [drainOut, hnext, htake, if_neg (show ¬ 7 < (slotsOf a data).length by omega)]
  refine ⟨?_, ?_, ?_, ?_, (onLink_modPeer l _ s).trans ((onLink_modPeer l _ _).trans ((onLink_modPeer l _ _).trans (onLink_emit l _ _)))⟩
  · refine congrArg (fun f => Out.peerFlit l 1 f :: s.out) ?_
    rw [getPeer_modPeer, if_pos rfl, hlink]
    rfl
  · rw [getPeer_sendNormal, getPeer_modPeer, if_pos rfl, hlink]
    rfl
  · rw [getPeer_sendNormal, getPeer_modPeer, if_pos rfl, hlink]
    rfl
  · rw [getPeer_sendNormal, getPeer_modPeer, if_pos rfl, hlink, flitSent, hreplay]
    rfl

/-- A request of link `l` has been taken off it, and nothing else has happened at the link. -/
structure Admitted (l : Nat) (s v : State) : Prop where
  out : ∃ a, v.out = .peerFlit l 0 a :: s.out ∧ a.reqCredits.val = min 63 ((getPeer s l).owedReq + 1)
  state : (getPeer v l).state = 3
  outq : (getPeer v l).outq = []
  replay : (getPeer v l).replay = []
  inbox : (getPeer v l).inbox = []

theorem Taken.admitted {l : Nat} {m : BitVec 256} {p : PeerLink} {s t : State} (h : Taken l m s t) (hs : LinkActive l p s) : Admitted l s t := by
  obtain ⟨-, -, -, -, rfl, hstate, -, houtq, hreplay⟩ := hs
  obtain ⟨hout, hlink, -⟩ := h
  refine ⟨hout, ?_, ?_, ?_, ?_⟩ <;> rw [hlink]
  · exact hstate
  · exact houtq
  · exact hreplay
  · rfl

/-- What is neither output nor traffic of a link leaves a request taken. -/
theorem Admitted.of_same {l : Nat} {s u v : State} (h : Admitted l s u) (hout : v.out = u.out) (hpeers : v.peers = u.peers) : Admitted l s v := by
  have hlink : getPeer v l = getPeer u l := by rw [getPeer, hpeers, getPeer]
  obtain ⟨ho, hstate, houtq, hreplay, hinbox⟩ := h
  exact ⟨hout ▸ ho, hlink ▸ hstate, hlink ▸ houtq, hlink ▸ hreplay, hlink ▸ hinbox⟩

theorem sent_respond {l op : Nat} {m : BitVec 256} {data : List Byte} {s v : State} (h : Admitted l s v) (hlo : 0x80 ≤ op) (hhi : op < 256)
    (hlen : data.length ≤ 64) (st : Status) : Sent l (answerTo op m st data) data v (respond l op m st 0 data v) := by
  have hb : blocksOf data.length ≤ 1 := by
    unfold blocksOf
    omega
  obtain ⟨hop, hblocks⟩ := pmMake_fields (blocks := blocksOf data.length) hhi (by omega) st.code (pmTag m) 0 0 0 0 0 0
  exact sent_sendPeer h.state h.outq h.replay (by rw [pmIsRequest, answerTo, hop]; exact decide_eq_false (by omega)) (hblocks.trans_le hb)

/-- An answer of at most one data block goes out as one flit. -/
theorem Admitted.answered {l op : Nat} {m : BitVec 256} {data : List Byte} {s v : State} (h : Admitted l s v) (hlo : 0x80 ≤ op) (hhi : op < 256)
    (hlen : data.length ≤ 64) (st : Status) : PeerAnswered l op m st (blocksOf data.length) data s (respond l op m st 0 data v) := by
  have hsent := sent_respond (m := m) h hlo hhi hlen st
  obtain ⟨a, hout, hcredits⟩ := h.out
  have hb : blocksOf data.length < 8 := by
    unfold blocksOf
    omega
  obtain ⟨hmessage, hkind⟩ := messageFlit_message (getPeer v l) (answerTo op m st data) data
  exact ⟨a, _, by rw [hsent.out, hout], hcredits, hmessage, hkind,
    fun i hi => messageFlit_data (getPeer v l) hlen (pmMake_fields hhi hb st.code (pmTag m) 0 0 0 0 0 0).2 hi,
    hsent.inbox.trans h.inbox, hsent.kept⟩

end Sys2Proof.Machine
end

section
namespace Sys2Proof.Machine

/-! ### Refusals, probes, signals and session set-up (R188, R303, R423) -/

/-- A request that link `l` serves, whose effect owes nothing. -/
theorem done_onAdmit {f : State → State} {s t : State} {l : Nat} {p : PeerLink} (h : LinkActive l p s) (hf : f s = t) (hacts : t.acts = []) :
    done (onAdmit f s) = .next t := by
  obtain ⟨-, hfab, hhold, -⟩ := h
  rw [onAdmit, if_pos (by simp [hfab, hhold]), hf, done_of_quiet t hacts]

/-- The window table's verdict needs the objects and the grants of the link. -/
theorem windowVerdict_congr {s t : State} {l : Nat} (hobjs : t.objs = s.objs) (hgrants : (getPeer t l).grants = (getPeer s l).grants)
    (w off len need : Nat) (probe : Bool) : windowVerdict t l w off len need probe = windowVerdict s l w off len need probe := by
  have hobj (i j d : Nat) : obj t i j d = obj s i j d := by rw [obj, hobjs, obj]
  unfold windowVerdict winPresent winPages winControl
  rw [hgrants, hobj, hobj]

theorem Taken.windowVerdict {l : Nat} {m : BitVec 256} {s t : State} (h : Taken l m s t) (w off len need : Nat) (probe : Bool) :
    windowVerdict t l w off len need probe = Machine.windowVerdict s l w off len need probe :=
  windowVerdict_congr h.onLink.objs (by rw [h.link]; rfl) w off len need probe

/-- What refusing the message leaves: it is taken, counted and answered with the status. -/
def refusedBy (l op : Nat) (m : BitVec 256) (data : List Byte) (st : Status) (s : State) : State :=
  respond l op m st 0 [] (countRefusal l (pmWindow m) (takeInbox l (m, data) s))

/-- A memory request that its window refuses. -/
theorem peerAccess_refused {s : State} {l op need : Nat} {m : BitVec 256} {data : List Byte} {st : Status} {good : Nat → State → State}
    (htaken : Taken l m s (takeInbox l (m, data) s)) (hsize : pmSize m < 256)
    (hverdict : windowVerdict s l (pmWindow m) (pmOffset m) (pmSize m + 1) need false = st) (hst : st ≠ .ok) :
    peerAccess l op need (m, data) s good = refusedBy l op m data st s := by
  unfold peerAccess
  dsimp only
  rw [if_neg (by omega), htaken.windowVerdict, hverdict]
  split
  · contradiction
  · rfl

/-- The two counts of a refusal (Tables 7.11, 7.13). -/
theorem ctr_countRefusal (l w : Nat) (s : State) : ctr (countRefusal l w s) 0x5400 2 = ctr s 0x5400 2 + 1 ∧
    ctr (countRefusal l w s) (0x5410 + 64 * l + w) 6 = ctr s (0x5410 + 64 * l + w) 6 + 1 := by
  have hne : ¬ okey 0x5400 2 = okey (winIdx l w) 6 := by
    rw [okey_inj (by decide) (by decide)]
    omega
  constructor
  · rw [countRefusal, ctr_count, if_neg hne, ctr_count_same]
  · exact (ctr_count_same (winIdx l w) 6 _).trans (congrArg (· + 1) ((ctr_count 0x5400 2 (winIdx l w) 6 s).trans (if_neg (Ne.symm hne))))

theorem onlyLink_countRefusal (l w : Nat) (s : State) : OnlyLink l s (countRefusal l w s) :=
  onlyLink_trans (onlyLink_count l 0x5400 2 s) (onlyLink_count l _ 6 _)

/-- What a refusal does. -/
structure Refuses (l op : Nat) (m : BitVec 256) (st : Status) (s t : State) : Prop where
  quiet : t.acts = []
  answered : PeerAnswered l op m st 0 [] s t
  refusals : ctr t 0x5400 2 = ctr s 0x5400 2 + 1
  ofWindow : ctr t (0x5410 + 64 * l + pmWindow m) 6 = ctr s (0x5410 + 64 * l + pmWindow m) 6 + 1
  grants : (getPeer t l).grants = (getPeer s l).grants
  only : OnlyLink l s t

theorem refuses_refusedBy {s : State} {l op : Nat} {p : PeerLink} {m : BitVec 256} {data : List Byte} (hs : LinkActive l p s) (hbox : p.inbox = [(m, data)])
    (hop : pmOp m < 0x80) (hlo : 0x80 ≤ op) (hhi : op < 256) (st : Status) : Refuses l op m st s (refusedBy l op m data st s) := by
  obtain ⟨-, -, -, hacts, hp, -⟩ := id hs
  have htaken : Taken l m s (takeInbox l (m, data) s) := taken_takeInbox (by rw [hp, hbox]) hop
  have hadmitted : Admitted l s (countRefusal l (pmWindow m) (takeInbox l (m, data) s)) := (htaken.admitted hs).of_same rfl rfl
  have hsent := sent_respond (m := m) (data := []) hadmitted hlo hhi (by decide) st
  have honly := onlyLink_trans htaken.onLink.only (onlyLink_trans (onlyLink_countRefusal l (pmWindow m) _) hsent.onLink.only)
  obtain ⟨hrefusals, hwindow⟩ := ctr_countRefusal l (pmWindow m) (takeInbox l (m, data) s)
  have hctr (i j : Nat) : ctr (takeInbox l (m, data) s) i j = ctr s i j := by rw [ctr, htaken.onLink.ctrs, ctr]
  have hctr' (i j : Nat) : ctr (refusedBy l op m data st s) i j = ctr (countRefusal l (pmWindow m) (takeInbox l (m, data) s)) i j := by
    rw [ctr, refusedBy, hsent.onLink.ctrs, ctr]
  refine ⟨(acts_of_onlyLink honly).trans hacts, hadmitted.answered hlo hhi (by decide) st, ?_, ?_, ?_, honly⟩
  · rw [hctr', hrefusals, hctr]
  · rw [hctr', hwindow, hctr]
  · refine hsent.grants.trans ?_
    show (getPeer (takeInbox l (m, data) s) l).grants = _
    rw [htaken.link]
    rfl

theorem exec_peerRead_refused {s : State} {l : PeerId} {p : PeerLink} {m : BitVec 256} {data : List Byte} {st : Status} (hs : LinkActive l p s)
    (hbox : p.inbox = [(m, data)]) (hsize : pmSize m < 256) (hst : st ≠ .ok) (hop : pmOp m = 1)
    (hverdict : windowVerdict s l (pmWindow m) (pmOffset m) (pmSize m + 1) needR false = st) :
    exec (.peerRead l) s = .next (refusedBy l 0x81 m data st s) := by
  obtain ⟨-, -, -, -, hp, -⟩ := id hs
  have hin : (getPeer s l).inbox = [(m, data)] := by rw [hp, hbox]
  refine done_onAdmit hs ?_ (refuses_refusedBy hs hbox (by omega) (by decide) (by decide) st).quiet
  rw [servePeerRead, inboxMsg_single hin hop]
  exact peerAccess_refused (taken_takeInbox hin (by omega)) hsize hverdict hst

theorem exec_peerWrite_refused {s : State} {l : PeerId} {p : PeerLink} {m : BitVec 256} {data : List Byte} {st : Status} (hs : LinkActive l p s)
    (hbox : p.inbox = [(m, data)]) (hsize : pmSize m < 256) (hst : st ≠ .ok) (hop : pmOp m = 2) (hblocks : pmBlocks m = blocksOf (pmSize m + 1))
    (hverdict : windowVerdict s l (pmWindow m) (pmOffset m) (pmSize m + 1) needW false = st) :
    exec (.peerWrite l) s = .next (refusedBy l 0x82 m data st s) := by
  obtain ⟨-, -, -, -, hp, -⟩ := id hs
  have hin : (getPeer s l).inbox = [(m, data)] := by rw [hp, hbox]
  refine done_onAdmit hs ?_ (refuses_refusedBy hs hbox (by omega) (by decide) (by decide) st).quiet
  rw [servePeerWrite, inboxMsg_single hin hop]
  dsimp only
  rw [if_neg (not_not_intro hblocks)]
  exact peerAccess_refused (taken_takeInbox hin (by omega)) hsize hverdict hst

/-- A window is granted to the peer. -/
def granted (l w : Nat) (s : State) : State := modPeer l (fun p => { p with grants := p.grants.erase w ++ [w] }) s

/-- A PROBE that its window refuses. -/
theorem exec_peerProbe_refused {s : State} {l : PeerId} {p : PeerLink} {m : BitVec 256} {data : List Byte} {st : Status} (hs : LinkActive l p s)
    (hbox : p.inbox = [(m, data)]) (hop : pmOp m = 4)
    (hverdict : windowVerdict s l (pmWindow m) (pmOffset m) (pmOperand m % 2 ^ 40 + 1) (pmAop m % 8) true = st) (hst : st ≠ .ok) :
    exec (.peerProbe l) s = .next (refusedBy l 0x84 m data st s) := by
  obtain ⟨-, -, -, -, hp, -⟩ := id hs
  have hin : (getPeer s l).inbox = [(m, data)] := by rw [hp, hbox]
  refine done_onAdmit hs ?_ (refuses_refusedBy hs hbox (by omega) (by decide) (by decide) st).quiet
  rw [servePeerProbe, inboxMsg_single hin hop]
  dsimp only
  rw [(taken_takeInbox hin (by omega : pmOp m < 0x80)).windowVerdict, hverdict]
  split
  · contradiction
  · rfl

/-- What a granted PROBE does. -/
theorem exec_peerProbe_granted {s : State} {l : PeerId} {p : PeerLink} {m : BitVec 256} {data : List Byte} (hs : LinkActive l p s)
    (hbox : p.inbox = [(m, data)]) (hop : pmOp m = 4)
    (hverdict : windowVerdict s l (pmWindow m) (pmOffset m) (pmOperand m % 2 ^ 40 + 1) (pmAop m % 8) true = .ok) :
    ∃ t, exec (.peerProbe l) s = .next t ∧ PeerAnswered l 0x84 m .ok 0 [] s t ∧ pmWindow m ∈ (getPeer t l).grants ∧ OnLink l s t := by
  obtain ⟨-, -, -, hacts, hp, -⟩ := id hs
  have hin : (getPeer s l).inbox = [(m, data)] := by rw [hp, hbox]
  have htaken : Taken l m s (takeInbox l (m, data) s) := taken_takeInbox hin (by omega)
  obtain ⟨hout, hstate, houtq, hreplay, hinbox⟩ := htaken.admitted hs
  have hlink : getPeer (granted l (pmWindow m) (takeInbox l (m, data) s)) l =
      { getPeer (takeInbox l (m, data) s) l with grants := (getPeer (takeInbox l (m, data) s) l).grants.erase (pmWindow m) ++ [pmWindow m] } := by
    rw [granted, getPeer_modPeer, if_pos rfl]
  have hadmitted : Admitted l s (granted l (pmWindow m) (takeInbox l (m, data) s)) := by
    refine ⟨hout, ?_, ?_, ?_, ?_⟩ <;> rw [hlink]
    · exact hstate
    · exact houtq
    · exact hreplay
    · exact hinbox
  have hsent := sent_respond (op := 0x84) (m := m) (data := []) hadmitted (by decide) (by decide) (by decide) .ok
  have honLink : OnLink l s _ := htaken.onLink.trans ((onLink_modPeer l _ _).trans hsent.onLink)
  refine ⟨_, done_onAdmit hs ?_ (honLink.acts.trans hacts), hadmitted.answered (by decide) (by decide) (by decide) .ok, ?_, honLink⟩
  · rw [servePeerProbe, inboxMsg_single hin hop]
    dsimp only
    rw [htaken.windowVerdict, hverdict, granted]
  · rw [hsent.grants, hlink]
    simp

/-- A SIGNAL on a counter that nothing watches adds to it. -/
theorem signalUnit_unwatched {u : SyncUnit} {c n : Nat} (hwatches : u.watches = []) (hfit : valueOf u c + n < 2 ^ 32) :
    signalUnit c n u = some ({ setValue c (valueOf u c + n) u with watches := [] }, []) := by
  unfold signalUnit
  rw [if_pos (by omega), hwatches]
  rfl

theorem valueOf_setValue (u : SyncUnit) (c v k : Nat) : valueOf (setValue c v u) k = if k = c then v % 2 ^ 32 else valueOf u k := by
  unfold valueOf setValue
  rw [tget_tset]
  split
  · exact BitVec.toNat_ofNat v 32
  · rfl

/-- The state once a peer's SIGNAL has added `n` to counter `c`. -/
def signalled (c n : Nat) (s : State) : State := count 0x6800 6 { s with sync := { setValue c (valueOf s.sync c + n) s.sync with watches := [] } }

theorem signalFor_unwatched {s : State} {x c n : Nat} (hn : n ≠ 0) (hbound : boundTo s.sync c x = true) (hwatches : s.sync.watches = [])
    (hfit : valueOf s.sync c + n < 2 ^ 32) : signalFor x c n s = (signalled c n s, .ok) := by
  rw [signalFor, if_neg hn, if_pos hbound, signalUnit_unwatched hwatches hfit]
  rfl

/-- What a SYNC message does that its counter takes (R303). -/
theorem exec_peerSync_signals {s : State} {l : PeerId} {p : PeerLink} {m : BitVec 256} {data : List Byte} {c n : Nat} (hs : LinkActive l p s)
    (hbox : p.inbox = [(m, data)]) (hop : pmOp m = 5) (hc : c = nbits (pmOperand m) 32 17) (hn : n = pmOperand m % 2 ^ 32)
    (hvalid : flag (ctrlOf s.sync c) 0 = true) (hallow : flag (ctrlOf s.sync c) (8 + l) = true) (hwatches : s.sync.watches = []) (hpos : n ≠ 0)
    (hfit : valueOf s.sync c + n < 2 ^ 32) (hbound : boundTo s.sync c (fld (ctrlOf s.sync c) 20 12) = true) :
    ∃ t, exec (.peerSync l) s = .next t ∧ PeerAnswered l 0x85 m .ok 0 [] s t ∧ valueOf t.sync c = valueOf s.sync c + n ∧
      (∀ k, k ≠ c → valueOf t.sync k = valueOf s.sync k) ∧ ctr t 0x6800 6 = ctr s 0x6800 6 + 1 ∧ t.mem = s.mem ∧ t.objs = s.objs := by
  obtain ⟨-, -, -, hacts, hp, -⟩ := id hs
  have hin : (getPeer s l).inbox = [(m, data)] := by rw [hp, hbox]
  have htaken : Taken l m s (takeInbox l (m, data) s) := taken_takeInbox hin (by omega)
  have hsync : (takeInbox l (m, data) s).sync = s.sync := htaken.onLink.sync
  have hlt : c < 131072 := hc ▸ Nat.mod_lt _ (Nat.two_pow_pos 17)
  have hsignal : signalFor (fld (ctrlOf s.sync c) 20 12) c n (takeInbox l (m, data) s) = (signalled c n (takeInbox l (m, data) s), .ok) :=
    signalFor_unwatched hpos (by rw [hsync, hbound]) (by rw [hsync, hwatches]) (by rw [hsync]; exact hfit)
  have hadmitted : Admitted l s (signalled c n (takeInbox l (m, data) s)) := (htaken.admitted hs).of_same rfl rfl
  have hsent := sent_respond (op := 0x85) (m := m) (data := []) hadmitted (by decide) (by decide) (by decide) .ok
  have hvalue (k : Nat) : valueOf (respond l 0x85 m .ok 0 [] (signalled c n (takeInbox l (m, data) s))).sync k =
      valueOf (setValue c (valueOf s.sync c + n) s.sync) k := by
    rw [hsent.onLink.sync, ← hsync]
    rfl
  refine ⟨_, done_onAdmit hs ?_ (hsent.onLink.acts.trans (htaken.onLink.acts.trans hacts)), hadmitted.answered (by decide) (by decide) (by decide) .ok, ?_,
    fun k hk => ?_, ?_, hsent.onLink.mem.trans htaken.onLink.mem, hsent.onLink.objs.trans htaken.onLink.objs⟩
  · rw [servePeerSync, inboxMsg_single hin hop]
    dsimp only
    rw [← hc, ← hn, if_pos (by simp [hvalid, hallow, hlt]), hsignal]
  · rw [hvalue, valueOf_setValue, if_pos rfl, Nat.mod_eq_of_lt hfit]
  · rw [hvalue, valueOf_setValue, if_neg hk]
  · rw [ctr, hsent.onLink.ctrs, ← ctr, signalled, ctr_count_same, ctr, ctr]
    exact congrArg (fun x : Table Word => tget 0 x (okey 0x6800 6) + 1) htaken.onLink.ctrs

/-- A SYNC message whose link the counter's PEER_ALLOW does not name. -/
theorem exec_peerSync_refused {s : State} {l : PeerId} {p : PeerLink} {m : BitVec 256} {data : List Byte} (hs : LinkActive l p s)
    (hbox : p.inbox = [(m, data)]) (hop : pmOp m = 5) (hallow : flag (ctrlOf s.sync (nbits (pmOperand m) 32 17)) (8 + l) = false) :
    ∃ t, exec (.peerSync l) s = .next t ∧ PeerAnswered l 0x85 m .rightsFault 0 [] s t ∧ OnLink l s t := by
  obtain ⟨-, -, -, hacts, hp, -⟩ := id hs
  have hin : (getPeer s l).inbox = [(m, data)] := by rw [hp, hbox]
  have htaken : Taken l m s (takeInbox l (m, data) s) := taken_takeInbox hin (by omega)
  have hadmitted := htaken.admitted hs
  have hsent := sent_respond (op := 0x85) (m := m) (data := []) hadmitted (by decide) (by decide) (by decide) .rightsFault
  have honLink : OnLink l s _ := htaken.onLink.trans hsent.onLink
  refine ⟨_, done_onAdmit hs ?_ (honLink.acts.trans hacts), hadmitted.answered (by decide) (by decide) (by decide) .rightsFault, honLink⟩
  rw [servePeerSync, inboxMsg_single hin hop]
  dsimp only
  rw [if_neg (by simp [hallow])]

/-- Taking the only message, a request or a response, leaves the link with none, and its state and its queue as they were. -/
theorem takeInbox_leaves {s : State} {l : Nat} {m : BitVec 256} {data : List Byte} (hbox : (getPeer s l).inbox = [(m, data)]) :
    (getPeer (takeInbox l (m, data) s) l).inbox = [] ∧ (getPeer (takeInbox l (m, data) s) l).state = (getPeer s l).state ∧
    (getPeer (takeInbox l (m, data) s) l).outq = (getPeer s l).outq ∧ OnLink l s (takeInbox l (m, data) s) := by
  by_cases hop : pmOp m < 0x80
  · obtain ⟨-, hlink, honLink⟩ := taken_takeInbox hbox hop
    rw [hlink]
    exact ⟨rfl, rfl, rfl, honLink⟩
  · have hresp : pmIsRequest m = false := decide_eq_false hop
    simp only [takeInbox, hresp, Bool.false_eq_true, if_false]
    refine ⟨?_, ?_, ?_, onLink_modPeer l _ s⟩ <;> rw [getPeer_modPeer, if_pos rfl]
    rw [hbox, List.erase_cons_head]

/-- The link enters session `k`. -/
def sessionBegun (l k : Nat) (s : State) : State := modPeer l (fun p => { p with state := 3, session := some k, flits := 0, tagRun := 0 }) s

/-- The last message of a set-up, which nothing answers, ends it with a session. -/
theorem takePeerSpdm_ends {s : State} {l op k : Nat} {m : BitVec 256} {data : List Byte} (hstate : (getPeer s l).state = 2) (hq : (getPeer s l).outq = [])
    (hbox : (getPeer s l).inbox = [(m, data)]) (hop : pmOp m = op) :
    takePeerSpdm l op [] (some k) s = sessionBegun l k (takeInbox l (m, data) s) := by
  obtain ⟨-, hstate', hq', -⟩ := takeInbox_leaves hbox
  have hidle : (getPeer (sessionBegun l k (takeInbox l (m, data) s)) l).outq = [] := by
    rw [sessionBegun, getPeer_modPeer, if_pos rfl]
    exact hq'.trans hq
  unfold takePeerSpdm
  rw [inboxMsg_single hbox hop]
  dsimp only
  rw [if_pos (hstate'.trans hstate)]
  exact drainOut_empty hidle _

/-- What the end of a session's set-up does (R423). -/
structure SessionEnters (l k : Nat) (s t : State) : Prop where
  state : (getPeer t l).state = 3
  session : (getPeer t l).session = some k
  inbox : (getPeer t l).inbox = []
  onLink : OnLink l s t

theorem sessionEnters_begun {s : State} {l k : Nat} {m : BitVec 256} {data : List Byte} (hbox : (getPeer s l).inbox = [(m, data)]) :
    SessionEnters l k s (sessionBegun l k (takeInbox l (m, data) s)) := by
  obtain ⟨hinbox, -, -, honLink⟩ := takeInbox_leaves hbox
  refine ⟨?_, ?_, ?_, honLink.trans (onLink_modPeer l _ _)⟩ <;> rw [sessionBegun, getPeer_modPeer, if_pos rfl]
  exact hinbox

/-- A command of the link's set-up, of a request or of a response. -/
theorem done_takePeerSpdm {s : State} {l op k : Nat} {m : BitVec 256} {data : List Byte} (hlink : linkOn s = true) (hacts : s.acts = [])
    (hstate : (getPeer s l).state = 2) (hq : (getPeer s l).outq = []) (hbox : (getPeer s l).inbox = [(m, data)]) (hop : pmOp m = op) :
    ∃ t, done (onLink (takePeerSpdm l op [] (some k)) s) = .next t ∧ SessionEnters l k s t := by
  have h := sessionEnters_begun (k := k) hbox
  refine ⟨_, ?_, h⟩
  rw [onLink_run _ hlink, takePeerSpdm_ends hstate hq hbox hop, done_of_quiet _ (h.onLink.acts.trans hacts)]

end Sys2Proof.Machine
end

section
namespace Sys2Proof.Machine

/-! ### What serving a peer's access changes beside the bytes (R163, R224)

Nothing is sent, as no line of the device cache is one of host memory. -/

/-- `t` with the counters, the storage's wake times, the free values, the device cache and memory of `s`. -/
def tended (s t : State) : State :=
  { t with ctrs := s.ctrs, wraps := s.wraps, power := s.power, free := s.free, mem := s.mem,
           coh.dev := s.coh.dev, coh.lfsr := s.coh.lfsr, coh.through := s.coh.through, coh.fresh := s.coh.fresh }

/-- Nothing changed but those. -/
def Tends (s t : State) : Prop := tended s t = s

/-- An access that sends nothing and stores nothing, and what it uses of the free values, if anything. -/
structure Looks (s t : State) : Prop where
  tends : Tends s t
  mem : { t.mem with stackRecs := s.mem.stackRecs, retained := s.mem.retained } = s.mem

/-- A fetch that sends nothing and uses no free value. -/
structure Stays (s t : State) : Prop extends Fetches s t where
  looks : Looks s t
  free : t.free = s.free

theorem tends_trans {s t u : State} (h : Tends s t) (k : Tends t u) : Tends s u :=
  (congrArg (tended s) k).trans h

theorem Tends.near {s t : State} (h : Tends s t) : t.coh.near = s.coh.near := (congrArg (fun x : State => x.coh.near) h :)
theorem Tends.dir {s t : State} (h : Tends s t) : t.coh.dir = s.coh.dir := (congrArg (fun x : State => x.coh.dir) h :)
theorem Tends.objs {s t : State} (h : Tends s t) : t.objs = s.objs := (congrArg State.objs h :)
theorem Tends.ports {s t : State} (h : Tends s t) : t.ports = s.ports := (congrArg State.ports h :)
theorem Tends.acts {s t : State} (h : Tends s t) : t.acts = s.acts := (congrArg State.acts h :)
theorem Tends.out {s t : State} (h : Tends s t) : t.out = s.out := (congrArg State.out h :)
theorem Tends.peers {s t : State} (h : Tends s t) : t.peers = s.peers := (congrArg State.peers h :)

theorem Looks.trans {s t u : State} (h : Looks s t) (k : Looks t u) : Looks s u :=
  ⟨tends_trans h.tends k.tends,
    (congrArg (fun x : MemUnit => { x with stackRecs := s.mem.stackRecs, retained := s.mem.retained }) k.mem).trans h.mem⟩

theorem Stays.trans {s t u : State} (h : Stays s t) (k : Stays t u) : Stays s u :=
  ⟨h.toFetches.trans k.toFetches, h.looks.trans k.looks, k.free.trans h.free⟩

theorem Stays.refl (s : State) : Stays s s := ⟨.refl s, ⟨rfl, rfl⟩, rfl⟩

theorem Stays.ite {c : Prop} [Decidable c] {s t u : State} (ht : Stays s t) (hu : Stays s u) : Stays s (if c then t else u) := by
  split
  · exact ht
  · exact hu

theorem Stays.foldl {α : Type} {f : State → α → State} : ∀ {l : List α} {s : State}, s.mem.flaws = [] →
    (∀ x ∈ l, ∀ t : State, t.mem.flaws = [] → Stays t (f t x)) → Stays s (l.foldl f s)
  | [], s, _, _ => .refl s
  | x :: l, s, hflaws, hf => by
    have hx := hf x List.mem_cons_self s hflaws
    exact hx.trans (Stays.foldl (hx.flaws.trans hflaws) fun y hy => hf y (List.mem_cons_of_mem x hy))

theorem stays_touchSlice (k : Nat) (s : State) : Stays s (touchSlice k s) := ⟨fetches_touchSlice k s, ⟨rfl, rfl⟩, rfl⟩

theorem stays_touchStack (g : Nat) (s : State) : Stays s (touchStack g s) := ⟨fetches_touchStack g s, ⟨rfl, rfl⟩, rfl⟩

theorem stays_touch (g : Nat) (s : State) : Stays s (touch g s) := by
  unfold touch
  split
  · exact stays_touchSlice _ s
  · exact .ite (stays_touchStack _ s) (stays_touchSlice _ s)
  · exact stays_touchStack _ s
  · exact .ite (.refl s) (stays_touchSlice _ s)
  · exact .refl s

theorem stays_count {i j : Nat} (s : State) (h : okey 0x4100 5 ≠ okey i j) : Stays s (count i j s) := ⟨fetches_count s h, ⟨rfl, rfl⟩, rfl⟩

theorem stays_noteTag (c g : Nat) (s : State) : Stays s (noteTag c g s) := .ite (.refl s) (stays_count s (by decide))

theorem looks_unfresh (gs : List Nat) (s : State) : Looks s (unfresh gs s) := by
  unfold unfresh
  split <;> exact ⟨rfl, rfl⟩

theorem stays_setLine {l : Nat} (d : Option DevLine) (s : State) (hl : target (l * 256) ≠ .host) : Stays s (setLine l d s) :=
  ⟨fetches_setLine d s hl, ⟨rfl, rfl⟩, rfl⟩

theorem stays_setShingle {g : Nat} (x : Shingle) (s : State) (hl : target (g / 4 * 256) ≠ .host) : Stays s (setShingle g x s) := by
  unfold setShingle
  have hthrough : Stays s (if x = .i then { s with coh.through := s.coh.through.filter (· ≠ g) } else s) :=
    .ite ⟨⟨⟨⟨rfl, rfl⟩, rfl, rfl⟩, rfl, rfl, id⟩, ⟨rfl, rfl⟩, rfl⟩ (.refl s)
  dsimp only
  split
  · exact hthrough.trans (stays_setLine _ _ hl)
  · exact hthrough

theorem stays_evictLine {l : Nat} (s : State) (hl : target (l * 256) ≠ .host) : Stays s (evictLine l s) := by
  unfold evictLine
  dsimp only
  rw [if_neg hl]
  exact (Stays.ite (stays_touchStack _ s) (.refl s)).trans (stays_setLine none _ hl)

theorem stays_stepWay (h i : Nat) (s : State) : Stays s (stepWay h i s).2 := ⟨fetches_stepWay h i s, ⟨rfl, rfl⟩, rfl⟩

theorem stays_allocLine {s t : State} {l keySlot : Nat} (hlines : NoHostLines s) (hl : target (l * 256) ≠ .host) (h : allocLine l keySlot s = some t) :
    Stays s t := by
  unfold allocLine at h
  dsimp only at h
  split at h
  · cases h
  split at h
  · cases h
    exact stays_setLine _ s hl
  have hway := stays_stepWay (homeOf s (4 * l)) 0 s
  split at h
  · cases h
  split at h
  next w _ x hx =>
    cases h
    have hheld : target (x.1 * 256) ≠ .host := by
      obtain ⟨kv, hkv, hkx⟩ := List.mem_filterMap.1 (List.mem_of_find?_eq_some hx)
      split at hkx
      · split at hkx
        · cases hkx
          exact hlines kv hkv
        · cases hkx
      · cases hkx
    exact hway.trans ((stays_evictLine _ hheld).trans (stays_setLine _ _ hl))
  next =>
    cases h
    exact hway.trans (stays_setLine _ _ hl)

/-- The device cache's part in an access to a stack granule. -/
theorem stays_stackLine {s : State} {g : Nat} (hflaws : s.mem.flaws = []) (hlines : NoHostLines s) (hg : target (g / 4 * 256) ≠ .host)
    (keySlot cache : Nat) (write full : Bool) : Stays s (stackLine g keySlot cache write full s) := by
  unfold stackLine
  extract_lets l s₁ fetch fill s₂ s₃
  have hevict : Stays s s₁ := by
    unfold s₁
    split
    · exact (stays_evictLine s hg).ite (.refl s)
    · exact .refl s
  have hfetch (st : State) : Stays st (fetch st) := (Stays.ite (.refl st) (stays_touchStack g st)).trans (stays_setShingle _ _ hg)
  have hfill {st : State} (h : st.mem.flaws = []) : Stays st (fill st) := by
    refine Stays.ite ((hfetch st).trans (Stays.foldl ((hfetch st).flaws.trans h) fun k hk x hx => ?_)) (hfetch st)
    have hkl : k / 4 = l := by
      obtain ⟨hlo, hhi⟩ := mem_rangeFrom.1 hk
      omega
    rw [meetFlaw_sound hx]
    exact Stays.ite (.refl x) (stays_setShingle _ _ (hkl ▸ hg))
  have hline : Stays s₁ s₂ := by
    unfold s₂
    have hcount {j : Nat} (h : okey 0x4100 5 ≠ okey 0x3800 j) (st : State) : Stays st (count 0x3800 j st) := stays_count st h
    split
    · exact Stays.ite (Stays.ite (stays_touchStack g s₁) ((hcount (by decide) s₁).trans (hfetch _))) (hcount (by decide) s₁)
    · split
      · exact stays_touchStack g s₁
      · split
        next st hst =>
          have hmiss := (stays_allocLine (hevict.lines hlines) hg hst).trans (hcount (by decide : okey 0x4100 5 ≠ okey 0x3800 6) st)
          exact hmiss.trans (hfill (hmiss.flaws.trans (hevict.flaws.trans hflaws)))
        next => exact stays_touchStack g s₁
  have hthrough : Stays s₂ s₃ := Stays.ite (stays_touchStack g s₂) (.refl s₂)
  exact hevict.trans (hline.trans (hthrough.trans ((Stays.ite (stays_setShingle _ _ hg) (.refl s₃)).trans (stays_touch g _))))

end Sys2Proof.Machine
end

section
namespace Sys2Proof.Machine

/-! ### A run in one granule of device memory is read and written (R150, R151, R158) -/

theorem Looks.bytes {s t : State} (h : Looks s t) : t.mem.bytes = s.mem.bytes := (congrArg MemUnit.bytes h.mem :)
theorem Looks.tags {s t : State} (h : Looks s t) : t.mem.tags = s.mem.tags := (congrArg MemUnit.tags h.mem :)
theorem Looks.keyOf {s t : State} (h : Looks s t) : t.mem.keyOf = s.mem.keyOf := (congrArg MemUnit.keyOf h.mem :)
theorem Looks.slots {s t : State} (h : Looks s t) : t.mem.slots = s.mem.slots := (congrArg MemUnit.slots h.mem :)
theorem Looks.flaws {s t : State} (h : Looks s t) : t.mem.flaws = s.mem.flaws := (congrArg MemUnit.flaws h.mem :)

theorem Looks.tagIs {s t : State} (h : Looks s t) (g c : Nat) : tagIs t g c = tagIs s g c := by
  rw [Machine.tagIs, h.tags, Machine.tagIs]

theorem Looks.keyIs {s t : State} (h : Looks s t) (g k : Nat) : keyIs t g k = keyIs s g k := by
  unfold Machine.keyIs getSlot
  rw [h.keyOf, h.slots]

theorem Looks.byteAt {s t : State} (h : Looks s t) (a : Nat) : byteAt t a = byteAt s a := by
  rw [Machine.byteAt, h.bytes, Machine.byteAt]

theorem Looks.lineAt {s t : State} (h : Looks s t) (g : Nat) : lineAt t g = lineAt s g := by
  simp only [Machine.lineAt, bytesAt, h.byteAt]

/-- What a read of a granule sees depends on memory and, where no key of the slot was used, on the free values. -/
theorem granuleData_congr {s t : State} (h : Looks s t) {c k g : Nat} (hfree : target (g * 64) = .stacks → keyIs s g k = false → t.free = s.free) :
    granuleData t c k g = granuleData s c k g := by
  unfold granuleData
  rw [h.tagIs, h.keyIs, h.lineAt]
  split
  · rfl
  next hstacks =>
    by_cases hkey : keyIs s g k = true
    · rw [if_pos hkey, if_pos hkey]
    · rw [if_neg hkey, if_neg hkey, hfree hstacks (by simpa using hkey)]
  · rfl

/-- Bytes `pa .. pa + n - 1` of a granule, read from its data. -/
def runIn (d : Line) (pa n : Nat) : List Byte := (List.range n).map fun i => lineByte d (pa % 64 + i)

/-- An access of `n` bytes at `pa` lies within one granule of the device memory; the storage has no errors, the directory lists no copy, and the
device cache holds no line of host memory. -/
structure PlainAccess (pa n : Nat) (s : State) : Prop where
  flaws : s.mem.flaws = []
  dir : s.coh.dir = []
  lines : NoHostLines s
  pos : 0 < n
  fit : pa % 64 + n ≤ 64
  memory : target pa = .stacks ∨ target pa = .scratch
  line : target pa = .stacks → target (pa / 64 / 4 * 256) ≠ .host

theorem readRun_single {s : State} {c k pa n : Nat} (hn : 0 < n) (hfit : pa % 64 + n ≤ 64) :
    readRun c k pa n s = (runIn (granuleData s c k (pa / 64)) pa n, noteRead c k (pa / 64) s) := by
  have hlo : max pa (pa / 64 * 64) = pa := by omega
  have hhi : min (pa + n) (pa / 64 * 64 + 64) = pa + n := by omega
  have hoff : pa - pa / 64 * 64 = pa % 64 := by omega
  rw [readRun, granulesOf_single hn hfit]
  simp only [List.foldl_cons, List.foldl_nil, List.nil_append, hlo, hhi, hoff, Nat.add_sub_cancel_left, runIn, rangeFrom, List.map_map]
  rfl

theorem looks_takeFree (s : State) : Looks s (takeFree s) := ⟨rfl, rfl⟩

/-- What the use of a granule's value changes. -/
theorem noteUse_looks (c k g : Nat) {s : State} (hmem : target (g * 64) = .stacks ∨ target (g * 64) = .scratch) :
    Looks s (noteUse c k g s) ∧ (NoHostLines s → NoHostLines (noteUse c k g s)) ∧
    ((target (g * 64) = .stacks → keyIs s g k = true) → (noteUse c k g s).free = s.free) := by
  unfold noteUse
  rcases hmem with h | h <;> rw [h] <;> dsimp only
  · by_cases hkey : keyIs s g k = true
    · rw [if_pos hkey]
      exact ⟨⟨rfl, rfl⟩, id, fun _ => rfl⟩
    · rw [if_neg hkey]
      exact ⟨looks_takeFree s, id, fun hk => absurd (hk rfl) hkey⟩
  · have hstays := stays_noteTag c g s
    exact ⟨hstays.looks, hstays.lines, fun _ => hstays.free⟩

theorem noHostLines_unfresh {s : State} (gs : List Nat) (h : NoHostLines s) : NoHostLines (unfresh gs s) := (fetches_unfresh gs s).lines h

theorem unfresh_free (gs : List Nat) (s : State) : (unfresh gs s).free = s.free := by
  unfold unfresh
  split <;> rfl

/-- A read by an agent that keeps no copy: its bytes, and what it leaves. -/
theorem homeRead_plain {s : State} {c k pa n : Nat} (cache : Nat) (h : PlainAccess pa n s) :
    ∃ u, homeRead c k pa n cache s = (runIn (granuleData s c k (pa / 64)) pa n, u) ∧ Looks s u ∧ NoHostLines u ∧
      ((target pa = .stacks → keyIs s (pa / 64) k = true) → u.free = s.free) := by
  obtain ⟨hflaws, -, hlines, hn, hfit, hmem, hline⟩ := h
  have htarget := target_granule pa
  have hbefore : Stays s (if target pa = .stacks then stackLine (pa / 64) k cache false false s else s) := by
    split
    next hs => exact stays_stackLine hflaws hlines (hline hs) _ _ _ _
    next => exact .refl s
  have hread : homeRead c k pa n cache s = ((readRun c k pa n (if target pa = .stacks then stackLine (pa / 64) k cache false false s else s)).1,
      unfresh [pa / 64] (readRun c k pa n (if target pa = .stacks then stackLine (pa / 64) k cache false false s else s)).2) := by
    simp only [homeRead, granulesOf_single hn hfit, List.foldl_cons, List.foldl_nil, meetFlaw_sound hflaws]
  generalize (if target pa = .stacks then stackLine (pa / 64) k cache false false s else s) = v at hbefore hread
  have htouch := hbefore.trans (stays_touch (pa / 64) v)
  rw [hread, readRun_single hn hfit, granuleData_congr hbefore.looks fun _ _ => hbefore.free]
  rw [noteRead, meetFlaw_sound (hbefore.flaws.trans hflaws)]
  obtain ⟨huse, huseLines, huseFree⟩ := noteUse_looks c k (pa / 64) (s := touch (pa / 64) v) (by rwa [htarget])
  refine ⟨_, rfl, htouch.looks.trans (huse.trans (looks_unfresh _ _)), noHostLines_unfresh _ (huseLines (htouch.lines hlines)), fun hkey => ?_⟩
  rw [unfresh_free, huseFree fun hs => by rw [htouch.looks.keyIs]; exact hkey (htarget ▸ hs)]
  exact htouch.free

end Sys2Proof.Machine
end

section
namespace Sys2Proof.Machine

/-- A home slice whose directory lists no copy of a granule has none to drop. -/
theorem dropCopies_unlisted {s : State} (hdir : s.coh.dir = []) (g : Nat) : dropCopies g s = s := by
  have hentry : getDir s g = {} := by rw [getDir, hdir, tget]
  unfold dropCopies
  rw [hentry, setDir]
  simp [hdir, tset]
  rw [← hdir]

/-- The granule's value, merged with the write, is what a write stores. -/
theorem bytes_writeGranule {s : State} {c k g : Nat} (hmem : target (g * 64) = .stacks ∨ target (g * 64) = .scratch) (d : Line) (m : Word) (poison : Bool) :
    (writeGranule c k g d m poison s).mem.bytes = putBytes s.mem.bytes (g * 64) (bytesOf 64 (mergeLine (granuleData s c k g) d m)) := by
  unfold writeGranule granuleData
  rcases hmem with h | h <;> rw [h]

theorem tends_writeGranule (c k g : Nat) (d : Line) (m : Word) (poison : Bool) (s : State) : Tends s (writeGranule c k g d m poison s) := by
  unfold writeGranule
  split <;> rfl

/-- A stored granule reads as stored, and every byte outside it as before. -/
theorem onlyGranule_of_putBytes {s t : State} {g : Nat} {d : Line} (h : t.mem.bytes = putBytes s.mem.bytes (g * 64) (bytesOf 64 d)) :
    OnlyGranule g (lineByte d) s t := by
  constructor
  · intro i hi
    rw [byteAt, h, tget_putBytes_inside _ _ _ i (by simpa [bytesOf]), ← List.getD_eq_getElem (d := 0), bytesOf, getD_toLe hi, lineByte]
  · intro a ha
    rw [byteAt, h, tget_putBytes_outside _ _ _ _ (by simp [bytesOf]; omega), byteAt]

/-- Bytes `bs` at `pa`, written into the granule's data `d`. -/
def mergedRun (d : Line) (pa : Nat) (bs : List Byte) : Line :=
  mergeLine d (BitVec.ofNat 512 (ofLe bs * 2 ^ (8 * (pa % 64)))) (maskOf (pa % 64) bs.length)

theorem writeRun_single {s : State} {c k pa : Nat} {bs : List Byte} (hflaws : s.mem.flaws = []) (hn : 0 < bs.length) (hfit : pa % 64 + bs.length ≤ 64) :
    writeRun c k pa bs false s =
      writeGranule c k (pa / 64) (BitVec.ofNat 512 (ofLe bs * 2 ^ (8 * (pa % 64)))) (maskOf (pa % 64) bs.length) false (touch (pa / 64) s) := by
  have hlo : max pa (pa / 64 * 64) = pa := by omega
  have hhi : min (pa + bs.length) (pa / 64 * 64 + 64) = pa + bs.length := by omega
  have hoff : pa - pa / 64 * 64 = pa % 64 := by omega
  rw [writeRun, granulesOf_single hn hfit]
  simp only [List.foldl_cons, List.foldl_nil, hlo, hhi, hoff, Nat.sub_self, List.drop_zero, Nat.add_sub_cancel_left, List.take_length,
    meetWrite_sound hflaws]

/-- A write by an agent that keeps no copy. -/
theorem homeWrite_plain {s : State} {c k pa : Nat} {bs : List Byte} (cache : Nat) (h : PlainAccess pa bs.length s) :
    Tends s (homeWrite c k pa bs false cache s) ∧
    OnlyGranule (pa / 64) (lineByte (mergedRun (granuleData s c k (pa / 64)) pa bs)) s (homeWrite c k pa bs false cache s) := by
  obtain ⟨hflaws, hdir, hlines, hn, hfit, hmem, hline⟩ := h
  have hbefore (full : Bool) : Stays s (if target pa = .stacks then stackLine (pa / 64) k cache true full s else s) := by
    split
    next hs => exact stays_stackLine hflaws hlines (hline hs) _ _ _ _
    next => exact .refl s
  have hhost : target pa ≠ .host := by rcases hmem with h | h <;> rw [h] <;> decide
  unfold homeWrite
  simp only [granulesOf_single hn hfit, List.foldl_cons, List.foldl_nil, meetWrite_sound hflaws, dropCopies_unlisted hdir, if_neg hhost]
  replace hbefore := hbefore (decide (pa ≤ pa / 64 * 64) && decide (pa / 64 * 64 + 64 ≤ pa + bs.length))
  generalize (if target pa = .stacks then stackLine (pa / 64) k cache true _ s else s) = v at hbefore
  have htouch := hbefore.trans (stays_touch (pa / 64) v)
  have hunfresh := looks_unfresh [pa / 64] (writeRun c k pa bs false v)
  rw [writeRun_single (hbefore.flaws.trans hflaws) hn hfit] at hunfresh ⊢
  refine ⟨tends_trans htouch.looks.tends (tends_trans (tends_writeGranule _ _ _ _ _ _ _) hunfresh.tends), onlyGranule_of_putBytes ?_⟩
  rw [hunfresh.bytes, bytes_writeGranule (by rwa [target_granule]), htouch.looks.bytes, granuleData_congr htouch.looks fun _ _ => htouch.free, mergedRun]

/-- Byte `i` of a number put at byte `o` of a granule. -/
theorem lineByte_ofNat_shifted {o i : Nat} (hi : i < 64) (ho : o ≤ i) (v : Nat) :
    lineByte (BitVec.ofNat 512 (v * 2 ^ (8 * o))) i = BitVec.ofNat 8 (v / 2 ^ (8 * (i - o))) := by
  apply BitVec.eq_of_toNat_eq
  have hfield := fld_ofNat (w := 512) (lo := 8 * i) (n := 8) (by omega) (v * 2 ^ (8 * o))
  rw [fld, nbits, nbits] at hfield
  rw [lineByte, BitVec.toNat_ofNat (w := 8), hfield, BitVec.toNat_ofNat, show 8 * i = 8 * o + 8 * (i - o) by omega, pow_add, ← Nat.div_div_eq_div_mul,
    Nat.mul_div_cancel _ (by positivity)]

/-- A number's `n` bytes, written into a granule, are the number put under the mask of the run. -/
theorem lineByte_mergedRun_toLe (d : Line) {pa n i : Nat} (hfit : pa % 64 + n ≤ 64) (hi : i < 64) (v : Nat) :
    lineByte (mergedRun d pa (toLe n v)) i = lineByte (mergeLine d (BitVec.ofNat 512 (v * 2 ^ (8 * (pa % 64)))) (maskOf (pa % 64) n)) i := by
  rw [mergedRun, length_toLe, lineByte_mergeLine _ _ _ hi, lineByte_mergeLine _ _ _ hi, maskBit_maskOf hi]
  by_cases hmask : pa % 64 ≤ i ∧ i < pa % 64 + n
  · rw [decide_eq_true hmask, if_pos rfl, if_pos rfl, lineByte_shifted (by simpa using hfit) hmask.1, getD_toLe (by omega), lineByte_ofNat_shifted hi hmask.1]
  · rw [decide_eq_false hmask, if_neg Bool.false_ne_true, if_neg Bool.false_ne_true]

end Sys2Proof.Machine
end

section
namespace Sys2Proof.Machine

/-! ### A peer's access inside its window (R189, R192, R445) -/

/-- A peer's access goes on: its message is taken, and of the rest only the courses' notes have changed. -/
structure AccessStarts (l : Nat) (s w : State) : Prop where
  admitted : Admitted l s w
  rest : { w with peers := s.peers, out := s.out, arrays := s.arrays } = s

theorem AccessStarts.mem {l : Nat} {s w : State} (h : AccessStarts l s w) : w.mem = s.mem := (congrArg State.mem h.rest :)
theorem AccessStarts.coh {l : Nat} {s w : State} (h : AccessStarts l s w) : w.coh = s.coh := (congrArg State.coh h.rest :)
theorem AccessStarts.objs {l : Nat} {s w : State} (h : AccessStarts l s w) : w.objs = s.objs := (congrArg State.objs h.rest :)
theorem AccessStarts.ports {l : Nat} {s w : State} (h : AccessStarts l s w) : w.ports = s.ports := (congrArg State.ports h.rest :)
theorem AccessStarts.acts {l : Nat} {s w : State} (h : AccessStarts l s w) : w.acts = s.acts := (congrArg State.acts h.rest :)

/-- What the windows and memory are read for does not depend on the traffic of links and the courses' notes. -/
theorem AccessStarts.same {α : Type} {l : Nat} {s w : State} (h : AccessStarts l s w) (f : State → α)
    (hf : f { w with peers := s.peers, out := s.out, arrays := s.arrays } = f w) : f w = f s :=
  hf.symm.trans (congrArg f h.rest)

theorem OnLink.same {α : Type} {l : Nat} {s t : State} (h : OnLink l s t) (f : State → α) (hf : f { t with peers := s.peers, out := s.out } = f t) : f t = f s :=
  hf.symm.trans (congrArg f h.rest)

/-- With nothing in its way an access is made at once. -/
theorem accessReady_clear {s : State} {reads writes : List Extent} (h : WayClear s reads writes) (who c : Nat) : accessReady who c reads writes s = (true, s) := by
  have hnone : (bulkGranules true writes ++ bulkGranules false reads).filter (bulkWaits s) = [] :=
    List.filter_eq_nil_iff.2 fun b hb => by rw [h b hb]; exact Bool.false_ne_true
  simp only [accessReady, hnone, List.isEmpty_nil, if_true]

/-- The courses' notes are all that an access of software changes. -/
theorem softAccess_rest (pa n : Nat) (write : Bool) (s : State) : { softAccess pa n write s with arrays := s.arrays } = s := by
  unfold softAccess
  split <;> rfl

theorem softAccess_traffic (pa n : Nat) (write : Bool) (s : State) :
    (softAccess pa n write s).out = s.out ∧ (softAccess pa n write s).peers = s.peers := by
  unfold softAccess
  split <;> exact ⟨rfl, rfl⟩

variable {s : State} {l op need : Nat} {m : BitVec 256} {data : List Byte} {pa : Nat}

theorem peerAsks_inbox (h : PeerAsks l op need m data pa s) : (getPeer s l).inbox = [(m, data)] := by
  obtain ⟨⟨p, ⟨-, -, -, -, hp, -⟩, hbox⟩, -⟩ := h
  rw [hp, hbox]

theorem peerAsks_op (h : PeerAsks l op need m data pa s) : pmOp m = op := by
  obtain ⟨-, hop, -⟩ := h
  exact hop

/-- The state in which the request that a peer asks is served. -/
def accessStart (l need : Nat) (m : BitVec 256) (data : List Byte) (pa : Nat) (s : State) : State :=
  softAccess pa (pmSize m + 1) (need ≠ needR) (takeInbox l (m, data) s)

theorem peerAsks_starts (h : PeerAsks l op need m data pa s) (hop : op < 0x80) : AccessStarts l s (accessStart l need m data pa s) := by
  have htaken : Taken l m s (takeInbox l (m, data) s) := taken_takeInbox (peerAsks_inbox h) (peerAsks_op h ▸ hop)
  obtain ⟨⟨p, hlink, -⟩, -⟩ := h
  obtain ⟨hout, hpeers⟩ := softAccess_traffic pa (pmSize m + 1) (decide (need ≠ needR)) (takeInbox l (m, data) s)
  refine ⟨(htaken.admitted hlink).of_same hout hpeers, ?_⟩
  exact (congrArg (fun x : State => { x with peers := s.peers, out := s.out, arrays := s.arrays })
    (softAccess_rest pa (pmSize m + 1) (decide (need ≠ needR)) (takeInbox l (m, data) s))).trans
    ((congrArg (fun x : State => { x with arrays := s.arrays }) htaken.onLink.rest))

/-- The request is served at its local address. -/
theorem peerAsks_access (h : PeerAsks l op need m data pa s) (hop : op < 0x80) (ans : Nat) (good : Nat → State → State) :
    peerAccess l ans need (m, data) s good = good pa (accessStart l need m data pa s) := by
  have htaken : Taken l m s (takeInbox l (m, data) s) := taken_takeInbox (peerAsks_inbox h) (peerAsks_op h ▸ hop)
  obtain ⟨-, -, -, -, hwindow, hpa, hverdict, hsize, hfit, -, -, -, hway, hchecked⟩ := h
  have hctx : winCtx (takeInbox l (m, data) s) l (pmWindow m) = winCtx s l (pmWindow m) := htaken.onLink.same (fun x => winCtx x l (pmWindow m)) rfl
  have hslot : winSlot (takeInbox l (m, data) s) l (pmWindow m) = winSlot s l (pmWindow m) := htaken.onLink.same (fun x => winSlot x l (pmWindow m)) rfl
  have hplace : messagePa (takeInbox l (m, data) s) l m = pa := (htaken.onLink.same (fun x => messagePa x l m) rfl).trans hpa.symm
  have hallowed : accessVerdict (takeInbox l (m, data) s) (winCtx s l (pmWindow m)) (winSlot s l (pmWindow m)) pa (pmSize m + 1) = .ok :=
    (htaken.onLink.same (fun x => accessVerdict x (winCtx s l (pmWindow m)) (winSlot s l (pmWindow m)) pa (pmSize m + 1)) rfl).trans hverdict
  unfold peerAccess
  dsimp only
  rw [if_neg (by omega), htaken.windowVerdict, hwindow]
  dsimp only
  rw [hctx, hslot, hplace, hallowed]
  dsimp only
  rw [accessReady_clear hway, granulesOf_single (by omega) (by omega)]
  simp only [List.any_cons, List.any_nil, hchecked, Bool.not_true, Bool.or_false, Bool.false_eq_true, if_false]
  rfl

/-- It is a plain access where it is served. -/
theorem peerAsks_plain {w : State} (h : PeerAsks l op need m data pa s) (hw : AccessStarts l s w) : PlainAccess pa (pmSize m + 1) w := by
  obtain ⟨-, -, hdir, hdev, -, -, hverdict, -, hfit, hmem, -, hflaws, -⟩ := h
  refine ⟨by rw [hw.mem, hflaws], by rw [hw.coh, hdir], ?_, by omega, by omega, hmem, fun hs => ?_⟩
  · intro x hx
    rw [hw.coh, hdev] at hx
    cases hx
  · exact stackLine_not_host (inMap_of_ok hverdict) hs (by rw [granulesOf_single (by omega) (by omega)]; exact List.mem_singleton_self _)

/-- No block of it reads as poison. -/
theorem peerAsks_sound {w : State} (h : PeerAsks l op need m data pa s) (hw : AccessStarts l s w) :
    runPoison w (winCtx w l (pmWindow m)) pa (pmSize m + 1) = false := by
  obtain ⟨-, -, -, -, -, -, -, -, hfit, -, hpoison, -⟩ := h
  rw [runPoison, granulesOf_single (by omega) (by omega)]
  simp only [List.any_cons, List.any_nil, Bool.or_false]
  exact (hw.same (fun x => granulePoison x (winCtx x l (pmWindow m)) (pa / 64)) rfl).trans hpoison

/-- The window reads of the granule what it read before the request was taken. -/
theorem windowLine_of_starts {w : State} (h : AccessStarts l s w) : windowLine w l m pa = windowLine s l m pa :=
  h.same (fun x => windowLine x l m pa) rfl

/-- An access beside the links leaves the request taken. -/
theorem Admitted.tends {w u : State} (h : Admitted l s w) (k : Tends w u) : Admitted l s u :=
  h.of_same k.out k.peers

/-- A request that is taken, makes its access and is answered owes nothing, so that its command ends there. -/
theorem exec_served {w u t : State} {f : State → State} (h : PeerAsks l op need m data pa s) (hw : AccessStarts l s w) (hu : Tends w u) (ht : OnLink l u t)
    (hf : f s = t) : done (onAdmit f s) = .next t := by
  obtain ⟨⟨p, hlink, -⟩, -⟩ := h
  obtain ⟨-, -, -, hacts, -⟩ := id hlink
  exact done_onAdmit hlink hf (ht.acts.trans (hu.acts.trans (hw.acts.trans hacts)))

end Sys2Proof.Machine
end

section
namespace Sys2Proof.Machine

/-! ### A peer's READ, WRITE and ATOMIC (R445) -/

variable {s : State} {l : PeerId} {m : BitVec 256} {data : List Byte} {pa : Nat}

theorem length_runIn (d : Line) (pa n : Nat) : (runIn d pa n).length = n := by simp [runIn]

/-- A run in one granule takes one block. -/
theorem blocksOf_one {n : Nat} (hn : 0 < n) (hle : n ≤ 64) : blocksOf n = 1 := by
  unfold blocksOf
  omega

theorem PlainAccess.le {n : Nat} (h : PlainAccess pa n s) : n ≤ 64 := (Nat.le_add_left _ _).trans h.fit

/-- A READ answers what the window's context reads of its bytes. -/
theorem servePeerRead_serves (h : PeerAsks l 1 needR m data pa s) : ∃ u, Tends (accessStart l needR m data pa s) u ∧ u.mem.bytes = s.mem.bytes ∧
    servePeerRead l s = respond l 0x81 m .ok 0 (runIn (windowLine s l m pa) pa (pmSize m + 1)) u := by
  have hw := peerAsks_starts h (by decide)
  have hplain := peerAsks_plain h hw
  have hsound := peerAsks_sound h hw
  have hline := windowLine_of_starts (m := m) (pa := pa) hw
  have hblocks := blocksOf_one hplain.pos hplain.le
  have hmin : min 64 (pmSize m + 1) = pmSize m + 1 := Nat.min_eq_right hplain.le
  obtain ⟨u, hread, hlooks, -⟩ := homeRead_plain (c := winCtx (accessStart l needR m data pa s) l (pmWindow m))
    (k := winSlot (accessStart l needR m data pa s) l (pmWindow m)) 0 hplain
  rw [windowLine] at hline
  refine ⟨u, hlooks.tends, hlooks.bytes.trans (by rw [hw.mem]), ?_⟩
  rw [servePeerRead, inboxMsg_single (peerAsks_inbox h) (peerAsks_op h)]
  dsimp only
  rw [peerAsks_access h (by decide), hread, hline, hblocks]
  simp only [List.range_one, List.map_cons, List.map_nil, Nat.mul_zero, Nat.add_zero, Nat.sub_zero, hmin, hsound]
  rfl

theorem exec_peerRead_serves (h : PeerAsks l 1 needR m data pa s) : ∃ t, exec (.peerRead l) s = .next t ∧
    PeerAnswered l 0x81 m .ok 1 (runIn (windowLine s l m pa) pa (pmSize m + 1)) s t ∧
    t.mem.bytes = s.mem.bytes ∧ t.coh.near = s.coh.near ∧ t.coh.dir = s.coh.dir ∧ t.objs = s.objs ∧ t.ports = s.ports := by
  have hw := peerAsks_starts h (by decide)
  have hplain := peerAsks_plain h hw
  obtain ⟨u, htends, hbytes, hserve⟩ := servePeerRead_serves h
  have hadmitted := hw.admitted.tends htends
  have hlen := length_runIn (windowLine s l m pa) pa (pmSize m + 1)
  have hsent := sent_respond (op := 0x81) (m := m) hadmitted (by decide) (by decide) (hlen.trans_le hplain.le) .ok
  have hanswered := hadmitted.answered (op := 0x81) (m := m) (by decide) (by decide) (hlen.trans_le hplain.le) .ok
  rw [hlen, blocksOf_one hplain.pos hplain.le] at hanswered
  refine ⟨_, exec_served h hw htends hsent.onLink hserve, hanswered, ?_, ?_, ?_, ?_, ?_⟩
  · rw [hsent.onLink.mem, hbytes]
  · rw [hsent.onLink.coh, htends.near, hw.coh]
  · rw [hsent.onLink.coh, htends.dir, hw.coh]
  · rw [hsent.onLink.objs, htends.objs, hw.objs]
  · rw [hsent.onLink.ports, htends.ports, hw.ports]

/-- A granule that alone changed after the request was taken, and before it was answered. -/
theorem onlyGranule_around {s w u t : State} {g : Nat} {d : Nat → Byte} (hw : w.mem = s.mem) (h : OnlyGranule g d w u) (ht : t.mem = u.mem) :
    OnlyGranule g d s t := by
  obtain ⟨hinside, houtside⟩ := h
  have hbefore (a : Nat) : byteAt w a = byteAt s a := by rw [byteAt, hw, byteAt]
  have hafter (a : Nat) : byteAt t a = byteAt u a := by rw [byteAt, ht, byteAt]
  exact ⟨fun i hi => (hafter _).trans (hinside i hi), fun a ha => (hafter a).trans ((houtside a ha).trans (hbefore a))⟩

/-- A WRITE stores its bytes as the window's context. -/
theorem servePeerWrite_serves (h : PeerAsks l 2 needW m data pa s) (hblocks : pmBlocks m = 1) (hdata : data.length = 64) (hpoison : pmPoison m = 0) :
    ∃ u, Tends (accessStart l needW m data pa s) u ∧
      OnlyGranule (pa / 64) (lineByte (mergedRun (windowLine s l m pa) pa (data.take (pmSize m + 1)))) (accessStart l needW m data pa s) u ∧
      servePeerWrite l s = respond l 0x82 m .ok 0 [] u := by
  have hw := peerAsks_starts h (by decide)
  have hplain := peerAsks_plain h hw
  have hline := windowLine_of_starts (m := m) (pa := pa) hw
  have hone := blocksOf_one hplain.pos hplain.le
  have hmin : min 64 (pmSize m + 1) = pmSize m + 1 := Nat.min_eq_right hplain.le
  have hlen : (data.take (pmSize m + 1)).length = pmSize m + 1 := by rw [List.length_take, hdata, Nat.min_eq_left hplain.le]
  obtain ⟨htends, honly⟩ := homeWrite_plain (c := winCtx (accessStart l needW m data pa s) l (pmWindow m))
    (k := winSlot (accessStart l needW m data pa s) l (pmWindow m)) (bs := data.take (pmSize m + 1)) 0 (hlen.symm ▸ hplain)
  rw [windowLine] at hline
  rw [hline] at honly
  refine ⟨_, htends, honly, ?_⟩
  rw [servePeerWrite, inboxMsg_single (peerAsks_inbox h) (peerAsks_op h)]
  dsimp only
  rw [if_neg (not_not_intro (hblocks.trans hone.symm)), peerAsks_access h (by decide), hone]
  simp only [List.range_one, List.foldl_cons, List.foldl_nil, Nat.mul_zero, Nat.add_zero, Nat.sub_zero, hmin, hpoison, List.drop_zero,
    show nbit 0 0 = false from rfl, Bool.false_eq_true, if_false]

theorem exec_peerWrite_serves (h : PeerAsks l 2 needW m data pa s) (hblocks : pmBlocks m = 1) (hdata : data.length = 64) (hpoison : pmPoison m = 0) :
    ∃ t, exec (.peerWrite l) s = .next t ∧ PeerAnswered l 0x82 m .ok 0 [] s t ∧
      OnlyGranule (pa / 64) (lineByte (mergedRun (windowLine s l m pa) pa (data.take (pmSize m + 1)))) s t ∧ t.objs = s.objs ∧ t.ports = s.ports := by
  have hw := peerAsks_starts h (by decide)
  obtain ⟨u, htends, honly, hserve⟩ := servePeerWrite_serves h hblocks hdata hpoison
  have hadmitted := hw.admitted.tends htends
  have hsent := sent_respond (op := 0x82) (m := m) (data := []) hadmitted (by decide) (by decide) (by decide) .ok
  refine ⟨_, exec_served h hw htends hsent.onLink hserve, hadmitted.answered (by decide) (by decide) (by decide) .ok,
    onlyGranule_around hw.mem honly hsent.onLink.mem, ?_, ?_⟩
  · rw [hsent.onLink.objs, htends.objs, hw.objs]
  · rw [hsent.onLink.ports, htends.ports, hw.ports]

/-- An access that stores nothing leaves the place plain. -/
theorem PlainAccess.looks {n : Nat} {u : State} (h : PlainAccess pa n s) (hlooks : Looks s u) (hlines : NoHostLines u) : PlainAccess pa n u :=
  { h with flaws := hlooks.flaws.trans h.flaws, dir := hlooks.tends.dir.trans h.dir, lines := hlines }

/-- The new value of an ATOMIC on bytes `old` (Table 8.8). -/
def atomicValue (m : BitVec 256) (data old : List Byte) : Nat :=
  atomicNew (pmAop m) (8 * (pmSize m + 1)) (ofLe old) (ofLe (data.take (pmSize m + 1))) (pmOperand m % 2 ^ (8 * (pmSize m + 1)))

/-- An ATOMIC answers what the window's context reads, and stores the new value as that context. -/
theorem servePeerAtomic_serves (h : PeerAsks l 3 needRWA m data pa s) (hsize : pmSize m + 1 = 4 ∨ pmSize m + 1 = 8) (hplace : pmOffset m % (pmSize m + 1) = 0)
    (haop : pmAop m < 10) (hblocks : pmBlocks m = 1) : ∃ u, Tends (accessStart l needRWA m data pa s) u ∧
      ((target pa = .stacks → keyIs s (pa / 64) (winSlot s l (pmWindow m)) = true) →
        OnlyGranule (pa / 64) (lineByte (mergedRun (windowLine s l m pa) pa
          (toLe (pmSize m + 1) (atomicValue m data (runIn (windowLine s l m pa) pa (pmSize m + 1)))))) (accessStart l needRWA m data pa s) u) ∧
      servePeerAtomic l s = respond l 0x83 m .ok 0 (runIn (windowLine s l m pa) pa (pmSize m + 1)) u := by
  have hw := peerAsks_starts h (by decide)
  have hplain := peerAsks_plain h hw
  have hsound := peerAsks_sound h hw
  have hline := windowLine_of_starts (m := m) (pa := pa) hw
  have hkeys := hw.same (fun x => keyIs x (pa / 64) (winSlot x l (pmWindow m))) rfl
  obtain ⟨v, hread, hlooks, hlines, hfree⟩ := homeRead_plain (c := winCtx (accessStart l needRWA m data pa s) l (pmWindow m))
    (k := winSlot (accessStart l needRWA m data pa s) l (pmWindow m)) 0 hplain
  obtain ⟨htends, honly⟩ := homeWrite_plain (c := winCtx (accessStart l needRWA m data pa s) l (pmWindow m))
    (k := winSlot (accessStart l needRWA m data pa s) l (pmWindow m))
    (bs := toLe (pmSize m + 1) (atomicValue m data (runIn (windowLine s l m pa) pa (pmSize m + 1)))) 0
    (by rw [length_toLe]; exact hplain.looks hlooks hlines)
  rw [windowLine] at hline
  rw [hline] at hread
  refine ⟨_, tends_trans hlooks.tends htends, fun hkey => ?_, ?_⟩
  · have hkept : v.free = (accessStart l needRWA m data pa s).free := hfree fun hs => hkeys.trans (hkey hs)
    rw [granuleData_congr hlooks fun _ _ => hkept, hline] at honly
    obtain ⟨hinside, houtside⟩ := honly
    exact ⟨hinside, fun a ha => (houtside a ha).trans (hlooks.byteAt a)⟩
  · rw [servePeerAtomic, inboxMsg_single (peerAsks_inbox h) (peerAsks_op h)]
    dsimp only
    rw [if_neg (by simp [hplace, haop, hblocks]; omega), peerAsks_access h (by decide), hsound, hread]
    rfl

theorem exec_peerAtomic_serves (h : PeerAsks l 3 needRWA m data pa s) (hsize : pmSize m + 1 = 4 ∨ pmSize m + 1 = 8) (hplace : pmOffset m % (pmSize m + 1) = 0)
    (haop : pmAop m < 10) (hblocks : pmBlocks m = 1) : ∃ t, exec (.peerAtomic l) s = .next t ∧
      PeerAnswered l 0x83 m .ok 1 (runIn (windowLine s l m pa) pa (pmSize m + 1)) s t ∧
      ((target pa = .stacks → keyIs s (pa / 64) (winSlot s l (pmWindow m)) = true) →
        OnlyGranule (pa / 64) (lineByte (mergedRun (windowLine s l m pa) pa
          (toLe (pmSize m + 1) (atomicValue m data (runIn (windowLine s l m pa) pa (pmSize m + 1)))))) s t) ∧ t.objs = s.objs ∧ t.ports = s.ports := by
  have hw := peerAsks_starts h (by decide)
  have hplain := peerAsks_plain h hw
  obtain ⟨u, htends, honly, hserve⟩ := servePeerAtomic_serves h hsize hplace haop hblocks
  have hadmitted := hw.admitted.tends htends
  have hlen := length_runIn (windowLine s l m pa) pa (pmSize m + 1)
  have hsent := sent_respond (op := 0x83) (m := m) hadmitted (by decide) (by decide) (hlen.trans_le hplain.le) .ok
  have hanswered := hadmitted.answered (op := 0x83) (m := m) (by decide) (by decide) (hlen.trans_le hplain.le) .ok
  rw [hlen, blocksOf_one hplain.pos hplain.le] at hanswered
  refine ⟨_, exec_served h hw htends hsent.onLink hserve, hanswered, fun hkey => onlyGranule_around hw.mem (honly hkey) hsent.onLink.mem, ?_, ?_⟩
  · rw [hsent.onLink.objs, htends.objs, hw.objs]
  · rw [hsent.onLink.ports, htends.ports, hw.ports]

/-- A granule's bytes may be named in two ways. -/
theorem onlyGranule_congr {s t : State} {g : Nat} {d e : Nat → Byte} (h : OnlyGranule g d s t) (hde : ∀ i, i < 64 → d i = e i) : OnlyGranule g e s t := by
  obtain ⟨hinside, houtside⟩ := h
  exact ⟨fun i hi => (hinside i hi).trans (hde i hi), houtside⟩

end Sys2Proof.Machine
end

section
open Sys2Proof Sys2Proof.Machine

/-- Settles O54: with one plain granule in reach the home slices serve a READ, a WRITE and an ATOMIC at once, as the window's context and under its
key slot; every request, served or refused, gives its credits back in one flit and is answered in the next. -/
theorem peerRequestsAreServed : Obligations.PeerRequestsAreServed := by
  unfold Obligations.PeerRequestsAreServed
  refine ⟨?_, ?_, ?_, ?_, ?_, ?_, ?_⟩
  · intro s l m data pa h
    exact exec_peerRead_serves h
  · intro s l m data pa h hblocks hdata hpoison
    obtain ⟨t, hexec, hanswered, honly, hobjs, hports⟩ := exec_peerWrite_serves h hblocks hdata hpoison
    have hlen : (data.take (pmSize m + 1)).length = pmSize m + 1 := by
      rw [List.length_take, hdata, Nat.min_eq_left (peerAsks_plain h (peerAsks_starts h (by decide))).le]
    rw [mergedRun, hlen] at honly
    exact ⟨t, hexec, hanswered, honly, hobjs, hports⟩
  · rintro s l m data pa n h rfl hsize hplace haop hblocks -
    obtain ⟨t, hexec, hanswered, honly, hobjs, hports⟩ := exec_peerAtomic_serves h hsize hplace haop hblocks
    have hfit := (peerAsks_plain h (peerAsks_starts h (by decide))).fit
    exact ⟨t, _, hexec, rfl, hanswered, fun hkey => onlyGranule_congr (honly hkey) fun i hi => lineByte_mergedRun_toLe _ hfit hi _, hobjs, hports⟩
  · intro s l m data p st hs hbox hsize hst
    constructor
    · intro hop hverdict
      have h := refuses_refusedBy (op := 0x81) hs hbox (by omega) (by decide) (by decide) st
      exact ⟨_, exec_peerRead_refused hs hbox hsize hst hop hverdict, h.answered, h.refusals, h.ofWindow, h.only⟩
    · intro hop hblocks hverdict
      have h := refuses_refusedBy (op := 0x82) hs hbox (by omega) (by decide) (by decide) st
      exact ⟨_, exec_peerWrite_refused hs hbox hsize hst hop hblocks hverdict, h.answered, h.refusals, h.only⟩
  · intro s l m data p st hs hbox hop hverdict
    obtain ⟨-, -, -, -, hp, -⟩ := id hs
    by_cases hst : st = .ok
    · subst hst
      obtain ⟨t, hexec, hanswered, hgrant, honLink⟩ := exec_peerProbe_granted hs hbox hop hverdict
      exact ⟨t, hexec, hanswered, fun _ => ⟨hgrant, honLink.ctrs⟩, fun hne => absurd rfl hne, honLink.only⟩
    · have h := refuses_refusedBy (op := 0x84) hs hbox (by omega) (by decide) (by decide) st
      exact ⟨_, exec_peerProbe_refused hs hbox hop hverdict hst, h.answered, fun hok => absurd hok hst, fun _ => ⟨h.grants.trans (by rw [hp]), h.refusals⟩, h.only⟩
  · rintro s l m data p c n hs hbox hop rfl rfl
    constructor
    · intro hvalid hallow hwatches hpos hfit hbound
      exact exec_peerSync_signals hs hbox hop rfl rfl hvalid hallow hwatches hpos hfit hbound
    · intro hallow
      obtain ⟨t, hexec, hanswered, honLink⟩ := exec_peerSync_refused hs hbox hop hallow
      exact ⟨t, hexec, hanswered, honLink.ctrs, honLink.only⟩
  · rintro s l m data p k i op hlink hacts rfl hstate hq hbox hop hi
    obtain ⟨t, hdone, h⟩ := done_takePeerSpdm (k := k) hlink hacts hstate hq hbox hop
    refine ⟨t, ?_, h.state, h.session, h.inbox, h.onLink.ctrs, h.onLink.only⟩
    rcases List.mem_pair.1 hi with heq | heq <;> cases heq <;> exact hdone

end

section
namespace Sys2Proof.Machine

/-! ### A credit returned to a core port that still keeps a snoop (R211, R448)

The clauses on returned credits leave open what snoops the port has deferred. -/

/-- A READY block whose core port 0 has deferred an invalidating snoop of granule 0, while no hold window of it is open any more. -/
def deferringState : State := { Tests.ready with ports := [(0, { deferred := [(.inv, 0, 1, 0)] })] }

/-- The work that the returned credit owes serves the snoop, which the port then keeps no more. -/
theorem deferringState_serves : ∃ t, exec (.creditReturn 0 false) deferringState = .next t ∧ (getPort t 0).deferred = [] :=
  ⟨_, rfl, by decide +kernel⟩

/-! ### A malformed conditional store (R194, R210) -/

/-- A CSTORE of SIZE 7, which is malformed. -/
def malformedCstore : CoreReq := ⟨0, BitVec.ofNat 64 (5 * 2 ^ 52 + 2 * 2 ^ 46 + 3 * 2 ^ 42 + 7 * 2 ^ 39), 0x1000, 0, 0, 7⟩

theorem user_portFree : CorePortFree 0 Tests.user := by
  unfold CorePortFree
  decide +kernel

/-- It has not taken place, and its response says so in SC_FAIL. -/
theorem malformedCstore_fails : ∃ t, exec (.portCstore malformedCstore .clean) Tests.user = .next t ∧ Responds malformedCstore .malformed true 0 Tests.user t :=
  ⟨_, rfl, by unfold Responds; decide +kernel⟩

end Sys2Proof.Machine
end

section
open Sys2Proof Sys2Proof.Machine

/-- Refutes O25: its second clause fails for `deferringState`, whose port changes in more than its credits. -/
theorem not_hostPortsCreditsAndReadbacks : ¬ Obligations.HostPortsCreditsAndReadbacks := by
  rintro ⟨-, hcredit, -⟩
  obtain ⟨t, hstep, hport, -⟩ := hcredit deferringState 0 rfl (by decide +kernel) (by decide +kernel) (by decide +kernel)
  obtain ⟨u, hserves, hnone⟩ := deferringState_serves
  obtain rfl : t = u := Host.Outcome.next.inj (hstep.symm.trans hserves)
  exact absurd ((congrArg Port.deferred hport).symm.trans hnone) (by decide +kernel)

/-- Refutes O38: its second clause fails for `malformedCstore`, whose response has SC_FAIL 1. -/
theorem not_loadsAndStoresUseTheGranule : ¬ Obligations.LoadsAndStoresUseTheGranule := by
  rintro ⟨-, hmalformed, -⟩
  obtain ⟨t, hstep, hresponds, -⟩ := hmalformed Tests.user malformedCstore (.portCstore malformedCstore .clean) user_portFree (by decide +kernel) (by simp)
  obtain ⟨u, hfails, hsays⟩ := malformedCstore_fails
  obtain rfl : t = u := Host.Outcome.next.inj (hstep.symm.trans hfails)
  have hout := hresponds.symm.trans hsays
  simp at hout

end

section
namespace Sys2Proof.Machine

/-! ### One core port changes -/

/-- Only core port `p` has changed; it is `x` now. -/
structure PortBecomes (p : Nat) (x : Port) (s t : State) : Prop where
  port : getPort t p = x
  rest : { t with ports := s.ports } = s

theorem portBecomes_modPort (p : Nat) (f : Port → Port) (s : State) : PortBecomes p (f (getPort s p)) s (modPort p f s) :=
  ⟨by rw [getPort_modPort, if_pos rfl], rfl⟩

theorem PortBecomes.trans {p : Nat} {x y : Port} {s t u : State} (h : PortBecomes p x s t) (k : PortBecomes p y t u) : PortBecomes p y s u :=
  ⟨k.port, (congrArg (fun v : State => { v with ports := s.ports }) k.rest).trans h.rest⟩

theorem PortBecomes.andThen {p : Nat} {x : Port} {s t : State} (h : PortBecomes p x s t) (f : Port → Port) : PortBecomes p (f x) s (modPort p f t) := by
  have hmod := h.trans (portBecomes_modPort p f t)
  rwa [h.port] at hmod

/-- What does not depend on the core ports is as it was. -/
theorem PortBecomes.same {α : Type} {p : Nat} {x : Port} {s t : State} (h : PortBecomes p x s t) (f : State → α)
    (hf : f { t with ports := s.ports } = f t) : f t = f s :=
  hf.symm.trans (congrArg f h.rest)

theorem serveDeferred_none {p : Nat} {s : State} (h : (getPort s p).deferred = []) : serveDeferred p s = s := by
  simp [serveDeferred, h]

theorem portBecomes_modOp {p id : Nat} {o : PortOp} {s : State} (h : (getPort s p).ops = [o]) (hid : o.id = id) (f : PortOp → PortOp) :
    PortBecomes p { getPort s p with ops := [f o] } s (modOp p id f s) := by
  have hmod := portBecomes_modPort p (fun x => { x with ops := x.ops.map fun o => if o.id = id then f o else o }) s
  refine ⟨hmod.port.trans ?_, hmod.rest⟩
  simp [h, hid]

theorem findOp_single {p id : Nat} {o : PortOp} {s : State} (h : (getPort s p).ops = [o]) (hid : o.id = id) : findOp s p id = some o := by
  simp [findOp, opsOf, h, hid]

/-! ### The end of a pump: responses leave (R193, R448) -/

/-- The number of barriers of a port whose response has not been sent. -/
def openBarriers (p : Nat) (s : State) : Nat := ((opsOf s p).filter fun o => isBarrier o && !o.answered).length

/-- A pump once each entry has been taken as far as it goes: the answers that are due are sent, and what is done leaves. -/
def pumpEnds (p : Nat) (s : State) : State :=
  let t := deliverOps p s
  pruneOps p (if openBarriers p t < openBarriers p s then owe (.pump p) t else t)

theorem pump_single {p : Nat} {o : PortOp} {s : State} (h : (getPort s p).ops = [o]) : pump p s = pumpEnds p (stepOp p s o.id) := by
  unfold pump
  rw [opsOf, h]
  rfl

theorem pump_idle {p : Nat} {s : State} (h : (getPort s p).ops = []) : PortBecomes p { getPort s p with seen := [] } s (pump p s) := by
  have hpump : pump p s = pruneOps p s := by
    simp [pump, opsOf, deliverOps, h]
  have hprune : PortBecomes p _ s (pruneOps p s) := portBecomes_modPort p _ s
  rw [hpump]
  refine ⟨hprune.port.trans ?_, hprune.rest⟩
  simp [h]

/-- Entry `o`, of the memory, is all that core port `p` has; it stays in the port for no read-back, no snoop waits there, and its core takes
responses. -/
structure LoneEntry (p : Nat) (o : PortOp) (s : State) : Prop where
  ops : (getPort s p).ops = [o]
  what : o.what = .mem
  unsent : o.answered = false
  away : o.need0 = 0 ∧ o.need1 = 0
  held : (getPort s p).held = []
  credit : 0 < (getPort s p).respCredits
  deferred : (getPort s p).deferred = []

/-- The lone entry is performed, with answer `a`. -/
structure Performed (p : Nat) (o : PortOp) (a : Answer) (s : State) : Prop extends LoneEntry p o s where
  phase : o.phase = .finished
  answer : o.answer = some a

/-- A port but for what it has noted of its streams: reservations, failures, hold windows and lost writes. -/
def withoutStreams (x : Port) : Port := { x with resv := [], fails := [], hold := [], lost := [] }

theorem LoneEntry.congr {p : Nat} {o : PortOp} {s t : State} (h : LoneEntry p o s)
    (hport : withoutStreams (getPort t p) = withoutStreams (getPort s p)) : LoneEntry p o t where
  ops := (congrArg Port.ops hport :).trans h.ops
  what := h.what
  unsent := h.unsent
  away := h.away
  held := (congrArg Port.held hport :).trans h.held
  credit := (congrArg Port.respCredits hport :) ▸ h.credit
  deferred := (congrArg Port.deferred hport :).trans h.deferred

theorem LoneEntry.of_ports {p : Nat} {o : PortOp} {s t : State} (h : LoneEntry p o s) (hports : t.ports = s.ports) : LoneEntry p o t :=
  h.congr (by rw [getPort, hports, getPort])

theorem Performed.of_ports {p : Nat} {o : PortOp} {a : Answer} {s t : State} (h : Performed p o a s) (hports : t.ports = s.ports) : Performed p o a t :=
  ⟨h.toLoneEntry.of_ports hports, h.phase, h.answer⟩

/-- The response of entry `o` with answer `a` has left, and the entry with it. -/
structure Sends (p : Nat) (o : PortOp) (a : Answer) (s t : State) : Prop where
  out : t.out = .core p (.response a (opStream o) o.req.tag) :: s.out
  port : getPort t p = { getPort s p with ops := [], seen := [], respCredits := (getPort s p).respCredits - 1 }
  rest : { t with out := s.out, ports := s.ports } = s

theorem Sends.same {α : Type} {p : Nat} {o : PortOp} {a : Answer} {s t : State} (h : Sends p o a s t) (f : State → α)
    (hf : f { t with out := s.out, ports := s.ports } = f t) : f t = f s :=
  hf.symm.trans (congrArg f h.rest)

theorem Sends.ops {p : Nat} {o : PortOp} {a : Answer} {s t : State} (h : Sends p o a s t) : (getPort t p).ops = [] := by rw [h.port]

theorem toCore_credit {p : Nat} {a : Answer} {st : Nat} {tag : BitVec 10} {s : State} (hheld : (getPort s p).held = []) (hcredit : 0 < (getPort s p).respCredits) :
    toCore p (.response a st tag) s = emit (.core p (.response a st tag)) (modPort p (fun x => { x with respCredits := x.respCredits - 1 }) s) := by
  simp [toCore, hheld, onResponses, hcredit]

/-- The response of a performed entry leaves. -/
theorem deliverOps_performed {p : Nat} {o : PortOp} {a : Answer} {s : State} (h : Performed p o a s) :
    deliverOps p s = emit (.core p (.response a (opStream o) o.req.tag))
      (modPort p (fun x => { x with respCredits := x.respCredits - 1 }) (modOp p o.id (fun x => { x with answered := true }) s)) := by
  obtain ⟨⟨hops, hwhat, hunsent, -, hheld, hcredit, -⟩, -, hanswer⟩ := h
  have hmod := portBecomes_modOp hops rfl (fun x => { x with answered := true })
  have hcredit' : (getPort s p).respCredits ≠ 0 := by omega
  rw [deliverOps, opsOf, hops]
  simp only [List.foldl_cons, List.foldl_nil, hanswer, hunsent, opsOf, hops, List.any_cons, List.any_nil, Nat.lt_irrefl, decide_false, Bool.false_and,
    Bool.or_false, hcredit', hheld, Bool.and_false, Bool.false_eq_true, if_false, hwhat]
  exact toCore_credit (by rw [hmod.port, hheld]) (by rw [hmod.port]; exact hcredit)

/-- A performed entry whose response has left leaves too. -/
theorem pruneOps_done {p : Nat} {o : PortOp} {s : State} (hops : (getPort s p).ops = [o]) (hphase : o.phase = .finished) (hsent : o.answered = true)
    (haway : o.need0 = 0 ∧ o.need1 = 0) : PortBecomes p { getPort s p with ops := [], seen := [] } s (pruneOps p s) := by
  obtain ⟨hneed0, hneed1⟩ := haway
  have hprune : PortBecomes p _ s (pruneOps p s) := portBecomes_modPort p _ s
  refine ⟨hprune.port.trans ?_, hprune.rest⟩
  simp [hops, hphase, hsent, hneed0, hneed1]

/-- Work that is owed to a port with no entry and no snoop that waits leaves it so. -/
theorem settleN_pump_idle {p n : Nat} {s : State} (hacts : s.acts = [.pump p]) (hops : (getPort s p).ops = []) (hdeferred : (getPort s p).deferred = []) :
    PortBecomes p { getPort s p with seen := [] } { s with acts := [] } (settleN (n + 1) s) := by
  have hpump := pump_idle (p := p) (s := { s with acts := [] }) hops
  have hserve : runAct (.pump p) { s with acts := [] } = pump p { s with acts := [] } := serveDeferred_none (by rw [hpump.port]; exact hdeferred)
  rw [settleN_cons n s _ [] hacts, hserve, settleN_of_quiet n _ (hpump.same State.acts rfl)]
  exact hpump

/-- The pump of a performed entry sends its response; what a barrier held looks once more, and finds nothing. -/
theorem sends_pumpEnds {p n : Nat} {o : PortOp} {a : Answer} {s : State} (h : Performed p o a s) (hacts : s.acts = []) :
    Sends p o a s (settleN (n + 1) (serveDeferred p (pumpEnds p s))) := by
  have hmod : PortBecomes p { getPort s p with ops := [{ o with answered := true }], respCredits := (getPort s p).respCredits - 1 } s _ :=
    (portBecomes_modOp h.ops rfl (fun x => { x with answered := true })).andThen fun x => { x with respCredits := x.respCredits - 1 }
  unfold pumpEnds
  dsimp only
  rw [deliverOps_performed h]
  generalize modPort p (fun x => { x with respCredits := x.respCredits - 1 }) (modOp p o.id (fun x => { x with answered := true }) s) = v at hmod ⊢
  generalize ho : Out.core p (.response a (opStream o) o.req.tag) = out
  have hquiet : v.acts = [] := (hmod.same State.acts rfl).trans hacts
  have hpruned (w : State) (hw : w.ports = v.ports) :
      PortBecomes p { getPort s p with ops := [], seen := [], respCredits := (getPort s p).respCredits - 1 } w (pruneOps p w) := by
    have hwv : getPort w p = getPort v p := by rw [getPort, hw, getPort]
    have hprune := pruneOps_done (o := { o with answered := true }) (s := w) (by rw [hwv, hmod.port]) h.phase rfl h.away
    rwa [hwv, hmod.port] at hprune
  have hsends (t : State) (ht : PortBecomes p { getPort s p with ops := [], seen := [], respCredits := (getPort s p).respCredits - 1 } (emit out v) t) :
      Sends p o a s t := by
    refine ⟨(ht.same State.out rfl).trans ?_, ht.port, ?_⟩
    · rw [ho, ← show v.out = s.out from hmod.same State.out rfl]
      rfl
    · exact (congrArg (fun x : State => { x with out := s.out, ports := s.ports }) ht.rest).trans ((congrArg (fun x : State => { x with out := s.out }) hmod.rest))
  split
  · have hpruned := hpruned (owe (.pump p) (emit out v)) rfl
    rw [serveDeferred_none (by rw [hpruned.port]; exact h.deferred)]
    have hidle := settleN_pump_idle (p := p) (n := n) (s := pruneOps p (owe (.pump p) (emit out v))) ((hpruned.same State.acts rfl).trans (congrArg (· ++ [Act.pump p]) hquiet))
      (by rw [hpruned.port]) (by rw [hpruned.port]; exact h.deferred)
    rw [hpruned.port] at hidle
    refine hsends _ ⟨hidle.port, ?_⟩
    have hrest := (congrArg (fun x : State => { x with ports := v.ports }) hidle.rest).trans (congrArg (fun x : State => { x with acts := [] }) hpruned.rest)
    refine hrest.trans ?_
    rw [← hquiet]
    rfl
  · have hpruned := hpruned (emit out v) rfl
    rw [serveDeferred_none (by rw [hpruned.port]; exact h.deferred), settleN_of_quiet _ _ ((hpruned.same State.acts rfl).trans hquiet)]
    exact hsends _ hpruned

end Sys2Proof.Machine
end

section
namespace Sys2Proof.Machine

/-! ### A request comes alone into its port (R194, R209) -/

/-- Entry `o` is all that port `p` has; beside its entries and reservations the port is as it was, and so is the rest of the block. -/
structure Alone (p : Nat) (o : PortOp) (s v : State) : Prop where
  ops : (getPort v p).ops = [o]
  beside : { getPort v p with ops := [], nextId := 0, resv := [] } = { getPort s p with ops := [], nextId := 0, resv := [] }
  rest : { v with ports := s.ports } = s

theorem Alone.same {α : Type} {p : Nat} {o : PortOp} {s v : State} (h : Alone p o s v) (f : State → α) (hf : f { v with ports := s.ports } = f v) :
    f v = f s :=
  hf.symm.trans (congrArg f h.rest)

/-- The entry has changed. -/
theorem Alone.modOp {p : Nat} {o : PortOp} {s v : State} (h : Alone p o s v) (f : PortOp → PortOp) :
    Alone p (f o) s (modOp p o.id f v) ∧ (getPort (modOp p o.id f v) p).resv = (getPort v p).resv := by
  obtain ⟨hops, hbeside, hrest⟩ := h
  have hmod := portBecomes_modOp hops rfl f
  refine ⟨⟨by rw [hmod.port], ?_, (congrArg (fun x : State => { x with ports := s.ports }) hmod.rest).trans hrest⟩, by rw [hmod.port]⟩
  rw [hmod.port]
  exact hbeside

theorem Alone.lone {p : Nat} {o : PortOp} {s v : State} (h : Alone p o s v) (hfree : CorePortFree p s) (hwhat : o.what = .mem) (hunsent : o.answered = false)
    (haway : o.need0 = 0 ∧ o.need1 = 0) : LoneEntry p o v := by
  obtain ⟨-, -, -, hheld, hdeferred, -, -, -, hcredit, -⟩ := hfree
  exact ⟨h.ops, hwhat, hunsent, haway, (congrArg Port.held h.beside :).trans hheld, (congrArg Port.respCredits h.beside :) ▸ hcredit,
    (congrArg Port.deferred h.beside :).trans hdeferred⟩

/-- The fresh entry of request `r`. -/
def entryOf (r : CoreReq) (s : State) : PortOp := newOp (getPort s r.port).nextId .mem r (barrierTerms s r).1 (barrierTerms s r).2

/-- A request enters a port that has no entry and no hold window. -/
theorem alone_enterOp {r : CoreReq} {s : State} (hops : (getPort s r.port).ops = []) (hhold : (getPort s r.port).hold = []) :
    Alone r.port (entryOf r s) s (enterOp .mem r s) := by
  unfold enterOp
  refine ⟨?_, ?_, rfl⟩ <;> rw [getPort_modPort, if_pos rfl]
  · rw [hops]
    rfl
  · simp [hhold]

/-- A reservation of the request's own context survives its entry, as no hold window ends. -/
theorem resv_enterOp {r : CoreReq} {s : State} (hhold : (getPort s r.port).hold = [])
    (hctx : ∀ v, tget none (getPort s r.port).resv (atStream r.attr) = some v → v.ctx = atCtx r.attr) :
    (getPort (enterOp .mem r s) r.port).resv = (getPort s r.port).resv := by
  unfold enterOp
  rw [getPort_modPort, if_pos rfl]
  dsimp only
  split
  · rfl
  split
  next v hv => rw [if_neg (by simp [hctx v hv, windowOpen, hhold])]
  next => rfl

theorem storageCheck_clean (r : CoreReq) (s : State) : storageCheck .clean r s = s := by
  unfold storageCheck
  dsimp only
  split
  · rfl
  split
  · split
    · rfl
    · rfl
  · rfl

/-- A request that is performed as it comes is answered by its command. -/
theorem done_portRequest {r : CoreReq} {o : PortOp} {a : Answer} {s u : State} (h : CorePortFree r.port s) (hok : reqMalformed r = false)
    (hstep : stepOp r.port (enterOp .mem r s) (entryOf r s).id = u) (hu : Performed r.port o a u) (hacts : u.acts = []) :
    ∃ t, done (onFab (portRequest r .clean) s) = .next t ∧ Sends r.port o a u t := by
  obtain ⟨hfab, -, hops, -, -, -, hhold, -⟩ := h
  refine ⟨_, ?_, sends_pumpEnds (n := 999999) hu hacts⟩
  rw [onFab_run _ hfab, portRequest, storageCheck_clean, requestArrives]
  simp only [hok, Bool.false_eq_true, if_false]
  rw [pump_single (alone_enterOp hops hhold).ops, hstep]
  rfl

/-! ### Where a sound access goes (R176, R192) -/

/-- The entry of a sound access, once its address has been translated. -/
def placedEntry (r : CoreReq) (x : Extent) (s : State) : PortOp :=
  { entryOf r s with pa := x.pa, keySlot := x.keySlot, cache := x.cache, early := x.early && opCode (entryOf r s) = opStore,
                     flushed := x.flushed && target x.pa = .host, pairOk := true }

/-- The state in which a sound access is performed. -/
def accessPlaced (r : CoreReq) (x : Extent) (s : State) : State := modOp r.port (entryOf r s).id (fun _ => placedEntry r x s) (enterOp .mem r s)

section
variable {r : CoreReq} {x : Extent} {s : State}

theorem soundAccess_free (h : SoundAccess r x s) : CorePortFree r.port s := h.1

theorem soundAccess_enters (h : SoundAccess r x s) : Alone r.port (entryOf r s) s (enterOp .mem r s) := by
  obtain ⟨⟨-, -, hops, -, -, -, hhold, -⟩, -⟩ := h
  exact alone_enterOp hops hhold

theorem soundAccess_placed (h : SoundAccess r x s) : Alone r.port (placedEntry r x s) s (accessPlaced r x s) :=
  ((soundAccess_enters h).modOp fun _ => placedEntry r x s).1

theorem soundAccess_lone (h : SoundAccess r x s) : LoneEntry r.port (placedEntry r x s) (accessPlaced r x s) :=
  (soundAccess_placed h).lone (soundAccess_free h) rfl rfl ⟨rfl, rfl⟩

theorem soundAccess_resv (h : SoundAccess r x s)
    (hctx : ∀ v, tget none (getPort s r.port).resv (atStream r.attr) = some v → v.ctx = atCtx r.attr) :
    (getPort (accessPlaced r x s) r.port).resv = (getPort s r.port).resv := by
  obtain ⟨⟨-, -, -, -, -, -, hhold, -⟩, -⟩ := id h
  exact ((soundAccess_enters h).modOp fun _ => placedEntry r x s).2.trans (resv_enterOp hhold hctx)

theorem soundAccess_translates (h : SoundAccess r x s) :
    translateOp r.port (entryOf r s) (enterOp .mem r s) = (some (placedEntry r x s), accessPlaced r x s) := by
  have hin := soundAccess_enters h
  obtain ⟨-, -, -, hfoot, hverdict, htarget, -⟩ := h
  have hctx : getCtx (enterOp .mem r s) (atCtx r.attr) = getCtx s (atCtx r.attr) := hin.same (fun v => getCtx v (atCtx r.attr)) rfl
  have hallowed : accessVerdict (enterOp .mem r s) (atCtx r.attr) x.keySlot x.pa (reqLen r) = .ok :=
    (hin.same (fun v => accessVerdict v (atCtx r.attr) x.keySlot x.pa (reqLen r)) rfl).trans hverdict
  have hregs : target x.pa ≠ .regs := by rcases htarget with h | h <;> rw [h] <;> decide
  unfold translateOp
  dsimp only
  rw [show opCtx (entryOf r s) = atCtx r.attr from rfl, show (entryOf r s).req = r from rfl, hctx]
  rw [show needOf (entryOf r s) = needOf (newOp 0 .mem r 0 0) from rfl, hfoot]
  dsimp only
  rw [hallowed]
  simp only [ne_eq, not_true_eq_false, if_false, hregs, decide_false, Bool.false_and, Bool.false_eq_true]
  rfl

/-- An entry that is alone in its port is held by nothing. -/
theorem held_alone {p : Nat} {o : PortOp} {v : State} (h : (getPort v p).ops = [o]) : heldByBarrier v p o = false ∧ heldByOverlap v p o = false := by
  simp [heldByBarrier, heldByOverlap, olderOf, opsOf, h]

/-- A sound access that is no store and no barrier is performed as its operation says. -/
theorem stepOp_placed (h : SoundAccess r x s) (hstore : atOp r.attr ≠ opStore) (hbarrier : atOp r.attr ≠ opBarrier) :
    stepOp r.port (enterOp .mem r s) (entryOf r s).id =
      if atOp r.attr = opLoad then runLoad r.port (placedEntry r x s) (accessPlaced r x s)
      else if atOp r.attr = opRload then runRload r.port (placedEntry r x s) (accessPlaced r x s)
      else if atOp r.attr = opCstore then runCstore r.port (placedEntry r x s) (accessPlaced r x s)
      else runAtomic r.port (placedEntry r x s) (accessPlaced r x s) := by
  have hin := soundAccess_enters h
  obtain ⟨hbar, hover⟩ := held_alone (soundAccess_placed h).ops
  have htranslates := soundAccess_translates h
  obtain ⟨-, hready, -, -, -, htarget, -⟩ := h
  have hstate : ctxState (enterOp .mem r s) (opCtx (entryOf r s)) = 1 := (hin.same (fun v => ctxState v (atCtx r.attr)) rfl).trans hready
  have hhost : target (placedEntry r x s).pa ≠ .host := by
    show target x.pa ≠ .host
    rcases htarget with h | h <;> rw [h] <;> decide
  have hno : isBarrier (entryOf r s) = false := by
    simp [isBarrier, show opCode (entryOf r s) = atOp r.attr from rfl, hbarrier]
  unfold stepOp
  rw [findOp_single hin.ops rfl]
  simp only [show (entryOf r s).phase = .start from rfl, show (entryOf r s).what = .mem from rfl, hno, Bool.false_eq_true, if_false, hstate, htranslates,
    hbar, hover, hhost, decide_false, Bool.false_and, show opCode (placedEntry r x s) = atOp r.attr from rfl, hstore, Bool.or_self]

end

end Sys2Proof.Machine
end

section
namespace Sys2Proof.Machine

/-! ### An entry is performed (R192, R195, R346) -/

/-- Entry `o`, performed with answer `a`. -/
def finished (o : PortOp) (a : Answer) : PortOp := { o with answer := some a, phase := .finished }

/-- An entry that ends OK: a conditional store clears its stream's reservation (R210). -/
theorem finishOp_ok {p : Nat} {o : PortOp} {s : State} (hops : (getPort s p).ops = [o]) (hanswer : o.answer = none) (sc : Bool) (d : Line) :
    PortBecomes p { getPort s p with ops := [finished o ⟨.ok, sc, d⟩],
                                     resv := if isCstore o then tset none (getPort s p).resv (opStream o) none else (getPort s p).resv }
      s (finishOp p o.id .ok sc d s) := by
  have hmod := portBecomes_modOp hops rfl
    (fun o => { o with answer := some (o.answer.getD ⟨.ok, sc || (isCstore o && Status.ok ≠ .ok), d⟩), phase := .finished })
  have hnew : ({ o with answer := some (o.answer.getD ⟨.ok, sc || (isCstore o && Status.ok ≠ .ok), d⟩), phase := .finished } : PortOp) = finished o ⟨.ok, sc, d⟩ := by
    simp [finished, hanswer]
  rw [hnew] at hmod
  unfold finishOp
  dsimp only
  generalize modOp p o.id _ s = v at hmod ⊢
  have hfind : findOp v p o.id = some (finished o ⟨.ok, sc, d⟩) := findOp_single (by rw [hmod.port]) rfl
  rw [hfind]
  have hsame : isCstore (finished o ⟨.ok, sc, d⟩) = isCstore o ∧ opStream (finished o ⟨.ok, sc, d⟩) = opStream o := ⟨rfl, rfl⟩
  cases hc : isCstore o
  · simpa [hsame, hc] using hmod
  · simpa [hsame, hc] using hmod.andThen fun x => { x with resv := tset none x.resv (opStream o) none }

theorem performed_finishOp {p : Nat} {o : PortOp} {s : State} (h : LoneEntry p o s) (hanswer : o.answer = none) (sc : Bool) (d : Line) :
    Performed p (finished o ⟨.ok, sc, d⟩) ⟨.ok, sc, d⟩ (finishOp p o.id .ok sc d s) := by
  obtain ⟨hport, -⟩ := finishOp_ok h.ops hanswer sc d
  exact ⟨⟨by rw [hport], h.what, h.unsent, h.away, by rw [hport]; exact h.held, by rw [hport]; exact h.credit, by rw [hport]; exact h.deferred⟩, rfl, rfl⟩

/-- The store buffer holds nothing of a port whose only entry is not there. -/
theorem answering_alone {p : Nat} {o x : PortOp} {s : State} (h : (getPort s p).ops = [x]) (hphase : x.phase = .start ∨ x.phase = .finished) :
    answering s p o = [] := by
  have hout : buffers s p x = false := by
    unfold buffers
    rcases hphase with h | h <;> simp [h]
  simp [answering, opsOf, h, hout]

theorem noteUse_rest (c k g : Nat) (s : State) : { noteUse c k g s with free := s.free, ctrs := s.ctrs, wraps := s.wraps } = s := by
  unfold noteUse
  split
  · unfold noteTag
    split <;> rfl
  · split <;> rfl
  · rfl

/-- `t` with the outputs, the ports, the counters, the free values and the courses' notes of `s`. -/
def asBeforeRead (s t : State) : State :=
  { t with out := s.out, ports := s.ports, ctrs := s.ctrs, wraps := s.wraps, free := s.free, arrays := s.arrays }

/-- Nothing has changed but those: a read of the near cache (R192). -/
def OnlyRead (s t : State) : Prop := asBeforeRead s t = s

theorem onlyRead_trans {s t u : State} (h : OnlyRead s t) (k : OnlyRead t u) : OnlyRead s u :=
  (congrArg (asBeforeRead s) k).trans h

theorem PortBecomes.onlyRead {p : Nat} {x : Port} {s t : State} (h : PortBecomes p x s t) : OnlyRead s t :=
  (congrArg (fun x : State => { x with out := s.out, ctrs := s.ctrs, wraps := s.wraps, free := s.free, arrays := s.arrays }) h.rest :)

theorem Alone.onlyRead {p : Nat} {o : PortOp} {s v : State} (h : Alone p o s v) : OnlyRead s v :=
  PortBecomes.onlyRead (p := p) ⟨rfl, h.rest⟩

theorem Sends.onlyRead {p : Nat} {o : PortOp} {a : Answer} {s t : State} (h : Sends p o a s t) : OnlyRead s t :=
  (congrArg (fun x : State => { x with ctrs := s.ctrs, wraps := s.wraps, free := s.free, arrays := s.arrays }) h.rest :)

theorem softAccess_onlyRead (pa n : Nat) (write : Bool) (s : State) : OnlyRead s (softAccess pa n write s) :=
  (congrArg (fun x : State => { x with out := s.out, ports := s.ports, ctrs := s.ctrs, wraps := s.wraps, free := s.free }) (softAccess_rest pa n write s) :)

theorem softAccess_ports (pa n : Nat) (write : Bool) (s : State) : (softAccess pa n write s).ports = s.ports :=
  (congrArg State.ports (softAccess_rest pa n write s) :)

theorem softAccess_out (pa n : Nat) (write : Bool) (s : State) : (softAccess pa n write s).out = s.out := (softAccess_traffic pa n write s).1

/-- What a load that is alone in its port binds, and what binding it leaves. -/
theorem bindLoad_alone {p : Nat} {o : PortOp} {s : State} (h : LoneEntry p o s) (hphase : o.phase = .start) (hanswer : o.answer = none)
    (hcstore : isCstore o = false) (hpoison : nearPoison s (opCtx o) (opGranule o) = false) :
    ∃ d, d = namedBytes o.req (granuleData s (opCtx o) o.keySlot (opGranule o)) ∧ Performed p (finished o ⟨.ok, false, d⟩) ⟨.ok, false, d⟩ (bindLoad p o s) ∧
      OnlyRead s (bindLoad p o s) ∧ (bindLoad p o s).out = s.out ∧ (getPort (bindLoad p o s) p).resv = (getPort s p).resv ∧
      (getPort (bindLoad p o s) p).hold = (getPort s p).hold := by
  refine ⟨_, rfl, ?_⟩
  have hsoft := h.of_ports (softAccess_ports o.pa (opLen o) false s)
  have hget : getPort (softAccess o.pa (opLen o) false s) p = getPort s p := by rw [getPort, softAccess_ports, getPort]
  have hdata : overlayBuffer s p o (granuleData s (opCtx o) o.keySlot (opGranule o)) = granuleData s (opCtx o) o.keySlot (opGranule o) := by
    rw [overlayBuffer, answering_alone h.ops (.inl hphase), List.foldl_nil]
  have hfinish := finishOp_ok hsoft.ops hanswer false (namedBytes o.req (granuleData s (opCtx o) o.keySlot (opGranule o)))
  have hperformed := performed_finishOp hsoft hanswer false (namedBytes o.req (granuleData s (opCtx o) o.keySlot (opGranule o)))
  have honly := onlyRead_trans (softAccess_onlyRead o.pa (opLen o) false s) hfinish.onlyRead
  have hout := (hfinish.same State.out rfl).trans (softAccess_out o.pa (opLen o) false s)
  have hport := hfinish.port
  rw [hget, hcstore] at hport
  unfold bindLoad
  dsimp only
  rw [hdata, hpoison]
  simp only [Bool.false_eq_true, if_false]
  generalize finishOp p o.id .ok false _ (softAccess o.pa (opLen o) false s) = t at hperformed honly hout hport ⊢
  have hseen : noteSeen p o t = t := by
    rw [noteSeen, answering_alone hperformed.ops (.inr rfl)]
    rfl
  rw [hseen]
  have huse := noteUse_rest (opCtx o) o.keySlot (opGranule o) t
  have hports : (noteUse (opCtx o) o.keySlot (opGranule o) t).ports = t.ports := (congrArg State.ports huse :)
  have hget' : getPort (noteUse (opCtx o) o.keySlot (opGranule o) t) p = getPort t p := by rw [getPort, hports, getPort]
  refine ⟨hperformed.of_ports hports, onlyRead_trans honly ?_, (congrArg State.out huse :).trans hout, ?_, ?_⟩
  · exact (congrArg (fun x : State => { x with out := t.out, ports := t.ports, arrays := t.arrays }) huse :)
  · rw [hget', hport]
    rfl
  · rw [hget', hport]

end Sys2Proof.Machine
end

section
namespace Sys2Proof.Machine

/-! ### A dirty line is written back (R226): which counters move -/

theorem ctrs_touch (g : Nat) (s : State) : (touch g s).ctrs = s.ctrs := by
  unfold touch
  split
  · rfl
  · split <;> rfl
  · rfl
  · split <;> rfl
  · rfl

theorem ctrs_setShingle (g : Nat) (x : Shingle) (s : State) : (setShingle g x s).ctrs = s.ctrs := by
  unfold setShingle
  dsimp only
  split <;> split <;> rfl

theorem ctrs_evictLine {l : Nat} (s : State) (hl : target (l * 256) ≠ .host) : (evictLine l s).ctrs = s.ctrs := by
  unfold evictLine
  dsimp only
  rw [if_neg hl]
  split <;> rfl

theorem ctrs_allocLine {s t : State} {l keySlot : Nat} (hlines : NoHostLines s) (h : allocLine l keySlot s = some t) : t.ctrs = s.ctrs := by
  unfold allocLine at h
  dsimp only at h
  split at h
  · cases h
  split at h
  · cases h
    rfl
  split at h
  · cases h
  split at h
  next x hx =>
    cases h
    have hheld : target (x.1 * 256) ≠ .host := by
      obtain ⟨kv, hkv, hkx⟩ := List.mem_filterMap.1 (List.mem_of_find?_eq_some hx)
      split at hkx
      · split at hkx
        · cases hkx
          exact hlines kv hkv
        · cases hkx
      · cases hkx
    exact ctrs_evictLine (s := (stepWay (homeOf s (4 * l)) 0 s).2) hheld
  next =>
    cases h
    rfl

/-- The write-back of a whole granule of the stacks moves only counters of the device cache. -/
theorem ctr_stackLine_whole {s : State} {g i j : Nat} (hlines : NoHostLines s) (hg : target (g / 4 * 256) ≠ .host) (hij : ∀ k < 256, okey i j ≠ okey 0x3800 k)
    (keySlot cache : Nat) : ctr (stackLine g keySlot cache true true s) i j = ctr s i j := by
  have hcount {k : Nat} (hk : k < 256) (t : State) : ctr (count 0x3800 k t) i j = ctr t i j := by rw [ctr_count, if_neg (hij k hk)]
  have hsame {t u : State} (h : t.ctrs = u.ctrs) : ctr t i j = ctr u i j := by rw [ctr, h, ctr]
  unfold stackLine
  extract_lets l s₁ fetch fill s₂ s₃
  have hevict : s₁.ctrs = s.ctrs ∧ NoHostLines s₁ := by
    unfold s₁
    split
    · split
      · exact ⟨ctrs_evictLine s hg, (stays_evictLine s hg).lines hlines⟩
      · exact ⟨rfl, hlines⟩
    · exact ⟨rfl, hlines⟩
  have hfetch (t : State) : (fetch t).ctrs = t.ctrs := (ctrs_setShingle g .v _).trans rfl
  have hfill (t : State) : (fill t).ctrs = t.ctrs := by
    unfold fill
    simp only [Bool.and_self, Bool.not_true, Bool.and_false, Bool.false_eq_true, if_false]
    exact hfetch t
  have hline : ctr s₂ i j = ctr s₁ i j := by
    unfold s₂
    split
    · split
      · split
        · rfl
        · exact (hsame (hfetch _)).trans (hcount (by decide) s₁)
      · exact hcount (by decide) s₁
    · split
      · rfl
      · split
        next t ht => exact (hsame (hfill _)).trans ((hcount (by decide) t).trans (hsame (ctrs_allocLine hevict.2 ht)))
        next => rfl
  have hthrough : s₃.ctrs = s₂.ctrs := by
    unfold s₃
    split <;> rfl
  refine (hsame (ctrs_touch g _)).trans (Eq.trans ?_ ((hsame hthrough).trans (hline.trans (hsame hevict.1))))
  split
  · exact hsame (ctrs_setShingle g .d s₃)
  · rfl

/-! ### A write into an owned line (R220, R226, R229) -/

/-- `t` with what a write into an owned line may change as it is in `s`. -/
def writeAside (s t : State) : State :=
  { t with ctrs := s.ctrs, wraps := s.wraps, power := s.power, free := s.free, mem := s.mem, coh := s.coh, ports := s.ports, arrays := s.arrays }

/-- What an owned line's write changes beside the bytes: no output, no object, nothing of the ports but reservations and hold windows. -/
structure WritesOwned (p : Nat) (o : PortOp) (d : Line) (m : Word) (s t : State) : Prop where
  beside : writeAside s t = s
  port : withoutStreams (getPort t p) = withoutStreams (getPort s p)
  ctr : ∀ i j, (∀ k < 256, okey i j ≠ okey 0x3800 k) → ctr t i j = ctr s i j
  only : OnlyGranule (opGranule o) (lineByte (mergeLine (granuleData s (opCtx o) o.keySlot (opGranule o)) d m)) s t

/-- Data that comes back dirty stays in the device cache, or goes to its stack. -/
theorem stays_dirtyBack {s : State} {g : Nat} (hquiet : QuietStorage s) (hmem : target (g * 64) = .stacks ∨ target (g * 64) = .scratch)
    (hline : target (g * 64) = .stacks → target (g / 4 * 256) ≠ .host) (keySlot cache : Nat) :
    Stays s (dirtyBack g keySlot cache true s) ∧ ∀ i j, (∀ k < 256, okey i j ≠ okey 0x3800 k) → ctr (dirtyBack g keySlot cache true s) i j = ctr s i j := by
  obtain ⟨hflaws, hlines⟩ := hquiet
  unfold dirtyBack
  rcases hmem with h | h <;> rw [h] <;> dsimp only
  · exact ⟨stays_stackLine hflaws hlines (hline h) _ _ _ _, fun i j hij => ctr_stackLine_whole hlines (hline h) hij _ _⟩
  · exact ⟨.refl s, fun _ _ _ => rfl⟩

theorem ctrs_writeGranule (c k g : Nat) (d : Line) (m : Word) (poison : Bool) (s : State) : (writeGranule c k g d m poison s).ctrs = s.ctrs := by
  unfold writeGranule
  split <;> rfl

theorem writesOwned {p : Nat} {o : PortOp} {s : State} (hquiet : QuietStorage s) (hmem : target o.pa = .stacks ∨ target o.pa = .scratch)
    (hline : target o.pa = .stacks → target (o.pa / 64 / 4 * 256) ≠ .host) (d : Line) (m : Word) : WritesOwned p o d m s (writeOwned p o d m s) := by
  have hgranule : target (opGranule o * 64) = target o.pa := target_granule o.pa
  have hhost : target o.pa ≠ .host := by rcases hmem with h | h <;> rw [h] <;> decide
  unfold writeOwned
  extract_lets g l s₁ s₂ s₃
  have hback : Stays s s₁ ∧ ∀ i j, (∀ k < 256, okey i j ≠ okey 0x3800 k) → ctr s₁ i j = ctr s i j := by
    unfold s₁
    split
    · exact stays_dirtyBack hquiet (by rwa [hgranule]) (by rwa [hgranule]) _ _
    · exact ⟨.refl s, fun _ _ _ => rfl⟩
  obtain ⟨hstays, hctr⟩ := hback
  have hsoft : ∃ v, v = softAccess o.pa (opLen o) true s₁ ∧ { v with arrays := s₁.arrays } = s₁ := ⟨_, rfl, softAccess_rest o.pa (opLen o) true s₁⟩
  obtain ⟨v, hv, hrest⟩ := hsoft
  have hs₂ : s₂ = writeGranule (opCtx o) o.keySlot g d m false v := by rw [hv]
  have hs₃ : s₃ = writeGranule (opCtx o) o.keySlot g d m false v := by
    unfold s₃
    rw [if_neg hhost, hs₂]
  clear_value s₃
  subst hs₃
  have hwrite := tends_writeGranule (opCtx o) o.keySlot g d m false v
  have hports : (writeGranule (opCtx o) o.keySlot g d m false v).ports = s.ports :=
    hwrite.ports.trans ((congrArg State.ports hrest :).trans hstays.looks.tends.ports)
  have hdata : granuleData v (opCtx o) o.keySlot g = granuleData s (opCtx o) o.keySlot g :=
    (congrArg (fun x => granuleData x (opCtx o) o.keySlot g) hrest :).trans (granuleData_congr hstays.looks fun _ _ => hstays.free)
  refine ⟨?_, ?_, fun i j hij => ?_, onlyGranule_of_putBytes ?_⟩
  · exact ((congrArg (writeAside s) hwrite :).trans (congrArg (writeAside s) hrest :)).trans (congrArg (writeAside s) hstays.looks.tends :)
  · rw [clearResv, getPort_modPort, if_pos rfl]
    exact congrArg (fun t : Table Port => withoutStreams (tget {} t p)) hports
  · have hctrs : (writeGranule (opCtx o) o.keySlot g d m false v).ctrs = s₁.ctrs := (ctrs_writeGranule _ _ _ _ _ _ v).trans (congrArg State.ctrs hrest :)
    exact (congrArg (fun t : Table Word => tget 0 t (okey i j)) hctrs :).trans (hctr i j hij)
  · refine (bytes_writeGranule (by rwa [hgranule]) d m false).trans ?_
    rw [hdata, show v.mem.bytes = s.mem.bytes from (congrArg (fun x : State => x.mem.bytes) hrest :).trans hstays.looks.bytes]

end Sys2Proof.Machine
end

section
namespace Sys2Proof.Machine

/-! ### Reserved loads, conditional stores and atomics on an owned line (R207 to R211) -/

section
variable {r : CoreReq} {x : Extent} {s : State}

/-- What the port of a sound access has beside its entry. -/
theorem accessPlaced_port (h : SoundAccess r x s) : (getPort (accessPlaced r x s) r.port).nearFenced = false ∧
    (getPort (accessPlaced r x s) r.port).hold = [] ∧ (getPort (accessPlaced r x s) r.port).deferred = [] := by
  have hbeside := (soundAccess_placed h).beside
  obtain ⟨⟨-, -, -, -, hdeferred, -, hhold, -, -, hnear⟩, -⟩ := h
  exact ⟨(congrArg Port.nearFenced hbeside :).trans hnear, (congrArg Port.hold hbeside :).trans hhold, (congrArg Port.deferred hbeside :).trans hdeferred⟩

theorem soundAccess_ok (h : SoundAccess r x s) : reqMalformed r = false := by
  obtain ⟨-, -, hok, -⟩ := h
  exact hok

theorem soundAccess_quiet (h : SoundAccess r x s) : s.acts = [] := by
  obtain ⟨⟨-, hacts, -⟩, -⟩ := h
  exact hacts

theorem Sends.responds {o : PortOp} {a : Answer} {u t : State} (h : Sends r.port o a u t) (hreq : o.req = r) (hout : u.out = s.out) :
    Responds r a.status a.scFail a.data s t := by
  rw [Responds, h.out, hout, opStream, hreq]

/-- A sound access goes to memory, and on the path of the near cache (Table 9.1). -/
theorem soundAccess_memory (h : SoundAccess r x s) : (target (placedEntry r x s).pa = .stacks ∨ target (placedEntry r x s).pa = .scratch) ∧
    (placedEntry r x s).cache ≠ 2 := by
  obtain ⟨-, -, -, -, -, htarget, hcache⟩ := h
  exact ⟨htarget, hcache⟩

/-- Its bytes lie in a line of the stacks. -/
theorem soundAccess_line (h : SoundAccess r x s) (hstacks : target (placedEntry r x s).pa = .stacks) :
    target ((placedEntry r x s).pa / 64 / 4 * 256) ≠ .host := by
  obtain ⟨-, -, -, -, hverdict, -⟩ := h
  have hlen : 0 < reqLen r := Nat.two_pow_pos _
  refine stackLine_not_host (inMap_of_ok hverdict) hstacks (g := x.pa / 64) ?_
  rw [granulesOf, if_neg (by omega)]
  exact mem_rangeFrom.2 ⟨le_rfl, by omega⟩

theorem reservable_of_memory {o : PortOp} (hmem : target o.pa = .stacks ∨ target o.pa = .scratch) (hcache : o.cache ≠ 2) : reservable o = true := by
  unfold reservable
  rcases hmem with h | h <;> rw [h] <;> simpa using hcache

/-- The reservation of a reserved load is set, and its hold window open (R208, R211). -/
def reserving (p : Nat) (o : PortOp) (s : State) : State :=
  modPort p (fun x => { x with
    fails := if agedStream s p o then tset none x.fails (opStream o) none else x.fails
    resv := tset none x.resv (opStream o) (some ⟨opGranule o, opCtx o⟩), hold := x.hold.filter (fun w => w.2 ≠ opStream o) ++ [(opGranule o, opStream o)] })
    (if agedStream s p o && o.phase = .start then count 0x3880 7 s else s)

theorem runRload_owned {p : Nat} {o : PortOp} {v : State} (hops : (getPort v p).ops = [o]) (hfenced : (getPort v p).nearFenced = false)
    (hmem : target o.pa = .stacks ∨ target o.pa = .scratch) (hcache : o.cache ≠ 2) (howned : lineOwned v p (opGranule o) = true) :
    runRload p o v = bindLoad p o (reserving p o v) := by
  have hbuffers : ((opsOf v p).any fun x => buffers v p x && opGranule x = opGranule o && opStream x ≠ opStream o) = false := by
    simp [opsOf, hops]
  have howned' : lineOwned (if agedStream v p o && o.phase = .start then count 0x3880 7 v else v) p (opGranule o) = true := by
    split <;> exact howned
  unfold runRload
  dsimp only
  simp only [hfenced, Bool.false_eq_true, if_false, reservable_of_memory hmem hcache, Bool.not_true, hbuffers, howned', if_true]
  rfl

theorem reserving_rest (p : Nat) (o : PortOp) (v : State) : { reserving p o v with ports := v.ports, ctrs := v.ctrs, wraps := v.wraps } = v := by
  unfold reserving
  generalize (agedStream v p o && decide (o.phase = .start)) = c
  cases c <;> rfl

theorem reserving_port (p : Nat) (o : PortOp) (v : State) : withoutStreams (getPort (reserving p o v) p) = withoutStreams (getPort v p) ∧
    tget none (getPort (reserving p o v) p).resv (opStream o) = some ⟨opGranule o, opCtx o⟩ ∧
    ((getPort v p).hold = [] → (getPort (reserving p o v) p).hold = [(opGranule o, opStream o)]) := by
  have hsame : getPort (if agedStream v p o && o.phase = .start then count 0x3880 7 v else v) p = getPort v p := by
    split <;> rfl
  unfold reserving
  rw [getPort_modPort, if_pos rfl, hsame]
  exact ⟨rfl, tget_tset_same _ _ _ _, fun h => by simp [h]⟩

/-- Nothing has changed but the core ports and counters. -/
structure OnlyPorts (s t : State) : Prop where
  rest : { t with ports := s.ports, ctrs := s.ctrs, wraps := s.wraps } = s

theorem OnlyPorts.same {α : Type} {s t : State} (h : OnlyPorts s t) (f : State → α) (hf : f { t with ports := s.ports, ctrs := s.ctrs, wraps := s.wraps } = f t) :
    f t = f s :=
  hf.symm.trans (congrArg f h.rest)

theorem OnlyPorts.trans {s t u : State} (h : OnlyPorts s t) (k : OnlyPorts t u) : OnlyPorts s u :=
  ⟨(congrArg (fun x : State => { x with ports := s.ports, ctrs := s.ctrs, wraps := s.wraps }) k.rest).trans h.rest⟩

theorem OnlyPorts.onlyRead {s t : State} (h : OnlyPorts s t) : OnlyRead s t := (congrArg (asBeforeRead s) h.rest :)

theorem PortBecomes.onlyPorts {p : Nat} {y : Port} {s t : State} (h : PortBecomes p y s t) : OnlyPorts s t :=
  ⟨(congrArg (fun x : State => { x with ctrs := s.ctrs, wraps := s.wraps }) h.rest :)⟩

theorem onlyPorts_count (i j : Nat) (s : State) : OnlyPorts s (count i j s) := ⟨rfl⟩

theorem Alone.onlyPorts {p : Nat} {o : PortOp} {s v : State} (h : Alone p o s v) : OnlyPorts s v :=
  ⟨(congrArg (fun x : State => { x with ctrs := s.ctrs, wraps := s.wraps }) h.rest :)⟩

theorem Sends.onlyPorts {p : Nat} {o : PortOp} {a : Answer} {u t : State} (h : Sends p o a u t) (hu : OnlyPorts s u) :
    { t with out := s.out, ports := s.ports, ctrs := s.ctrs, wraps := s.wraps } = s := by
  refine (congrArg (fun v : State => { v with out := s.out, ports := s.ports, ctrs := s.ctrs, wraps := s.wraps }) h.rest :).trans ?_
  exact (congrArg (fun v : State => { v with out := s.out }) hu.rest :)

/-- A reserved load on an owned line binds its value with its reservation set. -/
theorem stepOp_rload (h : SoundAccess r x s) (hop : atOp r.attr = opRload) (howned : lineOwned s r.port (x.pa / 64) = true) :
    ∃ w, stepOp r.port (enterOp .mem r s) (entryOf r s).id = bindLoad r.port (placedEntry r x s) w ∧ LoneEntry r.port (placedEntry r x s) w ∧ OnlyPorts s w ∧
      tget none (getPort w r.port).resv (atStream r.attr) = some ⟨x.pa / 64, atCtx r.attr⟩ ∧ (getPort w r.port).hold = [(x.pa / 64, atStream r.attr)] := by
  have halone := soundAccess_placed h
  obtain ⟨hfenced, hhold, -⟩ := accessPlaced_port h
  obtain ⟨hmem, hcache⟩ := soundAccess_memory h
  obtain ⟨hport, hresv, hwindow⟩ := reserving_port r.port (placedEntry r x s) (accessPlaced r x s)
  refine ⟨_, ?_, (soundAccess_lone h).congr hport, halone.onlyPorts.trans ⟨reserving_rest _ _ _⟩, hresv, hwindow hhold⟩
  rw [stepOp_placed h (by rw [hop]; decide) (by rw [hop]; decide), if_neg (by rw [hop]; decide), if_pos hop]
  exact runRload_owned halone.ops hfenced hmem hcache ((halone.same (fun v => lineOwned v r.port (x.pa / 64)) rfl).trans howned)

/-- R208, R211: a reserved load on an owned line. -/
theorem exec_portRload_owned (h : SoundAccess r x s) (hop : atOp r.attr = opRload) (howned : lineOwned s r.port (x.pa / 64) = true)
    (hpoison : nearPoison s (atCtx r.attr) (x.pa / 64) = false) :
    ∃ t, exec (.portRload r .clean) s = .next t ∧ Responds r .ok false (namedBytes r (granuleData s (atCtx r.attr) x.keySlot (x.pa / 64))) s t ∧
      tget none (getPort t r.port).resv (atStream r.attr) = some ⟨x.pa / 64, atCtx r.attr⟩ ∧ (getPort t r.port).hold = [(x.pa / 64, atStream r.attr)] ∧
      OnlyRead s t := by
  obtain ⟨w, hstep, hlone, hw, hresv, hhold⟩ := stepOp_rload h hop howned
  have hcstore : isCstore (placedEntry r x s) = false := by
    simp [isCstore, show opCode (placedEntry r x s) = atOp r.attr from rfl, hop, opRload, opCstore]
  obtain ⟨d, hd, hperformed, honly, hout, hresv', hhold'⟩ := bindLoad_alone hlone rfl rfl hcstore
    ((hw.same (fun v => nearPoison v (atCtx r.attr) (x.pa / 64)) rfl).trans hpoison)
  have hdata : d = namedBytes r (granuleData s (atCtx r.attr) x.keySlot (x.pa / 64)) :=
    hd.trans (congrArg (namedBytes r) (hw.same (fun v => granuleData v (atCtx r.attr) x.keySlot (x.pa / 64)) rfl))
  generalize bindLoad r.port (placedEntry r x s) w = u at hstep hperformed honly hout hresv' hhold'
  have hu := onlyRead_trans hw.onlyRead honly
  obtain ⟨t, hdone, hsends⟩ := done_portRequest (soundAccess_free h) (soundAccess_ok h) hstep hperformed
    ((congrArg State.acts hu :).trans (soundAccess_quiet h))
  have hresponds := hsends.responds rfl (hout.trans (hw.same State.out rfl))
  rw [hdata] at hresponds
  refine ⟨t, hdone, hresponds, ?_, ?_, onlyRead_trans hu hsends.onlyRead⟩
  · rw [hsends.port]
    exact (congrArg (fun y => tget none y (atStream r.attr)) hresv' :).trans hresv
  · rw [hsends.port]
    exact hhold'.trans hhold

end

end Sys2Proof.Machine
end

section
namespace Sys2Proof.Machine

section
variable {r : CoreReq} {x : Extent} {s : State}

/-- A quiet storage is still quiet where the access is performed. -/
theorem quietStorage_congr {s t : State} (h : QuietStorage s) (hmem : t.mem = s.mem) (hcoh : t.coh = s.coh) : QuietStorage t := by
  rwa [QuietStorage, hmem, hcoh]

/-- A write into its owned line performs a lone entry. -/
structure PerformsWrite (p : Nat) (o : PortOp) (a : Answer) (d : Line) (m : Word) (s t : State) : Prop where
  performed : Performed p (finished o a) a t
  beside : writeAside s t = s
  ctr : ∀ i j, (∀ k < 256, okey i j ≠ okey 0x3800 k) → ctr t i j = ctr s i j
  only : OnlyGranule (opGranule o) (lineByte (mergeLine (granuleData s (opCtx o) o.keySlot (opGranule o)) d m)) s t
  cleared : isCstore o = true → tget none (getPort t p).resv (opStream o) = none

theorem onlyGranule_of_mem {g : Nat} {d : Nat → Byte} {s t u : State} (h : OnlyGranule g d s t) (hmem : u.mem = t.mem) : OnlyGranule g d s u := by
  obtain ⟨hinside, houtside⟩ := h
  have hbyte (a : Nat) : byteAt u a = byteAt t a := by rw [byteAt, hmem, byteAt]
  exact ⟨fun i hi => (hbyte _).trans (hinside i hi), fun a ha => (hbyte a).trans (houtside a ha)⟩

theorem onlyGranule_from {g : Nat} {d : Nat → Byte} {s t u : State} (h : OnlyGranule g d t u) (hmem : t.mem = s.mem) : OnlyGranule g d s u := by
  obtain ⟨hinside, houtside⟩ := h
  exact ⟨hinside, fun a ha => (houtside a ha).trans (by rw [byteAt, hmem, byteAt])⟩

theorem performsWrite {p : Nat} {o : PortOp} {s : State} (h : LoneEntry p o s) (hanswer : o.answer = none) (hquiet : QuietStorage s)
    (hmem : target o.pa = .stacks ∨ target o.pa = .scratch) (hline : target o.pa = .stacks → target (o.pa / 64 / 4 * 256) ≠ .host) (b : Line) (d : Line) (m : Word) :
    PerformsWrite p o ⟨.ok, false, b⟩ d m s (finishOp p o.id .ok false b (writeOwned p o d m s)) := by
  obtain ⟨hbeside, hport, hctr, honly⟩ := writesOwned hquiet hmem hline d m (p := p)
  generalize writeOwned p o d m s = w at hbeside hport hctr honly ⊢
  have hlone := h.congr hport
  have hfinish := finishOp_ok hlone.ops hanswer false b
  have hperformed := performed_finishOp hlone hanswer false b
  generalize finishOp p o.id .ok false b w = u at hfinish hperformed ⊢
  refine ⟨hperformed, ?_, fun i j hij => ?_, onlyGranule_of_mem honly (hfinish.same State.mem rfl), fun hc => ?_⟩
  · exact (congrArg (writeAside s) hfinish.rest :).trans hbeside
  · exact (hfinish.same (fun v => Machine.ctr v i j) rfl).trans (hctr i j hij)
  · rw [hfinish.port, if_pos hc]
    exact tget_tset_same _ _ _ _

/-- The stream's reservation and its run of failures end with a conditional store that takes place (R210, R212). -/
def storing (p : Nat) (o : PortOp) (s : State) : State :=
  count 0x3880 5 (modPort p (fun x => { x with fails := tset none x.fails (opStream o) none })
    (modPort p (fun x => { x with resv := tset none x.resv (opStream o) none }) s))

theorem storing_port (p : Nat) (o : PortOp) (s : State) : withoutStreams (getPort (storing p o s) p) = withoutStreams (getPort s p) := by
  rw [storing, getPort_count, getPort_modPort, if_pos rfl, getPort_modPort, if_pos rfl]
  rfl

theorem onlyPorts_storing (p : Nat) (o : PortOp) (s : State) : OnlyPorts s (storing p o s) :=
  ((portBecomes_modPort p _ s).onlyPorts.trans (portBecomes_modPort p _ _).onlyPorts).trans (onlyPorts_count _ _ _)

/-- A conditional store under its stream's reservation takes place. -/
theorem runCstore_reserved {p : Nat} {o : PortOp} {v : State} (hfenced : (getPort v p).nearFenced = false) (hhold : (getPort v p).hold = [])
    (hresv : tget none (getPort v p).resv (opStream o) = some ⟨opGranule o, opCtx o⟩) (howned : lineOwned v p (opGranule o) = true) :
    runCstore p o v = finishOp p o.id .ok false 0 (writeOwned p o o.req.data o.req.mask (storing p o v)) := by
  have hheld : heldByWindow (modPort p (fun x => { x with resv := tset none x.resv (opStream o) none }) v) p o = false := by
    rw [heldByWindow, getPort_modPort, if_pos rfl]
    simp [hhold]
  unfold runCstore
  dsimp only
  simp only [hfenced, Bool.false_eq_true, if_false, hresv, howned, decide_true, Bool.and_self, hheld, Bool.and_false, if_true]
  rfl

/-- A conditional store that fails is the `n`-th in a row of its stream on the granule (R212). -/
def storeFailing (p n : Nat) (o : PortOp) (s : State) : State :=
  count 0x3880 6 (modPort p (fun x => { x with fails := tset none x.fails (opStream o) (some (opGranule o, n)) })
    (modPort p (fun x => { x with resv := tset none x.resv (opStream o) none }) s))

theorem storeFailing_port (p n : Nat) (o : PortOp) (s : State) : withoutStreams (getPort (storeFailing p n o s) p) = withoutStreams (getPort s p) := by
  rw [storeFailing, getPort_count, getPort_modPort, if_pos rfl, getPort_modPort, if_pos rfl]
  rfl

theorem onlyPorts_storeFailing (p n : Nat) (o : PortOp) (s : State) : OnlyPorts s (storeFailing p n o s) :=
  ((portBecomes_modPort p _ s).onlyPorts.trans (portBecomes_modPort p _ _).onlyPorts).trans (onlyPorts_count _ _ _)

/-- A conditional store of a stream without a reservation fails (R210). -/
theorem runCstore_unreserved {p : Nat} {o : PortOp} {v : State} (hfenced : (getPort v p).nearFenced = false)
    (hresv : tget none (getPort v p).resv (opStream o) = none) : ∃ n, runCstore p o v = finishOp p o.id .ok true 0 (storeFailing p n o v) := by
  unfold runCstore
  dsimp only
  simp only [hfenced, Bool.false_eq_true, if_false, hresv, Bool.false_and]
  exact ⟨_, rfl⟩

theorem placedEntry_cstore (x : Extent) (s : State) (hop : atOp r.attr = opCstore) : isCstore (placedEntry r x s) = true := by
  simp [isCstore, show opCode (placedEntry r x s) = atOp r.attr from rfl, show (placedEntry r x s).what = .mem from rfl, hop]

theorem stepOp_cstore (h : SoundAccess r x s) (hop : atOp r.attr = opCstore) :
    stepOp r.port (enterOp .mem r s) (entryOf r s).id = runCstore r.port (placedEntry r x s) (accessPlaced r x s) := by
  rw [stepOp_placed h (by rw [hop]; decide) (by rw [hop]; decide), hop]
  rfl

/-- The counters of the core ports are none of the caches'. -/
theorem okey_ports_ne_cache {j : Nat} (hj : j < 256) (k : Nat) (hk : k < 256) : okey 0x3880 j ≠ okey 0x3800 k := by
  unfold okey
  omega

/-- The stream's reservation, or its absence, as the access finds it. -/
theorem accessPlaced_resv (h : SoundAccess r x s) {v : Option Reservation} (hv : tget none (getPort s r.port).resv (atStream r.attr) = v)
    (hctx : ∀ y, v = some y → y.ctx = atCtx r.attr) : tget none (getPort (accessPlaced r x s) r.port).resv (atStream r.attr) = v := by
  rw [soundAccess_resv h fun y hy => hctx y (hv.symm.trans hy), hv]

/-- A conditional store under its stream's reservation is performed in the owned line. -/
theorem stepOp_cstore_reserved (h : SoundAccess r x s) (hop : atOp r.attr = opCstore) (howned : lineOwned s r.port (x.pa / 64) = true)
    (hresv : tget none (getPort s r.port).resv (atStream r.attr) = some ⟨x.pa / 64, atCtx r.attr⟩) :
    ∃ w, stepOp r.port (enterOp .mem r s) (entryOf r s).id =
        finishOp r.port (placedEntry r x s).id .ok false 0 (writeOwned r.port (placedEntry r x s) r.data r.mask w) ∧
      LoneEntry r.port (placedEntry r x s) w ∧ OnlyPorts s w ∧ ctr w 0x3880 5 = ctr s 0x3880 5 + 1 := by
  have halone := soundAccess_placed h
  obtain ⟨hfenced, hhold, -⟩ := accessPlaced_port h
  refine ⟨_, ?_, (soundAccess_lone h).congr (storing_port r.port (placedEntry r x s) (accessPlaced r x s)), halone.onlyPorts.trans (onlyPorts_storing _ _ _), ?_⟩
  · rw [stepOp_cstore h hop]
    exact runCstore_reserved hfenced hhold (accessPlaced_resv h hresv fun y hy => by cases hy; rfl)
      ((halone.same (fun v => lineOwned v r.port (x.pa / 64)) rfl).trans howned)
  · rw [storing, ctr_count_same, ctr_modPort, ctr_modPort, halone.same (fun v => ctr v 0x3880 5) rfl]

/-- A sound access whose step ends with a write into its owned line. -/
theorem done_writesOwned {w : State} {b d : Line} {m : Word} (h : SoundAccess r x s) (hquiet : QuietStorage w)
    (hstep : stepOp r.port (enterOp .mem r s) (entryOf r s).id =
      finishOp r.port (placedEntry r x s).id .ok false b (writeOwned r.port (placedEntry r x s) d m w))
    (hlone : LoneEntry r.port (placedEntry r x s) w) (hacts : w.acts = []) (hout : w.out = s.out) :
    ∃ u t, done (onFab (portRequest r .clean) s) = .next t ∧ PerformsWrite r.port (placedEntry r x s) ⟨.ok, false, b⟩ d m w u ∧
      Sends r.port (finished (placedEntry r x s) ⟨.ok, false, b⟩) ⟨.ok, false, b⟩ u t ∧ Responds r .ok false b s t ∧ t.objs = w.objs ∧
      OnlyGranule (x.pa / 64) (lineByte (mergeLine (granuleData w (atCtx r.attr) x.keySlot (x.pa / 64)) d m)) w t := by
  obtain ⟨hmem, -⟩ := soundAccess_memory h
  have hwrite := performsWrite hlone rfl hquiet hmem (soundAccess_line h) b d m
  generalize finishOp r.port (placedEntry r x s).id .ok false b _ = u at hstep hwrite
  obtain ⟨t, hdone, hsends⟩ := done_portRequest (soundAccess_free h) (soundAccess_ok h) hstep hwrite.performed ((congrArg State.acts hwrite.beside :).trans hacts)
  exact ⟨u, t, hdone, hwrite, hsends, hsends.responds rfl ((congrArg State.out hwrite.beside :).trans hout),
    (hsends.same State.objs rfl).trans (congrArg State.objs hwrite.beside :), onlyGranule_of_mem hwrite.only (hsends.same State.mem rfl)⟩

/-- R210: a conditional store under its stream's reservation writes its bytes into the owned line. -/
theorem exec_portCstore_reserved (h : SoundAccess r x s) (hop : atOp r.attr = opCstore) (howned : lineOwned s r.port (x.pa / 64) = true) (hquiet : QuietStorage s)
    (hresv : tget none (getPort s r.port).resv (atStream r.attr) = some ⟨x.pa / 64, atCtx r.attr⟩) :
    ∃ t, exec (.portCstore r .clean) s = .next t ∧ Responds r .ok false 0 s t ∧
      OnlyGranule (x.pa / 64) (lineByte (mergeLine (granuleData s (atCtx r.attr) x.keySlot (x.pa / 64)) r.data r.mask)) s t ∧
      tget none (getPort t r.port).resv (atStream r.attr) = none ∧ ctr t 0x3880 5 = ctr s 0x3880 5 + 1 ∧ t.objs = s.objs := by
  obtain ⟨w, hstep, hlone, hw, hcount⟩ := stepOp_cstore_reserved h hop howned hresv
  obtain ⟨u, t, hdone, hwrite, hsends, hresponds, hobjs, honly⟩ := done_writesOwned h (quietStorage_congr hquiet (hw.same State.mem rfl) (hw.same State.coh rfl)) hstep
    hlone ((hw.same State.acts rfl).trans (soundAccess_quiet h)) (hw.same State.out rfl)
  rw [hw.same (fun v => granuleData v (atCtx r.attr) x.keySlot (x.pa / 64)) rfl] at honly
  refine ⟨t, hdone, hresponds, onlyGranule_from honly (hw.same State.mem rfl), ?_, ?_, hobjs.trans (hw.same State.objs rfl)⟩
  · rw [hsends.port]
    exact hwrite.cleared (placedEntry_cstore x s hop)
  · rw [hsends.same (fun v => ctr v 0x3880 5) rfl, hwrite.ctr _ _ (okey_ports_ne_cache (by decide)), hcount]

/-- A request that ends OK with nothing changed but the ports and counters. -/
theorem done_finishes {o : PortOp} {sc : Bool} {d : Line} {w : State} (h : CorePortFree r.port s) (hok : reqMalformed r = false) (hreq : o.req = r)
    (hanswer : o.answer = none) (hstep : stepOp r.port (enterOp .mem r s) (entryOf r s).id = finishOp r.port o.id .ok sc d w) (hlone : LoneEntry r.port o w)
    (hw : OnlyPorts s w) :
    ∃ t, done (onFab (portRequest r .clean) s) = .next t ∧ Responds r .ok sc d s t ∧ (getPort t r.port).ops = [] ∧
      (isCstore o = true → tget none (getPort t r.port).resv (opStream o) = none) ∧ (∀ i j, ctr t i j = ctr w i j) ∧
      { t with out := s.out, ports := s.ports, ctrs := s.ctrs, wraps := s.wraps } = s := by
  have hfinish := finishOp_ok hlone.ops hanswer sc d
  have hperformed := performed_finishOp hlone hanswer sc d
  generalize finishOp r.port o.id .ok sc d w = u at hstep hfinish hperformed
  have hu : OnlyPorts s u := hw.trans hfinish.onlyPorts
  obtain ⟨-, hacts, -⟩ := id h
  obtain ⟨t, hdone, hsends⟩ := done_portRequest h hok hstep hperformed ((hu.same State.acts rfl).trans hacts)
  refine ⟨t, hdone, hsends.responds hreq (hu.same State.out rfl), hsends.ops, fun hc => ?_,
    fun i j => (hsends.same (fun v => ctr v i j) rfl).trans (hfinish.same (fun v => ctr v i j) rfl), hsends.onlyPorts hu⟩
  rw [hsends.port, hfinish.port, if_pos hc]
  exact tget_tset_same _ _ _ _

/-- A conditional store of a stream without a reservation ends as failed. -/
theorem stepOp_cstore_unreserved (h : SoundAccess r x s) (hop : atOp r.attr = opCstore) (hresv : tget none (getPort s r.port).resv (atStream r.attr) = none) :
    ∃ w, stepOp r.port (enterOp .mem r s) (entryOf r s).id = finishOp r.port (placedEntry r x s).id .ok true 0 w ∧
      LoneEntry r.port (placedEntry r x s) w ∧ OnlyPorts s w ∧ ctr w 0x3880 6 = ctr s 0x3880 6 + 1 := by
  have halone := soundAccess_placed h
  obtain ⟨hfenced, -, -⟩ := accessPlaced_port h
  obtain ⟨n, hrun⟩ := runCstore_unreserved (o := placedEntry r x s) hfenced (accessPlaced_resv h hresv nofun)
  refine ⟨_, (stepOp_cstore h hop).trans hrun, (soundAccess_lone h).congr (storeFailing_port _ n _ _), halone.onlyPorts.trans (onlyPorts_storeFailing _ n _ _), ?_⟩
  rw [storeFailing, ctr_count_same, ctr_modPort, ctr_modPort, halone.same (fun v => ctr v 0x3880 6) rfl]

/-- R210: a conditional store of a stream without a reservation writes nothing. -/
theorem exec_portCstore_unreserved (h : SoundAccess r x s) (hop : atOp r.attr = opCstore) (hresv : tget none (getPort s r.port).resv (atStream r.attr) = none) :
    ∃ t, exec (.portCstore r .clean) s = .next t ∧ Responds r .ok true 0 s t ∧ tget none (getPort t r.port).resv (atStream r.attr) = none ∧
      ctr t 0x3880 6 = ctr s 0x3880 6 + 1 ∧ { t with out := s.out, ports := s.ports, ctrs := s.ctrs, wraps := s.wraps } = s := by
  obtain ⟨w, hstep, hlone, hw, hcount⟩ := stepOp_cstore_unreserved h hop hresv
  obtain ⟨t, hdone, hresponds, -, hcleared, hctr, hrest⟩ := done_finishes (soundAccess_free h) (soundAccess_ok h) rfl rfl hstep hlone hw
  exact ⟨t, hdone, hresponds, hcleared (placedEntry_cstore x s hop), (hctr 0x3880 6).trans hcount, hrest⟩

/-- An atomic on an owned line, whose granule is not poisoned, takes place there (R207). -/
theorem runAtomic_owned {p : Nat} {o : PortOp} {v : State} (hfenced : (getPort v p).nearFenced = false) (hhold : (getPort v p).hold = [])
    (hdeferred : (getPort v p).deferred = []) (hmem : target o.pa = .stacks ∨ target o.pa = .scratch) (hcache : o.cache ≠ 2)
    (hpair : opLen o = 16 → atAop o.req.attr ≤ 1) (howned : lineOwned v p (opGranule o) = true) (hpoison : nearPoison v (opCtx o) (opGranule o) = false) :
    runAtomic p o v = finishOp p o.id .ok false (namedBytes o.req (granuleData v (opCtx o) o.keySlot (opGranule o)))
      (writeOwned p o (atomicLine (atAop o.req.attr) (opLen o) (reqOff o.req) (granuleData v (opCtx o) o.keySlot (opGranule o)) o.req.data) o.req.mask
        (noteUse (opCtx o) o.keySlot (opGranule o) v)) := by
  have hallowed : atomicAllowed o = true := by
    unfold atomicAllowed
    dsimp only
    rcases hmem with h | h <;> rw [h] <;> simp [hcache] <;> omega
  have hpath : pathOf v p o = .line := by
    unfold pathOf
    rcases hmem with h | h <;> rw [h] <;> simp [hcache, hfenced]
  have hwindow : heldByWindow v p o = false := by simp [heldByWindow, hhold]
  have hsnoop : heldBySnoop v p o = false := by simp [heldBySnoop, hdeferred]
  unfold runAtomic
  rw [hallowed, hpath]
  dsimp only
  rw [hwindow, hsnoop, howned, hpoison]
  rfl

/-- A sound atomic on an owned line is performed in it. -/
theorem stepOp_atomic_owned (h : SoundAccess r x s) (hop : atOp r.attr = opAtomic) (hpair : reqLen r = 16 → atAop r.attr ≤ 1)
    (howned : lineOwned s r.port (x.pa / 64) = true) (hpoison : nearPoison s (atCtx r.attr) (x.pa / 64) = false) :
    ∃ old w, old = granuleData s (atCtx r.attr) x.keySlot (x.pa / 64) ∧ stepOp r.port (enterOp .mem r s) (entryOf r s).id =
        finishOp r.port (placedEntry r x s).id .ok false (namedBytes r old)
          (writeOwned r.port (placedEntry r x s) (atomicLine (atAop r.attr) (reqLen r) (reqOff r) old r.data) r.mask w) ∧
      LoneEntry r.port (placedEntry r x s) w ∧ OnlyRead s w ∧ w.out = s.out := by
  have halone := soundAccess_placed h
  obtain ⟨hfenced, hhold, hdeferred⟩ := accessPlaced_port h
  obtain ⟨hmem, hcache⟩ := soundAccess_memory h
  have hstep : stepOp r.port (enterOp .mem r s) (entryOf r s).id = runAtomic r.port (placedEntry r x s) (accessPlaced r x s) := by
    rw [stepOp_placed h (by rw [hop]; decide) (by rw [hop]; decide), hop]
    rfl
  have huse := noteUse_rest (atCtx r.attr) x.keySlot (x.pa / 64) (accessPlaced r x s)
  refine ⟨_, _, halone.same (fun v => granuleData v (atCtx r.attr) x.keySlot (x.pa / 64)) rfl, hstep.trans (runAtomic_owned hfenced hhold hdeferred hmem hcache hpair
    ((halone.same (fun v => lineOwned v r.port (x.pa / 64)) rfl).trans howned) ((halone.same (fun v => nearPoison v (atCtx r.attr) (x.pa / 64)) rfl).trans hpoison)),
    (soundAccess_lone h).of_ports (congrArg State.ports huse :), ?_, (congrArg State.out huse :).trans (halone.same State.out rfl)⟩
  exact onlyRead_trans halone.onlyRead (congrArg (asBeforeRead (accessPlaced r x s)) huse :)

/-- R207: an atomic on an owned line returns the old bytes and stores the new. -/
theorem exec_portAtomic_owned (h : SoundAccess r x s) (hop : atOp r.attr = opAtomic) (hpair : reqLen r = 16 → atAop r.attr ≤ 1)
    (howned : lineOwned s r.port (x.pa / 64) = true) (hpoison : nearPoison s (atCtx r.attr) (x.pa / 64) = false) (hquiet : QuietStorage s) :
    ∃ t, exec (.portAtomic r .clean) s = .next t ∧ Responds r .ok false (namedBytes r (granuleData s (atCtx r.attr) x.keySlot (x.pa / 64))) s t ∧
      (∀ i, i < 64 → maskBit r.mask i = true → byteAt t (x.pa / 64 * 64 + i) =
        lineByte (atomicLine (atAop r.attr) (reqLen r) (reqOff r) (granuleData s (atCtx r.attr) x.keySlot (x.pa / 64)) r.data) i) ∧
      (∀ a, a < x.pa / 64 * 64 ∨ x.pa / 64 * 64 + 64 ≤ a → byteAt t a = byteAt s a) ∧ t.objs = s.objs := by
  obtain ⟨old, w, hold, hstep, hlone, hw, hout⟩ := stepOp_atomic_owned h hop hpair howned hpoison
  have hmemory : w.mem = s.mem := (congrArg State.mem hw :)
  obtain ⟨u, t, hdone, -, -, hresponds, hobjs, honly⟩ := done_writesOwned h (quietStorage_congr hquiet hmemory (congrArg State.coh hw :)) hstep hlone
    ((congrArg State.acts hw :).trans (soundAccess_quiet h)) hout
  obtain ⟨hinside, houtside⟩ := onlyGranule_from honly hmemory
  rw [← hold]
  refine ⟨t, hdone, hresponds, fun i hi hmask => ?_, houtside, hobjs.trans (congrArg State.objs hw :)⟩
  rw [hinside i hi, lineByte_mergeLine _ _ _ hi, if_pos hmask]

end

end Sys2Proof.Machine
end

section
namespace Sys2Proof.Machine

/-! ### Hold windows, barriers and completions of CXL.io (R207, R209, R216) -/

/-- R211: the end of the oldest hold window by time. -/
theorem exec_holdWindowExpiry_oldest {p : PortId} {w : Nat × Nat} {rest : List (Nat × Nat)} {s : State} (hfab : fabOn s = true) (hacts : s.acts = [])
    (hops : (getPort s p).ops = []) (hdeferred : (getPort s p).deferred = []) (hhold : (getPort s p).hold = w :: rest) :
    ∃ t, exec (.holdWindowExpiry p) s = .next t ∧ (getPort t p).hold = rest ∧ tget none (getPort t p).resv w.2 = none ∧
      ctr t 0x3880 8 = ctr s 0x3880 8 + 1 ∧ { t with ports := s.ports, ctrs := s.ctrs, wraps := s.wraps } = s := by
  have hends := portBecomes_modPort p (fun x => { x with hold := rest, resv := tset none x.resv w.2 none }) s
  have hexpires : holdExpires p s = owe (.pump p) (serveDeferred p (count 0x3880 8
      (modPort p (fun x => { x with hold := rest, resv := tset none x.resv w.2 none }) s))) := by
    rw [holdExpires, hhold]
  generalize modPort p (fun x => { x with hold := rest, resv := tset none x.resv w.2 none }) s = v at hends hexpires
  have hport : getPort (count 0x3880 8 v) p = { getPort s p with hold := rest, resv := tset none (getPort s p).resv w.2 none } := hends.port
  have hv : OnlyPorts s (count 0x3880 8 v) := hends.onlyPorts.trans (onlyPorts_count _ _ v)
  have hcount : ctr (count 0x3880 8 v) 0x3880 8 = ctr s 0x3880 8 + 1 := by rw [ctr_count_same, hends.same (fun x => ctr x 0x3880 8) rfl]
  rw [serveDeferred_none (by rw [hport]; exact hdeferred)] at hexpires
  generalize count 0x3880 8 v = u at hport hv hcount hexpires
  have hquiet : u.acts = [] := (hv.same State.acts rfl).trans hacts
  have hidle := settleN_pump_idle (p := p) (n := 999999) (s := owe (.pump p) u) (congrArg (· ++ [Act.pump p]) hquiet :)
    (by rw [getPort_owe, hport]; exact hops) (by rw [getPort_owe, hport]; exact hdeferred)
  rw [getPort_owe, hport, show ({ owe (.pump p) u with acts := [] } : State) = u from withoutActs_of_quiet hquiet] at hidle
  have hdone : done (onFab (holdExpires p) s) = .next (settleN (999999 + 1) (owe (.pump p) u)) := by
    rw [onFab_run _ hfab, hexpires]
    rfl
  refine ⟨_, hdone, by rw [hidle.port], by rw [hidle.port]; exact tget_tset_same _ _ _ _, ?_, (hv.trans hidle.onlyPorts).rest⟩
  rw [hidle.same (fun x => ctr x 0x3880 8) rfl, hcount]

/-- A barrier that is alone in its port completes (R216). -/
theorem runBarrier_alone {p : Nat} {o : PortOp} {v : State} (hops : (getPort v p).ops = [o]) (hseen : (getPort v p).seen = []) (hlost : (getPort v p).lost = []) :
    ∃ w, runBarrier p o v = finishOp p o.id .ok false 0 w ∧ withoutStreams (getPort w p) = withoutStreams (getPort v p) ∧ OnlyPorts v w ∧
      ctr w 0x3880 2 = ctr v 0x3880 2 + 1 := by
  have hmod := portBecomes_modPort p (fun x => { x with lost := x.lost.filter fun y => !(y.1 < o.id && y.2.1 = opStream o && y.2.2.1 ≤ o.scope && o.kind ≠ 0) })
    (count 0x3880 2 v)
  refine ⟨_, ?_, ?_, (onlyPorts_count 0x3880 2 v).trans hmod.onlyPorts, ?_⟩
  · have holder : olderOf v p o = [] := by simp [olderOf, opsOf, hops]
    have hwaits : waitsSeen v p o = false := by simp [waitsSeen, hseen]
    unfold runBarrier
    simp only [holder, List.filter_nil, List.all_nil, hwaits, Bool.not_false, Bool.and_self, if_true, hlost, List.map_nil]
    rfl
  · rw [hmod.port]
    rfl
  · rw [ctr_modPort, ctr_count_same]

section
variable {r : CoreReq} {s : State}

/-- R216: a barrier with nothing before it. -/
theorem exec_portBarrier_alone (h : CorePortFree r.port s) (hok : reqMalformed r = false) (hop : atOp r.attr = opBarrier) :
    ∃ t, exec (.portBarrier r) s = .next t ∧ Responds r .ok false 0 s t ∧ (getPort t r.port).ops = [] ∧ ctr t 0x3880 2 = ctr s 0x3880 2 + 1 ∧
      { t with out := s.out, ports := s.ports, ctrs := s.ctrs, wraps := s.wraps } = s := by
  obtain ⟨-, -, hops, -, -, hlost, hhold, hseen, -⟩ := id h
  have halone := alone_enterOp hops hhold
  have hbarrier : isBarrier (entryOf r s) = true := by
    simp [isBarrier, show opCode (entryOf r s) = atOp r.attr from rfl, show (entryOf r s).what = .mem from rfl, hop]
  obtain ⟨w, hrun, hport, hw, hcount⟩ := runBarrier_alone halone.ops ((congrArg Port.seen halone.beside :).trans hseen)
    ((congrArg Port.lost halone.beside :).trans hlost)
  have hstep : stepOp r.port (enterOp .mem r s) (entryOf r s).id = finishOp r.port (entryOf r s).id .ok false 0 w := by
    rw [← hrun, stepOp, findOp_single halone.ops rfl]
    simp only [show (entryOf r s).phase = .start from rfl, show (entryOf r s).what = .mem from rfl, hbarrier, if_true]
  obtain ⟨t, hdone, hresponds, hempty, -, hctr, hrest⟩ := done_finishes h hok rfl rfl hstep ((halone.lone h rfl rfl ⟨rfl, rfl⟩).congr hport)
    (halone.onlyPorts.trans hw)
  refine ⟨t, hdone, hresponds, hempty, ?_, hrest⟩
  rw [hctr, hcount, halone.same (fun v => ctr v 0x3880 2) rfl]

end

/-- An entry that is performed is not taken any further. -/
theorem stepOp_finished {p : Nat} {o : PortOp} {s : State} (hops : (getPort s p).ops = [o]) (hphase : o.phase = .finished) : stepOp p s o.id = s := by
  rw [stepOp, findOp_single hops rfl]
  simp only [hphase]

/-- The use of a host port changes nothing in what its write queue answers (R195). -/
theorem underQueue_modHost {k g : Nat} {f : HostPort → HostPort} {d : Line} {s : State} (hf : ∀ x, (f x).wqueue = x.wqueue) :
    underQueue (modHost k f s) g d = underQueue s g d := by
  have hqueue (j : Nat) : (getHost (modHost k f s) j).wqueue = (getHost s j).wqueue := by
    rw [getHost_modHost]
    split
    next hj => rw [hf, hj]
    next => rfl
  simp only [underQueue, queueExt, hqueue]

/-- R207: a completion of CXL.io performs the entry that waits for it. -/
theorem ioReturns_waiting {p : Nat} {o : PortOp} {s : State} (hops : (getPort s p).ops = [o]) (hphase : o.phase = .io) (hup : hostUp s (hostPortOf s o.pa) = true)
    (d : Line) : ∃ w, ioReturns p o.id d false s =
        owe (.pump p) (finishOp p o.id .ok false (namedBytes o.req (if opCode o = opAtomic then d else underQueue s (o.pa / 64) d)) w) ∧
      w.ports = s.ports ∧ { w with hosts := s.hosts } = s := by
  unfold ioReturns
  rw [findOp_single hops rfl]
  dsimp only
  rw [if_neg (by simp [hphase, hup]), if_neg Bool.false_ne_true, underQueue_modHost (f := fun h => { h with lastUse := s.aoncnt, link := if h.link = 4 then 2 else h.link }) fun _ => rfl]
  exact ⟨_, rfl, rfl, rfl⟩

theorem exec_cxlIoCompletion_waiting {p : PortId} {o : PortOp} {s : State} (hfree : CorePortFree p { s with ports := tset {} s.ports p { getPort s p with ops := [] } })
    (hops : (getPort s p).ops = [o]) (hphase : o.phase = .io) (hwhat : o.what = .mem) (hanswer : o.answer = none) (hunsent : o.answered = false)
    (haway : o.need0 = 0 ∧ o.need1 = 0) (hup : hostUp s (hostPortOf s o.pa) = true) (d : Line) :
    ∃ t, exec (.cxlIoCompletion p o.id d false) s = .next t ∧ t.out = .core p (.response ⟨.ok, false,
        namedBytes o.req (if opCode o = opAtomic then d else underQueue s (o.pa / 64) d)⟩ (opStream o) o.req.tag) :: s.out ∧
      (getPort t p).ops = [] ∧ { t with out := s.out, ports := s.ports, hosts := s.hosts } = s := by
  obtain ⟨hfab, hacts, -, hheld, hdeferred, -, -, -, hcredit, -⟩ := hfree
  rw [getPort, tget_tset_same] at hheld hdeferred hcredit
  replace hfab : fabOn s = true := hfab
  obtain ⟨w, hreturns, hports, hrest⟩ := ioReturns_waiting hops hphase hup d
  have hlone : LoneEntry p o w := LoneEntry.of_ports (s := s) ⟨hops, hwhat, hunsent, haway, hheld, hcredit, hdeferred⟩ hports
  generalize (if opCode o = opAtomic then d else underQueue s (o.pa / 64) d) = b at hreturns ⊢
  have hfinish := finishOp_ok hlone.ops hanswer false (namedBytes o.req b)
  have hperformed := performed_finishOp hlone hanswer false (namedBytes o.req b)
  generalize finishOp p o.id .ok false (namedBytes o.req b) w = u at hreturns hfinish hperformed
  have hquiet : u.acts = [] := (hfinish.same State.acts rfl).trans ((congrArg State.acts hrest :).trans hacts)
  have hsends := sends_pumpEnds (n := 999998) hperformed hquiet
  have hdone : done (onFab (ioReturns p o.id d false) s) = .next (settleN 999999 (serveDeferred p (pumpEnds p u))) := by
    rw [onFab_run _ hfab, hreturns, done, settle_owe hquiet]
    refine congrArg (fun v => Host.Outcome.next (settleN 999999 (serveDeferred p v))) ((pump_single hperformed.ops).trans (congrArg (pumpEnds p) ?_))
    exact stepOp_finished hperformed.ops rfl
  refine ⟨_, hdone, ?_, hsends.ops, ?_⟩
  · rw [hsends.out, hfinish.same State.out rfl, show w.out = s.out from (congrArg State.out hrest :)]
    rfl
  · refine (congrArg (fun v : State => { v with out := s.out, ports := s.ports, hosts := s.hosts }) hsends.rest :).trans ?_
    refine (congrArg (fun v : State => { v with out := s.out, ports := s.ports, hosts := s.hosts }) hfinish.rest :).trans ?_
    exact (congrArg (fun v : State => { v with out := s.out, ports := s.ports }) hrest :)

end Sys2Proof.Machine
end

section
open Sys2Proof Sys2Proof.Machine

/-- Settles O39: the request is alone in its port, so that its entry is performed as it comes and its response leaves with the same command. -/
theorem reservationsAndAtomics : Obligations.ReservationsAndAtomics := by
  unfold Obligations.ReservationsAndAtomics
  refine ⟨?_, ?_, ?_, ?_, ?_, ?_, ?_⟩
  · intro s r x h hop howned hpoison
    obtain ⟨t, hexec, hresponds, hresv, hhold, honly⟩ := exec_portRload_owned h hop howned hpoison
    exact ⟨t, hexec, hresponds, hresv, hhold, (congrArg (fun v : State => v.mem.bytes) honly :), (congrArg State.coh honly :), (congrArg State.objs honly :)⟩
  · intro s r x h hop howned hquiet hresv
    exact exec_portCstore_reserved h hop howned hquiet hresv
  · intro s r x h hop hresv
    exact exec_portCstore_unreserved h hop hresv
  · intro s p w rest hfab hacts hops hdeferred hhold
    exact exec_holdWindowExpiry_oldest hfab hacts hops hdeferred hhold
  · intro s r x h hop hpair howned hpoison hquiet
    exact exec_portAtomic_owned h hop hpair howned hpoison hquiet
  · intro s r h hok hop
    exact exec_portBarrier_alone h hok hop
  · intro s p o d hfree hops hphase hwhat hanswer hunsent hneed0 hneed1 hup
    exact exec_cxlIoCompletion_waiting hfree hops hphase hwhat hanswer hunsent ⟨hneed0, hneed1⟩ hup d

end

section
namespace Sys2Proof.Machine

/-! ### The lines of a near cache (R209, R229) -/

/-- A table reads its default, or what one of its entries holds. -/
theorem tget_eq_default_or_mem {α : Type} (d : α) (m : Table α) (k : Nat) : tget d m k = d ∨ (k, tget d m k) ∈ m := by
  induction m with
  | nil => exact .inl rfl
  | cons x m ih =>
    obtain ⟨a, v⟩ := x
    by_cases ha : a = k
    · subst ha
      exact .inr (by simp [tget])
    · rw [tget, if_neg ha]
      exact ih.imp_right (List.mem_cons_of_mem _)

/-- R209: no stream keeps a reservation on a granule whose reservations were cleared. -/
theorem granule_ne_of_clearResv {p g k : Nat} {v : Reservation} {s : State} (h : tget none (getPort (clearResv p g none s) p).resv k = some v) : v.granule ≠ g := by
  rw [clearResv, getPort_modPort, if_pos rfl] at h
  rcases tget_eq_default_or_mem none _ k with hnone | hmem
  · exact absurd (hnone.symm.trans h) nofun
  · rw [h, tdrop, List.mem_filter] at hmem
    simpa using hmem.2

/-- A line that stays in its near cache changes its state and context alone. -/
theorem setNear_of_stays {p g : Nat} {l : NearLine} (h : l.st ≠ .i) (s : State) :
    setNear p g l s = { s with coh.near := tset {} s.coh.near (nearKey p g) l } := if_neg h

/-- A near line reads as it was set. -/
theorem getNear_setNear_same (p g : Nat) (l : NearLine) (s : State) : getNear (setNear p g l s) p g = l := by
  unfold setNear
  dsimp only
  split <;> exact tget_tset_same _ _ _ _

/-! ### A holder answers a snoop (Table 9.4) -/

/-- Each row of a snoop is the snoop's arrival. -/
theorem exec_snoop {p : PortId} {g q : Nat} {i : Instr} {k : SnpKind} (h : (i, k) ∈ [(.snpFwdS p g q, SnpKind.fwdS), (.snpFwdX p g q, .fwdX),
    (.snpGetS p g q, .getS), (.snpGetI p g q, .getI), (.snpCur p g q, .cur), (.snpInv p g q, .inv)]) (s : State) :
    exec i s = done (onFab (snoopArrives k p g q) s) := by
  simp only [List.mem_cons, Prod.mk.injEq, List.not_mem_nil, or_false] at h
  obtain ⟨rfl, rfl⟩ | ⟨rfl, rfl⟩ | ⟨rfl, rfl⟩ | ⟨rfl, rfl⟩ | ⟨rfl, rfl⟩ | ⟨rfl, rfl⟩ := h <;> rfl

section
variable {p g q : Nat} {l : NearLine} {s : State}

theorem holds_line (h : Holds p g l s) (m : Msg) : getNear (takeMsg m s) p g = l := by
  obtain ⟨-, -, hline, -⟩ := h
  exact hline

theorem snoopArrives_absent (h : Holds p g {} s) (k : SnpKind) (q : Nat) :
    snoopArrives k p g q s = sendMsg (.answer k p g false false false) (takeMsg (.snoop k p g q) s) := by
  obtain ⟨-, -, hline, hserves, hwb, -⟩ := h
  unfold snoopArrives
  dsimp only
  rw [if_neg (by rw [show getPort (takeMsg _ s) p = getPort s p from rfl, hserves]; exact Bool.false_ne_true),
    if_neg (by rw [List.contains_iff_mem]; exact hwb), if_pos (by rw [show getNear (takeMsg _ s) p g = {} from hline])]

/-- R231: a holder that serves, with no writeback of the line on its way and no hold window on it, acts at once. -/
theorem snoopArrives_held (h : Holds p g l s) (hl : l.st ≠ .i) (k : SnpKind) (q : Nat) :
    snoopArrives k p g q s = holderActs k p g q (takeMsg (.snoop k p g q) s) := by
  obtain ⟨-, -, hline, hserves, hwb, hhold⟩ := h
  unfold snoopArrives
  dsimp only
  rw [if_neg (by rw [show getPort (takeMsg _ s) p = getPort s p from rfl, hserves]; exact Bool.false_ne_true),
    if_neg (by rw [List.contains_iff_mem]; exact hwb), if_neg (by rw [show getNear (takeMsg _ s) p g = l from hline]; exact hl)]
  refine if_neg fun hany => ?_
  obtain ⟨w, hw, hg⟩ := List.any_eq_true.1 hany
  exact hhold w hw (of_decide_eq_true hg)

/-- What a holder does owes nothing and stores nothing. -/
theorem holderActs_rest (k : SnpKind) (p g q : Nat) (s : State) :
    (holderActs k p g q s).acts = s.acts ∧ (holderActs k p g q s).mem = s.mem := by
  have hset (l : NearLine) (st : State) : (setNear p g l st).acts = st.acts ∧ (setNear p g l st).mem = st.mem := by
    unfold setNear
    dsimp only
    split <;> exact ⟨rfl, rfl⟩
  have hforward (x : Grant) (c : Nat) : (forwardData g q x c s).acts = s.acts ∧ (forwardData g q x c s).mem = s.mem := by
    unfold forwardData
    dsimp only
    split <;> exact ⟨rfl, rfl⟩
  cases k with
  | fwdS => exact ⟨(hset _ _).1.trans (hforward _ _).1, (hset _ _).2.trans (hforward _ _).2⟩
  | fwdX => exact ⟨(hset _ _).1.trans (hforward _ _).1, (hset _ _).2.trans (hforward _ _).2⟩
  | getS => exact hset _ s
  | getI => exact hset _ s
  | cur => exact ⟨rfl, rfl⟩
  | inv => exact hset _ s

/-- The line has left the near cache, with the reservations on it. -/
def LineLeft (p g : Nat) (t : State) : Prop := (getNear t p g).st = .i ∧ ∀ k v, tget none (getPort t p).resv k = some v → v.granule ≠ g

theorem lineLeft_setNear (p g : Nat) (m : Msg) (s : State) : LineLeft p g (sendMsg m (setNear p g {} s)) :=
  ⟨congrArg NearLine.st (getNear_setNear_same p g {} s), fun _ _ h => granule_ne_of_clearResv h⟩

theorem holderActs_fwdS (h : getNear s p g = l) (q : Nat) : holderActs .fwdS p g q s =
    sendMsg (.answer .fwdS p g true (l.st = .m) false) (setNear p g { l with st := .s } (forwardData g q .f l.ctx s)) := by
  subst h
  rfl

theorem holderActs_fwdX (h : getNear s p g = l) (q : Nat) : holderActs .fwdX p g q s =
    sendMsg (.answer .fwdX p g true (l.st = .m) false) (setNear p g {} (forwardData g q (if l.st = .m then .m else .e) l.ctx s)) := by
  subst h
  simp only [holderActs]

theorem holderActs_getS (h : getNear s p g = l) (q : Nat) : holderActs .getS p g q s =
    sendMsg (.answer .getS p g true (l.st = .m) false) (setNear p g { l with st := .s } s) := by
  subst h
  rfl

theorem holderActs_getI (h : getNear s p g = l) (q : Nat) : holderActs .getI p g q s =
    sendMsg (.answer .getI p g true (l.st = .m) false) (setNear p g {} s) := by
  subst h
  rfl

theorem holderActs_cur (h : getNear s p g = l) (q : Nat) : holderActs .cur p g q s = sendMsg (.answer .cur p g true (l.st = .m) false) s := by
  subst h
  rfl

theorem holderActs_inv (p g q : Nat) (s : State) : holderActs .inv p g q s = sendMsg (.answer .inv p g false false false) (setNear p g {} s) := rfl

/-- A line forwarded without ownership leaves the requester's context field alone (R229). -/
theorem forwardData_shared (g q c : Nat) (s : State) : forwardData g q .f c s =
    sendMsg (.data q g .f (granuleData s (txnView s g).1 (txnView s g).2.1 g) (nearPoison s (txnView s g).1 g) true) s := rfl

/-- The data that a holder forwards, as the granule's open transaction reads it. -/
theorem forwardData_sends (g q : Nat) (x : Grant) (c : Nat) (s : State) :
    (forwardData g q x c s).coh.fabric = s.coh.fabric ++
      [.data q g x (granuleData s (txnView s g).1 (txnView s g).2.1 g) (nearPoison s (txnView s g).1 g) true] := by
  unfold forwardData
  dsimp only
  split <;> rfl

theorem setNear_fabric (p g : Nat) (l : NearLine) (s : State) : (setNear p g l s).coh.fabric = s.coh.fabric := by
  unfold setNear
  dsimp only
  split <;> rfl

end

section
variable {p : PortId} {g q : Nat} {l : NearLine} {s : State}

theorem exec_snoop_absent {i : Instr} {k : SnpKind} (hexec : exec i s = done (onFab (snoopArrives k p g q) s)) (h : Holds p g {} s) :
    exec i s = .next (sendMsg (.answer k p g false false false) (takeMsg (.snoop k p g q) s)) := by
  have harrives := snoopArrives_absent h k q
  obtain ⟨hfab, hacts, -⟩ := h
  rw [hexec, done_onFab hfab (harrives ▸ hacts), harrives]

theorem exec_snoop_held {i : Instr} {k : SnpKind} (hexec : exec i s = done (onFab (snoopArrives k p g q) s)) (h : Holds p g l s) (hl : l.st ≠ .i) :
    exec i s = .next (holderActs k p g q (takeMsg (.snoop k p g q) s)) := by
  have harrives := snoopArrives_held h hl k q
  obtain ⟨hfab, hacts, -⟩ := h
  rw [hexec, done_onFab hfab (by rw [harrives, (holderActs_rest _ _ _ _ _).1]; exact hacts), harrives]

end

end Sys2Proof.Machine
end

section
open Sys2Proof Sys2Proof.Machine

/-- Settles O50: a holder that serves acts on a snoop at once (`exec_snoop_held`), and the lemma on what it does for that snoop says the rest. -/
theorem holdersAnswerSnoops : Obligations.HoldersAnswerSnoops := by
  unfold Obligations.HoldersAnswerSnoops
  refine ⟨?_, ?_, ?_, ?_, ?_, ?_, ?_⟩
  · intro s p g q i k hi h
    exact ⟨_, exec_snoop_absent (exec_snoop hi s) h, rfl, rfl⟩
  · intro s p g q l h hl
    have hexec := exec_snoop_held (i := .snpFwdS p g q) (k := .fwdS) rfl h hl
    rw [holderActs_fwdS (holds_line h _), forwardData_shared, setNear_of_stays (by simp)] at hexec
    exact ⟨_, hexec, tget_tset_same _ _ _ _, List.mem_append_right _ (List.mem_singleton.2 rfl),
      List.mem_append_left _ (List.mem_append_right _ (List.mem_singleton.2 rfl)), rfl⟩
  · intro s p g q l h hl
    have hexec := exec_snoop_held (i := .snpFwdX p g q) (k := .fwdX) rfl h hl
    have hmem := (holderActs_rest .fwdX p g q (takeMsg (.snoop .fwdX p g q) s)).2
    rw [holderActs_fwdX (holds_line h _)] at hexec hmem
    have hleft := lineLeft_setNear p g (.answer .fwdX p g true (l.st = .m) false)
      (forwardData g q (if l.st = .m then .m else .e) l.ctx (takeMsg (.snoop .fwdX p g q) s))
    refine ⟨_, hexec, hleft.1, List.mem_append_right _ (List.mem_singleton.2 rfl), List.mem_append_left _ ?_, hleft.2, hmem⟩
    rw [setNear_fabric, forwardData_sends]
    exact List.mem_append_right _ (List.mem_singleton.2 rfl)
  · intro s p g q l h hl
    have hexec := exec_snoop_held (i := .snpGetS p g q) (k := .getS) rfl h hl
    rw [holderActs_getS (holds_line h _), setNear_of_stays (by simp)] at hexec
    exact ⟨_, hexec, tget_tset_same _ _ _ _, List.mem_append_right _ (List.mem_singleton.2 rfl), rfl⟩
  · intro s p g q l h hl
    have hexec := exec_snoop_held (i := .snpGetI p g q) (k := .getI) rfl h hl
    have hmem := (holderActs_rest .getI p g q (takeMsg (.snoop .getI p g q) s)).2
    rw [holderActs_getI (holds_line h _)] at hexec hmem
    have hleft := lineLeft_setNear p g (.answer .getI p g true (l.st = .m) false) (takeMsg (.snoop .getI p g q) s)
    exact ⟨_, hexec, hleft.1, List.mem_append_right _ (List.mem_singleton.2 rfl), hleft.2, hmem⟩
  · intro s p g q l h hl
    have hexec := exec_snoop_held (i := .snpCur p g q) (k := .cur) rfl h hl
    rw [holderActs_cur (holds_line h _)] at hexec
    exact ⟨_, hexec, List.mem_append_right _ (List.mem_singleton.2 rfl), rfl⟩
  · intro s p g q l h hl
    have hexec := exec_snoop_held (i := .snpInv p g q) (k := .inv) rfl h hl
    have hmem := (holderActs_rest .inv p g q (takeMsg (.snoop .inv p g q) s)).2
    rw [holderActs_inv] at hexec hmem
    have hleft := lineLeft_setNear p g (.answer .inv p g false false false) (takeMsg (.snoop .inv p g q) s)
    exact ⟨_, hexec, hleft.1, List.mem_append_right _ (List.mem_singleton.2 rfl), hleft.2, hmem⟩

end

section
namespace Sys2Proof.Machine

/-! ### What a home's work changes (R231 to R233) -/

/-- `t` with what the work of the homes on a granule of device memory changes taken from `s`: counters, the storage's wake times, free values, memory,
the courses' notes, the device cache, messages, the directory and the transactions. -/
def beforeHome (s t : State) : State :=
  { t with ctrs := s.ctrs, wraps := s.wraps, power := s.power, free := s.free, mem := s.mem, arrays := s.arrays,
           coh.dev := s.coh.dev, coh.lfsr := s.coh.lfsr, coh.through := s.coh.through, coh.fresh := s.coh.fresh,
           coh.fabric := s.coh.fabric, coh.dir := s.coh.dir, coh.txns := s.coh.txns }

/-- Nothing changed but those. -/
def HomeWorks (s t : State) : Prop := beforeHome s t = s

theorem HomeWorks.trans {s t u : State} (h : HomeWorks s t) (k : HomeWorks t u) : HomeWorks s u := (congrArg (beforeHome s) k).trans h

theorem Tends.homeWorks {s t : State} (h : Tends s t) : HomeWorks s t := (congrArg (beforeHome s) h :)

theorem HomeWorks.acts {s t : State} (h : HomeWorks s t) : t.acts = s.acts := (congrArg State.acts h :)
theorem HomeWorks.ports {s t : State} (h : HomeWorks s t) : t.ports = s.ports := (congrArg State.ports h :)
theorem HomeWorks.near {s t : State} (h : HomeWorks s t) : t.coh.near = s.coh.near := (congrArg (fun x : State => x.coh.near) h :)
theorem HomeWorks.queued {s t : State} (h : HomeWorks s t) : t.coh.queued = s.coh.queued := (congrArg (fun x : State => x.coh.queued) h :)
theorem HomeWorks.homeState {s t : State} (h : HomeWorks s t) : t.coh.homeState = s.coh.homeState := (congrArg (fun x : State => x.coh.homeState) h :)

theorem Looks.fabric {s t : State} (h : Looks s t) : t.coh.fabric = s.coh.fabric := (congrArg (fun x : State => x.coh.fabric) h.tends :)
theorem Looks.txns {s t : State} (h : Looks s t) : t.coh.txns = s.coh.txns := (congrArg (fun x : State => x.coh.txns) h.tends :)
theorem Looks.dir {s t : State} (h : Looks s t) : t.coh.dir = s.coh.dir := h.tends.dir
theorem Looks.poison {s t : State} (h : Looks s t) : t.mem.poison = s.mem.poison := (congrArg MemUnit.poison h.mem :)
theorem Looks.homeState {s t : State} (h : Looks s t) : t.coh.homeState = s.coh.homeState := h.tends.homeWorks.homeState

/-! ### The device cache holds at most one line, of the stacks (R221) -/

/-- A shingle of a line of the stacks (Table 9.2). -/
def ofStack (x : Shingle) : Prop := x = .i ∨ x = .v ∨ x = .d

/-- The device cache holds nothing but, at most, line `l`, with shingles of the stacks. -/
def OneLine (l : Nat) (s : State) : Prop :=
  s.coh.dev = [] ∨ ∃ d : DevLine, s.coh.dev = [(l, some d)] ∧ ∀ x ∈ d.sh, ofStack x

theorem OneLine.of_dev {l : Nat} {s t : State} (h : OneLine l s) (hdev : t.coh.dev = s.coh.dev) : OneLine l t := by
  unfold OneLine
  rw [hdev]
  exact h

theorem OneLine.ite {c : Prop} [Decidable c] {l : Nat} {s t : State} (hs : OneLine l s) (ht : OneLine l t) : OneLine l (if c then s else t) := by
  split
  · exact hs
  · exact ht

theorem OneLine.shingle {g : Nat} {s : State} (h : OneLine (g / 4) s) : ofStack (shingleOf s g) := by
  unfold shingleOf getLine
  rcases h with hdev | ⟨d, hdev, hsh⟩
  · rw [hdev]
    exact .inl rfl
  · rw [hdev, tget, if_pos rfl]
    dsimp only
    rw [List.getD_eq_getElem?_getD]
    cases hx : d.sh[g % 4]? with
    | none => exact .inl rfl
    | some x => exact hsh x (List.mem_of_getElem? hx)

/-- No miss meets a set whose ways are all locked (R223). -/
theorem OneLine.waysLocked {g : Nat} {s : State} (h : OneLine (g / 4) s) : waysLocked s g = false := by
  unfold Machine.waysLocked getLine linesIn
  rcases h with hdev | ⟨d, hdev, -⟩
  · have hfree : ((List.range 16).all fun w => ([] : List (Nat × Nat)).any fun x => x.2 = w) = false := by decide
    simp only [hdev, List.filterMap_nil, hfree, Bool.false_and, Bool.and_false]
  · simp [hdev, tget]

theorem OneLine.noHostLines {l : Nat} {s : State} (h : OneLine l s) (hl : target (l * 256) ≠ .host) : NoHostLines s := by
  intro kv hkv
  rcases h with hdev | ⟨d, hdev, -⟩
  · rw [hdev] at hkv
    cases hkv
  · rw [hdev, List.mem_singleton] at hkv
    exact hkv ▸ hl

theorem oneLine_setLine {l : Nat} {s : State} (h : OneLine l s) {d : Option DevLine} (hd : ∀ x, d = some x → ∀ y ∈ x.sh, ofStack y) :
    OneLine l (setLine l d s) := by
  unfold OneLine setLine
  rcases h with hdev | ⟨c, hdev, -⟩ <;> cases d with
  | none => exact .inl (by simp [hdev, tset])
  | some x => exact .inr ⟨x, by simp [hdev, tset], hd x rfl⟩

theorem oneLine_setShingle {g : Nat} {x : Shingle} {s : State} (h : OneLine (g / 4) s) (hx : ofStack x) : OneLine (g / 4) (setShingle g x s) := by
  unfold setShingle
  have hthrough : OneLine (g / 4) (if x = .i then { s with coh.through := s.coh.through.filter (· ≠ g) } else s) := .ite (h.of_dev rfl) h
  generalize (if x = .i then { s with coh.through := s.coh.through.filter (· ≠ g) } else s) = u at hthrough
  dsimp only
  split
  next d hd =>
    refine oneLine_setLine hthrough fun y hy z hz => ?_
    split at hy
    · cases hy
    · cases hy
      rcases List.mem_or_eq_of_mem_set hz with hz | rfl
      · rcases hthrough with hdev | ⟨c, hdev, hsh⟩
        · rw [getLine, hdev] at hd
          cases hd
        · rw [getLine, hdev, tget, if_pos rfl] at hd
          cases hd
          exact hsh z hz
      · exact hx
  next => exact hthrough

theorem touch_coh (g : Nat) (s : State) : (touch g s).coh = s.coh := by
  unfold touch
  split
  · rfl
  · split <;> rfl
  · rfl
  · split <;> rfl
  · rfl

theorem oneLine_evictLine {l : Nat} {s : State} (h : OneLine l s) (hl : target (l * 256) ≠ .host) : OneLine l (evictLine l s) := by
  unfold evictLine
  dsimp only
  rw [if_neg hl]
  refine oneLine_setLine ?_ (by simp)
  split
  · exact h.of_dev rfl
  · exact h

/-- A line is allocated where there is none, so that nothing has to leave. -/
theorem oneLine_allocLine {l k : Nat} {s t : State} (h : OneLine l s) (hmiss : getLine s l = none) (ht : allocLine l k s = some t) : OneLine l t := by
  have hdev : s.coh.dev = [] := by
    rcases h with hdev | ⟨d, hdev, -⟩
    · exact hdev
    · simp [getLine, hdev, tget] at hmiss
  have hlines (n : Nat) : linesIn s n = [] := by simp [linesIn, hdev]
  have hway : (List.range 16).find? (fun w => !([] : List (Nat × Nat)).any fun x => x.2 = w) = some 0 := by decide
  unfold allocLine at ht
  dsimp only at ht
  rw [hlines, hway] at ht
  split at ht
  · cases ht
  · cases ht
    exact oneLine_setLine h fun x hx y hy => by cases hx; exact .inl (by simpa using hy)

/-- An access to a granule of the stacks keeps the device cache so. -/
theorem oneLine_stackLine {g : Nat} {s : State} (hflaws : s.mem.flaws = []) (hg : target (g / 4 * 256) ≠ .host) (h : OneLine (g / 4) s)
    (keySlot cache : Nat) (write full : Bool) : OneLine (g / 4) (stackLine g keySlot cache write full s) := by
  have hv : ofStack .v := .inr (.inl rfl)
  unfold stackLine
  extract_lets l s₁ fetch fill s₂ s₃
  have hevict : OneLine l s₁ ∧ s₁.mem.flaws = [] := by
    unfold s₁
    split
    · split
      · exact ⟨oneLine_evictLine h hg, (stays_evictLine s hg).flaws.trans hflaws⟩
      · exact ⟨h, hflaws⟩
    · exact ⟨h, hflaws⟩
  have hfetch {st : State} (hst : OneLine l st) : OneLine l (fetch st) := oneLine_setShingle (.ite hst (hst.of_dev rfl)) hv
  have hfill {st : State} (hst : OneLine l st) (hsound : st.mem.flaws = []) : OneLine l (fill st) := by
    refine .ite ?_ (hfetch hst)
    have hfetched : (fetch st).mem.flaws = [] :=
      ((Stays.ite (.refl st) (stays_touchStack g st)).trans (stays_setShingle .v _ hg)).flaws.trans hsound
    refine (List.foldlRecOn (motive := fun x : State => OneLine l x ∧ x.mem.flaws = []) _ _ ⟨hfetch hst, hfetched⟩ ?_).1
    rintro x ⟨hx, hxs⟩ k hk
    have hkl : k / 4 = l := by
      obtain ⟨hlo, hhi⟩ := mem_rangeFrom.1 hk
      omega
    rw [meetFlaw_sound hxs]
    split
    · exact ⟨hx, hxs⟩
    · exact ⟨hkl ▸ oneLine_setShingle (hkl.symm ▸ hx) hv, (stays_setShingle .v x (hkl.symm ▸ hg)).flaws.trans hxs⟩
  have hline : OneLine l s₂ := by
    unfold s₂
    split
    · exact .ite (.ite (hevict.1.of_dev rfl) (hfetch (hevict.1.of_dev rfl))) (hevict.1.of_dev rfl)
    next hmiss =>
      split
      · exact hevict.1.of_dev rfl
      · split
        next st hst =>
          have hst' := oneLine_allocLine hevict.1 hmiss hst
          exact hfill (hst'.of_dev rfl) ((stays_allocLine (hevict.1.noHostLines hg) hg hst).flaws.trans hevict.2)
        next => exact hevict.1.of_dev rfl
  have hthrough : OneLine l s₃ := .ite (hline.of_dev rfl) hline
  exact OneLine.of_dev (.ite (oneLine_setShingle hthrough (.inr (.inr rfl))) hthrough) (congrArg Coherence.dev (touch_coh _ _))


end Sys2Proof.Machine
end

section
namespace Sys2Proof.Machine

/-! ### A home reads and closes a granule of the stacks (R232) -/

/-- The target of a line is that of its bytes. -/
theorem target_line (a : Nat) : target (a / 64 / 4 * 256) = target a := by
  have hline : a / 64 / 4 * 256 / 2 ^ 48 = a / 2 ^ 48 := by omega
  rw [target, hline, target]

/-- Granule `g`, of the stacks and not poisoned, is one whose home works at once: the storage has no errors, the device cache holds no line but
its own, and no home slice is being fenced. -/
structure PlainGranule (g : Nat) (s : State) : Prop where
  inStacks : target (g * 64) = .stacks
  flaws : s.mem.flaws = []
  poison : heldPoison s g = false
  one : OneLine (g / 4) s
  homes : ∀ kv ∈ s.coh.homeState, kv.2 ≠ 1

variable {g : Nat} {s : State}

theorem PlainGranule.line (h : PlainGranule g s) : target (g / 4 * 256) ≠ .host := by
  have hline := target_line (g * 64)
  rw [Nat.mul_div_cancel _ (by norm_num), h.inStacks] at hline
  rw [hline]
  decide

theorem PlainGranule.looks {t : State} (h : PlainGranule g s) (hst : Looks s t) (hone : OneLine (g / 4) t) : PlainGranule g t where
  inStacks := h.inStacks
  flaws := hst.flaws.trans h.flaws
  poison := by rw [heldPoison, hst.poison, ← heldPoison, h.poison]
  one := hone
  homes := hst.homeState ▸ h.homes

/-- The messages, the directory and the transactions are beside the storage and the device cache. -/
theorem PlainGranule.beside {t : State} (h : PlainGranule g s) (hmem : t.mem = s.mem) (hdev : t.coh.dev = s.coh.dev)
    (hhomes : t.coh.homeState = s.coh.homeState) : PlainGranule g t where
  inStacks := h.inStacks
  flaws := hmem ▸ h.flaws
  poison := by rw [heldPoison, hmem, ← heldPoison, h.poison]
  one := h.one.of_dev hdev
  homes := hhomes ▸ h.homes

theorem PlainGranule.stackLine (h : PlainGranule g s) (k c : Nat) (w f : Bool) :
    Stays s (stackLine g k c w f s) ∧ PlainGranule g (stackLine g k c w f s) := by
  have hstays := stays_stackLine h.flaws (h.one.noHostLines h.line) h.line k c w f
  exact ⟨hstays, h.looks hstays.looks (oneLine_stackLine h.flaws h.line h.one k c w f)⟩

theorem poisonAt_of_sound (hflaws : s.mem.flaws = []) (g : Nat) : poisonAt s g = heldPoison s g := by
  rw [poisonAt, flawPoisons, flawAt, hflaws, tget_nil, Bool.or_false]

theorem PlainGranule.granulePoison (h : PlainGranule g s) (c : Nat) : granulePoison s c g = false := by
  rw [Machine.granulePoison, h.inStacks]
  dsimp only
  rw [poisonAt_of_sound h.flaws, h.poison, Bool.false_and]

theorem noteRead_plain (h : PlainGranule g s) (c k : Nat) : Looks s (noteRead c k g s) ∧ (noteRead c k g s).coh = s.coh := by
  rw [noteRead, meetFlaw_sound h.flaws]
  refine ⟨(stays_touch g s).looks.trans (noteUse_looks c k g (.inl h.inStacks)).1, ?_⟩
  rw [noteUse, h.inStacks]
  dsimp only
  split <;> exact touch_coh g s

/-- Data from memory: the message bears what the requester's context reads of the granule. -/
theorem sendData_plain {r : CohReq} (hg : r.pa / 64 = g) (h : PlainGranule g s) (hagent : isProxy r.agent = false) (x : Grant) :
    Looks (sendMsg (.data r.agent g x (granuleData s r.ctx r.keySlot g) false false) s) (sendData r x s) ∧
    (sendData r x s).coh = { s.coh with fabric := s.coh.fabric ++ [.data r.agent g x (granuleData s r.ctx r.keySlot g) false false] } := by
  have hsent := h.beside (t := sendMsg (.data r.agent g x (granuleData s r.ctx r.keySlot g) false false) s) rfl rfl rfl
  unfold sendData
  simp only [hagent, hg, h.granulePoison, Bool.false_eq_true, if_false]
  split
  · exact noteRead_plain hsent _ _
  · exact ⟨(stays_touch g _).looks, touch_coh g _⟩

/-- A shingle of the stacks is given up without a word to the host. -/
theorem releaseShingle_ofStack (h : ofStack (shingleOf s g)) : releaseShingle g s = setShingle g .i s := by
  unfold releaseShingle
  rcases h with h | h | h <;> rw [h]

theorem throughDone_looks (hone : OneLine (g / 4) s) (hline : target (g / 4 * 256) ≠ .host) : Looks s (throughDone g s) := by
  unfold throughDone
  split
  · rw [releaseShingle_ofStack hone.shingle]
    exact (stays_setShingle .i s hline).looks
  · exact ⟨rfl, rfl⟩

theorem endTxn_of_unfenced (h : ∀ kv ∈ s.coh.homeState, kv.2 ≠ 1) (g : Nat) : endTxn g s = throughDone g (setTxn g none s) := by
  rw [endTxn, if_neg]
  rw [Bool.not_eq_true, List.any_eq_false]
  exact fun kv hkv => by simpa using h kv hkv

theorem endTxn_looks (hone : OneLine (g / 4) s) (hline : target (g / 4 * 256) ≠ .host) (homes : ∀ kv ∈ s.coh.homeState, kv.2 ≠ 1) :
    Looks (setTxn g none s) (endTxn g s) := by
  rw [endTxn_of_unfenced homes]
  exact throughDone_looks (hone.of_dev rfl) hline

end Sys2Proof.Machine
end

section
namespace Sys2Proof.Machine

/-! ### What a home does with a request that needs no other answer (Tables 9.4, 9.5) -/

/-- A near cache's request that asks for the line to keep. -/
def keepsLine (k : CohKind) : Prop := k = .rdS ∨ k = .rdX ∨ k = .upg

variable {t : Txn} {s : State}

theorem openUntilDone_keeps (hnear : t.req.agent < 192) (hkind : keepsLine t.kind) : openUntilDone t s =
    setTxn (t.req.pa / 64) (some { t with asked := [], fwd := none, wbWait := none, memWait := false, doneWait := true }) s := by
  unfold openUntilDone
  refine if_pos ?_
  rcases hkind with hk | hk | hk <;> simp [hk, isNear, hnear]

theorem openUntilDone_ends (hkind : ¬ keepsLine t.kind) : openUntilDone t s = endTxn (t.req.pa / 64) s := by
  unfold openUntilDone keepsLine at *
  refine if_neg ?_
  simpa [and_assoc] using fun _ => hkind

theorem notProxy_of_near {a : Nat} (h : a < 192) : isProxy a = false := by
  unfold isProxy
  simp
  omega

theorem ofDead_of_serving (h : (getPort s t.req.agent).nearFenced = false) : ofDead s t = false := by simp [ofDead, h]

theorem ofDead_of_passing (h : ¬ keepsLine t.kind) : ofDead s t = false := by
  unfold ofDead keepsLine at *
  simp only [not_or] at h
  simp [h]

/-- RD_X, and RD_S or UPG of a granule that no cache holds, bring the requester the line in E. -/
theorem finishPlain_exclusive (h : PlainGranule (t.req.pa / 64) s) (hstacks : target t.req.pa = .stacks) (hnear : t.req.agent < 192)
    (hserves : (getPort s t.req.agent).nearFenced = false) (hkind : t.kind = .rdX ∨ keepsLine t.kind ∧ getDir s (t.req.pa / 64) = {}) :
    finishPlain t s = openUntilDone t (setDir (t.req.pa / 64) ⟨.exclusive, [t.req.agent], none⟩
      (sendData t.req .e (stackLine (t.req.pa / 64) t.req.keySlot t.req.cache false false s))) := by
  have hgrant : memGrant (stackLine (t.req.pa / 64) t.req.keySlot t.req.cache false false s) (t.req.pa / 64) .e = .e := by
    simp [memGrant, h.inStacks]
  unfold finishPlain
  simp only [ofDead_of_serving hserves, h.one.waysLocked, meetFlaw_sound h.flaws, Bool.false_eq_true, if_false, Bool.and_false]
  rcases hkind with hk | ⟨hk | hk | hk, hdir⟩
  · simp [hk, hstacks]
  · simp [hk, hstacks, hdir, isNear, hnear, hgrant]
  · simp [hk, hstacks]
  · simp [hk, hstacks, hdir, isNear, hnear]

/-- RD_NC brings the requester the line, which it does not keep. -/
theorem finishPlain_uncached (h : PlainGranule (t.req.pa / 64) s) (hstacks : target t.req.pa = .stacks) (hkind : t.kind = .rdNc) :
    finishPlain t s = endTxn (t.req.pa / 64) (sendData t.req .none (stackLine (t.req.pa / 64) t.req.keySlot t.req.cache false false s)) := by
  have hpass : ¬ keepsLine t.kind := by simp [keepsLine, hkind]
  unfold finishPlain
  simp only [ofDead_of_passing hpass, h.one.waysLocked, meetFlaw_sound h.flaws, Bool.false_eq_true, if_false, Bool.and_false]
  simp [hkind, hstacks, openUntilDone_ends hpass]

/-- A write, an atomic or a zeroed line is applied at memory and leaves no copy. -/
theorem finishPlain_writes (hways : waysLocked s (t.req.pa / 64) = false) (hstacks : target t.req.pa = .stacks)
    (hkind : t.kind = .wrNc ∨ t.kind = .atomH ∨ t.kind = .zeroL) :
    finishPlain t s = endTxn (t.req.pa / 64) (setDir (t.req.pa / 64) {} (applyAtMemory t s)) := by
  have hpass : ¬ keepsLine t.kind := by rcases hkind with hk | hk | hk <;> simp [keepsLine, hk]
  unfold finishPlain
  simp only [ofDead_of_passing hpass, hways, Bool.false_eq_true, if_false, Bool.and_false]
  rcases hkind with hk | hk | hk <;> simp [hk, hostWritten, hstacks, openUntilDone_ends hpass]

/-- The requester has the line in E and the home waits for its DONE; memory and the near caches are as they were. -/
structure GrantsExclusive (t : Txn) (s v : State) : Prop where
  works : HomeWorks s v
  bytes : v.mem.bytes = s.mem.bytes
  sent : Msg.data t.req.agent (t.req.pa / 64) .e (granuleData s t.req.ctx t.req.keySlot (t.req.pa / 64)) false false ∈ v.coh.fabric
  dir : getDir v (t.req.pa / 64) = ⟨.exclusive, [t.req.agent], none⟩
  txn : ∃ y, getTxn v (t.req.pa / 64) = some y ∧ y.doneWait = true ∧ y.req = t.req

theorem homeWorks_sendMsg (m : Msg) (s : State) : HomeWorks s (sendMsg m s) := rfl
theorem homeWorks_setDir (g : Nat) (e : DirEntry) (s : State) : HomeWorks s (setDir g e s) := rfl
theorem homeWorks_setTxn (g : Nat) (x : Option Txn) (s : State) : HomeWorks s (setTxn g x s) := rfl

theorem finishPlain_grantsExclusive (h : PlainGranule (t.req.pa / 64) s) (hstacks : target t.req.pa = .stacks) (hnear : t.req.agent < 192)
    (hserves : (getPort s t.req.agent).nearFenced = false) (hkeeps : keepsLine t.kind) (hkind : t.kind = .rdX ∨ getDir s (t.req.pa / 64) = {}) :
    GrantsExclusive t s (finishPlain t s) := by
  rw [finishPlain_exclusive h hstacks hnear hserves (hkind.imp_right fun hdir => ⟨hkeeps, hdir⟩), openUntilDone_keeps hnear hkeeps]
  obtain ⟨hstays, hplain⟩ := h.stackLine t.req.keySlot t.req.cache false false
  have hdata := granuleData_congr hstays.looks (c := t.req.ctx) (k := t.req.keySlot) (g := t.req.pa / 64) fun _ _ => hstays.free
  generalize stackLine (t.req.pa / 64) t.req.keySlot t.req.cache false false s = u at hstays hplain hdata
  obtain ⟨hlooks, hcoh⟩ := sendData_plain rfl hplain (notProxy_of_near hnear) .e
  rw [hdata] at hlooks hcoh
  generalize sendData t.req .e u = v at hlooks hcoh
  exact {
    works := hstays.looks.tends.homeWorks.trans ((homeWorks_sendMsg _ u).trans (hlooks.tends.homeWorks.trans ((homeWorks_setDir _ _ v).trans (homeWorks_setTxn _ _ _))))
    bytes := hlooks.bytes.trans hstays.looks.bytes
    sent := by
      show _ ∈ v.coh.fabric
      rw [hcoh]
      exact List.mem_append_right _ (List.mem_singleton.2 rfl)
    dir := tget_tset_same _ _ _ _
    txn := ⟨_, tget_tset_same _ _ _ _, rfl, rfl⟩ }

/-- The request is served and its transaction closed: the directory keeps what it held of other granules and of this one. -/
structure ReadsUncached (t : Txn) (s v : State) : Prop where
  works : HomeWorks s v
  bytes : v.mem.bytes = s.mem.bytes
  sent : Msg.data t.req.agent (t.req.pa / 64) .none (granuleData s t.req.ctx t.req.keySlot (t.req.pa / 64)) false false ∈ v.coh.fabric
  dir : v.coh.dir = s.coh.dir
  txns : v.coh.txns = tset none s.coh.txns (t.req.pa / 64) none

theorem finishPlain_readsUncached (h : PlainGranule (t.req.pa / 64) s) (hstacks : target t.req.pa = .stacks) (hagent : isProxy t.req.agent = false)
    (hkind : t.kind = .rdNc) : ReadsUncached t s (finishPlain t s) := by
  rw [finishPlain_uncached h hstacks hkind]
  obtain ⟨hstays, hplain⟩ := h.stackLine t.req.keySlot t.req.cache false false
  have hdata := granuleData_congr hstays.looks (c := t.req.ctx) (k := t.req.keySlot) (g := t.req.pa / 64) fun _ _ => hstays.free
  generalize stackLine (t.req.pa / 64) t.req.keySlot t.req.cache false false s = u at hstays hplain hdata
  obtain ⟨hlooks, hcoh⟩ := sendData_plain rfl hplain hagent .none
  rw [hdata] at hlooks hcoh
  have hplain' := (hplain.beside (t := sendMsg _ u) rfl rfl rfl).looks hlooks (hplain.one.of_dev (congrArg Coherence.dev hcoh :))
  generalize sendData t.req .none u = v at hlooks hcoh hplain'
  have hends := endTxn_looks hplain'.one hplain'.line hplain'.homes
  exact {
    works := hstays.looks.tends.homeWorks.trans ((homeWorks_sendMsg _ u).trans (hlooks.tends.homeWorks.trans ((homeWorks_setTxn _ _ v).trans hends.tends.homeWorks)))
    bytes := hends.bytes.trans (hlooks.bytes.trans hstays.looks.bytes)
    sent := by
      rw [hends.fabric]
      show _ ∈ v.coh.fabric
      rw [hcoh]
      exact List.mem_append_right _ (List.mem_singleton.2 rfl)
    dir := by
      rw [hends.dir]
      show v.coh.dir = _
      rw [hcoh]
      exact hstays.looks.dir
    txns := by
      rw [hends.txns]
      show tset none v.coh.txns _ none = _
      rw [hcoh]
      exact congrArg (fun x => tset none x _ none) hstays.looks.txns }

end Sys2Proof.Machine
end

section
namespace Sys2Proof.Machine

/-! ### A home writes at memory (R233) -/

/-- Nothing changed but what the courses note of software's accesses (R108). -/
def OnlyNotes (s t : State) : Prop := { t with arrays := s.arrays } = s

theorem onlyNotes_softMask (g : Nat) (m : Word) (s : State) : OnlyNotes s (softMask g m s) := by
  unfold softMask
  split
  · rfl
  · exact softAccess_rest _ _ _ s

theorem OnlyNotes.homeWorks {s t : State} (h : OnlyNotes s t) : HomeWorks s t := (congrArg (beforeHome s) h :)
theorem OnlyNotes.mem {s t : State} (h : OnlyNotes s t) : t.mem = s.mem := (congrArg State.mem h :)
theorem OnlyNotes.coh {s t : State} (h : OnlyNotes s t) : t.coh = s.coh := (congrArg State.coh h :)
theorem OnlyNotes.free {s t : State} (h : OnlyNotes s t) : t.free = s.free := (congrArg State.free h :)

/-- What a context reads of a granule depends on memory and the free values alone. -/
theorem granuleData_of_mem {s t : State} (hmem : t.mem = s.mem) (hfree : t.free = s.free) (c k g : Nat) : granuleData t c k g = granuleData s c k g := by
  have hreads : granuleData t c k g = granuleData { s with mem := t.mem, free := t.free } c k g := rfl
  rw [hreads, hmem, hfree]

theorem PlainGranule.notes {g : Nat} {s t : State} (h : PlainGranule g s) (hst : OnlyNotes s t) : PlainGranule g t :=
  h.beside hst.mem (congrArg Coherence.dev hst.coh :) (congrArg Coherence.homeState hst.coh :)

theorem writeGranule_coh (c k g : Nat) (d : Line) (m : Word) (p : Bool) (s : State) : (writeGranule c k g d m p s).coh = s.coh := by
  unfold writeGranule
  split <;> rfl

theorem writeGranule_flaws (c k g : Nat) (d : Line) (m : Word) (p : Bool) (s : State) : (writeGranule c k g d m p s).mem.flaws = s.mem.flaws := by
  unfold writeGranule
  split <;> rfl

/-- R345: a write into a granule that is not poisoned leaves the poison that it brings. -/
theorem heldPoison_writeGranule {s : State} {g : Nat} (hstacks : target (g * 64) = .stacks) (hsound : heldPoison s g = false) (c k : Nat) (d : Line)
    (m : Word) (p : Bool) : heldPoison (writeGranule c k g d m p s) g = p := by
  rw [writeGranule, hstacks]
  show tget false (tset false s.mem.poison g _) g = p
  rw [tget_tset_same, hsound, Bool.and_false, Bool.or_false]

theorem writtenUnder_of_merged {s t : State} {g : Nat} {old d : Line} {m : Word} (h : OnlyGranule g (lineByte (mergeLine old d m)) s t) : WrittenUnder g d m s t := by
  obtain ⟨hinside, houtside⟩ := h
  refine ⟨fun i hi hmask => ?_, houtside⟩
  rw [hinside i hi, lineByte_mergeLine _ _ _ hi, if_pos hmask]

theorem writtenUnder_congr {s s' t t' : State} {g : Nat} {d : Line} {m : Word} (h : WrittenUnder g d m s t) (hs : s.mem.bytes = s'.mem.bytes)
    (ht : t'.mem.bytes = t.mem.bytes) : WrittenUnder g d m s' t' := by
  simpa only [WrittenUnder, byteAt, hs, ht] using h

/-- The home has applied a write, or an atomic, at memory and has said so with `c`. -/
structure Applied (g : Nat) (c : Msg) (s v : State) : Prop where
  works : HomeWorks s v
  sent : c ∈ v.coh.fabric
  dir : v.coh.dir = s.coh.dir
  txns : v.coh.txns = s.coh.txns
  flaws : v.mem.flaws = []
  one : OneLine (g / 4) v

/-- It did so to its granule alone; `p` is that granule's poison. -/
structure AppliesAt (g : Nat) (c : Msg) (d : Line) (m : Word) (p : Bool) (s v : State) : Prop extends Applied g c s v where
  written : WrittenUnder g d m s v
  poison : heldPoison v g = p

/-- The common end of both: the granule's value is written and the message goes out. -/
theorem appliesAt_writeGranule {g : Nat} {s u : State} (h : PlainGranule g u) (hworks : HomeWorks s u) (hbytes : u.mem.bytes = s.mem.bytes)
    (hdir : u.coh.dir = s.coh.dir) (htxns : u.coh.txns = s.coh.txns) (msg : Msg) (c k : Nat) (d : Line) (m : Word) (p : Bool) :
    AppliesAt g msg d m p s (sendMsg msg (writeGranule c k g d m p u)) where
  works := hworks.trans ((tends_writeGranule c k g d m p u).homeWorks.trans (homeWorks_sendMsg msg _))
  sent := List.mem_append_right _ (List.mem_singleton.2 rfl)
  dir := by
    show (writeGranule c k g d m p u).coh.dir = _
    rw [writeGranule_coh, hdir]
  txns := by
    show (writeGranule c k g d m p u).coh.txns = _
    rw [writeGranule_coh, htxns]
  written := writtenUnder_congr (writtenUnder_of_merged (onlyGranule_of_putBytes (bytes_writeGranule (.inl h.inStacks) d m p))) hbytes rfl
  flaws := (writeGranule_flaws c k g d m p u).trans h.flaws
  poison := heldPoison_writeGranule h.inStacks h.poison c k d m p
  one := h.one.of_dev (congrArg Coherence.dev (writeGranule_coh c k g d m p u) :)

variable {t : Txn} {s : State}

theorem applyAtMemory_of_wrNc (hstacks : target t.req.pa = .stacks) (hkind : t.kind = .wrNc) (hflaws : s.mem.flaws = []) : applyAtMemory t s =
    sendMsg (.cmp t.req.agent (t.req.pa / 64) 0 false) (writeGranule t.req.ctx t.req.keySlot (t.req.pa / 64) t.data.data t.data.mask t.data.poison
      (touch (t.req.pa / 64) (stackLine (t.req.pa / 64) t.req.keySlot t.req.cache true (t.data.mask = fullMask) (softMask (t.req.pa / 64) t.data.mask s)))) := by
  have hgranules : reqGranules .wrNc (t.req.pa / 64) = [t.req.pa / 64] := rfl
  have hsound : (softMask (t.req.pa / 64) t.data.mask s).mem.flaws = [] := by rw [(onlyNotes_softMask _ _ s).mem, hflaws]
  unfold applyAtMemory
  simp [hkind, hgranules, hstacks, meetWrite_sound hsound]

theorem applyAtMemory_write (h : PlainGranule (t.req.pa / 64) s) (hstacks : target t.req.pa = .stacks) (hkind : t.kind = .wrNc) :
    AppliesAt (t.req.pa / 64) (.cmp t.req.agent (t.req.pa / 64) 0 false) t.data.data t.data.mask t.data.poison s (applyAtMemory t s) := by
  have hnotes := onlyNotes_softMask (t.req.pa / 64) t.data.mask s
  rw [applyAtMemory_of_wrNc hstacks hkind h.flaws]
  generalize softMask (t.req.pa / 64) t.data.mask s = u at hnotes
  obtain ⟨hstays, hfilled⟩ := (h.notes hnotes).stackLine t.req.keySlot t.req.cache true (t.data.mask = fullMask)
  generalize stackLine (t.req.pa / 64) t.req.keySlot t.req.cache true _ u = v at hstays hfilled
  have htouch := hstays.trans (stays_touch (t.req.pa / 64) v)
  have htouched := hfilled.looks (stays_touch (t.req.pa / 64) v).looks (hfilled.one.of_dev (congrArg Coherence.dev (touch_coh _ v)))
  exact appliesAt_writeGranule htouched (hnotes.homeWorks.trans htouch.looks.tends.homeWorks) (htouch.looks.bytes.trans (congrArg MemUnit.bytes hnotes.mem))
    (htouch.looks.dir.trans (congrArg Coherence.dir hnotes.coh)) (htouch.looks.txns.trans (congrArg Coherence.txns hnotes.coh)) _ _ _ _ _ _

theorem applyAtMemory_of_atomH (hstacks : target t.req.pa = .stacks) (hkind : t.kind = .atomH) (hflaws : s.mem.flaws = [])
    (hpoison : granulePoison (stackLine (t.req.pa / 64) t.req.keySlot t.req.cache true false (softAccess t.req.pa t.size true s)) t.req.ctx (t.req.pa / 64) = false) :
    applyAtMemory t s = sendMsg (.cmp t.req.agent (t.req.pa / 64) (granuleData s t.req.ctx t.req.keySlot (t.req.pa / 64)) false)
      (writeGranule t.req.ctx t.req.keySlot (t.req.pa / 64)
        (atomicLine t.aop t.size (t.req.pa % 64) (granuleData s t.req.ctx t.req.keySlot (t.req.pa / 64)) t.data.data) (maskOf (t.req.pa % 64) t.size) false
        (noteRead t.req.ctx t.req.keySlot (t.req.pa / 64)
          (stackLine (t.req.pa / 64) t.req.keySlot t.req.cache true false (softAccess t.req.pa t.size true s)))) := by
  have hgranules : reqGranules .atomH (t.req.pa / 64) = [t.req.pa / 64] := rfl
  have hsound : (softAccess t.req.pa t.size true s).mem.flaws = [] := by rw [OnlyNotes.mem (softAccess_rest _ _ _ s), hflaws]
  unfold applyAtMemory
  simp [hkind, hgranules, hstacks, meetFlaw_sound hsound, hpoison]

theorem applyAtMemory_atomic (h : PlainGranule (t.req.pa / 64) s) (hstacks : target t.req.pa = .stacks) (hkind : t.kind = .atomH) :
    AppliesAt (t.req.pa / 64) (.cmp t.req.agent (t.req.pa / 64) (granuleData s t.req.ctx t.req.keySlot (t.req.pa / 64)) false)
      (atomicLine t.aop t.size (t.req.pa % 64) (granuleData s t.req.ctx t.req.keySlot (t.req.pa / 64)) t.data.data) (maskOf (t.req.pa % 64) t.size) false
      s (applyAtMemory t s) := by
  have hnotes : OnlyNotes s (softAccess t.req.pa t.size true s) := softAccess_rest _ _ _ s
  obtain ⟨hstays, hfilled⟩ := (h.notes hnotes).stackLine t.req.keySlot t.req.cache true false
  rw [applyAtMemory_of_atomH hstacks hkind h.flaws (hfilled.granulePoison _)]
  generalize softAccess t.req.pa t.size true s = u at hnotes hstays hfilled
  generalize stackLine (t.req.pa / 64) t.req.keySlot t.req.cache true false u = v at hstays hfilled
  obtain ⟨hread, hcoh⟩ := noteRead_plain hfilled t.req.ctx t.req.keySlot
  have hready := hfilled.looks hread (hfilled.one.of_dev (congrArg Coherence.dev hcoh))
  have hlooks := hstays.looks.trans hread
  exact appliesAt_writeGranule hready (hnotes.homeWorks.trans hlooks.tends.homeWorks) (hlooks.bytes.trans (congrArg MemUnit.bytes hnotes.mem))
    (hlooks.dir.trans (congrArg Coherence.dir hnotes.coh)) (hlooks.txns.trans (congrArg Coherence.txns hnotes.coh)) _ _ _ _ _ _

/-! ### A request at a home where nothing else goes on (R234) -/

/-- The transaction of a request that needs no answer but its own. -/
def plainTxn (k : CohKind) (r : CohReq) (d : CohData) (aop size : Nat) : Txn := ⟨k, r, d, aop, size, [], none, none, false, false, .plain⟩

/-- The request is only counted, and no line is kept from being filled twice. -/
def beforeCounts (s t : State) : State := { t with ctrs := s.ctrs, wraps := s.wraps, coh.fresh := s.coh.fresh }

theorem quiet_lineClear {s : State} (hdir : s.coh.dir = []) (k : CohKind) (r : CohReq) (full : Bool) (form : TxnForm) : lineClear s k r full form = true := by
  unfold lineClear getDir
  rw [hdir, List.all_eq_true]
  exact fun x _ => decide_eq_true rfl

theorem quiet_granuleBusy {s : State} (htxns : s.coh.txns = []) (g : Nat) : granuleBusy s g = false := by
  unfold granuleBusy getTxn
  rw [htxns]
  simp [tget]

theorem hostNeeds_stacks {r : CohReq} (h : target r.pa ≠ .host) (s : State) (k : CohKind) (full : Bool) (form : TxnForm) : hostNeeds s k r full form = [] := by
  simp [hostNeeds, h]

theorem quiet_dirFull {s : State} (hdir : s.coh.dir = []) (g : Nat) : dirFull s g = false := by
  simp [dirFull, dirUsed, hdir]

theorem quiet_mustWait {s : State} {r : CohReq} (h : HomesQuiet s) (hr : target r.pa = .stacks) (k : CohKind) (full : Bool) (form : TxnForm) :
    mustWait s k r full form = false := by
  obtain ⟨-, -, hdir, htxns, -, hdev, hhomes, -⟩ := h
  have hways : waysLocked s (r.pa / 64) = false := OneLine.waysLocked (.inl hdev)
  have hbusy : (reqGranules k (r.pa / 64)).any (granuleBusy s) = false := by
    rw [List.any_eq_false]
    exact fun x _ => by simp [quiet_granuleBusy htxns]
  simp [mustWait, hbusy, homeFencing, hhomes, quiet_lineClear hdir, hostNeeds_stacks (hr ▸ nofun : target r.pa ≠ .host), hways, dirBlocked,
    quiet_dirFull hdir]

theorem homesQuiet_of_counts {s t : State} (h : HomesQuiet s) (hst : beforeCounts s t = s) : HomesQuiet t := ((congrArg HomesQuiet hst).mpr h :)

theorem quiet_startTxn {s : State} (h : HomesQuiet s) {r : CohReq} (hr : target r.pa = .stacks) (k : CohKind) (d : CohData) (aop size : Nat) :
    ∃ v, beforeCounts s v = s ∧ startTxn k r d aop size .plain s = finishPlain (plainTxn k r d aop size) v := by
  obtain ⟨-, -, hdir, -, -, -, -, -, -, hflaws, -⟩ := h
  have hhost : target r.pa ≠ .host := hr ▸ nofun
  unfold startTxn
  extract_lets g coh s₁ r₁ s₂ t needs opened
  have hs₁ : beforeCounts s s₁ = s := by unfold s₁; split <;> rfl
  have hflaws₁ : s₁.mem.flaws = [] := (congrArg (fun x : State => x.mem.flaws) hs₁ :).trans hflaws
  have hdir₁ : s₁.coh.dir = [] := (congrArg (fun x : State => x.coh.dir) hs₁ :).trans hdir
  have hr₁ : r₁ = r := if_neg (by simp [hhost])
  have hs₂ : s₂ = s₁ := if_neg (by simp [refetches, hostBad, flawAt, hflaws₁])
  have hneeds : needs = [] := by unfold needs; rw [hr₁, hostNeeds_stacks hhost]
  refine ⟨s₁, hs₁, ?_⟩
  rw [if_pos (by rw [hneeds]; rfl), if_pos (by rw [hr₁, decide_eq_true hhost]; rfl), hs₂]
  unfold proceedTxn getDir
  simp [t, hdir₁, hr₁, finishTxn, plainTxn]

theorem quiet_homeRequest {s : State} (h : HomesQuiet s) {r : CohReq} (hr : target r.pa = .stacks) (k : CohKind) (d : CohData) (aop size : Nat) :
    ∃ v, beforeCounts s v = s ∧ homeRequest k r d aop size .plain s = finishPlain (plainTxn k r d aop size) v := by
  unfold homeRequest
  extract_lets g q aged full s₁ first
  have hs₁ : s₁ = s := if_pos (by rw [quiet_lineClear h.2.2.1]; rfl)
  have hfirst : first = true := by
    obtain ⟨-, -, -, -, hqueued, -⟩ := h
    unfold first
    rw [hs₁, hqueued, List.all_nil]
  have hcounted : beforeCounts s (aged s) = s := by unfold aged; split <;> rfl
  have haged := homesQuiet_of_counts h hcounted
  rw [if_pos (by rw [hs₁, hfirst, quiet_mustWait h hr]; rfl), hs₁]
  unfold beginRequest
  rw [if_neg (by simp [quiet_dirFull haged.2.2.1])]
  obtain ⟨v, hv, hstarts⟩ := quiet_startTxn haged hr k d aop size
  exact ⟨v, (congrArg (beforeCounts s) hv).trans hcounted, hstarts⟩

theorem blockOut_of_noWrites {s : State} (h : (s.xfers.all fun y => !y.write) = true) (g : Nat) : blockOut s g = false := by
  unfold blockOut
  rw [List.any_eq_false]
  intro y hy
  have := List.all_eq_true.1 h y hy
  simp_all

theorem requestTaken_of_near {s : State} {r : CohReq} (h : (s.xfers.all fun y => !y.write) = true) (hnear : r.agent < 192) (k : CohKind) (d : CohData)
    (aop size : Nat) : requestTaken k r d aop size s = homeRequest k r d aop size .plain (takeMsg (.request k r d aop size) s) := by
  rw [requestTaken, if_neg]
  simp [agentOk, hnear, blockOut_of_noWrites h]

theorem nearRequest_of_counts {s t : State} {r : CohReq} (h : NearRequest r s) (hst : beforeCounts s t = s) : NearRequest r t :=
  ((congrArg (NearRequest r) hst).mpr h :)

theorem nearRequest_plainGranule {s : State} {r : CohReq} (h : NearRequest r s) : PlainGranule (r.pa / 64) s := by
  obtain ⟨⟨-, -, -, -, -, hdev, hhomes, -, -, hflaws, -⟩, -, -, htarget, -, hpoison⟩ := h
  exact ⟨htarget, hflaws, (poisonAt_of_sound hflaws _).symm.trans hpoison, .inl hdev, by simp [hhomes]⟩

/-- What the home does with a near cache's request: `v` is the state in which it has been taken and counted. -/
theorem nearRequest_taken {s : State} {r : CohReq} (h : NearRequest r s) (k : CohKind) (d : CohData) (aop size : Nat) :
    ∃ v, requestTaken k r d aop size s = finishPlain (plainTxn k r d aop size) v ∧ HomeWorks s v ∧ NearRequest r v ∧ v.mem = s.mem ∧ v.free = s.free := by
  have htaken : NearRequest r (takeMsg (.request k r d aop size) s) := h
  obtain ⟨v, hv, hends⟩ := quiet_homeRequest htaken.1 h.2.2.1 k d aop size
  refine ⟨v, ?_, (congrArg (beforeHome s) hv :), nearRequest_of_counts htaken hv, (congrArg State.mem hv :), (congrArg State.free hv :)⟩
  obtain ⟨⟨-, -, -, -, -, -, -, -, -, -, hxfers⟩, hnear, -⟩ := h
  rw [requestTaken_of_near hxfers hnear, hends]

theorem exec_keeping_request {s : State} {r : CohReq} (h : NearRequest r s) (hserves : (getPort s r.agent).nearFenced = false) {k : CohKind} (hkind : keepsLine k) :
    ∃ t x, done (onFab (requestTaken k r noData 0 0) s) = .next t ∧
      Msg.data r.agent (r.pa / 64) .e (granuleData s r.ctx r.keySlot (r.pa / 64)) false false ∈ t.coh.fabric ∧ getDir t (r.pa / 64) = ⟨.exclusive, [r.agent], none⟩ ∧
      getTxn t (r.pa / 64) = some x ∧ x.doneWait = true ∧ x.req = r ∧ t.mem.bytes = s.mem.bytes ∧ t.coh.near = s.coh.near ∧ t.ports = s.ports := by
  obtain ⟨v, hends, hworks, hv, hmem, hfree⟩ := nearRequest_taken h k noData 0 0
  have hplain := nearRequest_plainGranule hv
  obtain ⟨⟨-, -, hdir, -⟩, hnear, hstacks, -⟩ := hv
  have hserves' : (getPort v r.agent).nearFenced = false := by rw [getPort, hworks.ports]; exact hserves
  obtain ⟨hgrants, hbytes, hsent, hentry, x, hx, hwait, hreq⟩ := finishPlain_grantsExclusive (t := plainTxn k r noData 0 0) hplain hstacks hnear hserves'
    hkind (.inr (by rw [getDir, hdir]; rfl))
  have hdata := granuleData_of_mem hmem hfree r.ctx r.keySlot (r.pa / 64)
  have hall := hworks.trans hgrants
  rw [← hends] at hall hbytes hsent hentry hx
  exact ⟨_, x, done_onFab h.1.1 (hall.acts.trans h.1.2.1), hdata ▸ hsent, hentry, hx, hwait, hreq, hbytes.trans (congrArg MemUnit.bytes hmem), hall.near,
    hall.ports⟩

theorem exec_rdNc_request {s : State} {r : CohReq} (h : NearRequest r s) : ∃ t, exec (.rdNc r) s = .next t ∧
    Msg.data r.agent (r.pa / 64) .none (granuleData s r.ctx r.keySlot (r.pa / 64)) false false ∈ t.coh.fabric ∧ t.coh.dir = [] ∧ t.coh.txns = [] ∧
    t.mem.bytes = s.mem.bytes ∧ t.coh.near = s.coh.near ∧ t.ports = s.ports := by
  obtain ⟨v, hends, hworks, hv, hmem, hfree⟩ := nearRequest_taken h .rdNc noData 0 0
  have hplain := nearRequest_plainGranule hv
  obtain ⟨⟨-, -, hdir, htxns, -⟩, hnear, hstacks, -⟩ := hv
  obtain ⟨hreads, hbytes, hsent, hkeeps, hcloses⟩ := finishPlain_readsUncached (t := plainTxn .rdNc r noData 0 0) hplain hstacks (notProxy_of_near hnear) rfl
  have hdata := granuleData_of_mem hmem hfree r.ctx r.keySlot (r.pa / 64)
  have hclosed : tset none v.coh.txns (r.pa / 64) none = [] := by rw [htxns]; rfl
  have hall := hworks.trans hreads
  rw [← hends] at hall hbytes hsent hkeeps hcloses
  exact ⟨_, done_onFab h.1.1 (hall.acts.trans h.1.2.1), hdata ▸ hsent, hkeeps.trans hdir, hcloses.trans hclosed, hbytes.trans (congrArg MemUnit.bytes hmem),
    hall.near, hall.ports⟩

theorem clear_of_nil {g : Nat} {s : State} (hdir : s.coh.dir = []) (htxns : s.coh.txns = []) : setTxn g none (setDir g {} s) = s := by
  calc setTxn g none (setDir g {} s) = { s with coh.dir := [], coh.txns := [] } := by simp [setTxn, setDir, hdir, htxns, tset]
    _ = { s with coh.dir := s.coh.dir, coh.txns := s.coh.txns } := by rw [hdir, htxns]

theorem nearRequest_line {s : State} {r : CohReq} (h : NearRequest r s) : target (r.pa / 64 / 4 * 256) ≠ .host := by
  rw [target_line, h.2.2.1]
  decide

/-- A write, an atomic or a zeroed line: `v` is the state in which the request has been taken. What the home does at memory is all that it does. -/
theorem nearRequest_applies {s : State} {r : CohReq} (h : NearRequest r s) {k : CohKind} (hkind : k = .wrNc ∨ k = .atomH ∨ k = .zeroL) (d : CohData)
    (aop size : Nat) : ∃ v, NearRequest r v ∧ v.mem = s.mem ∧ v.free = s.free ∧ ∀ c, Applied (r.pa / 64) c v (applyAtMemory (plainTxn k r d aop size) v) →
      ∃ t, done (onFab (requestTaken k r d aop size) s) = .next t ∧ HomeWorks s t ∧ Looks (applyAtMemory (plainTxn k r d aop size) v) t ∧
        c ∈ t.coh.fabric ∧ t.coh.dir = [] ∧ t.coh.txns = [] := by
  obtain ⟨v, hends, hworks, hv, hmem, hfree⟩ := nearRequest_taken h k d aop size
  refine ⟨v, hv, hmem, hfree, fun c happlied => ?_⟩
  have hplain := nearRequest_plainGranule hv
  have hline := nearRequest_line hv
  obtain ⟨⟨-, -, hdir, htxns, -, -, hhomes, -⟩, -, hstacks, -⟩ := hv
  rw [finishPlain_writes hplain.one.waysLocked hstacks hkind] at hends
  change requestTaken k r d aop size s = endTxn (r.pa / 64) (setDir (r.pa / 64) {} (applyAtMemory (plainTxn k r d aop size) v)) at hends
  generalize applyAtMemory (plainTxn k r d aop size) v = w at happlied hends
  have hlooks := endTxn_looks (g := r.pa / 64) (s := setDir (r.pa / 64) {} w) (happlied.one.of_dev rfl) hline
    (by rw [(happlied.works.trans (homeWorks_setDir _ _ w)).homeState, hhomes]; simp)
  rw [clear_of_nil (happlied.dir.trans hdir) (happlied.txns.trans htxns), ← hends] at hlooks
  have hall := hworks.trans (happlied.works.trans hlooks.tends.homeWorks)
  exact ⟨_, done_onFab h.1.1 (hall.acts.trans h.1.2.1), hall, hlooks, hlooks.fabric ▸ happlied.sent, hlooks.dir.trans (happlied.dir.trans hdir),
    hlooks.txns.trans (happlied.txns.trans htxns)⟩

theorem exec_wrNc_request {s : State} {r : CohReq} (h : NearRequest r s) (d : CohData) : ∃ t, exec (.wrNc r d) s = .next t ∧
    Msg.cmp r.agent (r.pa / 64) 0 false ∈ t.coh.fabric ∧ t.coh.dir = [] ∧ t.coh.txns = [] ∧ WrittenUnder (r.pa / 64) d.data d.mask s t ∧
    poisonAt t (r.pa / 64) = d.poison ∧ t.coh.near = s.coh.near ∧ t.ports = s.ports := by
  obtain ⟨v, hv, hmem, -, hends⟩ := nearRequest_applies h (.inl rfl : CohKind.wrNc = _ ∨ _) d 0 0
  have happlies := applyAtMemory_write (t := plainTxn .wrNc r d 0 0) (nearRequest_plainGranule hv) hv.2.2.1 rfl
  obtain ⟨t, ht, hworks, hlooks, hsent, hdir, htxns⟩ := hends _ happlies.toApplied
  refine ⟨t, ht, hsent, hdir, htxns, writtenUnder_congr happlies.written (congrArg MemUnit.bytes hmem) hlooks.bytes, ?_, hworks.near, hworks.ports⟩
  rw [poisonAt_of_sound (hlooks.flaws.trans happlies.flaws), heldPoison, hlooks.poison]
  exact happlies.poison

theorem exec_atomH_request {s : State} {r : CohReq} (h : NearRequest r s) (d : CohData) (aop : Fin 10) (n : Fin 3) : ∃ t, exec (.atomH r d aop n) s = .next t ∧
    Msg.cmp r.agent (r.pa / 64) (granuleData s r.ctx r.keySlot (r.pa / 64)) false ∈ t.coh.fabric ∧ t.coh.dir = [] ∧ t.coh.txns = [] ∧
    WrittenUnder (r.pa / 64) (atomicLine aop (4 * 2 ^ n.val) (r.pa % 64) (granuleData s r.ctx r.keySlot (r.pa / 64)) d.data) (maskOf (r.pa % 64) (4 * 2 ^ n.val)) s t := by
  obtain ⟨v, hv, hmem, hfree, hends⟩ := nearRequest_applies h (.inr (.inl rfl) : CohKind.atomH = _ ∨ _) d aop (4 * 2 ^ n.val)
  have happlies := applyAtMemory_atomic (t := plainTxn .atomH r d aop (4 * 2 ^ n.val)) (nearRequest_plainGranule hv) hv.2.2.1 rfl
  obtain ⟨t, ht, -, hlooks, hsent, hdir, htxns⟩ := hends _ happlies.toApplied
  have hdata := granuleData_of_mem hmem hfree r.ctx r.keySlot (r.pa / 64)
  exact ⟨t, ht, hdata ▸ hsent, hdir, htxns, writtenUnder_congr (hdata ▸ happlies.written) (congrArg MemUnit.bytes hmem) hlooks.bytes⟩

/-! ### A line is zeroed (R225) -/

/-- One granule of the line: its copies leave, and it is zeroed. -/
def zeroGranule (r : CohReq) (st : State) (k : Nat) : State :=
  writeGranule r.ctx r.keySlot k 0 fullMask false (touch k (if k = r.pa / 64 then st else dropCopies k st))

theorem maskBit_fullMask : ∀ i < 64, maskBit fullMask i = true := by decide

theorem lineByte_zero (i : Nat) : lineByte 0 i = 0 := by
  have hzero : (0 : Line).toNat = 0 := BitVec.toNat_zero
  rw [lineByte, hzero, Nat.zero_div]
  rfl

theorem zeroGranule_works (r : CohReq) {s : State} {k : Nat} (hdir : s.coh.dir = []) (hk : target (k * 64) = .stacks) :
    Tends s (zeroGranule r s k) ∧ (zeroGranule r s k).coh = s.coh ∧ (zeroGranule r s k).mem.flaws = s.mem.flaws ∧ OnlyGranule k (fun _ => 0) s (zeroGranule r s k) := by
  have hkept : (if k = r.pa / 64 then s else dropCopies k s) = s := by rw [dropCopies_unlisted hdir, ite_self]
  unfold zeroGranule
  rw [hkept]
  have hlooks := (stays_touch k s).looks
  obtain ⟨hinside, houtside⟩ := onlyGranule_of_putBytes (bytes_writeGranule (c := r.ctx) (k := r.keySlot) (s := touch k s) (.inl hk) 0 fullMask false)
  refine ⟨tends_trans hlooks.tends (tends_writeGranule _ _ _ _ _ _ _), (writeGranule_coh _ _ _ _ _ _ _).trans (touch_coh k s),
    (writeGranule_flaws _ _ _ _ _ _ _).trans hlooks.flaws, fun i hi => ?_, fun a ha => ?_⟩
  · rw [hinside i hi, lineByte_mergeLine _ _ _ hi, maskBit_fullMask i hi, if_pos rfl, lineByte_zero]
  · rw [houtside a ha, byteAt, hlooks.bytes, byteAt]

theorem zeroGranules_work (r : CohReq) (ks : List Nat) {s : State} (hdir : s.coh.dir = []) (hks : ∀ k ∈ ks, target (k * 64) = .stacks) :
    Tends s (ks.foldl (zeroGranule r) s) ∧ (ks.foldl (zeroGranule r) s).coh = s.coh ∧ (ks.foldl (zeroGranule r) s).mem.flaws = s.mem.flaws ∧
    ∀ a, byteAt (ks.foldl (zeroGranule r) s) a = if a / 64 ∈ ks then 0 else byteAt s a := by
  induction ks generalizing s with
  | nil => exact ⟨(Looks.tends ⟨rfl, rfl⟩), rfl, rfl, fun a => rfl⟩
  | cons k ks ih =>
    obtain ⟨htends, hcoh, hflaws, hinside, houtside⟩ := zeroGranule_works r hdir (hks k List.mem_cons_self)
    obtain ⟨htends', hcoh', hflaws', hbytes⟩ := ih (s := zeroGranule r s k) (by rw [hcoh, hdir]) fun x hx => hks x (List.mem_cons_of_mem k hx)
    refine ⟨tends_trans htends htends', hcoh'.trans hcoh, hflaws'.trans hflaws, fun a => ?_⟩
    rw [List.foldl_cons, hbytes a]
    by_cases hk : a / 64 = k
    · have hzero := hinside (a % 64) (Nat.mod_lt _ (by norm_num))
      rw [← hk, Nat.div_add_mod'] at hzero
      subst hk
      simp [hzero]
    · simp [hk, houtside a (by omega)]

/-- The device cache is accessed at granules of one line. -/
theorem stackLines_work (r : CohReq) (l : Nat) (ks : List Nat) {s : State} (hl : target (l * 256) ≠ .host) (hks : ∀ k ∈ ks, k / 4 = l)
    (hflaws : s.mem.flaws = []) (hone : OneLine l s) :
    Looks s (ks.foldl (fun st x => stackLine x r.keySlot r.cache true true st) s) ∧
    OneLine l (ks.foldl (fun st x => stackLine x r.keySlot r.cache true true st) s) := by
  induction ks generalizing s with
  | nil => exact ⟨⟨rfl, rfl⟩, hone⟩
  | cons k ks ih =>
    have hk := hks k List.mem_cons_self
    subst hk
    have hstays := stays_stackLine hflaws (hone.noHostLines hl) hl r.keySlot r.cache true true
    obtain ⟨hlooks, hlast⟩ := ih (fun x hx => hks x (List.mem_cons_of_mem k hx)) (hstays.flaws.trans hflaws)
      (oneLine_stackLine hflaws hl hone r.keySlot r.cache true true)
    exact ⟨hstays.looks.trans hlooks, hlast⟩

theorem applyAtMemory_of_zeroL {t : Txn} {s : State} (hstacks : target t.req.pa = .stacks) (hkind : t.kind = .zeroL) (hflaws : s.mem.flaws = []) :
    applyAtMemory t s = sendMsg (.cmp t.req.agent (t.req.pa / 64) 0 false) ((rangeFrom (t.req.pa / 64 / 4 * 4) 4).foldl (zeroGranule t.req)
      ((rangeFrom (t.req.pa / 64 / 4 * 4) 4).foldl (fun st x => stackLine x t.req.keySlot t.req.cache true true st)
        (softAccess (t.req.pa / 256 * 256) 256 true s))) := by
  have hsound : (softAccess (t.req.pa / 256 * 256) 256 true s).mem.flaws = [] := by rw [OnlyNotes.mem (softAccess_rest _ _ _ s), hflaws]
  have hmeets (ks : List Nat) : ks.foldl (fun st x => meetWrite (some t.req.ctx) x true st) (softAccess (t.req.pa / 256 * 256) 256 true s) =
      softAccess (t.req.pa / 256 * 256) 256 true s := foldl_still fun x _ => meetWrite_sound hsound _ x _
  unfold applyAtMemory
  simp only [hkind, hstacks, reqGranules, hmeets, reduceCtorEq, if_true, if_false, decide_true, Bool.true_or]
  rfl

theorem applyAtMemory_zeroes {t : Txn} {s : State} (h : PlainGranule (t.req.pa / 64) s) (hstacks : target t.req.pa = .stacks) (hkind : t.kind = .zeroL)
    (hdir : s.coh.dir = []) :
    Applied (t.req.pa / 64) (.cmp t.req.agent (t.req.pa / 64) 0 false) s (applyAtMemory t s) ∧
    ∀ a, byteAt (applyAtMemory t s) a = if a / 256 = t.req.pa / 256 then 0 else byteAt s a := by
  have hnotes : OnlyNotes s (softAccess (t.req.pa / 256 * 256) 256 true s) := softAccess_rest _ _ _ s
  rw [applyAtMemory_of_zeroL hstacks hkind h.flaws]
  generalize softAccess (t.req.pa / 256 * 256) 256 true s = u at hnotes
  have hnoted := h.notes hnotes
  obtain ⟨hlooks, hone⟩ := stackLines_work t.req (t.req.pa / 64 / 4) (rangeFrom (t.req.pa / 64 / 4 * 4) 4) hnoted.line
    (fun k hk => by have := mem_rangeFrom.1 hk; omega) hnoted.flaws hnoted.one
  generalize (rangeFrom (t.req.pa / 64 / 4 * 4) 4).foldl (fun st x => stackLine x t.req.keySlot t.req.cache true true st) u = v at hlooks hone
  obtain ⟨htends, hcoh, hsound, hbytes⟩ := zeroGranules_work t.req (rangeFrom (t.req.pa / 64 / 4 * 4) 4) (s := v)
    (by rw [hlooks.dir, hnotes.coh, hdir]) fun k hk => by
      have := mem_rangeFrom.1 hk
      rw [target, show k * 64 / 2 ^ 48 = t.req.pa / 2 ^ 48 by omega, ← target, hstacks]
  generalize (rangeFrom (t.req.pa / 64 / 4 * 4) 4).foldl (zeroGranule t.req) v = w at htends hcoh hsound hbytes
  refine ⟨{
    works := hnotes.homeWorks.trans (hlooks.tends.homeWorks.trans (htends.homeWorks.trans (homeWorks_sendMsg _ w)))
    sent := List.mem_append_right _ (List.mem_singleton.2 rfl)
    dir := (congrArg Coherence.dir hcoh).trans (hlooks.dir.trans (congrArg Coherence.dir hnotes.coh))
    txns := (congrArg Coherence.txns hcoh).trans (hlooks.txns.trans (congrArg Coherence.txns hnotes.coh))
    flaws := hsound.trans (hlooks.flaws.trans hnoted.flaws)
    one := hone.of_dev (congrArg Coherence.dev hcoh :) }, fun a => ?_⟩
  have hline : a / 64 ∈ rangeFrom (t.req.pa / 64 / 4 * 4) 4 ↔ a / 256 = t.req.pa / 256 := by
    rw [mem_rangeFrom]
    omega
  show byteAt w a = _
  rw [hbytes a, byteAt, hlooks.bytes, hnotes.mem, byteAt]
  simp only [hline]

theorem exec_zeroL_request {s : State} {r : CohReq} (h : NearRequest r s) : ∃ t, exec (.zeroL r) s = .next t ∧
    Msg.cmp r.agent (r.pa / 64) 0 false ∈ t.coh.fabric ∧ t.coh.dir = [] ∧ t.coh.txns = [] ∧ ∀ a, byteAt t a = if a / 256 = r.pa / 256 then 0 else byteAt s a := by
  obtain ⟨v, hv, hmem, -, hends⟩ := nearRequest_applies h (.inr (.inr rfl) : CohKind.zeroL = _ ∨ _) noData 0 0
  obtain ⟨happlied, hzero⟩ := applyAtMemory_zeroes (t := plainTxn .zeroL r noData 0 0) (nearRequest_plainGranule hv) hv.2.2.1 rfl hv.1.2.2.1
  obtain ⟨t, ht, -, hlooks, hsent, hdir, htxns⟩ := hends _ happlied
  refine ⟨t, ht, hsent, hdir, htxns, fun a => ?_⟩
  rw [byteAt, hlooks.bytes, ← byteAt, hzero a, byteAt, hmem, byteAt]
  rfl

/-! ### A granule with an open transaction (R234) -/

/-- A request that is neither aged nor a proxy's is sent back while its granule has an open transaction. -/
theorem homeRequest_busy {s : State} {r : CohReq} (hnear : r.agent < 192) (hyoung : r.aged = false) (hretry : r.retry.val < 9)
    (hopen : (getTxn s (r.pa / 64)).isSome = true) (hstays : recalling s (r.pa / 64) = false) (k : CohKind) (d : CohData) (aop size : Nat) :
    homeRequest k r d aop size .plain s = sendRetry r s := by
  have hown : r.pa / 64 ∈ reqGranules k (r.pa / 64) := by
    unfold reqGranules
    split
    · rw [mem_rangeFrom]
      omega
    · exact List.mem_singleton.2 rfl
  have hbusy : (reqGranules k (r.pa / 64)).any (granuleBusy s) = true := List.any_eq_true.2 ⟨_, hown, by simp [granuleBusy, hopen]⟩
  have hopens : ((reqGranules k (r.pa / 64)).any fun x => (getTxn s x).isSome && !(recalling s x)) = true := List.any_eq_true.2 ⟨_, hown, by simp [hopen, hstays]⟩
  have hwaits : mustWait s k r (d.mask = fullMask) .plain = true := by simp [mustWait, hbusy]
  have hyoung' : isAged r = false := by simp [isAged, hyoung, hretry]
  unfold homeRequest
  simp [hbusy, hopens, hwaits, hyoung', notProxy_of_near hnear]

theorem sendRetry_rest (r : CohReq) (s : State) : { sendRetry r s with coh.fabric := s.coh.fabric, ctrs := s.ctrs, wraps := s.wraps } = s := rfl

theorem ctr_sendRetry (r : CohReq) (s : State) : ctr (sendRetry r s) 0x3800 9 = ctr s 0x3800 9 + 1 := by
  have hother : okey 0x3800 9 ≠ okey (0x3801 + homeOf s (r.pa / 64)) 6 := by
    rw [Ne, okey_inj (by decide) (by decide)]
    omega
  show ctr (count _ 6 (count 0x3800 9 s)) 0x3800 9 = _
  rw [ctr_count, if_neg hother, ctr_count_same]

theorem ctr_takeMsg (m : Msg) (s : State) (i j : Nat) : ctr (takeMsg m s) i j = ctr s i j := rfl

theorem exec_busy_request {s : State} {r : CohReq} (hfab : fabOn s = true) (hacts : s.acts = []) (hnear : r.agent < 192) (hyoung : r.aged = false)
    (hretry : r.retry.val < 9) (hopen : (getTxn s (r.pa / 64)).isSome = true) (hstays : recalling s (r.pa / 64) = false)
    (hxfers : (s.xfers.all fun y => !y.write) = true) (k : CohKind) (d : CohData) (aop size : Nat) :
    ∃ t, done (onFab (requestTaken k r d aop size) s) = .next t ∧ Msg.retry r.agent (r.pa / 64) r.retry.val ∈ t.coh.fabric ∧
      ctr t 0x3800 9 = ctr s 0x3800 9 + 1 ∧ { t with coh.fabric := s.coh.fabric, ctrs := s.ctrs, wraps := s.wraps } = s := by
  have htaken := homeRequest_busy (s := takeMsg (.request k r d aop size) s) hnear hyoung hretry hopen hstays k d aop size
  rw [← requestTaken_of_near hxfers hnear] at htaken
  refine ⟨sendRetry r (takeMsg (.request k r d aop size) s), ?_, List.mem_append_right _ (List.mem_singleton.2 rfl), ?_, ?_⟩
  · rw [done_onFab hfab (by rw [htaken]; exact hacts), htaken]
  · rw [ctr_sendRetry, ctr_takeMsg]
  · exact (congrArg (fun x : State => { x with coh.fabric := s.coh.fabric }) (sendRetry_rest r (takeMsg (.request k r d aop size) s)) :)

end Sys2Proof.Machine
end

section
open Sys2Proof Sys2Proof.Machine

/-- Settles O49: nothing else goes on at the homes, so each request runs to the end of its transaction, and what it leaves is read off from the
storage's rules; a granule with an open transaction sends the request back. -/
theorem homesServeRequests : Obligations.HomesServeRequests := by
  unfold Obligations.HomesServeRequests
  refine ⟨fun s r i h hserves hi => ?_, fun s r h => exec_rdNc_request h, fun s r d h => exec_wrNc_request h d, fun s r d aop n h _ => exec_atomH_request h d aop n,
    fun s r h => ?_, fun s r d aop n i hfab hacts hnear hyoung hretry hopen hstays hxfers hi => ?_⟩
  · simp only [List.mem_cons, List.not_mem_nil, or_false] at hi
    rcases hi with rfl | rfl | rfl
    · exact exec_keeping_request h hserves (.inl rfl)
    · exact exec_keeping_request h hserves (.inr (.inl rfl))
    · exact exec_keeping_request h hserves (.inr (.inr rfl))
  · obtain ⟨t, ht, hsent, hdir, htxns, hbytes⟩ := exec_zeroL_request h
    refine ⟨t, ht, hsent, hdir, htxns, fun i hi => ?_, fun a ha => ?_⟩
    · rw [hbytes, if_pos (by omega)]
    · rw [hbytes, if_neg (by omega)]
  · have hsends (k : CohKind) (x : CohData) (op size : Nat) := exec_busy_request hfab hacts hnear hyoung hretry hopen hstays hxfers k x op size
    simp only [List.mem_cons, List.not_mem_nil, or_false] at hi
    rcases hi with rfl | rfl | rfl | rfl | rfl | rfl | rfl <;> exact hsends _ _ _ _

end

section
namespace Sys2Proof.Machine

/-! ### A home takes the answer that it waits for (R238) -/

/-- The home's open transaction waits for holder `p` alone. -/
structure LastAsked (g p : Nat) (x : Txn) (s : State) : Prop where
  opened : getTxn s g = some x
  form : x.form = .plain
  asked : x.asked = [p]
  wb : x.wbWait = none

/-- The transaction once that holder has answered. -/
def answeredTxn (p : Nat) (forwarded : Bool) (x : Txn) : Txn :=
  { x with asked := [], fwd := if x.fwd = some p && !forwarded then none else x.fwd }

variable {g p : Nat} {k : CohKind} {x : Txn} {s : State}

theorem LastAsked.of_txns {t : State} (h : LastAsked g p x s) (htxns : t.coh.txns = s.coh.txns) : LastAsked g p x t :=
  { h with opened := by rw [getTxn, htxns]; exact h.opened }

theorem serveQueued_none (h : s.coh.queued = []) : serveQueued s = s := by
  rw [serveQueued, h]
  rfl

/-- The last answer lets the transaction go on. -/
theorem holderAnswered_last (h : LastAsked g p x s) (forwarded : Bool) : holderAnswered g p forwarded s =
    serveQueued (if (answeredTxn p forwarded x).fwd.isSome then finishForwarded (answeredTxn p forwarded x) s else finishTxn (answeredTxn p forwarded x) s) := by
  unfold holderAnswered
  simp [h.opened, h.asked, h.wb, answeredTxn]

/-- The home does what the request is for. -/
theorem holderAnswered_finishes (h : LastAsked g p x s) (hfwd : x.fwd = none ∨ x.fwd = some p) :
    holderAnswered g p false s = serveQueued (finishPlain (answeredTxn p false x) s) := by
  have hnone : (answeredTxn p false x).fwd = none := by rcases hfwd with hf | hf <;> simp [answeredTxn, hf]
  rw [holderAnswered_last h, hnone, finishTxn]
  simp [answeredTxn, h.form]

/-- The holder has sent the line to the requester. -/
theorem holderAnswered_forwards (h : LastAsked g p x s) (hfwd : x.fwd = some p) :
    holderAnswered g p true s = serveQueued (finishForwarded (answeredTxn p true x) s) := by
  have hsome : (answeredTxn p true x).fwd = some p := by simp [answeredTxn, hfwd]
  rw [holderAnswered_last h, hsome]
  rfl

theorem awaits_lastAsked (h : Awaits g p k x s) : LastAsked g p x s := by
  obtain ⟨-, -, hopen, -, hform, hasked, hwb, -⟩ := h
  exact ⟨hopen, hform, hasked, hwb⟩

theorem awaits_plainGranule (h : Awaits g p k x s) : PlainGranule g s := by
  obtain ⟨-, -, -, -, -, -, -, -, -, -, -, htarget, -, hdev, hhomes, hflaws, hpoison, -⟩ := h
  exact ⟨htarget, hflaws, (poisonAt_of_sound hflaws _).symm.trans hpoison, .inl hdev, by simp [hhomes]⟩

/-- What brings dirty data back to memory, for a granule of the stacks. -/
theorem dirtyBack_plain (h : PlainGranule g s) (key c : Nat) (dirty : Bool) :
    Stays s (dirtyBack g key c dirty s) ∧ PlainGranule g (dirtyBack g key c dirty s) := by
  rw [dirtyBack, h.inStacks]
  dsimp only
  split
  · exact h.stackLine key c true true
  · exact ⟨.refl s, h⟩

/-- Nothing changed but the messages. -/
def OnlyMessages (s t : State) : Prop := { t with coh.fabric := s.coh.fabric } = s

theorem OnlyMessages.trans {t u : State} (h : OnlyMessages s t) (k : OnlyMessages t u) : OnlyMessages s u :=
  (congrArg (fun v : State => { v with coh.fabric := s.coh.fabric }) k : _ = ({ t with coh.fabric := s.coh.fabric } : State)).trans h

theorem OnlyMessages.homeWorks {t : State} (h : OnlyMessages s t) : HomeWorks s t := (congrArg (beforeHome s) h :)
theorem OnlyMessages.mem {t : State} (h : OnlyMessages s t) : t.mem = s.mem := (congrArg State.mem h :)
theorem OnlyMessages.free {t : State} (h : OnlyMessages s t) : t.free = s.free := (congrArg State.free h :)
theorem OnlyMessages.dir {t : State} (h : OnlyMessages s t) : t.coh.dir = s.coh.dir := (congrArg (fun v : State => v.coh.dir) h :)
theorem OnlyMessages.near {t : State} (h : OnlyMessages s t) (p g : Nat) : getNear t p g = getNear s p g := (congrArg (fun v => getNear v p g) h :)

theorem awaits_of_messages {t : State} (h : Awaits g p k x s) (hst : OnlyMessages s t) : Awaits g p k x t := ((congrArg (Awaits g p k x) hst).mpr h :)

/-- A holder's answer is one of several messages: each that is there is taken. -/
theorem onlyMessages_takes (f : SnpKind → Msg) (ks : List SnpKind) (s : State) : OnlyMessages s (ks.foldl (fun st k => takeMsg (f k) st) s) := by
  induction ks generalizing s with
  | nil => rfl
  | cons k ks ih => exact OnlyMessages.trans (t := takeMsg (f k) s) rfl (ih _)

end Sys2Proof.Machine
end

section
namespace Sys2Proof.Machine

variable {p : PortId} {g : Nat} {k : CohKind} {x : Txn} {s : State}

/-- RSP_I: whatever message said so, the holder has no copy and has answered. -/
theorem rspI_awaited (h : Awaits g p k x s) (hline : (getNear s p g).st = .i) :
    ∃ u, OnlyMessages s u ∧ rspI p g s = holderAnswered g p false (setNear p g {} u) := by
  have hu := onlyMessages_takes (fun k => .answer k p g false false false) [.fwdS, .fwdX, .getS, .getI, .cur, .inv] s
  refine ⟨_, hu, ?_⟩
  unfold rspI
  generalize [SnpKind.fwdS, .fwdX, .getS, .getI, .cur, .inv].foldl (fun st k => takeMsg (.answer k p g false false false) st) s = u at hu
  have hlast := awaits_lastAsked (awaits_of_messages h hu)
  simp [hlast.opened, hlast.asked, hu.near, hline]

theorem nearFenced_dropLine (p g q : Nat) (s : State) : (getPort (setNear p g {} s) q).nearFenced = (getPort s q).nearFenced := by
  show (getPort (clearResv p g none _) q).nearFenced = _
  unfold clearResv
  rw [getPort_modPort]
  split
  next hq => subst hq; rfl
  next => rfl

theorem exec_rspI_awaited (h : Awaits g p .rdX x s) (hfwd : x.fwd = none ∨ x.fwd = some p.val) (hline : (getNear s p g).st = .i) :
    ∃ t y, exec (.rspI p g) s = .next t ∧ getDir t g = ⟨.exclusive, [x.req.agent], none⟩ ∧
      Msg.data x.req.agent g .e (granuleData s x.req.ctx x.req.keySlot g) false false ∈ t.coh.fabric ∧ getTxn t g = some y ∧ y.doneWait = true ∧ t.mem.bytes = s.mem.bytes := by
  obtain ⟨u, hu, htakes⟩ := rspI_awaited h hline
  have hawaits := awaits_of_messages h hu
  have hplain := (awaits_plainGranule hawaits).beside (t := setNear p g {} u) rfl rfl rfl
  have hdata : granuleData (setNear p g {} u) x.req.ctx x.req.keySlot g = granuleData s x.req.ctx x.req.keySlot g := granuleData_of_mem hu.mem hu.free _ _ _
  have hlast := (awaits_lastAsked hawaits).of_txns (t := setNear p g {} u) rfl
  rw [holderAnswered_finishes hlast hfwd] at htakes
  obtain ⟨-, hacts, -, hkind, -, -, -, hnear, -, rfl, hstacks, -, hqueued, -, -, -, -, hserves, -⟩ := hawaits
  rw [← nearFenced_dropLine p (x.req.pa / 64)] at hserves
  obtain ⟨hworks, hbytes, hsent, hdir, y, hy, hwait, -⟩ := finishPlain_grantsExclusive (t := answeredTxn p false x) hplain hstacks hnear hserves
    (.inr (.inl hkind)) (.inl hkind)
  rw [serveQueued_none (hworks.queued.trans hqueued)] at htakes
  rw [← htakes] at hworks hbytes hsent hdir hy
  exact ⟨_, y, done_onFab h.1 (hworks.acts.trans hacts), hdir, hdata ▸ hsent, hy, hwait, hbytes.trans (congrArg MemUnit.bytes hu.mem)⟩

/-- An answer with the line: its message is taken, the home writes a dirty line to memory, if this is the answer that says so, and counts the answer. -/
theorem rspHad_awaited (h : Awaits g p k x s) (ks : List SnpKind) (dirty forwarded : Bool) : ∃ u v, OnlyMessages s u ∧ Stays u v ∧ PlainGranule g v ∧
    withBlock g (rspHad ks p g dirty forwarded) s = holderAnswered g p forwarded v := by
  have hblock : blockOut s g = false := by
    obtain ⟨-, -, -, -, -, -, -, -, -, -, -, -, -, -, -, -, -, -, hblock⟩ := h
    exact hblock
  rw [withBlock, if_neg (by simp [hblock])]
  unfold rspHad
  extract_lets asked back u
  have hu : OnlyMessages s u := onlyMessages_takes (fun k => .answer k p g true dirty false) ks s
  have hawaits := awaits_of_messages h hu
  have hlast := awaits_lastAsked hawaits
  obtain ⟨hstays, hplain⟩ := dirtyBack_plain (awaits_plainGranule hawaits) x.req.keySlot x.req.cache back
  exact ⟨u, _, hu, hstays, hplain, by simp [hlast.opened, hlast.asked]⟩

theorem exec_rspData_awaited (h : Awaits g p .rdNc x s) (hfwd : x.fwd = none) (dirty : Bool) :
    ∃ t, exec (.rspData p g dirty) s = .next t ∧ getDir t g = getDir s g ∧ Msg.data x.req.agent g .none (granuleData s x.req.ctx x.req.keySlot g) false false ∈ t.coh.fabric ∧
      getTxn t g = none ∧ t.mem.bytes = s.mem.bytes ∧ t.coh.near = s.coh.near := by
  obtain ⟨u, v, hu, hv, hplain, htakes⟩ := rspHad_awaited h [.getS, .getI, .cur] dirty false
  have hdata : granuleData v x.req.ctx x.req.keySlot g = granuleData s x.req.ctx x.req.keySlot g :=
    (granuleData_congr hv.looks fun _ _ => hv.free).trans (granuleData_of_mem hu.mem hu.free _ _ _)
  have hlast := (awaits_lastAsked (awaits_of_messages h hu)).of_txns hv.looks.txns
  rw [holderAnswered_finishes hlast (.inl hfwd)] at htakes
  obtain ⟨hfab, hacts, -, hkind, -, -, -, hnear, -, rfl, hstacks, -, hqueued, -⟩ := h
  obtain ⟨hreads, hbytes, hsent, hdir, htxns⟩ := finishPlain_readsUncached (t := answeredTxn p false x) hplain hstacks (notProxy_of_near hnear) hkind
  have hworks := hu.homeWorks.trans (hv.looks.tends.homeWorks.trans hreads)
  rw [serveQueued_none (hworks.queued.trans hqueued)] at htakes
  rw [← htakes] at hworks hbytes hsent hdir htxns
  refine ⟨_, done_onFab hfab (hworks.acts.trans hacts), ?_, hdata ▸ hsent, ?_, hbytes.trans (hv.looks.bytes.trans (congrArg MemUnit.bytes hu.mem)), hworks.near⟩
  · rw [getDir, hdir, hv.looks.dir, hu.dir, getDir]
  · rw [getTxn, htxns]
    exact tget_tset_same _ _ _ _

/-- The holder forwarded the line: the entry becomes what Table 9.5 states, and the home waits for DONE. -/
theorem finishForwarded_keeps {t : Txn} {s : State} (hnear : t.req.agent < 192) (hserves : (getPort s t.req.agent).nearFenced = false) (hkeeps : keepsLine t.kind) :
    finishForwarded t s = setTxn (t.req.pa / 64) (some { t with asked := [], fwd := none, wbWait := none, memWait := false, doneWait := true })
      (setDir (t.req.pa / 64) (if t.kind = .rdS then addHolder { getDir s (t.req.pa / 64) with st := .shared, f := none } t.req.agent true
        else ⟨.exclusive, [t.req.agent], none⟩) s) := by
  unfold finishForwarded
  dsimp only
  rw [ofDead_of_serving hserves, if_neg Bool.false_ne_true, openUntilDone_keeps hnear hkeeps]
  rcases hkeeps with hk | hk | hk <;> simp [hk, isNear, hnear]

theorem exec_forwarded_awaited (h : Awaits g p k x s) (hfwd : x.fwd = some p.val) (hkeeps : keepsLine k) (ks : List SnpKind) (dirty : Bool) :
    ∃ t y, done (onFab (withBlock g (rspHad ks p g dirty true)) s) = .next t ∧
      getDir t g = (if k = .rdS then addHolder { getDir s g with st := .shared, f := none } x.req.agent true else ⟨.exclusive, [x.req.agent], none⟩) ∧
      getTxn t g = some y ∧ y.doneWait = true ∧ t.mem.bytes = s.mem.bytes ∧ t.coh.near = s.coh.near := by
  obtain ⟨u, v, hu, hv, hplain, htakes⟩ := rspHad_awaited h ks dirty true
  have hlast := (awaits_lastAsked (awaits_of_messages h hu)).of_txns hv.looks.txns
  have hentry : getDir v g = getDir s g := by rw [getDir, hv.looks.dir, hu.dir, getDir]
  have hworks := hu.homeWorks.trans hv.looks.tends.homeWorks
  obtain ⟨hfab, hacts, -, hkind, -, -, -, hnear, -, rfl, -, -, hqueued, -, -, -, -, hserves, -⟩ := h
  rw [← hkind] at hkeeps
  rw [holderAnswered_forwards hlast hfwd, finishForwarded_keeps (t := answeredTxn p true x) hnear (by rw [getPort, hworks.ports]; exact hserves) hkeeps] at htakes
  replace htakes := htakes.trans (serveQueued_none (hworks.queued.trans hqueued :))
  refine ⟨_, { answeredTxn p true x with asked := [], fwd := none, wbWait := none, memWait := false, doneWait := true }, done_onFab hfab ?_, ?_, ?_, rfl, ?_, ?_⟩
  all_goals rw [htakes]
  · exact hworks.acts.trans hacts
  · refine (tget_tset_same _ _ _ _).trans ?_
    simp only [answeredTxn, hentry, hkind]
  · exact tget_tset_same _ _ _ _
  · exact hv.looks.bytes.trans (congrArg MemUnit.bytes hu.mem)
  · exact hworks.near

theorem exec_rspFwdS_awaited (h : Awaits g p .rdS x s) (hfwd : x.fwd = some p.val) (hdir : getDir s g = ⟨.exclusive, [p.val], none⟩) (dirty : Bool) :
    ∃ t y, exec (.rspFwdS p g dirty) s = .next t ∧ getDir t g = ⟨.shared, [p.val, x.req.agent], some x.req.agent⟩ ∧ getTxn t g = some y ∧ y.doneWait = true ∧
      t.mem.bytes = s.mem.bytes ∧ t.coh.near = s.coh.near := by
  obtain ⟨t, y, ht, hentry, hrest⟩ := exec_forwarded_awaited h hfwd (.inl rfl) [.fwdS] dirty
  obtain ⟨-, -, -, -, -, -, -, -, hother, -⟩ := h
  refine ⟨t, y, ht, hentry.trans ?_, hrest⟩
  simp [hdir, addHolder, hother]

theorem exec_rspWbif_awaited (h : Awaits g p k x s) (hdir : getDir s g = ⟨.exclusive, [p.val], none⟩) (hline : (getNear s p g).st = .m) :
    ∃ t, exec (.rspWbif p g) s = .next t ∧ getTxn t g = some { x with asked := [], fwd := if x.fwd = some p.val then none else x.fwd, wbWait := some p.val } ∧
      { t with coh.txns := s.coh.txns, coh.fabric := s.coh.fabric } = s := by
  have hu := onlyMessages_takes (fun k => .answer k p g false false true) [.fwdS, .fwdX, .getS, .getI, .cur, .inv] s
  have htakes : rspWbif p g s = setTxn g (some { x with asked := [], fwd := if x.fwd = some p.val then none else x.fwd, wbWait := some p.val })
      ([SnpKind.fwdS, .fwdX, .getS, .getI, .cur, .inv].foldl (fun st k => takeMsg (.answer k p g false false true) st) s) := by
    unfold rspWbif
    generalize [SnpKind.fwdS, .fwdX, .getS, .getI, .cur, .inv].foldl (fun st k => takeMsg (.answer k p g false false true) st) s = u at hu
    have hlast := awaits_lastAsked (awaits_of_messages h hu)
    have hentry : getDir u g = getDir s g := by rw [getDir, hu.dir, getDir]
    simp [hlast.opened, hlast.asked, hu.near, hentry, hdir, hline]
  generalize [SnpKind.fwdS, .fwdX, .getS, .getI, .cur, .inv].foldl (fun st k => takeMsg (.answer k p g false false true) st) s = u at hu htakes
  refine ⟨_, done_onFab h.1 ?_, ?_, ?_⟩
  all_goals rw [htakes]
  · exact hu.homeWorks.acts.trans h.2.1
  · exact tget_tset_same _ _ _ _
  · exact (congrArg (fun v : State => { v with coh.txns := s.coh.txns }) hu :)

end Sys2Proof.Machine
end

section
namespace Sys2Proof.Machine

/-! ### A message that makes an idle core port look again -/

/-- The pump of a port without entries ends at once. -/
theorem done_owe_idle {p : Nat} {v : State} (hquiet : v.acts = []) (hops : (getPort v p).ops = []) (hdeferred : (getPort v p).deferred = []) :
    ∃ t, done (owe (.pump p) v) = .next t ∧ PortBecomes p { getPort v p with seen := [] } v t := by
  have hidle := settleN_pump_idle (p := p) (n := 999999) (s := owe (.pump p) v) (congrArg (· ++ [Act.pump p]) hquiet :) hops hdeferred
  rw [getPort_owe, show ({ owe (.pump p) v with acts := [] } : State) = v from withoutActs_of_quiet hquiet] at hidle
  exact ⟨_, rfl, hidle⟩

/-- DONE ends the transaction. -/
theorem exec_doneMessage_waited {s : State} {a g : Nat} {x : Txn} (hfab : fabOn s = true) (hacts : s.acts = []) (hopen : getTxn s g = some x) (hwait : x.doneWait = true)
    (hagent : x.req.agent = a) (hqueued : s.coh.queued = []) (hthrough : g ∉ s.coh.through) (hhomes : ∀ kv ∈ s.coh.homeState, kv.2 ≠ 1) :
    ∃ t, exec (.doneMessage a g) s = .next t ∧ getTxn t g = none ∧ (∀ k, k ≠ g → getTxn t k = getTxn s k) ∧ { t with coh.fabric := s.coh.fabric, coh.txns := s.coh.txns } = s := by
  have hends : doneArrives a g s = setTxn g none (takeMsg (.done a g) s) := by
    have hend : endTxn g (takeMsg (.done a g) s) = setTxn g none (takeMsg (.done a g) s) := by
      rw [endTxn_of_unfenced (s := takeMsg (.done a g) s) hhomes, throughDone, if_neg]
      simp [setTxn, takeMsg, hthrough]
    have hopen' : getTxn (takeMsg (.done a g) s) g = some x := hopen
    unfold doneArrives
    simp only [hopen', hwait, hagent, decide_true, Bool.and_self, if_true, hend]
    exact serveQueued_none hqueued
  refine ⟨_, done_onFab hfab (by rw [hends]; exact hacts), ?_⟩
  rw [hends]
  exact ⟨tget_tset_same _ _ _ _, fun k hk => tget_tset_ne _ _ _ hk, rfl⟩

/-- WB_ACK: the writeback buffer is free, and of a line that was only kept for its context nothing is left. -/
def ackedState (a g : Nat) (s : State) : State :=
  let s := { takeMsg (.wbAck a g) s with coh.wbs := s.coh.wbs.erase (a, g) }
  if isNear a && (getNear s a g).st = .i then setNear a g {} s else s

theorem wbAckArrives_eq (a g : Nat) (s : State) : wbAckArrives a g s = if isNear a then owe (.pump a) (ackedState a g s) else ackedState a g s := rfl

theorem ackedState_rest (a g : Nat) (s : State) : { ackedState a g s with coh.fabric := s.coh.fabric, coh.wbs := s.coh.wbs, coh.near := s.coh.near, ports := s.ports } = s := by
  unfold ackedState
  dsimp only
  split <;> rfl

theorem ackedState_acks (a g : Nat) (s : State) : (ackedState a g s).coh.wbs = s.coh.wbs.erase (a, g) ∧ (ackedState a g s).coh.fabric = s.coh.fabric.erase (.wbAck a g) := by
  unfold ackedState
  dsimp only
  split <;> exact ⟨rfl, rfl⟩

theorem ackedState_near (a g : Nat) (s : State) : (getNear (ackedState a g s) a g).st = (getNear s a g).st ∧
    ∀ b k, nearKey b k ≠ nearKey a g → getNear (ackedState a g s) b k = getNear s b k := by
  unfold ackedState
  dsimp only
  split
  next h =>
    simp only [Bool.and_eq_true, decide_eq_true_eq] at h
    refine ⟨?_, fun b k hk => tget_tset_ne _ _ _ hk⟩
    rw [getNear_setNear_same]
    exact h.2.symm
  next => exact ⟨rfl, fun _ _ _ => rfl⟩

/-- The entries of a port and the snoops that wait there stay as a line leaves. -/
theorem setNear_queues (p g : Nat) (l : NearLine) (s : State) (q : Nat) : (getPort (setNear p g l s) q).ops = (getPort s q).ops ∧
    (getPort (setNear p g l s) q).deferred = (getPort s q).deferred := by
  unfold setNear clearResv
  dsimp only
  split
  · rw [getPort_modPort]
    split
    next hq => subst hq; exact ⟨rfl, rfl⟩
    next => exact ⟨rfl, rfl⟩
  · exact ⟨rfl, rfl⟩

theorem ackedState_queues (a g : Nat) (s : State) : (getPort (ackedState a g s) a).ops = (getPort s a).ops ∧ (getPort (ackedState a g s) a).deferred = (getPort s a).deferred := by
  unfold ackedState
  dsimp only
  split
  · exact setNear_queues a g {} _ a
  · exact ⟨rfl, rfl⟩

theorem exec_wbAck_idle {s : State} {a g : Nat} (hfab : fabOn s = true) (hacts : s.acts = []) (hops : (getPort s a).ops = []) (hdeferred : (getPort s a).deferred = []) :
    ∃ t, exec (.wbAck a g) s = .next t ∧ t.coh.wbs = s.coh.wbs.erase (a, g) ∧ t.coh.fabric = s.coh.fabric.erase (.wbAck a g) ∧
      (getNear t a g).st = (getNear s a g).st ∧ (∀ b k, nearKey b k ≠ nearKey a g → getNear t b k = getNear s b k) ∧
      { t with coh.fabric := s.coh.fabric, coh.wbs := s.coh.wbs, coh.near := s.coh.near, ports := s.ports } = s := by
  have hrest := ackedState_rest a g s
  obtain ⟨hwbs, hfabric⟩ := ackedState_acks a g s
  obtain ⟨hline, hother⟩ := ackedState_near a g s
  obtain ⟨hops', hdeferred'⟩ := ackedState_queues a g s
  have hquiet : (ackedState a g s).acts = [] := (congrArg State.acts hrest :).trans hacts
  show ∃ t, done (onFab (wbAckArrives a g) s) = .next t ∧ _
  rw [onFab_run _ hfab, wbAckArrives_eq]
  split
  · obtain ⟨t, ht, hidle⟩ := done_owe_idle hquiet (hops'.trans hops) (hdeferred'.trans hdeferred)
    have hcoh : t.coh = (ackedState a g s).coh := hidle.same State.coh rfl
    refine ⟨t, ht, by rw [hcoh, hwbs], by rw [hcoh, hfabric], by rw [getNear, hcoh]; exact hline, fun b k hk => by rw [getNear, hcoh]; exact hother b k hk, ?_⟩
    have hback := (congrArg (fun v : State => { v with coh.fabric := s.coh.fabric, coh.wbs := s.coh.wbs, coh.near := s.coh.near, ports := s.ports }) hidle.rest :)
    exact Eq.trans hback hrest
  · exact ⟨_, done_of_quiet _ hquiet, hwbs, hfabric, hline, hother, hrest⟩

/-- A near cache with room has the line in state `l` and owes DONE: nothing else changed but its port's queues. -/
structure TakesLine (p g : Nat) (l : NearLine) (s t : State) : Prop where
  line : getNear t p g = l
  sent : Msg.done p g ∈ t.coh.fabric
  other : ∀ a b, nearKey a b ≠ nearKey p g → getNear t a b = getNear s a b
  rest : { t with coh.fabric := s.coh.fabric, coh.near := s.coh.near, ports := s.ports } = s

theorem TakesLine.of_port {p g : Nat} {l : NearLine} {x : Port} {s t u : State} (h : TakesLine p g l s t) (hport : PortBecomes p x t u) : TakesLine p g l s u where
  line := (hport.same (fun v => getNear v p g) rfl).trans h.line
  sent := (hport.same (fun v => v.coh.fabric) rfl).symm ▸ h.sent
  other a b hab := (hport.same (fun v => getNear v a b) rfl).trans (h.other a b hab)
  rest := Eq.trans (congrArg (fun v : State => { v with coh.fabric := s.coh.fabric, coh.near := s.coh.near, ports := s.ports }) hport.rest :) h.rest

theorem lineSettled_idle {p : Nat} {s : State} (hops : (getPort s p).ops = []) (g : Nat) : PortBecomes p (getPort s p) s (lineSettled p g s) := by
  have hport : PortBecomes p _ s (lineSettled p g s) := portBecomes_modPort p _ s
  refine ⟨hport.port.trans ?_, hport.rest⟩
  rw [hops, List.map_nil, ← hops]

/-- An idle port takes the line that its near cache asked for. -/
theorem done_takesLine {p g : Nat} {l : NearLine} {m : Msg} {s : State} (hl : l.st ≠ .i) (hacts : s.acts = []) (hops : (getPort s p).ops = [])
    (hdeferred : (getPort s p).deferred = []) :
    ∃ t, done (owe (.pump p) (lineSettled p g (sendMsg (.done p g) (setNear p g l (takeMsg m s))))) = .next t ∧ TakesLine p g l s t := by
  have htakes : TakesLine p g l s (sendMsg (.done p g) (setNear p g l (takeMsg m s))) := {
    line := getNear_setNear_same p g l (takeMsg m s)
    sent := List.mem_append_right _ (List.mem_singleton.2 rfl)
    other := fun a b hab => by rw [setNear_of_stays hl]; exact tget_tset_ne _ _ _ hab
    rest := by rw [setNear_of_stays hl]; rfl }
  have hport : getPort (sendMsg (.done p g) (setNear p g l (takeMsg m s))) p = getPort s p := by rw [setNear_of_stays hl]; rfl
  have hquiet : (sendMsg (.done p g) (setNear p g l (takeMsg m s))).acts = [] := (congrArg State.acts htakes.rest :).trans hacts
  generalize sendMsg (.done p g) (setNear p g l (takeMsg m s)) = u at htakes hport hquiet
  have hsettled := lineSettled_idle (g := g) (hport ▸ hops)
  obtain ⟨t, ht, hidle⟩ := done_owe_idle (p := p) ((hsettled.same State.acts rfl).trans hquiet) (by rw [hsettled.port, hport, hops]) (by rw [hsettled.port, hport, hdeferred])
  exact ⟨t, ht, (htakes.of_port hsettled).of_port hidle⟩

/-- A near cache whose set has room makes none. -/
theorem nearMakes_room {p g : Nat} {s : State} (h : nearVictim s p g = none) : nearMakes p g s = s := by rw [nearMakes, h]

theorem nearRoom_free {p g : Nat} {s : State} (h : nearVictim s p g = none) : nearRoom s p g = true := by rw [nearRoom, h]

theorem nearOf_ne_i {x : Grant} (h : x ≠ .none) : nearOf x ≠ .i := by
  cases x <;> simp_all [nearOf]

theorem isNear_port (p : PortId) : isNear p = true := decide_eq_true p.isLt

/-- The context that a line brings along: the tag of scratch memory, else what the near cache kept (R229). -/
def lineContext (p g : Nat) (s : State) : Nat :=
  match target (g * 64) with
  | .scratch => (tget none s.mem.tags g).getD 4096
  | _ => (getNear s p g).ctx

theorem exec_data_idle {s : State} {p : PortId} {g : Nat} {x : Grant} (line : Line) (bad fwd : Bool) (hfab : fabOn s = true) (hacts : s.acts = []) (hx : x ≠ .none)
    (hserves : (getPort s p).nearFenced = false) (hops : (getPort s p).ops = []) (hdeferred : (getPort s p).deferred = []) (hroom : nearVictim s p g = none)
    (hchecked : unchecked s (0x3000 + p.val) g = false) :
    ∃ t l, done (onFab (dataArrives p g x line bad fwd) s) = .next t ∧ TakesLine p g l s t ∧ l.st = nearOf x := by
  have hroom' : nearVictim (takeMsg (.data p g x line bad fwd) s) p g = none := hroom
  have hserves' : (getPort (takeMsg (.data p g x line bad fwd) s) p).nearFenced = false := hserves
  have harrives : dataArrives p g x line bad fwd s = owe (.pump p) (lineSettled p g (sendMsg (.done p g)
      (setNear p g ⟨nearOf x, lineContext p g (takeMsg (.data p g x line bad fwd) s)⟩ (takeMsg (.data p g x line bad fwd) s)))) := by
    unfold dataArrives
    cases x with
    | none => exact absurd rfl hx
    | s | f | e | m =>
      simp [isNear_port, hchecked, nearRoom_free hroom, hserves', nearMakes_room hroom']
      rfl
  rw [onFab_run _ hfab, harrives]
  obtain ⟨t, ht, htakes⟩ := done_takesLine (l := ⟨nearOf x, lineContext p g (takeMsg (.data p g x line bad fwd) s)⟩) (m := .data p g x line bad fwd)
    (nearOf_ne_i hx) hacts hops hdeferred (g := g)
  exact ⟨t, _, ht, htakes, rfl⟩

theorem exec_gntX_idle {s : State} {p : PortId} {g : Nat} (hfab : fabOn s = true) (hacts : s.acts = []) (hserves : (getPort s p).nearFenced = false)
    (hops : (getPort s p).ops = []) (hdeferred : (getPort s p).deferred = []) (hroom : nearVictim s p g = none) :
    ∃ t, exec (.gntX p g) s = .next t ∧ TakesLine p g { getNear s p g with st := .e } s t := by
  have hroom' : nearVictim (takeMsg (.gntX p g) s) p g = none := hroom
  have hserves' : (getPort (takeMsg (.gntX p g) s) p).nearFenced = false := hserves
  have harrives : grantArrives p g s =
      owe (.pump p) (lineSettled p g (sendMsg (.done p g) (setNear p g { getNear s p g with st := .e } (takeMsg (.gntX p g) s)))) := by
    unfold grantArrives
    simp [isNear_port, nearRoom_free hroom, hserves', nearMakes_room hroom']
    rfl
  show ∃ t, done (onFab (grantArrives p g) s) = .next t ∧ _
  rw [onFab_run _ hfab, harrives]
  exact done_takesLine nofun hacts hops hdeferred

/-- A RETRY of a load's request makes the port ask for the line again. -/
theorem exec_retry_load {s : State} {p : PortId} {g : Nat} {o : PortOp} (n : Fin 16) (hfab : fabOn s = true) (hacts : s.acts = []) (hops : (getPort s p).ops = [o])
    (hsent : o.sent = true) (hphase : o.phase = .line) (hg : opGranule o = g) (hload : opCode o = opLoad) :
    ∃ t, exec (.retryMessage p g n) s = .next t ∧
      t.coh.fabric = s.coh.fabric.erase (.retry p g n) ++ [.request .rdS { cohReqOf p o false with retry := Fin.ofNat 16 (if 9 ≤ n.val then n.val else n.val + 1) } noData 0 0] ∧
      { t with coh.fabric := s.coh.fabric } = s := by
  have hfind : (opsOf (takeMsg (.retry p g n) s) p).find? (fun o => o.sent && o.phase ≠ .finished && opGranule o = g) = some o := by
    show (getPort s p).ops.find? _ = _
    simp [hops, hsent, hphase, hg]
  have hload' : opLoad ≠ opRload := by decide
  have harrives : retryArrives p g n.val s = sendMsg (.request .rdS { cohReqOf p o false with retry := Fin.ofNat 16 (if 9 ≤ n.val then n.val else n.val + 1) } noData 0 0)
      (takeMsg (.retry p g n) s) := by
    unfold retryArrives
    dsimp only
    rw [if_pos (isNear_port p), hfind]
    simp [hphase, hload, hload']
  refine ⟨_, done_onFab hfab (by rw [harrives]; exact hacts), ?_⟩
  rw [harrives]
  exact ⟨rfl, rfl⟩

theorem portSend_carries {q : Nat} {s : State} (h : (getHost s q).link ≠ 5) (o : Out) : portSend q o s = emit o s := if_neg h

/-- The answer of a CXL.mem request leaves at once on a link that carries. -/
theorem memAnswer_carries {s : State} (hlinks : LinksCarry s) (g : Nat) (rsp : String) (d : Option Line) (bad : Bool) :
    memAnswer g rsp d bad s = emit (.memRsp (memPort s g) (g * 64) rsp d bad) (modHost (memPort s g) (fun h => { h with asked := h.asked.erase g }) s) := by
  refine portSend_carries ?_ _
  rw [getHost_modHost, if_pos rfl]
  exact hlinks _

/-- DATA for the host proxy answers the host. -/
theorem exec_data_host {s : State} (g : Nat) (line : Line) (bad : Bool) (hfab : fabOn s = true) (hacts : s.acts = []) (hlinks : LinksCarry s) :
    ∃ t, exec (.dataMessage 0xF0 g .none line bad) s = .next t ∧ t.out = .memRsp (memPort s g) (g * 64) "MemData,Cmp" (some line) bad :: s.out ∧ t.mem = s.mem ∧
      t.coh.near = s.coh.near := by
  have hlinks' : LinksCarry (takeMsg (.data 0xF0 g .none line bad false) s) := hlinks
  have harrives : dataArrives 0xF0 g .none line bad false s = memAnswer g "MemData,Cmp" (some line) bad (takeMsg (.data 0xF0 g .none line bad false) s) := by
    have hnear : isNear 0xF0 = false := by decide
    have hproxy : 0xF0 = hostProxy := rfl
    simp [dataArrives, hnear, ← hproxy]
  rw [memAnswer_carries hlinks'] at harrives
  refine ⟨_, done_onFab hfab (by rw [harrives]; exact hacts), ?_⟩
  rw [harrives]
  exact ⟨rfl, rfl, rfl⟩

end Sys2Proof.Machine
end

section
namespace Sys2Proof.Machine

/-! ### A core's write is complete (R193) -/

/-- Entry `o`, performed with answer `a`, is all that core port `p` has; it was no barrier and went to no host port, no snoop waits there, and its core
takes responses. -/
structure AnswersCore (p : Nat) (o : PortOp) (a : Answer) (s : State) : Prop where
  ops : (getPort s p).ops = [o]
  what : o.what = .mem
  unsent : o.answered = false
  phase : o.phase = .finished
  answer : o.answer = some a
  near : o.flushed = false
  access : isBarrier o = false
  held : (getPort s p).held = []
  credit : 0 < (getPort s p).respCredits
  deferred : (getPort s p).deferred = []

variable {p : Nat} {o : PortOp} {a : Answer} {s : State}

theorem deliverOps_answers (h : AnswersCore p o a s) : deliverOps p s = emit (.core p (.response a (opStream o) o.req.tag))
    (modPort p (fun x => { x with respCredits := x.respCredits - 1 }) (modOp p o.id (fun x => { x with answered := true }) s)) := by
  have hmod := portBecomes_modOp h.ops rfl (fun x => { x with answered := true })
  have hsends := toCore_credit (a := a) (st := opStream o) (tag := o.req.tag) (s := modOp p o.id (fun x => { x with answered := true }) s)
    (by rw [hmod.port, h.held]) (by rw [hmod.port]; exact h.credit)
  simp [deliverOps, opsOf, h.ops, h.answer, h.unsent, h.access, h.what, hsends]

/-- The pump sends the response, and the entry leaves. -/
theorem pump_answers (h : AnswersCore p o a s) : Sends p o a s (serveDeferred p (pump p s)) := by
  have hmod : PortBecomes p { getPort s p with ops := [{ o with answered := true }], respCredits := (getPort s p).respCredits - 1 } s _ :=
    (portBecomes_modOp h.ops rfl (fun x => { x with answered := true })).andThen fun x => { x with respCredits := x.respCredits - 1 }
  have hpump : pump p s = pruneOps p (deliverOps p s) := by
    rw [pump_single h.ops, stepOp_finished h.ops h.phase, pumpEnds, if_neg]
    simp [openBarriers, opsOf, h.ops, h.access]
  rw [hpump, deliverOps_answers h]
  generalize modPort p (fun x => { x with respCredits := x.respCredits - 1 }) (modOp p o.id (fun x => { x with answered := true }) s) = v at hmod ⊢
  have hprune : PortBecomes p { getPort s p with ops := [], seen := [], respCredits := (getPort s p).respCredits - 1 }
      (emit (.core p (.response a (opStream o) o.req.tag)) v) (pruneOps p (emit (.core p (.response a (opStream o) o.req.tag)) v)) := by
    have hprunes : PortBecomes p _ _ (pruneOps p (emit (.core p (.response a (opStream o) o.req.tag)) v)) := portBecomes_modPort p _ _
    refine ⟨hprunes.port.trans ?_, hprunes.rest⟩
    have hv : getPort (emit (.core p (.response a (opStream o) o.req.tag)) v) p = getPort v p := rfl
    rw [hv, hmod.port]
    simp [h.phase, h.near]
  rw [serveDeferred_none (by rw [hprune.port]; exact h.deferred)]
  refine ⟨(hprune.same State.out rfl).trans (congrArg _ (hmod.same State.out rfl)), hprune.port, ?_⟩
  exact (congrArg (fun x : State => { x with out := s.out, ports := s.ports }) hprune.rest).trans (congrArg (fun x : State => { x with out := s.out }) hmod.rest)

theorem exec_cmpMessage_core {s : State} {p : PortId} {g : Nat} {o : PortOp} (old : Line) (hfree : CorePortFree p { s with ports := tset {} s.ports p { getPort s p with ops := [] } })
    (hops : (getPort s p).ops = [o]) (hphase : o.phase = .home) (hwhat : o.what = .mem) (hg : opGranule o = g) (hcode : opCode o = opStore ∨ opCode o = opAtomic)
    (hanswer : o.answer = none) (hunsent : o.answered = false) (hnear : o.flushed = false) :
    ∃ t, exec (.cmpMessage p g old false) s = .next t ∧ (getPort t p).ops = [] ∧
      t.out = .core p (.response ⟨.ok, false, if opCode o = opAtomic then namedBytes o.req old else 0⟩ (opStream o) o.req.tag) :: s.out ∧ t.mem = s.mem := by
  obtain ⟨hfab, hacts, -, hheld, hdeferred, -, -, -, hcredit, -⟩ := hfree
  change fabOn s = true at hfab
  rw [getPort, tget_tset_same] at hheld hdeferred hcredit
  have hfind : homeOp (takeMsg (.cmp p g old false) s) p g false = some o := by
    show (getPort s p).ops.find? _ = _
    rcases hcode with hc | hc <;> simp [hops, hphase, hg, hc, opStore, opAtomic, opLoad, opRload]
  have haccess : isBarrier o = false := by rcases hcode with hc | hc <;> simp [isBarrier, hc, opStore, opAtomic, opBarrier]
  have harrives : cmpArrives p g old false s = owe (.pump p) (finishOp p o.id .ok false (if opCode o = opAtomic then namedBytes o.req old else 0)
      (takeMsg (.cmp p g old false) s)) := by
    unfold cmpArrives
    dsimp only
    rw [if_pos (isNear_port p), hfind]
    rfl
  have hfinish := finishOp_ok (s := takeMsg (.cmp p g old false) s) hops hanswer false (if opCode o = opAtomic then namedBytes o.req old else 0)
  generalize finishOp p o.id .ok false (if opCode o = opAtomic then namedBytes o.req old else 0) (takeMsg (.cmp p g old false) s) = u at harrives hfinish
  have hquiet : u.acts = [] := (hfinish.same State.acts rfl).trans hacts
  have hentry : AnswersCore p (finished o ⟨.ok, false, if opCode o = opAtomic then namedBytes o.req old else 0⟩) ⟨.ok, false, if opCode o = opAtomic then namedBytes o.req old else 0⟩ u := {
    ops := by rw [hfinish.port]
    what := hwhat, unsent := hunsent, phase := rfl, answer := rfl, near := hnear, access := haccess
    held := by rw [hfinish.port]; exact hheld
    credit := by rw [hfinish.port]; exact hcredit
    deferred := by rw [hfinish.port]; exact hdeferred }
  have hsends := pump_answers hentry
  have hdone : done (onFab (cmpArrives p g old false) s) = .next (serveDeferred p (pump p u)) := by
    rw [onFab_run _ hfab, harrives, done, settle_owe hquiet]
    exact congrArg _ (settleN_of_quiet _ _ ((hsends.same State.acts rfl).trans hquiet))
  exact ⟨_, hdone, hsends.ops, hsends.out.trans (congrArg _ (hfinish.same State.out rfl)), (hsends.same State.mem rfl).trans (hfinish.same State.mem rfl)⟩

end Sys2Proof.Machine
end

section
namespace Sys2Proof.Machine

/-! ### A near cache dies (R241, R242) -/

/-- The near cache of port `p` holds nothing and its port goes uncached; the rest is beside the near caches, the messages and the ports. -/
structure NearLost (p : Nat) (s w : State) : Prop where
  near : w.coh.near = s.coh.near.filter fun kv => decide (kv.1 / 2 ^ 46 ≠ p)
  fenced : (getPort w p).nearFenced = true
  resv : (getPort w p).resv = []
  ops : (getPort s p).ops = [] → (getPort w p).ops = []
  deferred : (getPort w p).deferred = []
  rest : { w with coh := s.coh, ports := s.ports } = s

theorem reclaim_unlisted {agent cause : Nat} {s : State} (hdir : s.coh.dir = []) (htxns : s.coh.txns = []) :
    ∃ e : Event, reclaim agent cause s = raise e (count 0x3800 0x12 s) ∧ e.cls = 8 := by
  refine ⟨{ cls := 8, unit := if isNear agent then 0x3000 + agent else 0x1FFF, op := 7, detail := s.coh.lostProduced % 4096 }, ?_, rfl⟩
  simp [reclaim, hdir, htxns]

/-- With no copy and no transaction to reclaim, the death leaves its count and its record. -/
theorem nearDies_unlisted {p : Nat} {s : State} (hdir : s.coh.dir = []) (htxns : s.coh.txns = []) :
    ∃ w e, nearDies p s = owe (.pump p) (raise e (count 0x3800 0x12 w)) ∧ e.cls = 8 ∧ NearLost p s w := by
  unfold nearDies
  extract_lets fromDead coh₁ s₁ coh₂ s₂ coh₃ s₃ again w
  have hport : getPort w p = { getPort s p with nearFenced := true, resv := [], hold := [], deferred := [], ops := (getPort s p).ops.map again } :=
    (portBecomes_modPort p _ s₃).port
  obtain ⟨e, he, hcls⟩ := reclaim_unlisted (agent := p) (cause := 0) (s := w) hdir htxns
  refine ⟨w, e, by rw [he], hcls, rfl, by rw [hport], by rw [hport], fun hops => by rw [hport, hops]; rfl, by rw [hport], rfl⟩

theorem endWatches_none {s : State} (h : s.sync.watches = []) (outcome : Nat) (st : Status) (pick : Watch → Bool) : endWatches outcome st true pick s = s := by
  have hsame : { s with sync.watches := [] } = s := by rw [← h]
  unfold endWatches
  simp [h, hsame]

/-- The near cache has been fenced: it is gone, two records have been raised, and its port is to look again. -/
structure NearFenced (p : Nat) (s t : State) : Prop where
  lost : ∃ w, NearLost p s w ∧ outsideRaiseAway t = outsideRaiseAway w
  acts : t.acts = [.pump p]
  ctr : ctr t 0x3800 0x12 = ctr s 0x3800 0x12 + 1

theorem fenceNear_unlisted {p cause : Nat} {s : State} (hfab : fabOn s = true) (hacts : s.acts = []) (htwice : RecordsTwice s) (hserves : (getPort s p).nearFenced = false)
    (hdir : s.coh.dir = []) (htxns : s.coh.txns = []) (hwatches : s.sync.watches = []) : NearFenced p s (fenceNear p cause s) := by
  have hquiet := ringQuiet_of_twice hfab htwice
  have hout : outsideFaultCounters (okey 0x3800 0x12) := by unfold outsideFaultCounters okey; decide
  obtain ⟨w, e, hdies, hcls, hlost⟩ := nearDies_unlisted (p := p) hdir htxns
  have hflt : (count 0x3800 0x12 w).flt = s.flt := (congrArg State.flt hlost.rest :)
  have hquiet' : RingQuiet (count 0x3800 0x12 w) := ((congrArg RingQuiet hlost.rest).mpr hquiet :)
  have htaken := recordTaken_raise e hquiet'
  generalize raise e (count 0x3800 0x12 w) = u at hdies htaken
  have hring : RingQuiet (owe (.pump p) u) := htaken.ringQuiet hquiet' (by rw [hflt]; exact fun hon => (htwice.2 hon).2)
  have hfence : fenceNear p cause s = capacityChanged true (0x3000 + p) cause (owe (.pump p) u) := by
    have hnone : (owe (.pump p) u).sync.watches = [] := by
      rw [show (owe (.pump p) u).sync = s.sync from (congrArg State.sync htaken.away :).trans (congrArg State.sync hlost.rest :), hwatches]
    rw [fenceNear, if_neg (by simp [hserves]), hdies]
    dsimp only
    rw [endWatches_none hnone]
  have htold := capacityTold true (0x3000 + p) cause hring
  rw [← hfence] at htold
  have hgrace : s.flt.grace.length < 64 := by have := htwice.1; omega
  exact {
    lost := ⟨w, hlost, htold.away.trans htaken.away⟩
    acts := by
      rw [htold.acts (lt_of_le_of_lt htaken.grace (by rw [hflt]; exact htwice.1))]
      show u.acts ++ [.pump p] = _
      rw [htaken.acts (by rw [hflt]; exact hgrace), show (count 0x3800 0x12 w).acts = s.acts from (congrArg State.acts hlost.rest :), hacts]
      rfl
    ctr := by
      rw [htold.ctr _ _ hout, show ctr (owe (.pump p) u) 0x3800 0x12 = ctr u 0x3800 0x12 from rfl, htaken.ctr (by rw [hcls]; decide) _ _ hout, ctr_count_same,
        show ctr w 0x3800 0x12 = ctr s 0x3800 0x12 from (congrArg (fun v => ctr v 0x3800 0x12) hlost.rest :)] }

theorem exec_agentDeath_near {s : State} {p : PortId} (hfab : fabOn s = true) (hacts : s.acts = []) (htwice : RecordsTwice s) (hserves : (getPort s p).nearFenced = false)
    (hops : (getPort s p).ops = []) (hdir : s.coh.dir = []) (htxns : s.coh.txns = []) (hwatches : s.sync.watches = []) :
    ∃ t, exec (.agentDeath (some p)) s = .next t ∧ (getPort t p).nearFenced = true ∧ (∀ g, g < 2 ^ 46 → (getNear t p g).st = .i) ∧ (getPort t p).resv = [] ∧
      ctr t 0x3800 0x12 = ctr s 0x3800 0x12 + 1 ∧ (∀ q g, q ≠ p.val → g < 2 ^ 46 → getNear t q g = getNear s q g) ∧ t.objs = s.objs := by
  obtain ⟨⟨w, hlost, haway⟩, hpump, hctr⟩ := fenceNear_unlisted (p := p) (cause := 3) hfab hacts htwice hserves hdir htxns hwatches
  have hunit : fenceUnit (0x3000 + p.val) 3 s = fenceNear p 3 s := by
    have hp := p.isLt
    have hdiv : (0x3000 + p.val) / 4096 = 3 := by omega
    have hmod : (0x3000 + p.val) % 4096 = p.val := by omega
    simp only [fenceUnit, hdiv, hmod, hp, if_true]
  have hdies : agentDies (some p) s = owe (.fence (0x3000 + p.val) 3) s := by simp [agentDies, hserves]
  have hexec : exec (.agentDeath (some p)) s = .next (settleN 999999 (fenceNear p 3 s)) := by
    show done (onFab (agentDies (some p)) s) = _
    rw [onFab_run _ hfab, hdies, done, settle_owe hacts, ← hunit]
    rfl
  generalize fenceNear p 3 s = u at haway hpump hctr hexec
  have hport : getPort u p = getPort w p := (congrArg (fun v => getPort v p) haway :)
  have hidle := settleN_pump_idle (n := 999998) hpump (by rw [hport, hlost.ops hops]) (by rw [hport, hlost.deferred])
  have hnear : (settleN 999999 u).coh.near = s.coh.near.filter fun kv => decide (kv.1 / 2 ^ 46 ≠ p.val) :=
    (hidle.same (fun v => v.coh.near) rfl).trans ((congrArg (fun v : State => v.coh.near) haway :).trans hlost.near)
  have hline (q g : Nat) (hg : g < 2 ^ 46) : getNear (settleN 999999 u) q g = if q ≠ p.val then getNear s q g else {} := by
    have hkey : nearKey q g / 2 ^ 46 = q := by unfold nearKey; omega
    rw [getNear, hnear, tget_filter_key {} s.coh.near (fun k => decide (k / 2 ^ 46 ≠ p.val)), hkey]
    simp [getNear]
  refine ⟨_, hexec, ?_, fun g hg => by rw [hline _ _ hg, if_neg (by simp)], ?_, (hidle.same (fun v => ctr v 0x3800 0x12) rfl).trans hctr,
    fun q g hq hg => by rw [hline _ _ hg, if_pos hq], ?_⟩
  · rw [hidle.port, hport]
    exact hlost.fenced
  · rw [hidle.port, hport]
    exact hlost.resv
  · exact (hidle.same State.objs rfl).trans ((congrArg State.objs haway :).trans (congrArg State.objs hlost.rest :))

end Sys2Proof.Machine
end

section
namespace Sys2Proof.Machine

/-! ### What the device cache gives up on its way (R224, R245)

A line that makes room may be one of host memory: its near copies are recalled and its shingles released. -/

/-- `t` with what that changes taken from `s`: counters, the storage's wake times, free values, memory, ports, what is sent, the device cache, the
near caches and the directory. -/
def beforeYield (s t : State) : State :=
  { t with ctrs := s.ctrs, wraps := s.wraps, power := s.power, free := s.free, mem := s.mem, ports := s.ports, out := s.out, stalled := s.stalled,
           coh.dev := s.coh.dev, coh.lfsr := s.coh.lfsr, coh.through := s.coh.through, coh.fresh := s.coh.fresh, coh.dir := s.coh.dir,
           coh.near := s.coh.near, coh.sentOn := s.coh.sentOn, coh.evicting := s.coh.evicting }

/-- Nothing else changed; memory holds the same bytes, no near cache gains a line, and of a granule's entry at most everything is gone. -/
structure Yields (s t : State) : Prop where
  rest : beforeYield s t = s
  bytes : t.mem.bytes = s.mem.bytes
  near : ∀ p g, (getNear s p g).st = .i → (getNear t p g).st = .i
  dir : ∀ g, getDir t g = getDir s g ∨ getDir t g = {}

theorem Yields.refl (s : State) : Yields s s := ⟨rfl, rfl, fun _ _ h => h, fun _ => .inl rfl⟩

theorem Yields.trans {s t u : State} (h : Yields s t) (k : Yields t u) : Yields s u where
  rest := (congrArg (beforeYield s) k.rest).trans h.rest
  bytes := k.bytes.trans h.bytes
  near p g hi := k.near p g (h.near p g hi)
  dir g := by
    rcases k.dir g with hk | hk
    · exact (h.dir g).imp hk.trans hk.trans
    · exact .inr hk

theorem Yields.ite {c : Prop} [Decidable c] {s t u : State} (ht : Yields s t) (hu : Yields s u) : Yields s (if c then t else u) := by
  split
  · exact ht
  · exact hu

/-- What changes neither memory, nor the near caches, nor the directory. -/
theorem Yields.of_keeps {s t : State} (h : beforeYield s t = s) (hmem : t.mem = s.mem) (hnear : t.coh.near = s.coh.near) (hdir : t.coh.dir = s.coh.dir) : Yields s t where
  rest := h
  bytes := congrArg MemUnit.bytes hmem
  near p g hi := by rw [getNear, hnear]; exact hi
  dir g := .inl (by rw [getDir, hdir, getDir])

theorem Looks.yields {s t : State} (h : Looks s t) : Yields s t where
  rest := (congrArg (beforeYield s) h.tends :)
  bytes := h.bytes
  near p g hi := by rw [getNear, h.tends.near]; exact hi
  dir g := .inl (by rw [getDir, h.dir, getDir])

theorem yields_foldl {α : Type} {f : State → α → State} (hf : ∀ s x, Yields s (f s x)) (l : List α) (s : State) : Yields s (l.foldl f s) := by
  induction l generalizing s with
  | nil => exact .refl s
  | cons x l ih => exact (hf s x).trans (ih _)

theorem yields_count (i k : Nat) (s : State) : Yields s (count i k s) := .of_keeps rfl rfl rfl rfl

theorem yields_setLine (l : Nat) (d : Option DevLine) (s : State) : Yields s (setLine l d s) := .of_keeps rfl rfl rfl rfl

theorem yields_setShingle (g : Nat) (x : Shingle) (s : State) : Yields s (setShingle g x s) := by
  unfold setShingle
  extract_lets coh t
  have ht : Yields s t := .ite (.of_keeps rfl rfl rfl rfl) (.refl s)
  split
  · exact ht.trans (yields_setLine _ _ t)
  · exact ht

theorem yields_portSend (p : Nat) (o : Out) (s : State) : Yields s (portSend p o s) := by
  unfold portSend
  split <;> exact .of_keeps rfl rfl rfl rfl

theorem yields_d2h (g : Nat) (req : String) (d : Option Line) (m : Word) (bad : Bool) (s : State) : Yields s (d2h g req d m bad s) := by
  unfold d2h
  extract_lets p coh t coh' u
  have hu : Yields s u := .ite (.of_keeps rfl rfl rfl rfl) (.of_keeps rfl rfl rfl rfl)
  exact hu.trans (yields_portSend _ _ u)

theorem yields_releaseShingle (g : Nat) (s : State) : Yields s (releaseShingle g s) := by
  unfold releaseShingle
  split
  · exact (yields_d2h _ _ _ _ _ s).trans (yields_setShingle _ _ _)
  · exact (yields_d2h _ _ _ _ _ s).trans (yields_setShingle _ _ _)
  · exact (yields_d2h _ _ _ _ _ s).trans (yields_setShingle _ _ _)
  · exact yields_setShingle _ _ s

theorem yields_dropLine (p g : Nat) (s : State) : Yields s (setNear p g {} s) where
  rest := rfl
  bytes := rfl
  near a b hi := by
    show (tget {} (tset {} s.coh.near (nearKey p g) {}) (nearKey a b)).st = .i
    rw [tget_tset]
    split
    · rfl
    · exact hi
  dir _ := .inl rfl

theorem yields_dropEntry (g : Nat) (s : State) : Yields s (setDir g {} s) where
  rest := rfl
  bytes := rfl
  near _ _ hi := hi
  dir k := by
    show tget {} (tset {} s.coh.dir g {}) k = tget {} s.coh.dir k ∨ tget {} (tset {} s.coh.dir g {}) k = {}
    by_cases hk : k = g
    · exact .inr (hk ▸ tget_tset_same _ _ _ _)
    · exact .inl (tget_tset_ne _ _ _ hk)

theorem yields_dropCopies (g : Nat) (s : State) : Yields s (dropCopies g s) := by
  unfold dropCopies
  extract_lets e round hs t u
  have ht : Yields s t := .ite (yields_count _ _ s) (.refl s)
  have hu : Yields t u := yields_foldl (fun v p => .ite (yields_dropLine p g v) ((yields_portSend _ _ v).trans (yields_count _ _ _))) hs t
  exact (ht.trans hu).trans (yields_dropEntry g u)

theorem yields_recallNear (g : Nat) (s : State) : Yields s (recallNear g s) :=
  (yields_dropCopies g s).trans (.ite (yields_setShingle _ _ _) (.refl _))

theorem yields_evictLine (l : Nat) (s : State) : Yields s (evictLine l s) := by
  unfold evictLine
  extract_lets gs t
  have ht : Yields s t := .ite (yields_foldl (fun v g => (yields_recallNear g v).trans (yields_releaseShingle g _)) gs s)
    (.ite (stays_touchStack _ s).looks.yields (.refl s))
  exact ht.trans (yields_setLine _ _ t)

theorem yields_stepWay (h i : Nat) (s : State) : Yields s (stepWay h i s).2 := .of_keeps rfl rfl rfl rfl

theorem yields_allocLine {l k : Nat} {s t : State} (h : allocLine l k s = some t) : Yields s t := by
  unfold allocLine at h
  dsimp only at h
  split at h
  · cases h
  split at h
  · cases h
    exact yields_setLine _ _ s
  have hway := yields_stepWay (homeOf s (4 * l)) 0 s
  split at h
  · cases h
  split at h
  · cases h
    exact hway.trans ((yields_evictLine _ _).trans (yields_setLine _ _ _))
  · cases h
    exact hway.trans (yields_setLine _ _ _)

/-- A whole granule is written: nothing is fetched. -/
theorem yields_stackLine (g keySlot cache : Nat) (s : State) : Yields s (stackLine g keySlot cache true true s) := by
  unfold stackLine
  extract_lets l s₁ fetch fill s₂ s₃
  have htouch (st : State) : Yields st (touchStack g st) := (stays_touchStack g st).looks.yields
  have hevict : Yields s s₁ := by
    unfold s₁
    split
    · exact .ite (yields_evictLine _ s) (.refl s)
    · exact .refl s
  have hfetch (st : State) : Yields st (fetch st) := yields_setShingle g .v st
  have hfill (st : State) : Yields st (fill st) := by
    have hfetches : fill st = fetch st := if_neg (by simp)
    rw [hfetches]
    exact hfetch st
  have hline : Yields s₁ s₂ := by
    unfold s₂
    split
    · exact .ite (.ite (htouch s₁) ((yields_count _ _ s₁).trans (hfetch _))) (yields_count _ _ s₁)
    · split
      · exact htouch s₁
      · split
        next st hst => exact (yields_allocLine hst).trans ((yields_count _ _ st).trans (hfill _))
        next => exact htouch s₁
  have hthrough : Yields s₂ s₃ := .ite (htouch s₂) (.refl s₂)
  exact hevict.trans (hline.trans (hthrough.trans ((Yields.ite (yields_setShingle _ _ _) (.refl s₃)).trans (stays_touch g _).looks.yields)))

theorem yields_dirtyBack (g keySlot cache : Nat) (dirty : Bool) (s : State) : Yields s (dirtyBack g keySlot cache dirty s) := by
  unfold dirtyBack
  split
  · exact .ite (yields_stackLine g keySlot cache s) (.refl s)
  · exact .ite (yields_setShingle g .m s) (.refl s)
  · exact .refl s

theorem yields_throughDone (g : Nat) (s : State) : Yields s (throughDone g s) := .ite (yields_releaseShingle g s) (.refl s)

theorem Yields.acts {s t : State} (h : Yields s t) : t.acts = s.acts := (congrArg State.acts h.rest :)
theorem Yields.objs {s t : State} (h : Yields s t) : t.objs = s.objs := (congrArg State.objs h.rest :)
theorem Yields.wbs {s t : State} (h : Yields s t) : t.coh.wbs = s.coh.wbs := (congrArg (fun v : State => v.coh.wbs) h.rest :)
theorem Yields.txns {s t : State} (h : Yields s t) : t.coh.txns = s.coh.txns := (congrArg (fun v : State => v.coh.txns) h.rest :)
theorem Yields.fabric {s t : State} (h : Yields s t) : t.coh.fabric = s.coh.fabric := (congrArg (fun v : State => v.coh.fabric) h.rest :)

/-! ### A writeback arrives (R232, R239) -/

/-- The line that is written back has left its near cache, at the latest now, and whatever bad cell the home had is overwritten. -/
def lineWritten (p g : Nat) (s : State) : State :=
  let t := takeMsg (.wb p g) s
  let t := if wbOnWay s p g then t else setNear p g {} t
  if flawAt t g = .clean then t else { t with mem.flaws := tset .clean t.mem.flaws g .clean }

/-- The home gives up the entry of the cache that owned the line. -/
def entryLeft (p g : Nat) (s : State) : State :=
  if (getDir s g).st = .exclusive && (getDir s g).ptrs.contains p then setDir g {} s else s

/-- The home acknowledges the writeback; the near cache's buffer is taken until then. -/
def wbAcked (p g : Nat) (sent : Bool) (s : State) : State := sendMsg (.wbAck p g) (if sent then s else { s with coh.wbs := s.coh.wbs ++ [(p, g)] })

/-- The home's state once it has acknowledged the writeback. -/
def wbTaken (r : CohReq) (s : State) : State :=
  wbAcked r.agent (r.pa / 64) (wbOnWay s r.agent (r.pa / 64))
    (entryLeft r.agent (r.pa / 64) (dirtyBack (r.pa / 64) r.keySlot r.cache true (lineWritten r.agent (r.pa / 64) s)))

theorem yields_lineWritten (p g : Nat) (s : State) : Yields (takeMsg (.wb p g) s) (lineWritten p g s) := by
  unfold lineWritten
  extract_lets t u
  have hu : Yields t u := .ite (.refl t) (yields_dropLine p g t)
  exact hu.trans (.ite (.refl u) ⟨rfl, rfl, fun _ _ hi => hi, fun _ => .inl rfl⟩)

theorem yields_entryLeft (p g : Nat) (s : State) : Yields s (entryLeft p g s) := .ite (yields_dropEntry g s) (.refl s)

/-- What the home does before it acknowledges. -/
theorem yields_untilAck (r : CohReq) (s : State) : Yields (takeMsg (.wb r.agent (r.pa / 64)) s)
    (entryLeft r.agent (r.pa / 64) (dirtyBack (r.pa / 64) r.keySlot r.cache true (lineWritten r.agent (r.pa / 64) s))) :=
  (yields_lineWritten _ _ s).trans ((yields_dirtyBack _ _ _ _ _).trans (yields_entryLeft _ _ _))

theorem getTxn_wbAcked (p g : Nat) (sent : Bool) (s : State) (k : Nat) : getTxn (wbAcked p g sent s) k = getTxn s k := by
  unfold wbAcked
  split <;> rfl

theorem wbArrives_unawaited {r : CohReq} {s : State} (hline : (getNear s r.agent (r.pa / 64)).st = .m) (hserves : (getPort s r.agent).nearFenced = false)
    (hopen : getTxn s (r.pa / 64) = none) : wbArrives r false s = throughDone (r.pa / 64) (wbTaken r s) := by
  have hnone : getTxn (wbTaken r s) (r.pa / 64) = none := by
    rw [wbTaken, getTxn_wbAcked, getTxn, (yields_untilAck r s).txns]
    exact hopen
  unfold wbArrives
  extract_lets g p l sent
  have harrives : ¬ (!sent && decide (l.st ≠ .m) || (getPort s p).nearFenced) = true := by
    rw [hserves, decide_eq_false (not_not.2 hline)]
    simp
  rw [if_neg harrives]
  split
  next => rfl
  next t ht => exact absurd (ht.symm.trans hnone) nofun

theorem getDir_entryLeft {p g : Nat} {s : State} (h : getDir s g = ⟨.exclusive, [p], none⟩ ∨ getDir s g = {}) : getDir (entryLeft p g s) g = {} := by
  unfold entryLeft
  rcases h with h | h
  · rw [h, if_pos (by simp)]
    exact tget_tset_same _ _ _ _
  · rw [h, if_neg (by simp)]
    exact h

theorem wbAcked_near (p g : Nat) (sent : Bool) (s : State) (q k : Nat) : getNear (wbAcked p g sent s) q k = getNear s q k := by
  unfold wbAcked
  split <;> rfl

theorem getDir_wbAcked (p g : Nat) (sent : Bool) (s : State) (k : Nat) : getDir (wbAcked p g sent s) k = getDir s k := by
  unfold wbAcked
  split <;> rfl

theorem wbAcked_rest (p g : Nat) (sent : Bool) (s : State) : { wbAcked p g sent s with coh.fabric := s.coh.fabric, coh.wbs := s.coh.wbs } = s := by
  unfold wbAcked
  split <;> rfl

theorem wbAcked_buffer {p g : Nat} {sent : Bool} {s : State} (h : sent = true → (p, g) ∈ s.coh.wbs) : (p, g) ∈ (wbAcked p g sent s).coh.wbs := by
  unfold wbAcked
  split
  next hsent => exact h hsent
  next => exact List.mem_append_right _ (List.mem_singleton.2 rfl)

/-- What the home has done when it acknowledges. -/
structure WbTaken (r : CohReq) (s t : State) : Prop where
  line : Msg.wb r.agent (r.pa / 64) ∉ s.coh.fabric → (getNear t r.agent (r.pa / 64)).st = .i
  dir : getDir t (r.pa / 64) = {}
  sent : Msg.wbAck r.agent (r.pa / 64) ∈ t.coh.fabric
  buffer : (r.agent, r.pa / 64) ∈ t.coh.wbs
  bytes : t.mem.bytes = s.mem.bytes
  acts : t.acts = s.acts
  objs : t.objs = s.objs

theorem wbTaken_takes {s : State} {r : CohReq} (hdir : getDir s (r.pa / 64) = ⟨.exclusive, [r.agent], none⟩)
    (hbuffer : Msg.wb r.agent (r.pa / 64) ∈ s.coh.fabric → (r.agent, r.pa / 64) ∈ s.coh.wbs) : WbTaken r s (wbTaken r s) := by
  have hline : Msg.wb r.agent (r.pa / 64) ∉ s.coh.fabric → (getNear (lineWritten r.agent (r.pa / 64) s) r.agent (r.pa / 64)).st = .i := by
    intro hsent
    have hway : wbOnWay s r.agent (r.pa / 64) = false := by simpa [wbOnWay] using hsent
    have hset : (getNear (setNear r.agent (r.pa / 64) {} (takeMsg (.wb r.agent (r.pa / 64)) s)) r.agent (r.pa / 64)).st = .i := by rw [getNear_setNear_same]
    unfold lineWritten
    simp only [hway, Bool.false_eq_true, if_false]
    split <;> exact hset
  have hback := yields_dirtyBack (r.pa / 64) r.keySlot r.cache true (lineWritten r.agent (r.pa / 64) s)
  have hleft := yields_entryLeft r.agent (r.pa / 64) (dirtyBack (r.pa / 64) r.keySlot r.cache true (lineWritten r.agent (r.pa / 64) s))
  have hall := yields_untilAck r s
  have hentry := getDir_entryLeft (p := r.agent) (((yields_lineWritten r.agent (r.pa / 64) s).trans hback).dir (r.pa / 64) |>.imp_left fun h => h.trans hdir)
  have hrest := wbAcked_rest r.agent (r.pa / 64) (wbOnWay s r.agent (r.pa / 64))
    (entryLeft r.agent (r.pa / 64) (dirtyBack (r.pa / 64) r.keySlot r.cache true (lineWritten r.agent (r.pa / 64) s)))
  exact {
    line := fun hsent => by
      rw [wbTaken, wbAcked_near]
      exact (hback.trans hleft).near _ _ (hline hsent)
    dir := by rw [wbTaken, getDir_wbAcked, hentry]
    sent := List.mem_append_right _ (List.mem_singleton.2 rfl)
    buffer := wbAcked_buffer fun hway => by
      rw [hall.wbs]
      exact hbuffer (by simpa [wbOnWay] using hway)
    bytes := (congrArg (fun v : State => v.mem.bytes) hrest).trans hall.bytes
    acts := (congrArg State.acts hrest).trans hall.acts
    objs := (congrArg State.objs hrest).trans hall.objs }

theorem exec_writeback_unawaited {s : State} {r : CohReq} (hfab : fabOn s = true) (hacts : s.acts = []) (hline : (getNear s r.agent (r.pa / 64)).st = .m)
    (hserves : (getPort s r.agent).nearFenced = false) (hblock : blockOut s (r.pa / 64) = false) (hdir : getDir s (r.pa / 64) = ⟨.exclusive, [r.agent], none⟩)
    (hopen : getTxn s (r.pa / 64) = none) (hbuffer : Msg.wb r.agent (r.pa / 64) ∈ s.coh.fabric → (r.agent, r.pa / 64) ∈ s.coh.wbs) :
    ∃ t, exec (.writeback r false) s = .next t ∧ (Msg.wb r.agent (r.pa / 64) ∉ s.coh.fabric → (getNear t r.agent (r.pa / 64)).st = .i) ∧
      getDir t (r.pa / 64) = {} ∧ Msg.wbAck r.agent (r.pa / 64) ∈ t.coh.fabric ∧ (r.agent, r.pa / 64) ∈ t.coh.wbs ∧ t.mem.bytes = s.mem.bytes ∧ t.objs = s.objs := by
  have htaken := wbTaken_takes hdir hbuffer
  have hdone := yields_throughDone (r.pa / 64) (wbTaken r s)
  have harrives : withBlock (r.pa / 64) (wbArrives r false) s = throughDone (r.pa / 64) (wbTaken r s) := by
    rw [withBlock, if_neg (by simp [hblock]), wbArrives_unawaited hline hserves hopen]
  generalize wbTaken r s = u at htaken hdone harrives
  refine ⟨throughDone (r.pa / 64) u, ?_, fun hsent => hdone.near _ _ (htaken.line hsent), ?_, by rw [hdone.fabric]; exact htaken.sent,
    by rw [hdone.wbs]; exact htaken.buffer, hdone.bytes.trans htaken.bytes, hdone.objs.trans htaken.objs⟩
  · rw [← harrives]
    exact done_onFab hfab (by rw [harrives, hdone.acts, htaken.acts, hacts])
  · rcases hdone.dir (r.pa / 64) with h | h
    · exact h.trans htaken.dir
    · exact h

end Sys2Proof.Machine
end

section
open Sys2Proof Sys2Proof.Machine

/-- Settles O51: a home counts the last answer and does what the request is for; a writeback is applied whatever the device cache gives up for it; what a
requester receives makes an idle port look again; the death of a near cache that no directory entry names raises two records. -/
theorem answersAreTaken : Obligations.AnswersAreTaken := by
  unfold Obligations.AnswersAreTaken
  refine ⟨fun s p g x h hfwd hline => exec_rspI_awaited h hfwd hline,
    fun s p g x b h hfwd hdir => exec_rspFwdS_awaited h hfwd hdir b,
    fun s p g x b h hfwd => exec_forwarded_awaited h hfwd (.inr (.inl rfl)) [.fwdX] b,
    fun s p g x b h hfwd => exec_rspData_awaited h hfwd b,
    fun s p g x h hdir hline => exec_rspWbif_awaited h hdir hline,
    fun s r hfab hacts _ hline hserves hblock hdir hopen hbuffer => exec_writeback_unawaited hfab hacts hline hserves hblock hdir hopen hbuffer,
    fun s a g hfab hacts => ⟨_, done_onFab hfab hacts, rfl, rfl⟩,
    fun s a g hfab hacts hops hdeferred => exec_wbAck_idle hfab hacts hops hdeferred,
    fun s a g x hfab hacts hopen hwait hagent hqueued hthrough hhomes => exec_doneMessage_waited hfab hacts hopen hwait hagent hqueued hthrough hhomes,
    fun s p g x line bad i hi hfab hacts hx hserves hops hdeferred hroom hchecked => ?_,
    fun s g line bad hfab hacts hlinks => exec_data_host g line bad hfab hacts hlinks,
    fun s p g hfab hacts hserves hops hdeferred hroom => ?_,
    fun s p g o old hfree hops hphase hwhat hg hcode hanswer hunsent hnear => exec_cmpMessage_core old hfree hops hphase hwhat hg hcode hanswer hunsent hnear,
    fun s p g o n hfab hacts hops hsent hphase hg hload => exec_retry_load n hfab hacts hops hsent hphase hg hload,
    fun s p hfab hacts htwice hserves hops hdir htxns hwatches => exec_agentDeath_near hfab hacts htwice hserves hops hdir htxns hwatches,
    fun s p hfab hacts hfenced => done_onFab_same hfab hacts (if_pos hfenced),
    fun s hfab hacts halive => done_onFab_same hfab hacts (if_pos halive)⟩
  · have hdata (fwd : Bool) : ∃ t, done (onFab (dataArrives p g x line bad fwd) s) = .next t ∧ (getNear t p g).st = nearOf x ∧ Msg.done p g ∈ t.coh.fabric ∧
        (∀ a b, nearKey a b ≠ nearKey p g → getNear t a b = getNear s a b) ∧ { t with coh.fabric := s.coh.fabric, coh.near := s.coh.near, ports := s.ports } = s := by
      obtain ⟨t, l, ht, htakes, hl⟩ := exec_data_idle line bad fwd hfab hacts hx hserves hops hdeferred hroom hchecked
      exact ⟨t, ht, by rw [htakes.line, hl], htakes.sent, htakes.other, htakes.rest⟩
    simp only [List.mem_cons, List.not_mem_nil, or_false] at hi
    rcases hi with rfl | rfl
    · exact hdata false
    · exact hdata true
  · obtain ⟨t, ht, htakes⟩ := exec_gntX_idle (p := p) (g := g) hfab hacts hserves hops hdeferred hroom
    exact ⟨t, ht, htakes.line, htakes.sent, htakes.rest⟩

end

section
namespace Sys2Proof.Machine

/-! ### A fill that serves a request of another line (R227)

The clause for the host's answer to a miss leaves open which requests have merged on the line's miss register. -/

/-- A line of the device cache with one granule of host memory owned, and its next granule being filled. -/
def fillingLine : DevLine := ⟨3, 0, 0, [.i, .i, .i, .e], 0⟩

/-- A write of near cache 2 to granule 2^44 + 9, in the line behind, which waits for the host. -/
def waitingWrite : Txn :=
  { kind := .wrNc, req := ⟨2, (2 ^ 44 + 9) * 64, 5, 3, 0, 0, false⟩, data := ⟨0x77, 1, false⟩, aop := 0, size := 0, asked := [], fwd := none, wbWait := none,
    memWait := true, doneWait := false, form := .plain }

/-- A READY block whose device cache fills granule 2^44 + 5; the write is listed on the register of that line. -/
def mergedState : State :=
  { Tests.ready with
    hosts := [(0, { link := 2 })]
    coh.dev := [(2 ^ 42 + 1, some fillingLine)], coh.missing := [(2 ^ 42 + 1, 2 ^ 44 + 5)]
    coh.merged := [(2 ^ 42 + 1, 2 ^ 44 + 9)], coh.txns := [(2 ^ 44 + 9, some waitingWrite)] }

theorem mergedState_fills : HostLine (2 ^ 44 + 5) fillingLine mergedState := by
  unfold HostLine
  exact ⟨by decide +kernel, by decide +kernel, Tests.links_carry (by decide +kernel), by decide +kernel⟩

/-- The answer for granule 2^44 + 5 lets the write go on, which stores its byte. -/
theorem mergedState_writes : ∃ t, exec (.h2dResponse 0 (2 ^ 44 + 5) .goE (some 0) false) mergedState = .next t ∧
    byteAt t ((2 ^ 44 + 9) * 64) = 0x77 :=
  ⟨_, rfl, by decide +kernel⟩

end Sys2Proof.Machine
end

section
open Sys2Proof Sys2Proof.Machine

/-- Refutes O52: in `mergedState` the host's answer for one granule writes a byte of another line, whose request its register lists. -/
theorem not_hostSnoopsAndRequests : ¬ Obligations.HostSnoopsAndRequests := by
  rintro ⟨-, -, -, -, hanswer, -⟩
  obtain ⟨t, hstep, -, -, houtside, -⟩ := hanswer mergedState 0 (2 ^ 44 + 5) fillingLine .goE 0 mergedState_fills (by decide +kernel) (by decide +kernel)
    (by decide +kernel) (by decide +kernel) nofun
  obtain ⟨u, hwrites, hbyte⟩ := mergedState_writes
  obtain rfl : t = u := Host.Outcome.next.inj (hstep.symm.trans hwrites)
  exact absurd (hbyte.symm.trans (houtside _ (by decide))) (by decide +kernel)

end

section
namespace Sys2Proof.Machine

/-! ### A register write that is served or refused (R251, R252, R410) -/

/-- The state after a register write: `t` after its effect, with the response that a core receives (R259). -/
def regReplied (w : Requester) (st : Status) (t : State) : State := { t with out := (if isCore w then [.regRsp st] else []) ++ t.out }

theorem regAnswers_replied {w : Requester} {st : Status} {s t : State} (h : t.out = s.out) : RegAnswers w [st] s (regReplied w st t) := by
  unfold RegAnswers regReplied
  rw [h]
  rfl

theorem exec_registerWrite {w : Requester} {o : Fin 0x8000000} {n : Fin 9} {d : Word} {ext : Ext} {s t : State} {st : Status} (haon : aonRuns s = true)
    (hreset : s.start.inReset = false) (hawake : s.asleep = false) (hwrite : regWrite (coreCtx w) o n d ext s = (t, st)) (hacts : t.acts = []) :
    exec (.registerWrite w o n d ext) s = .next (regReplied w st t) := by
  have haccess : regAccess w o n d ext s = regReplied w st t := by
    unfold regAccess regReplied
    rw [wakeUp_awake hawake, hwrite]
    cases hw : isCore w <;> simp [hawake, emit]
  show done (onReg (regAccess w o n d ext) s) = _
  rw [onReg_run _ haon hreset, haccess, done_of_quiet (regReplied w st t) hacts]

/-- The same where the target is served whole. -/
theorem exec_registerWrite_served {w : Requester} {o : Fin 0x8000000} {n : Fin 9} {d : Word} {ext : Ext} {s t : State} {st : Status} (h : RegServed s)
    (hwrite : regWrite (coreCtx w) o n d ext s = (t, st)) (hacts : t.acts = []) : exec (.registerWrite w o n d ext) s = .next (regReplied w st t) := by
  obtain ⟨haon, hreset⟩ := regAccess_runs h
  obtain ⟨-, hawake, -⟩ := h
  exact exec_registerWrite haon hreset hawake hwrite hacts

/-- A write that is answered with a status and has no effect. -/
theorem exec_registerWrite_refused {w : Requester} {o : Fin 0x8000000} {n : Fin 9} {d : Word} {ext : Ext} {s : State} {st : Status} (h : RegServed s)
    (hwrite : regWrite (coreCtx w) o n d ext s = (s, st)) :
    ∃ t, exec (.registerWrite w o n d ext) s = .next t ∧ RegAnswers w [st] s t ∧ { t with out := s.out } = s := by
  have ⟨_, _, hacts⟩ := h
  exact ⟨_, exec_registerWrite_served h hwrite hacts, regAnswers_replied rfl, rfl⟩

/-- A whole word, at its offset, reaches its register. -/
theorem regWrite_whole {core : Option Nat} {o : Nat} {r : Reg} {d : Word} {ext : Ext} {s : State} (hstage : regStage s = 2) (ho : o % 8 = 0)
    (hr : regAt o = some r) : regWrite core o 8 d ext s = writeReg o r d ext core s := by
  simp [regWrite, show o / 8 * 8 = o by omega, hr, hstage, ho]

/-- At an offset that no chapter lists. -/
theorem regWrite_unlisted {core : Option Nat} {o n : Nat} {d : Word} {ext : Ext} {s : State} (hr : regAt (o / 8 * 8) = none) :
    regWrite core o n d ext s = (s, if regStage s = 0 then .deadTarget else .malformed) := by
  unfold regWrite
  rw [hr]

/-- While no register is served. -/
theorem regWrite_unserved {core : Option Nat} {o n : Nat} {d : Word} {ext : Ext} {s : State} (hstage : regStage s = 0) :
    regWrite core o n d ext s = (s, .deadTarget) := by
  unfold regWrite
  split <;> simp [hstage]

/-- FLT_CONS takes the low word of what is written. -/
theorem writeReg_fltCons (o : Nat) (d : Word) (ext : Ext) (core : Option Nat) (s : State) :
    writeReg o .fltCons d ext core s = ({ s with flt.ring.cons := fld d 0 32 }, .ok) := rfl

/-- The low half of FLT_CONS holds the register. -/
theorem regWrite_fltCons_half (core : Option Nat) (d : Word) (ext : Ext) {s : State} (hstage : regStage s = 2) :
    regWrite core 0x041C0020 4 d ext s = ({ s with flt.ring.cons := fld d 0 32 }, .ok) := by
  have hr : regAt (0x041C0020 / 8 * 8) = some .fltCons := rfl
  have hhalf (old : Nat) : fld (BitVec.ofNat 64 (putBits old 0 32 d.toNat)) 0 32 = fld d 0 32 := by
    rw [fld_ofNat (by decide), nbits_putBits_same]
    simp [fld, nbits]
  unfold regWrite
  rw [hr]
  simp only [hstage, writeReg_fltCons]
  simp [isCommand, hhalf]

/-- CTX_CMD is a command: it takes no half. -/
theorem regWrite_ctxCmd_half (core : Option Nat) (d : Word) (ext : Ext) {s : State} (hstage : regStage s = 2) :
    regWrite core 0x041A0000 4 d ext s = (s, .malformed) := by
  have hr : regAt (0x041A0000 / 8 * 8) = some .ctxCmd := rfl
  unfold regWrite
  rw [hr]
  simp [hstage, isCommand]

end Sys2Proof.Machine
end

section
open Sys2Proof Sys2Proof.Machine

/-- Settles O26: each clause is one case of `regWrite`, whose effect is nothing but the new FLT_CONS or none at all. -/
theorem registerWritesAreServed : Obligations.RegisterWritesAreServed := by
  unfold Obligations.RegisterWritesAreServed
  refine ⟨?_, ?_, ?_, ?_, ?_, ?_⟩
  case refine_1 =>
    intro s w d ext h
    have ⟨hstage, _, hacts⟩ := h
    exact ⟨_, exec_registerWrite_served h (regWrite_whole hstage rfl (r := .fltCons) rfl) hacts, rfl, regAnswers_replied rfl, rfl⟩
  case refine_2 =>
    intro s w d ext h
    have ⟨hstage, _, hacts⟩ := h
    exact ⟨_, exec_registerWrite_served h (regWrite_fltCons_half _ d ext hstage) hacts, rfl, regAnswers_replied rfl, rfl⟩
  case refine_3 => exact fun s w d ext h => exec_registerWrite_refused h (regWrite_whole h.1 rfl (r := .fltProd) rfl)
  case refine_4 =>
    intro s w o n d ext h hr
    have ⟨hstage, _, _⟩ := h
    exact exec_registerWrite_refused h (by rw [regWrite_unlisted hr, hstage]; rfl)
  case refine_5 => exact fun s w d ext h => exec_registerWrite_refused h (regWrite_ctxCmd_half _ d ext h.1)
  case refine_6 =>
    intro s w o n d ext haon hreset hstage hawake hacts
    exact ⟨_, exec_registerWrite haon hreset hawake (regWrite_unserved hstage) hacts, regAnswers_replied rfl, rfl⟩

end

section
namespace Sys2Proof.Machine

/-! ### A slot's failed read whose completion record kills the context (R262) -/

/-- A READY block whose queue 1, of context 5, reads a slot; the granule of its next completion record has an error that the code cannot
correct, MEM_POISONED kills the context (0x8004:03), and 64 grace timers run. -/
def poisonedRing : State :=
  { Tests.user with
    queues := [(1, { cfg := BitVec.ofNat 256 (1 + 3 * 2 ^ 12 + 4 * 2 ^ 42 + 4 * 2 ^ 47 + 5 * 2 ^ 52 + 2 ^ 114), state := 1, prod := 1, reading := true, cqProd := 3 })]
    mem.flaws := [(1, .uncorrectable)]
    objs := [(okey 0x8004 3, some 2)]
    flt.grace := List.replicate 64 ⟨0, 500000, 2, 0x5200, some 7⟩ }

theorem poisonedRing_clear : WayClear poisonedRing [] (cqExtent poisonedRing (1 : QueueId)) := by unfold WayClear; decide +kernel

/-- The record's write meets the error, whose own record takes its action at once: the context is killed, and with it the queue. -/
theorem poisonedRing_killed : ∃ t, exec (.slotReadReturn 1 [] (some .deadTarget)) poisonedRing = .next t ∧ (getQueue t (1 : QueueId)).stop = Status.contextKilled.code :=
  ⟨_, rfl, by decide +kernel⟩

end Sys2Proof.Machine
end

section
open Sys2Proof Sys2Proof.Machine

/-- Refutes O46: the write of the stopped slot's completion record meets an error whose own action kills the context, so that the queue stops with
CONTEXT_KILLED and not with the status of the failed read. -/
theorem not_slotsAreReadAndDigestsKept : ¬ Obligations.SlotsAreReadAndDigestsKept := by
  rintro ⟨-, hfailed, -⟩
  obtain ⟨t, hstep, -, hstop⟩ := hfailed poisonedRing 1 [] .deadTarget (by decide +kernel) (by decide +kernel) (by decide +kernel) (by decide +kernel) poisonedRing_clear
  obtain ⟨u, hkill, hkilled⟩ := poisonedRing_killed
  obtain rfl : t = u := Host.Outcome.next.inj (hstep.symm.trans hkill)
  exact absurd (hstop.symm.trans hkilled) (by decide +kernel)

end

section
namespace Sys2Proof.Machine

/-! ### The slot at a queue's head starts (R257) -/

/-- The command that the slot at CONS starts as. -/
def slotCmd (q : Nat) (v : BitVec 2048) (s : State) : Cmd := newCmd (getQueue s q).cons ((getQueue s q).epoch * 2 ^ 32 + (getQueue s q).cons) v true

section
variable {q : Nat} {v : BitVec 2048} {s t : State} {fin : Option Status}

theorem nextCmd_slotWaits (h : SlotWaits q v s) : nextCmd s q = some (slotCmd q v s, false) := by
  obtain ⟨-, -, hjournaled, hstate, hhead, hcmds, -, hroom, -⟩ := h
  have hplain : qJournaled (getQueue s q).cfg = false := hjournaled
  have hstart : mayStart s q v [] false = true := by simp [mayStart, hroom]
  rw [nextCmd]
  simp only [hplain, hstate, hhead, hcmds, hstart]
  rfl

theorem getArr_afterStart (q : Nat) (v : BitVec 2048) (s : State) (a : Nat) : getArr (afterStart q v s) a = getArr s a := by
  rw [getArr, getArr]
  simp [afterStart, enterCmd, passSlot, modQueue]

theorem kept_afterStart (q : Nat) (v : BitVec 2048) (s : State) :
    (afterStart q v s).acts = s.acts ∧ (afterStart q v s).mem = s.mem ∧ (afterStart q v s).ports = s.ports ∧ (afterStart q v s).sync = s.sync := by
  simp [afterStart, enterCmd, passSlot, modQueue]

theorem queueCtx_afterStart (q : Nat) (v : BitVec 2048) (s : State) : queueCtx (afterStart q v s) q = queueCtx s q := by
  simp [queueCtx, afterStart, enterCmd, passSlot]

theorem isJournaled_afterStart (q : Nat) (v : BitVec 2048) (s : State) : isJournaled (afterStart q v s) q = isJournaled s q := by
  simp [isJournaled, afterStart, enterCmd, passSlot]

theorem cmds_afterStart (h : SlotWaits q v s) : (getQueue (afterStart q v s) q).cmds = [slotCmd q v s] := by
  obtain ⟨-, -, -, -, -, hcmds, -⟩ := h
  simp [afterStart, enterCmd, passSlot, hcmds, slotCmd, newCmd]

theorem findCmd_single {c : Cmd} (h : (getQueue s q).cmds = [c]) : findCmd s q c.idx = some c := by
  simp [findCmd, h]

theorem started_afterStart (h : SlotWaits q v s) : Started q v none s (afterStart q v s) := by
  refine ⟨?_, ?_, ?_, slotCmd q v s, cmds_afterStart h, rfl, rfl, rfl, rfl⟩ <;> simp [afterStart, enterCmd, passSlot]

theorem started_congr {u : State} (h : Started q v fin s t) (hqueues : u.queues = t.queues) : Started q v fin s u := by
  have hq : getQueue u q = getQueue t q := by rw [getQueue, hqueues, getQueue]
  unfold Started
  rw [hq]
  exact h

/-- A change of the started command that leaves its slot, its place and that it is started. -/
theorem started_modCmd {f : Cmd → Cmd} {fin' : Option Status} (h : Started q v fin s t)
    (hf : ∀ c, (f c).slot = c.slot ∧ (f c).idx = c.idx ∧ (f c).started = c.started ∧ (c.fin = fin → (f c).fin = fin')) :
    Started q v fin' s (modCmd q (getQueue s q).cons f t) := by
  obtain ⟨hcons, hhead, hstate, c, hcmds, hslot, hidx, hstarted, hfin⟩ := h
  obtain ⟨kslot, kidx, kstarted, kfin⟩ := hf c
  refine ⟨?_, ?_, ?_, f c, ?_, kslot.trans hslot, kidx.trans hidx, kstarted.trans hstarted, kfin hfin⟩ <;> simp [modCmd, hcons, hhead, hstate, hcmds, hidx]

theorem started_finCmd (h : Started q v none s t) (st : Status) : Started q v (some st) s (finCmd q (getQueue s q).cons st t) :=
  started_modCmd h fun c => ⟨rfl, rfl, rfl, fun hc => by simp [hc]⟩

/-- A malformed slot starts as a finished command, whatever opcode is looked for (R257). -/
theorem startNext_malformed (h : SlotWaits q v s) (hbad : slotMalformed (confidential s (queueCtx s q)) v = true) (op : Nat) (kind : Option Nat)
    (f : Nat → Cmd → State → State) : startNext q op kind f s = finCmd q (getQueue s q).cons .malformed (afterStart q v s) := by
  have hslot : (slotCmd q v s).slot = v := rfl
  rw [startNext, nextCmd_slotWaits h]
  simp only [hslot, hbad, if_true]
  rfl

/-- A well-formed slot of the opcode looked for starts as that opcode says. -/
theorem startNext_ready (h : SlotReady q v s) {op : Nat} (hop : slOp v = op) (f : Nat → Cmd → State → State) :
    startNext q op none f s = f q (slotCmd q v s) (afterStart q v s) := by
  obtain ⟨hwaits, hformed⟩ := h
  have hctx : ctxState s (queueCtx s q) = 1 := by
    obtain ⟨-, -, -, -, -, -, -, -, hctx⟩ := hwaits
    exact hctx
  have hslot : (slotCmd q v s).slot = v := rfl
  have hfind : findCmd (enterCmd q (slotCmd q v s) false s) q (slotCmd q v s).idx = some (slotCmd q v s) := findCmd_single (cmds_afterStart hwaits)
  rw [startNext, nextCmd_slotWaits hwaits]
  simp only [hslot, hformed, hop, hctx, hfind]
  simp
  rfl

end

end Sys2Proof.Machine
end

section
namespace Sys2Proof.Machine

/-! ### What each opcode's start does (R257, R262, R264, R269, R332) -/

section
variable {q : Nat} {v : BitVec 2048} {s : State}

theorem exec_startNext (hfab : fabOn s = true) {op : Nat} {f : Nat → Cmd → State → State} {t : State} (h : startNext q op none f s = t) (hacts : t.acts = []) :
    done (onFab (startNext q op none f) s) = .next t := by
  subst h
  exact done_onFab hfab hacts

/-- A command that finishes as it starts changes the queue alone. -/
theorem rest_finCmd_afterStart (q idx : Nat) (st : Status) (v : BitVec 2048) (s : State) : { finCmd q idx st (afterStart q v s) with queues := s.queues } = s := by
  simp [finCmd, modCmd, modQueue, afterStart, enterCmd, passSlot]

theorem acts_finCmd_afterStart (q idx : Nat) (st : Status) (v : BitVec 2048) (s : State) : (finCmd q idx st (afterStart q v s)).acts = s.acts := by
  simp [finCmd, modCmd, modQueue, afterStart, enterCmd, passSlot]

/-- A slot of an opcode that completes at once with a status. -/
theorem started_at_once (h : SlotReady q v s) {op : Nat} (hop : slOp v = op) {f : Nat → Cmd → State → State} {st : Status}
    (hf : f q (slotCmd q v s) (afterStart q v s) = finCmd q (getQueue s q).cons st (afterStart q v s)) :
    ∃ t, done (onFab (startNext q op none f) s) = .next t ∧ Started q v (some st) s t ∧ { t with queues := s.queues } = s := by
  obtain ⟨hwaits, -⟩ := id h
  obtain ⟨hfab, hacts, -⟩ := id hwaits
  exact ⟨_, exec_startNext hfab ((startNext_ready h hop f).trans hf) ((acts_finCmd_afterStart _ _ _ _ _).trans hacts), started_finCmd (started_afterStart hwaits) st,
    rest_finCmd_afterStart _ _ _ _ _⟩

/-- A malformed slot completes MALFORMED, whichever start takes it up. -/
theorem started_malformed (h : SlotWaits q v s) (hbad : slotMalformed (confidential s (queueCtx s q)) v = true) {F : State → State} {op : Nat} {kind : Option Nat}
    {f : Nat → Cmd → State → State} (hF : F s = startNext q op kind f s) :
    ∃ t, done (onFab F s) = .next t ∧ Started q v (some .malformed) s t ∧ { t with queues := s.queues } = s := by
  obtain ⟨hfab, hacts, -⟩ := id h
  rw [startNext_malformed h hbad] at hF
  refine ⟨_, done_onFab hfab ?_, ?_, ?_⟩ <;> rw [hF]
  · rw [acts_finCmd_afterStart, hacts]
  · exact started_finCmd (started_afterStart h) _
  · exact rest_finCmd_afterStart _ _ _ _ _

/-- A queue without commands has no DIGEST command that waits. -/
theorem digestNext_noCmds (hcmds : (getQueue s q).cmds = []) (op : Nat) (f : Nat → Cmd → State → State) : digestNext q op f s = startNext q 9 (some op) f s := by
  rw [digestNext, digestWaits, hcmds]
  rfl

theorem exec_malformedSlot {q : QueueId} (h : SlotWaits q v s) (hbad : slotMalformed (confidential s (queueCtx s q)) v = true) {i : Instr}
    (hi : i ∈ [.queueNop q, .courseSlot q, .queueCopy q, .queueFill q, .queueInlineWrite q, .queueFlashing q, .queueSignal q, .queueWait q, .digestOpen q,
      .digestRegion q [], .digestRead q, .digestClose q]) :
    ∃ t, exec i s = .next t ∧ Started q v (some .malformed) s t ∧ { t with queues := s.queues } = s := by
  obtain ⟨-, -, -, -, -, hcmds, -⟩ := id h
  simp only [List.mem_cons, List.not_mem_nil, or_false] at hi
  obtain rfl | rfl | rfl | rfl | rfl | rfl | rfl | rfl | rfl | rfl | rfl | rfl := hi
  iterate 9 exact started_malformed h hbad rfl
  · exact started_malformed h hbad (digestNext_noCmds hcmds 2 (digestRegion []))
  · exact started_malformed h hbad (digestNext_noCmds hcmds 3 digestRead)
  · exact started_malformed h hbad rfl

/-- NOP (R257). -/
theorem exec_queueNop {q : QueueId} (h : SlotReady q v s) (hop : slOp v = 1) :
    ∃ t, exec (.queueNop q) s = .next t ∧ Started q v (some .ok) s t ∧ { t with queues := s.queues } = s :=
  started_at_once h hop rfl

theorem startCopy_refused {c : Cmd} (hbad : copyVerdict c.slot ≠ .ok) : startCopy q c s = finCmd q c.idx (copyVerdict c.slot) s := by
  rw [startCopy]
  split
  next hok => exact absurd hok hbad
  · rfl

/-- A copy, a fill or an inline write whose terms are refused (R269). -/
theorem exec_copy_refused {q : QueueId} {i : Instr} {n : Nat} (hi : (i, n) ∈ [(Instr.queueCopy q, 3), (.queueFill q, 4), (.queueInlineWrite q, 5)]) (h : SlotReady q v s)
    (hop : slOp v = n) (hbad : copyVerdict v ≠ .ok) : ∃ t, exec i s = .next t ∧ Started q v (some (copyVerdict v)) s t ∧ { t with queues := s.queues } = s := by
  have hf : startCopy q.val (slotCmd q v s) (afterStart q v s) = finCmd q (getQueue s q).cons (copyVerdict v) (afterStart q v s) := startCopy_refused (c := slotCmd q v s) hbad
  simp only [List.mem_cons, Prod.mk.injEq, List.not_mem_nil, or_false] at hi
  obtain ⟨rfl, rfl⟩ | ⟨rfl, rfl⟩ | ⟨rfl, rfl⟩ := hi <;> exact started_at_once h hop hf

/-! ### COURSE (R257) -/

/-- A course that an array in service takes leaves the queues. -/
theorem queues_handCourse {a : Nat} (h : (getArr s a).fenced = false) (raw : BitVec 1024) (ctx : Nat) (src : CourseSrc) (stream : Nat) :
    (handCourse a raw ctx src stream s).queues = s.queues := by
  obtain ⟨b, hb⟩ := Option.isSome_iff_exists.1 (substitute_isSome (s := { s with arrays.nextId := s.arrays.nextId + 1 }) h)
  have h' : (getArr { s with arrays.nextId := s.arrays.nextId + 1 } a).fenced = false := h
  unfold handCourse
  dsimp only
  rw [hb]
  dsimp only
  rw [h', if_neg Bool.false_ne_true, modArr, modCluster]

/-- A slot that names an array hands its course to that array. -/
theorem startCourseSlot_hands (hop : slArg v < 192) : startCourseSlot q (slotCmd q v s) (afterStart q v s) =
    handCourse (slArg v) (BitVec.ofNat 1024 (slBody v 0 1024)) (queueCtx s q) (.queue q (getQueue s q).cons) (1000 + q) (afterStart q v s) := by
  have ha : slArg v % 256 = slArg v := Nat.mod_eq_of_lt (by omega)
  have hne : slArg v ≠ 0xFF := by omega
  have hgood : courseSlotBad v = false := by simp [courseSlotBad, ha, hne, hop]
  have hslot : (slotCmd q v s).slot = v := rfl
  have hidx : (slotCmd q v s).idx = (getQueue s q).cons := rfl
  rw [startCourseSlot, hslot, hgood, hidx, queueCtx_afterStart]
  simp only [ha, hne, Bool.false_eq_true, if_false]

/-- An array in service takes the course of a slot that names it. -/
theorem exec_courseSlot {q : QueueId} (h : SlotReady q v s) (hop : slOp v = 2) (harray : slArg v < 192) (hfenced : (getArr s (slArg v)).fenced = false) :
    ∃ (t : State) (k : Course), exec (.courseSlot q) s = .next t ∧ Started q v none s t ∧ (getArr t (slArg v)).courses = (getArr s (slArg v)).courses ++ [k] ∧
      k.raw = BitVec.ofNat 1024 (slBody v 0 1024) ∧ k.src = .queue q (getQueue s q).cons ∧ k.ctx = queueCtx s q ∧ k.stage = .issued ∧ t.mem = s.mem ∧ t.ports = s.ports := by
  obtain ⟨hwaits, -⟩ := id h
  obtain ⟨hfab, hacts, -⟩ := id hwaits
  obtain ⟨hacts', hmem', hports', -⟩ := kept_afterStart q v s
  have hfenced' : (getArr (afterStart q v s) (slArg v)).fenced = false := by rw [getArr_afterStart, hfenced]
  obtain ⟨⟨hmem, -, hports, hkept⟩, k, hk, hcourse⟩ := handCourse_takes hfenced' (BitVec.ofNat 1024 (slBody v 0 1024)) (queueCtx s q) (.queue q (getQueue s q).cons) (1000 + q)
  have hqueues := queues_handCourse hfenced' (BitVec.ofNat 1024 (slBody v 0 1024)) (queueCtx s q) (.queue q (getQueue s q).cons) (1000 + q)
  have hstart := (startNext_ready h hop startCourseSlot).trans (startCourseSlot_hands harray)
  obtain ⟨hraw, hsrc, hctx, hstage⟩ := hcourse
  rw [getArr_afterStart] at hk
  exact ⟨_, k, exec_startNext hfab hstart ((hkept.trans hacts').trans hacts), started_congr (started_afterStart hwaits) hqueues, hk, hraw, hsrc, hctx, hstage,
    hmem.trans hmem', hports.trans hports'⟩

end

end Sys2Proof.Machine
end

section
namespace Sys2Proof.Machine

/-! ### FLASHING (R264) -/

/-- The read-back that port `p` needs for its write `n` is sent, where none on its way covers it. -/
def askReadback (p n : Nat) (s : State) : State :=
  if (getHost s p).confirmed < n && !((getHost s p).readbacks.any fun k => n ≤ k) then
    portSend p (.readback p (getHost s p).lastWrite) (modHost p (fun x => { x with readbacks := x.readbacks ++ [x.wseq] }) s)
  else s

theorem issueReadbacks_eq (n m : Nat) (s : State) : issueReadbacks n m s = askReadback 1 m (askReadback 0 n s) := rfl

/-- The state but for what a host port is sent and its record of it. -/
def besidePorts (s : State) : State := { s with hosts := [], out := [], stalled := [] }

theorem besidePorts_parts {s t : State} (h : besidePorts t = besidePorts s) : t.queues = s.queues ∧ t.acts = s.acts ∧ t.mem = s.mem := by
  have hqueues : (besidePorts t).queues = (besidePorts s).queues := by rw [h]
  have hacts : (besidePorts t).acts = (besidePorts s).acts := by rw [h]
  have hmem : (besidePorts t).mem = (besidePorts s).mem := by rw [h]
  exact ⟨hqueues, hacts, hmem⟩

theorem besidePorts_askReadback (p n : Nat) (s : State) : besidePorts (askReadback p n s) = besidePorts s := by
  unfold askReadback portSend
  split
  · split <;> rfl
  · rfl

theorem besidePorts_issueReadbacks (n m : Nat) (s : State) : besidePorts (issueReadbacks n m s) = besidePorts s := by
  rw [issueReadbacks_eq, besidePorts_askReadback, besidePorts_askReadback]

theorem getHost_portSend (p j : Nat) (o : Out) (s : State) : getHost (portSend p o s) j = getHost s j := by
  unfold portSend
  split <;> rfl

/-- A write that is not confirmed has a read-back that covers it. -/
theorem askReadback_covers {p n : Nat} {s : State} (h : (getHost s p).confirmed < n) :
    ∃ k ∈ (getHost (askReadback p n s) p).readbacks, n ≤ k ∨ k = (getHost s p).wseq := by
  unfold askReadback
  cases hany : (getHost s p).readbacks.any fun k => decide (n ≤ k) with
  | true =>
    obtain ⟨k, hk, hle⟩ := List.any_eq_true.1 hany
    exact ⟨k, by simpa [hany] using hk, .inl (of_decide_eq_true hle)⟩
  | false =>
    refine ⟨(getHost s p).wseq, ?_, .inr rfl⟩
    rw [if_pos (by simp [h]), getHost_portSend, getHost_modHost, if_pos rfl]
    simp

theorem getHost_askReadback_other {p j : Nat} (h : j ≠ p) (n : Nat) (s : State) : getHost (askReadback p n s) j = getHost s j := by
  unfold askReadback
  split
  · rw [getHost_portSend, getHost_modHost, if_neg h]
  · rfl

section
variable {q : QueueId} {v : BitVec 2048} {s : State}

/-- FLASHING completes at once, and asks for the read-backs of what the ports have written. -/
theorem exec_queueFlashing (h : SlotReady q v s) (hop : slOp v = 6) : ∃ t c, exec (.queueFlashing q) s = .next t ∧ Started q v (some .ok) s t ∧
    (getQueue t q).cmds = [c] ∧ c.need0 = (getHost s 0).wseq ∧ c.need1 = (getHost s 1).wseq ∧
    ((getHost s 0).confirmed < (getHost s 0).wseq → ∃ n ∈ (getHost t 0).readbacks, (getHost s 0).wseq ≤ n) ∧ t.mem = s.mem := by
  obtain ⟨hwaits, -⟩ := id h
  obtain ⟨hfab, hacts, -⟩ := id hwaits
  let f (k : Cmd) : Cmd := { k with need0 := (getHost s 0).wseq, need1 := (getHost s 1).wseq, fin := some .ok }
  let u : State := modCmd q (getQueue s q).cons f (afterStart q v s)
  have hstart : startFlashing q (slotCmd q v s) (afterStart q v s) = issueReadbacks (getHost s 0).wseq (getHost s 1).wseq u := rfl
  have hrest := besidePorts_issueReadbacks (getHost s 0).wseq (getHost s 1).wseq u
  obtain ⟨hqueues, hkept, hmem⟩ := besidePorts_parts hrest
  have hstarted : Started q v (some .ok) s u := started_modCmd (started_afterStart hwaits) fun c => ⟨rfl, rfl, rfl, fun _ => rfl⟩
  have hcmds : (getQueue u q).cmds = [f (slotCmd q v s)] := by
    have hidx : (slotCmd q v s).idx = (getQueue s q).cons := rfl
    simp [u, modCmd, cmds_afterStart hwaits, hidx]
  refine ⟨_, f (slotCmd q v s), exec_startNext hfab ((startNext_ready h hop _).trans hstart) (hkept.trans hacts), started_congr hstarted hqueues,
    ?_, rfl, rfl, fun hunconfirmed => ?_, hmem⟩
  · rw [getQueue, hqueues]
    exact hcmds
  · obtain ⟨k, hk, hcovers⟩ := askReadback_covers (p := 0) (s := u) hunconfirmed
    refine ⟨k, ?_, hcovers.elim id fun hk => hk ▸ Nat.le_refl _⟩
    rw [issueReadbacks_eq, getHost_askReadback_other (by decide)]
    exact hk

end

/-! ### SIGNAL and WAIT (R257) -/

theorem kept_modCmd (q idx : Nat) (f : Cmd → Cmd) (s : State) :
    (modCmd q idx f s).acts = s.acts ∧ (modCmd q idx f s).mem = s.mem ∧ (modCmd q idx f s).sync = s.sync := ⟨rfl, rfl, rfl⟩

theorem kept_signalled (c n : Nat) (s : State) : (signalled c n s).acts = s.acts ∧ (signalled c n s).mem = s.mem ∧ (signalled c n s).queues = s.queues ∧
    ∀ k, valueOf (signalled c n s).sync k = valueOf (setValue c (valueOf s.sync c + n) s.sync) k := ⟨rfl, rfl, rfl, fun _ => rfl⟩

theorem kept_counted (i j : Nat) (u : SyncUnit) (s : State) : (count i j { s with sync := u }).acts = s.acts ∧ (count i j { s with sync := u }).mem = s.mem ∧
    (count i j { s with sync := u }).queues = s.queues ∧ (count i j { s with sync := u }).sync = u := ⟨rfl, rfl, rfl, rfl⟩

/-- The state with `w` as its one watch. -/
def watching (w : Watch) (s : State) : State := { s with sync.watches := [w] }

theorem kept_watching (w : Watch) (s : State) :
    (watching w s).acts = s.acts ∧ (watching w s).mem = s.mem ∧ (watching w s).queues = s.queues ∧ (watching w s).sync.watches = [w] := ⟨rfl, rfl, rfl, rfl⟩

theorem ctr_afterStart (q : Nat) (v : BitVec 2048) (s : State) (i j : Nat) : ctr (afterStart q v s) i j = ctr s i j := by
  simp [afterStart, enterCmd, passSlot]

section
variable {q : QueueId} {v : BitVec 2048} {s : State} {c n : Nat}

/-- A SIGNAL adds to its counter, and completes. -/
theorem exec_queueSignal (h : SlotReady q v s) (hop : slOp v = 7) (hbody : syncBodyBad v = false) (hc : slBody v 0 17 = c) (hn : slBody v 64 32 = n) (hpos : n ≠ 0)
    (hbound : boundTo s.sync c (queueCtx s q) = true) (hwatches : s.sync.watches = []) (hfit : valueOf s.sync c + n < 2 ^ 32) :
    ∃ t, exec (.queueSignal q) s = .next t ∧ Started q v (some .ok) s t ∧ valueOf t.sync c = valueOf s.sync c + n ∧
      (∀ k, k ≠ c → valueOf t.sync k = valueOf s.sync k) ∧ ctr t 0x6800 6 = ctr s 0x6800 6 + 1 ∧ t.mem = s.mem := by
  obtain ⟨hwaits, -⟩ := id h
  obtain ⟨hfab, hacts, -⟩ := id hwaits
  obtain ⟨hacts', hmem', -, hsync'⟩ := kept_afterStart q v s
  have hsignal : signalFor (queueCtx s q) c n (afterStart q v s) = (signalled c n (afterStart q v s), .ok) :=
    signalFor_unwatched hpos (by rw [hsync', hbound]) (by rw [hsync', hwatches]) (by rw [hsync']; exact hfit)
  obtain ⟨hacts₁, hmem₁, hqueues₁, hvalue₁⟩ := kept_signalled c n (afterStart q v s)
  have hslot : (slotCmd q v s).slot = v := rfl
  have hstart : startSignal q (slotCmd q v s) (afterStart q v s) =
      modCmd q (getQueue s q).cons (fun k => { k with fin := some .ok, doneMark := true }) (signalled c n (afterStart q v s)) := by
    rw [startSignal, hslot, hbody, queueCtx_afterStart, hc, hn, hsignal]
    rfl
  have hctr : ctr (signalled c n (afterStart q v s)) 0x6800 6 = ctr s 0x6800 6 + 1 := by
    rw [signalled, ctr_count_same]
    exact congrArg (· + 1) (ctr_afterStart q v s 0x6800 6)
  generalize hu : signalled c n (afterStart q v s) = u at *
  obtain ⟨hacts₂, hmem₂, hsync₂⟩ := kept_modCmd q (getQueue s q).cons (fun k => { k with fin := some .ok, doneMark := true }) u
  have hstarted : Started q v none s u := started_congr (started_afterStart hwaits) hqueues₁
  refine ⟨_, exec_startNext hfab ((startNext_ready h hop _).trans hstart) (hacts₂.trans (hacts₁.trans (hacts'.trans hacts))),
    started_modCmd hstarted fun k => ⟨rfl, rfl, rfl, fun _ => rfl⟩, ?_, fun k hk => ?_, ?_, hmem₂.trans (hmem₁.trans hmem')⟩
  · rw [hsync₂, hvalue₁, hsync', valueOf_setValue, if_pos rfl, Nat.mod_eq_of_lt hfit]
  · rw [hsync₂, hvalue₁, hsync', valueOf_setValue, if_neg hk]
  · rw [modCmd, ctr_modQueue, hctr]

/-- The sync unit once a WAIT of counter `c` is satisfied. -/
def waitTaken (c n : Nat) (observe : Bool) (u : SyncUnit) : SyncUnit := if observe then u else setValue c (valueOf u c - n) u

theorem valueOf_waitTaken (c n : Nat) (observe : Bool) (u : SyncUnit) :
    valueOf (waitTaken c n observe u) c = if observe then valueOf u c else valueOf u c - n := by
  have hlt : valueOf u c < 2 ^ 32 := BitVec.isLt _
  cases observe with
  | true => rfl
  | false => rw [waitTaken, if_neg Bool.false_ne_true, valueOf_setValue, if_pos rfl, Nat.mod_eq_of_lt (by omega), if_neg Bool.false_ne_true]

theorem watches_waitTaken (c n : Nat) (observe : Bool) (u : SyncUnit) : (waitTaken c n observe u).watches = u.watches := by
  cases observe <;> rfl

/-- A WAIT that nothing is ahead of is satisfied at once where its counter has reached the value. -/
theorem waitFor_satisfied {x timeout cookie stream : Nat} {observe : Bool} {dest : WatchDest} {fixed : Option Nat} {s : State} (hpos : n ≠ 0)
    (hbound : boundTo s.sync c x = true) (hwatches : s.sync.watches = []) (hreached : n ≤ valueOf s.sync c) :
    waitFor x c n observe timeout cookie stream dest fixed s = (count 0x6800 8 { s with sync := waitTaken c n observe s.sync }, .satisfied) := by
  unfold waitFor
  simp [hpos, hbound, hwatches, hreached, headOf, waitTaken]

/-- A WAIT that nothing is ahead of registers its watch where its counter has not reached the value. -/
theorem waitFor_registers {x timeout cookie stream k : Nat} {observe : Bool} {dest : WatchDest} {s : State} (hpos : n ≠ 0)
    (hbound : boundTo s.sync c x = true) (hwatches : s.sync.watches = []) (hbelow : valueOf s.sync c < n) :
    waitFor x c n observe timeout cookie stream dest (some k) s =
      (watching ⟨k, c, n, !observe, if timeout = 0 then none else some (s.aoncnt + timeout), cookie, stream, dest, x⟩ s, .registered k) := by
  simp [waitFor, hpos, hbound, hwatches, Nat.not_le.2 hbelow, watching]

/-- A WAIT for a value that its counter has reached completes at once; only a consuming one takes the value. -/
theorem exec_queueWait_satisfied (h : SlotReady q v s) (hop : slOp v = 8) (hbody : syncBodyBad v = false) (hc : slBody v 0 17 = c) (hn : slBody v 64 32 = n) (hpos : n ≠ 0)
    (hbound : boundTo s.sync c (queueCtx s q) = true) (hwatches : s.sync.watches = []) (hreached : n ≤ valueOf s.sync c) :
    ∃ t, exec (.queueWait q) s = .next t ∧ Started q v (some .ok) s t ∧
      valueOf t.sync c = (if slBody v 17 1 = 1 then valueOf s.sync c else valueOf s.sync c - n) ∧ t.sync.watches = [] ∧ t.mem = s.mem := by
  obtain ⟨hwaits, -⟩ := id h
  obtain ⟨hfab, hacts, -⟩ := id hwaits
  obtain ⟨hacts', hmem', -, hsync'⟩ := kept_afterStart q v s
  have hwait := waitFor_satisfied (x := queueCtx s q) (timeout := slBody v 96 32) (cookie := 0) (stream := 0) (observe := slBody v 17 1 = 1) (dest := .queue q)
    (fixed := some (229376 + q)) (s := afterStart q v s) hpos (by rw [hsync', hbound]) (by rw [hsync', hwatches]) (by rw [hsync']; exact hreached)
  obtain ⟨hacts₁, hmem₁, hqueues₁, hsync₁⟩ := kept_counted 0x6800 8 (waitTaken c n (slBody v 17 1 = 1) (afterStart q v s).sync) (afterStart q v s)
  generalize count 0x6800 8 { afterStart q v s with sync := waitTaken c n (slBody v 17 1 = 1) (afterStart q v s).sync } = u at *
  have hslot : (slotCmd q v s).slot = v := rfl
  have hstart : startWait q (slotCmd q v s) (afterStart q v s) = modCmd q (getQueue s q).cons (fun k => { k with fin := some .ok, doneMark := true }) u := by
    rw [startWait, hslot, hbody, queueCtx_afterStart, hc, hn, hwait]
    rfl
  obtain ⟨hacts₂, hmem₂, hsync₂⟩ := kept_modCmd q (getQueue s q).cons (fun k => { k with fin := some .ok, doneMark := true }) u
  have hstarted : Started q v none s u := started_congr (started_afterStart hwaits) hqueues₁
  refine ⟨_, exec_startNext hfab ((startNext_ready h hop _).trans hstart) (hacts₂.trans (hacts₁.trans (hacts'.trans hacts))),
    started_modCmd hstarted fun k => ⟨rfl, rfl, rfl, fun _ => rfl⟩, ?_, ?_, hmem₂.trans (hmem₁.trans hmem')⟩
  · rw [hsync₂, hsync₁, hsync', valueOf_waitTaken]
    simp only [decide_eq_true_eq]
  · rw [hsync₂, hsync₁, hsync', watches_waitTaken, hwatches]

/-- A WAIT for a value that its counter has not reached registers a watch in the queue's own slot. -/
theorem exec_queueWait_watches (h : SlotReady q v s) (hop : slOp v = 8) (hbody : syncBodyBad v = false) (hc : slBody v 0 17 = c) (hn : slBody v 64 32 = n) (hpos : n ≠ 0)
    (hbound : boundTo s.sync c (queueCtx s q) = true) (hwatches : s.sync.watches = []) (hbelow : valueOf s.sync c < n) :
    ∃ t, exec (.queueWait q) s = .next t ∧ Started q v none s t ∧ t.sync.watches = [⟨229376 + q, c, n, !(slBody v 17 1 = 1),
      if slBody v 96 32 = 0 then none else some (s.aoncnt + slBody v 96 32), 0, 0, .queue q, queueCtx s q⟩] ∧ t.mem = s.mem := by
  obtain ⟨hwaits, -⟩ := id h
  obtain ⟨hfab, hacts, -⟩ := id hwaits
  obtain ⟨hacts', hmem', -, hsync'⟩ := kept_afterStart q v s
  have haoncnt : (afterStart q v s).aoncnt = s.aoncnt := by simp [afterStart, enterCmd, passSlot, modQueue]
  have hwait := waitFor_registers (x := queueCtx s q) (timeout := slBody v 96 32) (cookie := 0) (stream := 0) (observe := slBody v 17 1 = 1) (dest := .queue q)
    (k := 229376 + q) (s := afterStart q v s) hpos (by rw [hsync', hbound]) (by rw [hsync', hwatches]) (by rw [hsync']; exact hbelow)
  rw [haoncnt] at hwait
  obtain ⟨hacts₁, hmem₁, hqueues₁, hwatches₁⟩ := kept_watching ⟨229376 + q, c, n, !(slBody v 17 1 = 1),
    if slBody v 96 32 = 0 then none else some (s.aoncnt + slBody v 96 32), 0, 0, .queue q, queueCtx s q⟩ (afterStart q v s)
  generalize watching _ _ = u at *
  have hslot : (slotCmd q v s).slot = v := rfl
  have hstart : startWait q (slotCmd q v s) (afterStart q v s) = u := by
    rw [startWait, hslot, hbody, queueCtx_afterStart, hc, hn, hwait]
    rfl
  exact ⟨_, exec_startNext hfab ((startNext_ready h hop _).trans hstart) (hacts₁.trans (hacts'.trans hacts)), started_congr (started_afterStart hwaits) hqueues₁, hwatches₁,
    hmem₁.trans hmem'⟩

end
end Sys2Proof.Machine
end

section
namespace Sys2Proof.Machine

/-! ### A command goes to an engine (R332) -/

/-- No queue but `q` has commands. -/
def OthersIdle (q : Nat) (s : State) : Prop := ∀ kv ∈ s.queues, kv.1 ≠ q → kv.2.cmds = []

theorem othersIdle_modQueue {q : Nat} {s : State} (h : OthersIdle q s) (f : Queue → Queue) : OthersIdle q (modQueue q f s) :=
  fun kv hkv hne => (mem_tset hkv).elim (fun hq => absurd hq hne) fun hold => h kv hold hne

theorem othersIdle_afterStart {q : Nat} {s : State} (h : OthersIdle q s) (v : BitVec 2048) : OthersIdle q (afterStart q v s) :=
  othersIdle_modQueue (othersIdle_modQueue h _) _

/-- A queue's own commands do not outrank one another (R331). -/
theorem engineOutranked_own {q : Nat} {s : State} (h : OthersIdle q s) (e : Nat) : engineOutranked s e (queueCtx s q) = false := by
  rw [engineOutranked, List.any_eq_false]
  intro r hr
  obtain ⟨kv, hkv, hr⟩ := List.mem_flatMap.1 hr
  obtain ⟨c, hc, rfl⟩ := List.mem_map.1 hr
  have hq : kv.1 = q := by
    by_contra hne
    rw [h kv hkv hne] at hc
    cases hc
  simp [hq, outranks]

/-- Of a range of engines without one, the first that passes `p`. -/
theorem find?_enginesFrom {lo n e : Nat} {keep p : Nat → Bool} (hlo : lo ≤ e) (hhi : e < lo + n) (hkeep : keep e = true) (hp : p e = true)
    (hbefore : ∀ d, lo ≤ d → d < e → keep d = true → p d = false) : ((rangeFrom lo n).filter keep).find? p = some e := by
  have hsplit : rangeFrom lo n = rangeFrom lo (e - lo) ++ e :: rangeFrom (e + 1) (lo + n - e - 1) := by
    have hlen : n = (e - lo) + (1 + (lo + n - e - 1)) := by omega
    have htail : lo + (e - lo) = e := by omega
    conv_lhs => rw [hlen]
    simp only [rangeFrom, List.range_add, List.map_append, List.map_map, List.append_cancel_left_eq]
    simp [Function.comp_def, ← Nat.add_assoc, htail]
  have hnone : ((rangeFrom lo (e - lo)).filter keep).find? p = none := by
    rw [List.find?_eq_none]
    intro d hd
    obtain ⟨hd, hkept⟩ := List.mem_filter.1 hd
    obtain ⟨h1, h2⟩ := mem_rangeFrom.1 hd
    simp [hbefore d h1 (by omega) hkept]
  rw [hsplit, List.filter_append, List.find?_append, hnone, List.filter_cons_of_pos hkeep, List.find?_cons_of_pos hp]
  rfl

/-- Nothing is asked of the peers for bytes that lie with none of them. -/
theorem askPeers_none {foot : List Extent} (h : ∀ x ∈ foot, target x.pa ≠ .peer) (w : Waiter) (s : State) : askPeers w foot s = s := by
  unfold askPeers
  split
  · rfl
  · exact foldl_still fun x hx => if_neg (h x hx)

/-- The state with another scheduler. -/
def withSched (x : Sched) (s : State) : State := { s with sched := x }

@[simp] theorem getQueue_withSched (x : Sched) (s : State) (j : Nat) : getQueue (withSched x s) j = getQueue s j := rfl
@[simp] theorem getEngine_withSched (x : Sched) (s : State) (j : Nat) : getEngine (withSched x s) j = getEngine s j := rfl
@[simp] theorem ctr_withSched (x : Sched) (s : State) (i j : Nat) : ctr (withSched x s) i j = ctr s i j := rfl

/-- A context's slice on an engine changes the scheduler alone. -/
theorem beginSlice_sched (e c : Nat) (s : State) : ∃ x, beginSlice e c s = withSched x s := by
  unfold beginSlice
  split
  · exact ⟨s.sched, rfl⟩
  · exact ⟨_, rfl⟩

/-- Engine `e` has the command at `idx`. -/
def given (e q idx : Nat) (s : State) : State :=
  modCmd q idx (fun k => { k with engine := some e }) (modEngine e (fun x => { x with job := some (q, idx), yields := false }) s)

/-- What a command's source asks of the peers: nothing, where its bytes lie with none of them. -/
theorem assignEngine_given {c : Cmd} (h : slOp c.slot = 3 → ∀ x ∈ c.foot, ∀ lo n y, clipExtent lo n x = some y → target y.pa ≠ .peer) (e q : Nat) (s : State) :
    ∃ x, assignEngine e q c s = withSched x (given e q c.idx s) := by
  obtain ⟨x, hx⟩ := beginSlice_sched (192 + e) (queueCtx (given e q c.idx s) q) (given e q c.idx s)
  have hask (t : State) : askBurst q c t = t := by
    unfold askBurst
    dsimp only
    split
    next hop =>
      refine askPeers_none (fun y hy => ?_) _ t
      obtain ⟨x, hx, hclip⟩ := List.mem_filterMap.1 hy
      exact h hop x hx _ _ y hclip
    · rfl
  exact ⟨x, (hask _).trans hx⟩

/-- A command goes to the first idle engine that may run it. -/
theorem placeCmd_assigns {q idx e : Nat} {c : Cmd} {s : State} (hfind : findCmd s q idx = some c) (hothers : OthersIdle q s)
    (hlo : (engineClass c.slot c.foot).1 ≤ e) (hhi : e < (engineClass c.slot c.foot).1 + (engineClass c.slot c.foot).2) (havoid : c.avoid ≠ some e)
    (hidle : engineIdle s e = true) (hbefore : ∀ d, (engineClass c.slot c.foot).1 ≤ d → d < e → c.avoid ≠ some d → engineIdle s d = false) :
    placeCmd q idx s = assignEngine e q c s := by
  have hmay : e ∈ enginesFor c := List.mem_filter.2 ⟨mem_rangeFrom.2 ⟨hlo, hhi⟩, decide_eq_true havoid⟩
  have hserves : ¬ ((enginesFor c).all fun e => (getEngine s e).fenced) = true := fun hall => by
    have hfenced : (getEngine s e).fenced = true := List.all_eq_true.1 hall e hmay
    simp [engineIdle, hfenced] at hidle
  have hfirst : (enginesFor c).find? (fun e => engineIdle s e && !(engineOutranked s e (queueCtx s q))) = some e :=
    find?_enginesFrom hlo hhi (decide_eq_true havoid) (by simp [hidle, engineOutranked_own hothers]) fun d h1 h2 h3 => by
      simp [hbefore d h1 h2 (of_decide_eq_true h3)]
  rw [placeCmd, hfind]
  simp only [if_neg hserves, hfirst]

end Sys2Proof.Machine
end

section
namespace Sys2Proof.Machine

/-! ### COPY, FILL and INLINE_WRITE (R269, R332) -/

/-- Part of an extent of device memory that has a place in the address map lies in device memory. -/
theorem clipExtent_device {s : State} {c lo n : Nat} {x y : Extent} (hclip : clipExtent lo n x = some y) (hok : accessVerdict s c x.keySlot x.pa x.len = .ok)
    (hdevice : target x.pa = .stacks ∨ target x.pa = .scratch) : target y.pa = target x.pa := by
  have hfit : x.pa % 2 ^ 48 + x.len ≤ 2 ^ 48 := by
    have hmap := inMap_of_ok hok
    obtain hstacks | hscratch := hdevice
    · rw [inMap, hstacks] at hmap
      have hle : x.pa % 2 ^ 48 + x.len ≤ stackBytes s := of_decide_eq_true hmap
      exact hle.trans (stackBytes_lt s).le
    · rw [inMap, hscratch] at hmap
      have hle : x.pa % 2 ^ 48 + x.len ≤ 1472 * 2 ^ 20 - s.mem.steps * 2 ^ 26 := of_decide_eq_true hmap
      omega
  unfold clipExtent at hclip
  dsimp only at hclip
  split at hclip
  next hcut =>
    cases hclip
    have hpage : (x.pa + (max lo x.va - x.va)) / 2 ^ 48 = x.pa / 2 ^ 48 := by omega
    unfold target
    rw [hpage]
  · cases hclip

theorem footIn_empty (lo : Nat) (foot : List Extent) : footIn lo lo foot = [] := by
  refine List.filterMap_eq_nil_iff.2 fun x _ => if_neg ?_
  omega

/-- Without walks and invalidations a command holds none. -/
theorem dropHolder_idle {s : State} (hinvals : s.tu.invals = []) (hrecs : s.tu.recs = []) (w : Waiter) : dropHolder w s = s := by
  obtain ⟨⟩ := s
  dsimp only at hinvals hrecs
  unfold dropHolder
  simp only [hinvals, hrecs, List.map_nil]
  rw [← hinvals, ← hrecs]

/-- What a command that has not begun reads and writes. -/
def copySegs (v : BitVec 2048) : List Segment :=
  (if slOp v = 3 then [⟨(copyTerms v).2.1, (copyTerms v).2.2, needR⟩] else []) ++ [⟨(copyTerms v).1, (copyTerms v).2.2, needW⟩]

theorem copyRemaining_fresh {s : State} {q : Nat} (hplain : isJournaled s q = false) {c : Cmd} (hburst : c.burst = 0) :
    copyRemaining s q c = (copySegs c.slot, []) := by
  have hstaged : hasExternal s q c = false := by simp [hasExternal, hplain]
  rw [copyRemaining]
  simp [hstaged, hburst, footIn_empty, copySegs]

/-- The command whose footprint has been checked. -/
def checkedCmd (foot : List Extent) (k : Cmd) : Cmd :=
  { k with foot := foot, footOk := true, waitRec := none, probing := false, recheck := false, oldPart := false }

section
variable {q : Nat} {v : BitVec 2048} {foot : List Extent} {s : State}

/-- A footprint in device memory that its context may access is checked and goes to an engine. -/
theorem checkCopy_placed (hwaits : SlotWaits q v s) (hfoot : FootOk q v (copySegs v) foot s) :
    checkCopy none q (getQueue s q).cons (afterStart q v s) = placeCmd q (getQueue s q).cons (modCmd q (getQueue s q).cons (checkedCmd foot) (afterStart q v s)) := by
  obtain ⟨-, -, hplain, -⟩ := id hwaits
  obtain ⟨hinvals, hrecs, hcheck, haccess⟩ := hfoot
  have hfind : findCmd (afterStart q v s) q (getQueue s q).cons = some (slotCmd q v s) := findCmd_single (cmds_afterStart hwaits)
  have hremains : copyRemaining (afterStart q v s) q (slotCmd q v s) = (copySegs v, []) :=
    copyRemaining_fresh (c := slotCmd q v s) (by rw [isJournaled_afterStart, hplain]) rfl
  have hdrop : dropHolder (.queueCmd q (getQueue s q).cons) (afterStart q v s) = afterStart q v s :=
    dropHolder_idle (s := afterStart q v s) hinvals hrecs _
  have hcheck' : checkFootprint tlbsOfService false (fld (getCtx (afterStart q v s) (queueCtx s q)) 116 12) (copySegs v) (afterStart q v s) = (.good foot, afterStart q v s) := hcheck
  have hok : worstOf (foot.map fun x => if target x.pa = .regs then Status.boundFault else accessVerdict (afterStart q v s) (queueCtx s q) x.keySlot x.pa x.len) = .ok := by
    refine worstOf_ok fun st hst => ?_
    obtain ⟨x, hx, rfl⟩ := List.mem_map.1 hst
    obtain ⟨hverdict, hdevice⟩ := haccess x hx
    rw [if_neg (by obtain h | h := hdevice <;> rw [h] <;> decide)]
    exact hverdict
  have hpeers : (foot.filter fun x => target x.pa = .peer) = [] := by
    refine List.filter_eq_nil_iff.2 fun x hx => ?_
    obtain ⟨-, hdevice⟩ := haccess x hx
    obtain h | h := hdevice <;> simp [h]
  rw [checkCopy, hfind]
  dsimp only
  rw [queueCtx_afterStart, hremains]
  dsimp only
  rw [hdrop, hcheck']
  dsimp only
  rw [if_neg (not_not.2 hok), hpeers]
  rfl

/-- The class of a destination in device memory (Table 10.11). -/
theorem engineClass_device (hfoot : ∀ x ∈ foot, target x.pa = .stacks ∨ target x.pa = .scratch)
    (hdst : target (footPa foot (copyTerms v).1) = .stacks ∨ target (footPa foot (copyTerms v).1) = .scratch) : engineClass v foot = (0, 16) := by
  have hnone : ¬ (foot.any fun x => target x.pa = .peer) = true := fun hany => by
    obtain ⟨x, hx, hpeer⟩ := List.any_eq_true.1 hany
    obtain h | h := hfoot x hx <;> simp [h] at hpeer
  rw [engineClass, if_neg hnone]
  obtain h | h := hdst <;> rw [h]

/-- The state once a copy has gone to engine 0; `x` is the scheduler's part. -/
def copyGiven (q : Nat) (v : BitVec 2048) (foot : List Extent) (x : Sched) (s : State) : State :=
  withSched x (given 0 q (getQueue s q).cons (modCmd q (getQueue s q).cons (checkedCmd foot) (afterStart q v s)))

/-- A copy whose footprint is good goes to engine 0 when all engines are idle. -/
theorem startCopy_given (hwaits : SlotWaits q v s) (hterms : copyVerdict v = .ok) (hengines : s.engines = []) (hothers : OthersIdle q s)
    (hfoot : FootOk q v (copySegs v) foot s) (hdst : target (footPa foot (copyTerms v).1) = .stacks ∨ target (footPa foot (copyTerms v).1) = .scratch) :
    ∃ x, startCopy q (slotCmd q v s) (afterStart q v s) = copyGiven q v foot x s := by
  obtain ⟨-, -, -, haccess⟩ := id hfoot
  have hslot : (slotCmd q v s).slot = v := rfl
  have hidx : (slotCmd q v s).idx = (getQueue s q).cons := rfl
  have hcmds : (getQueue (modCmd q (getQueue s q).cons (checkedCmd foot) (afterStart q v s)) q).cmds = [checkedCmd foot (slotCmd q v s)] := by
    simp [modCmd, cmds_afterStart hwaits, hidx]
  have hclass : engineClass (checkedCmd foot (slotCmd q v s)).slot (checkedCmd foot (slotCmd q v s)).foot = (0, 16) := engineClass_device (fun x hx => (haccess x hx).2) hdst
  have hidle : engineIdle (modCmd q (getQueue s q).cons (checkedCmd foot) (afterStart q v s)) 0 = true := by
    have hnone : (modCmd q (getQueue s q).cons (checkedCmd foot) (afterStart q v s)).engines = [] := hengines
    rw [engineIdle, getEngine, hnone]
    rfl
  have hplace := placeCmd_assigns (e := 0) (findCmd_single hcmds) (othersIdle_modQueue (othersIdle_afterStart hothers v) _) (by rw [hclass]) (by rw [hclass]; decide)
    nofun hidle fun d _ hd => absurd hd (Nat.not_lt_zero d)
  obtain ⟨x, hx⟩ := assignEngine_given (c := checkedCmd foot (slotCmd q v s))
    (fun _ x hx lo n y hclip => by
      obtain ⟨hok, hdevice⟩ := haccess x hx
      rw [clipExtent_device hclip hok hdevice]
      obtain h | h := hdevice <;> rw [h] <;> decide) 0 q (modCmd q (getQueue s q).cons (checkedCmd foot) (afterStart q v s))
  refine ⟨x, ?_⟩
  rw [startCopy, hslot, hterms]
  exact (checkCopy_placed hwaits hfoot).trans (hplace.trans hx)

theorem cmds_copyGiven (hwaits : SlotWaits q v s) (x : Sched) :
    (getQueue (copyGiven q v foot x s) q).cmds = [{ checkedCmd foot (slotCmd q v s) with engine := some 0 }] := by
  have hqueue : getQueue (copyGiven q v foot x s) q = getQueue (modCmd q (getQueue s q).cons (fun k => { k with engine := some 0 })
    (modCmd q (getQueue s q).cons (checkedCmd foot) (afterStart q v s))) q := rfl
  have hidx : (slotCmd q v s).idx = (getQueue s q).cons := rfl
  have hidx' : (checkedCmd foot (slotCmd q v s)).idx = (getQueue s q).cons := rfl
  rw [hqueue]
  simp [modCmd, cmds_afterStart hwaits, hidx, hidx']

theorem started_copyGiven (hwaits : SlotWaits q v s) (x : Sched) : Started q v none s (copyGiven q v foot x s) := by
  have hchecked : Started q v none s (modCmd q (getQueue s q).cons (checkedCmd foot) (afterStart q v s)) :=
    started_modCmd (started_afterStart hwaits) fun c => ⟨rfl, rfl, rfl, id⟩
  exact started_congr (started_modCmd (f := fun k => { k with engine := some 0 }) (fin' := none) hchecked fun c => ⟨rfl, rfl, rfl, id⟩) rfl

theorem job_copyGiven (x : Sched) : (getEngine (copyGiven q v foot x s) 0).job = some (q, (getQueue s q).cons) := by
  have hengines : (copyGiven q v foot x s).engines = (modEngine 0 (fun x => { x with job := some (q, (getQueue s q).cons), yields := false }) s).engines := rfl
  rw [getEngine, hengines, ← getEngine, getEngine_modEngine, if_pos rfl]

theorem rest_copyGiven (x : Sched) : (copyGiven q v foot x s).acts = s.acts ∧ (copyGiven q v foot x s).mem = s.mem ∧ (copyGiven q v foot x s).out = s.out := by
  simp [copyGiven, withSched, given, modCmd, modQueue, modEngine, afterStart, enterCmd, passSlot]

/-- A copy, a fill or an inline write to device memory starts on engine 0 when all engines are idle. -/
theorem exec_copy_given {q : QueueId} {i : Instr} {n : Nat} (hi : (i, n) ∈ [(Instr.queueCopy q, 3), (.queueFill q, 4), (.queueInlineWrite q, 5)]) (h : SlotReady q v s)
    (hop : slOp v = n) (hterms : copyVerdict v = .ok) (hengines : s.engines = []) (hothers : OthersIdle q s)
    (hfoot : FootOk q v ((if n = 3 then [⟨(copyTerms v).2.1, (copyTerms v).2.2, needR⟩] else []) ++ [⟨(copyTerms v).1, (copyTerms v).2.2, needW⟩]) foot s)
    (hdst : target (footPa foot (copyTerms v).1) = .stacks ∨ target (footPa foot (copyTerms v).1) = .scratch) :
    ∃ t c, exec i s = .next t ∧ Started q v none s t ∧ (getQueue t q).cmds = [c] ∧ c.foot = foot ∧ c.footOk = true ∧ c.engine = some 0 ∧
      (getEngine t 0).job = some (q.val, (getQueue s q).cons) ∧ t.mem = s.mem ∧ t.out = s.out := by
  subst hop
  obtain ⟨hwaits, -⟩ := id h
  obtain ⟨hfab, hacts, -⟩ := id hwaits
  obtain ⟨x, hx⟩ := startCopy_given hwaits hterms hengines hothers hfoot hdst
  obtain ⟨hkept, hmem, hout⟩ := rest_copyGiven (q := q) (v := v) (foot := foot) (s := s) x
  have hexec (op : Nat) (hop : slOp v = op) : done (onFab (startNext q op none startCopy) s) = .next (copyGiven q v foot x s) := by
    have hstart := (startNext_ready h hop startCopy).trans hx
    exact exec_startNext hfab hstart (hkept.trans hacts)
  refine ⟨copyGiven q v foot x s, _, ?_, started_copyGiven hwaits x, cmds_copyGiven hwaits x, rfl, rfl, rfl, job_copyGiven x, hmem, hout⟩
  simp only [List.mem_cons, Prod.mk.injEq, List.not_mem_nil, or_false] at hi
  obtain ⟨rfl, hn⟩ | ⟨rfl, hn⟩ | ⟨rfl, hn⟩ := hi
  · exact hexec 3 hn
  · exact hexec 4 hn
  · exact hexec 5 hn

end

end Sys2Proof.Machine
end

section
open Sys2Proof Sys2Proof.Machine

/-- Settles O45: the slot at the head starts as its opcode says; the copies take the first engine of their class. -/
theorem queueCommandsStart : Obligations.QueueCommandsStart := by
  refine ⟨fun s q v h hop => exec_queueNop h hop, fun s q v i h hbad hi => exec_malformedSlot h hbad hi, fun s q v h hop harray hfenced => exec_courseSlot h hop harray hfenced,
    fun s q v foot i n hi h hop hterms hengines _ hothers hfoot hdst => exec_copy_given hi h hop hterms hengines hothers hfoot hdst,
    fun s q v i n hi h hop hbad => exec_copy_refused hi h hop hbad, fun s q v h hop => exec_queueFlashing h hop,
    fun s q v c n h hop hbody hc hn hpos hbound hwatches hfit => exec_queueSignal h hop hbody hc hn hpos hbound hwatches hfit,
    fun s q v c n h hop hbody hc hn hpos hbound hwatches => ⟨fun hreached => exec_queueWait_satisfied h hop hbody hc hn hpos hbound hwatches hreached,
      fun hbelow => exec_queueWait_watches h hop hbody hc hn hpos hbound hwatches hbelow⟩⟩

end

section
namespace Sys2Proof.Machine

/-! ### A command leaves its queue (R275) -/

section
variable {q : QueueId} {c : Cmd} {s : State}

/-- A command that is neither FLASHING nor WAIT leaves a queue outside a recovery; a draining queue may be DISABLED by it. -/
theorem leaveQueue_plain {q : Nat} (hflashing : slOp c.slot ≠ 6) (hwait : slOp c.slot ≠ 8) (hclosing : (getQueue s q).jrn.closing = false) :
    leaveQueue q c s = drained q (modQueue q (fun x => { x with cmds := x.cmds.filter fun k => k.idx ≠ c.idx }) s) := by
  have hopen : (getQueue (drained q (modQueue q (fun x => { x with cmds := x.cmds.filter fun k => k.idx ≠ c.idx }) s)) q).jrn.closing = false := by
    rw [drained, getQueue_modQueue, if_pos rfl, getQueue_modQueue, if_pos rfl]
    split <;> exact hclosing
  rw [leaveQueue]
  simp only [hflashing, hwait, decide_false, Bool.false_and, Bool.false_eq_true, if_false]
  rw [endRecovery, hopen]
  rfl

/-- A running queue is not DISABLED. -/
theorem drained_running {q : Nat} (h : (getQueue s q).state = 1) : getQueue (drained q s) q = getQueue s q := by
  simp [drained, h]

/-- The record counts, and the command is gone. -/
def recordCounted (q : Nat) (c : Cmd) (s : State) : State :=
  drained q (modQueue q (fun x => { x with cmds := x.cmds.filter fun k => k.idx ≠ c.idx }) (count 0x6000 0x0B (modQueue q (fun y => { y with cqProd := (y.cqProd + 1) % 2 ^ 32 }) s)))

theorem leaveQueue_cqCounts {q : Nat} (hflashing : slOp c.slot ≠ 6) (hwait : slOp c.slot ≠ 8) (hsignal : qCqSignal (getQueue s q).cfg = false)
    (hclosing : (getQueue s q).jrn.closing = false) : leaveQueue q c (cqCounts q s) = recordCounted q c s := by
  have hcounts : cqCounts q s = count 0x6000 0x0B (modQueue q (fun y => { y with cqProd := (y.cqProd + 1) % 2 ^ 32 }) s) := by
    rw [cqCounts, hsignal, if_neg Bool.false_ne_true]
  rw [hcounts, recordCounted]
  refine leaveQueue_plain hflashing hwait ?_
  rw [getQueue_count, getQueue_modQueue, if_pos rfl, hclosing]

/-- What the queue holds once its one command's record counts. -/
theorem getQueue_recordCounted {q : Nat} (hcmds : (getQueue s q).cmds = [c]) (hstate : (getQueue s q).state = 1) :
    getQueue (recordCounted q c s) q = { getQueue s q with cmds := [], cqProd := ((getQueue s q).cqProd + 1) % 2 ^ 32 } := by
  rw [recordCounted, drained_running (by simp [hstate])]
  simp [hcmds]

theorem rest_recordCounted (q : Nat) (c : Cmd) (s : State) : { recordCounted q c s with queues := s.queues, ctrs := s.ctrs, wraps := s.wraps } = s := by
  simp [recordCounted, drained, modQueue, count, countN]

theorem kept_recordCounted (q : Nat) (c : Cmd) (s : State) : (recordCounted q c s).acts = s.acts ∧ (recordCounted q c s).mem = s.mem := by
  simp [recordCounted, drained, modQueue, count, countN]

theorem ctr_recordCounted (q : Nat) (c : Cmd) (s : State) : ctr (recordCounted q c s) 0x6000 0x0B = ctr s 0x6000 0x0B + 1 := by
  rw [recordCounted, drained, ctr_modQueue, ctr_modQueue, ctr_count_same, ctr_modQueue]

/-! ### COMPLETION_RECORD (R273, R275) -/

/-- A command that has not finished has no record. -/
theorem exec_completionRecord_unfinished {idx : Nat} (hacts : s.acts = []) (hfind : findCmd s q idx = some c) (hnew : c.cqAt = none) (hfin : c.fin = none) :
    exec (.completionRecord q idx) s = .next s := by
  have hsame : completionRecord q idx s = s := by
    rw [completionRecord, hfind]
    simp [hnew, recordReady, hfin]
  have hfab : onFab (completionRecord q idx) s = s := by
    rw [onFab, hsame, ite_self]
  show done (onFab (completionRecord q idx) s) = _
  rw [hfab, done_of_quiet s hacts]

/-- A host record that is read back counts. -/
theorem exec_completionRecord_confirmed {p n : Nat} (hfab : fabOn s = true) (hacts : s.acts = []) (hcmds : (getQueue s q).cmds = [c])
    (hplaced : c.cqAt = some ((getQueue s q).cqProd, p, n)) (hdone : c.doneNum = none) (hconfirmed : n ≤ (getHost s p).confirmed) (hflashing : slOp c.slot ≠ 6)
    (hwait : slOp c.slot ≠ 8) (hstate : (getQueue s q).state = 1) (hsignal : qCqSignal (getQueue s q).cfg = false) (hclosing : (getQueue s q).jrn.closing = false) :
    ∃ t, exec (.completionRecord q c.idx) s = .next t ∧ (getQueue t q).cmds = [] ∧ (getQueue t q).cqProd = ((getQueue s q).cqProd + 1) % 2 ^ 32 ∧
      ctr t 0x6000 0x0B = ctr s 0x6000 0x0B + 1 ∧ { t with queues := s.queues, ctrs := s.ctrs, wraps := s.wraps } = s := by
  have hcounts : completionRecord q c.idx s = recordCounted q c s := by
    rw [completionRecord, findCmd_single hcmds]
    simp only [hplaced, readBack, hconfirmed, hdone]
    exact leaveQueue_cqCounts hflashing hwait hsignal hclosing
  obtain ⟨hkept, -⟩ := kept_recordCounted q c s
  refine ⟨_, done_onFab hfab (by rw [hcounts, hkept, hacts]), ?_⟩
  rw [hcounts, getQueue_recordCounted hcmds hstate]
  exact ⟨rfl, rfl, ctr_recordCounted q c s, rest_recordCounted q c s⟩

theorem rest_askReadback (p n : Nat) (s : State) : { askReadback p n s with hosts := s.hosts, out := s.out, stalled := s.stalled } = s := by
  unfold askReadback portSend
  split
  · split <;> rfl
  · rfl

theorem askReadback_nothing (p : Nat) (s : State) : askReadback p 0 s = s := by simp [askReadback]

theorem awaitPort_eq {p : Nat} (hp : p < 2) (n : Nat) (s : State) : awaitPort p n s = askReadback p n s := by
  obtain rfl | rfl : p = 0 ∨ p = 1 := by omega
  · rw [awaitPort, if_pos rfl, issueReadbacks_eq, askReadback_nothing]
  · rw [awaitPort, if_neg (by decide), issueReadbacks_eq, askReadback_nothing]

/-- A host record that is not read back waits for its read-back. -/
theorem exec_completionRecord_awaits {k p n : Nat} (hfab : fabOn s = true) (hacts : s.acts = []) (hcmds : (getQueue s q).cmds = [c])
    (hplaced : c.cqAt = some (k, p, n)) (hunconfirmed : (getHost s p).confirmed < n) (hp : p < 2) :
    ∃ t, exec (.completionRecord q c.idx) s = .next t ∧ (∃ m ∈ (getHost t p).readbacks, n ≤ m ∨ m = (getHost s p).wseq) ∧
      { t with hosts := s.hosts, out := s.out, stalled := s.stalled } = s := by
  have hwaits : completionRecord q c.idx s = askReadback p n s := by
    rw [completionRecord, findCmd_single hcmds]
    simp [hplaced, readBack, hunconfirmed, awaitPort_eq hp]
  obtain ⟨-, hkept, -⟩ := besidePorts_parts (besidePorts_askReadback p n s)
  refine ⟨_, done_onFab hfab (by rw [hwaits, hkept, hacts]), ?_⟩
  rw [hwaits]
  exact ⟨askReadback_covers hunconfirmed, rest_askReadback p n s⟩

/-- What a command's completion record carries (Table 10.12). -/
def cqRecord (q : Nat) (c : Cmd) (s : State) : List Byte :=
  toLe 32 (pack [(8, (c.fin.getD .ok).code), (8, slOp c.slot), (1, slotPhase (qCqLog2 (getQueue s q).cfg) (getQueue s q).cqProd), (1, 0), (14, q), (32, c.idx % 2 ^ 32),
    (64, slTag c.slot), (128, c.detail.toNat)])

theorem cqNext_single {x : Queue} (hcmds : x.cmds = [c]) (hnew : c.cqAt = none) (hprod : x.cqProd < 2 ^ 32) : cqNext x = x.cqProd := by
  have hnone : ([c].filter (·.cqAt.isSome)).length = 0 := by simp [hnew]
  rw [cqNext, hcmds, hnone, Nat.add_zero, Nat.mod_eq_of_lt hprod]

theorem cqImage_single {q : Nat} (hcmds : (getQueue s q).cmds = [c]) (hnew : c.cqAt = none) (hprod : (getQueue s q).cqProd < 2 ^ 32) :
    cqImage q (getQueue s q) (c.idx % 2 ^ 32) (slOp c.slot) (slTag c.slot) (c.fin.getD .ok) c.detail = cqRecord q c s := by
  unfold cqImage
  rw [cqNext_single hcmds hnew hprod]
  rfl

/-- A finished command of a plain queue puts its record. -/
theorem completionRecord_puts {q : Nat} (hcmds : (getQueue s q).cmds = [c]) (hready : recordReady s q c = true) (hnew : c.cqAt = none) (hjournal : (getQueue s q).jrn.state = 0) :
    completionRecord q c.idx s = putRecord q c s := by
  rw [completionRecord, findCmd_single hcmds]
  simp [hnew, hready, hjournal]

theorem hostPortOf_lt (s : State) (pa : Nat) : hostPortOf s pa < 2 := by
  unfold hostPortOf
  split
  · exact Nat.mod_lt _ (by decide)
  · split <;> decide

/-- The state once a record has left at host port `p`. -/
def recordPosted (q p pa : Nat) (img : List Byte) (s : State) : State := hostPostOn p pa img false (chargeBytes (qCtx (getQueue s q).cfg) pa 32 s)

theorem mem_out_askReadback {p n : Nat} {o : Out} (h : o ∈ s.out) : o ∈ (askReadback p n s).out := by
  unfold askReadback portSend
  split
  · split
    · exact h
    · exact List.mem_cons_of_mem _ h
  · exact h

theorem wseq_askReadback (p n : Nat) (s : State) : (getHost (askReadback p n s) p).wseq = (getHost s p).wseq := by
  unfold askReadback
  split
  · rw [getHost_portSend, getHost_modHost, if_pos rfl]
  · rfl

/-- What a record's post leaves, counts and sends. -/
theorem recordPosted_sends (q p pa : Nat) (img : List Byte) {s : State} (hlinks : LinksCarry s) :
    (getHost (recordPosted q p pa img s) p).wseq = (getHost s p).wseq + 1 ∧ Out.hostWrite p pa img false ∈ (recordPosted q p pa img s).out ∧
      (recordPosted q p pa img s).queues = s.queues ∧ (recordPosted q p pa img s).mem = s.mem ∧ (recordPosted q p pa img s).acts = s.acts := by
  have hcharge : ∃ x, chargeBytes (qCtx (getQueue s q).cfg) pa 32 s = { s with sched := x } := ⟨_, rfl⟩
  obtain ⟨x, hx⟩ := hcharge
  have hcarries : (if (getHost s p).link = 4 then 2 else (getHost s p).link) ≠ 5 := by
    split
    · decide
    · exact hlinks p
  have hget : getHost { s with sched := x } p = getHost s p := rfl
  rw [recordPosted, hx, hostPostOn]
  dsimp only
  rw [portSend_carries (by rw [getHost_modHost, if_pos rfl, hget]; exact hcarries)]
  refine ⟨?_, List.mem_cons_self, rfl, rfl, rfl⟩
  rw [getHost_emit, getHost_modHost, if_pos rfl]
  rfl

theorem writeCq_host {q p : Nat} {img : List Byte} {u : State} (hhost : target (cqPlace (getQueue s q)) = .host) (halive : proxyAlive s = true)
    (hp : hostPortOf s (cqPlace (getQueue s q)) = p) (hu : recordPosted q p (cqPlace (getQueue s q)) img s = u) :
    writeCq q img none s = (.posted p (getHost u p).wseq, awaitPort p (getHost u p).wseq u) := by
  subst hp hu
  rw [writeCq]
  dsimp only
  rw [if_pos hhost, if_pos halive]
  rfl

/-- The record of a queue whose completion ring lies in host memory leaves on the port that carries the address, and its read-back follows. -/
theorem exec_completionRecord_posts (hfab : fabOn s = true) (hacts : s.acts = []) (hcmds : (getQueue s q).cmds = [c]) (hready : recordReady s q c = true)
    (hnew : c.cqAt = none) (hdone : c.doneNum = none) (hjournal : (getQueue s q).jrn.state = 0) (hprod : (getQueue s q).cqProd < 2 ^ 32)
    (hhost : target (cqPlace (getQueue s q)) = .host) (halive : proxyAlive s = true) (hlinks : LinksCarry s) :
    ∃ t p, exec (.completionRecord q c.idx) s = .next t ∧ (getQueue t q).cmds = [{ c with cqAt := some ((getQueue s q).cqProd, p, (getHost t p).wseq) }] ∧
      (getHost t p).wseq = (getHost s p).wseq + 1 ∧ (getQueue t q).cqProd = (getQueue s q).cqProd ∧ t.mem = s.mem ∧
      Out.hostWrite p (cqPlace (getQueue s q)) (cqRecord q c s) false ∈ t.out := by
  let p := hostPortOf s (cqPlace (getQueue s q))
  obtain ⟨hwseq, hsent, hqueues, hmem, hkept⟩ := recordPosted_sends q p (cqPlace (getQueue s q)) (cqRecord q c s) hlinks
  generalize hposted : recordPosted q p (cqPlace (getQueue s q)) (cqRecord q c s) s = u at *
  let w := (getHost u p).wseq
  have hwrite : writeCq q (cqRecord q c s) none s = (.posted p w, askReadback p w u) := by
    rw [writeCq_host hhost halive rfl hposted, awaitPort_eq (hostPortOf_lt s _)]
  have hputs : completionRecord q c.idx s = modCmd q c.idx (fun k => { k with cqAt := some ((getQueue s q).cqProd, p, w) }) (askReadback p w u) := by
    rw [completionRecord_puts hcmds hready hnew hjournal, putRecord]
    dsimp only
    rw [cqImage_single hcmds hnew hprod, hdone, cqNext_single hcmds hnew hprod, if_neg (by simp)]
    dsimp only [Option.bind]
    rw [hwrite]
  obtain ⟨hqueues', hkept', hmem'⟩ := besidePorts_parts (besidePorts_askReadback p w u)
  have hqueue : getQueue (askReadback p w u) q = getQueue s q := by rw [getQueue, hqueues', hqueues, ← getQueue]
  refine ⟨_, p, done_onFab hfab ?_, ?_⟩ <;> rw [hputs]
  · exact hkept'.trans (hkept.trans hacts)
  have hhosts : getHost (modCmd q c.idx (fun k => { k with cqAt := some ((getQueue s q).cqProd, p, w) }) (askReadback p w u)) p = getHost (askReadback p w u) p := rfl
  rw [hhosts, wseq_askReadback]
  refine ⟨?_, hwseq, ?_, hmem'.trans hmem, mem_out_askReadback hsent⟩ <;> rw [modCmd, getQueue_modQueue, if_pos rfl, hqueue]
  simp [hcmds, w]

end

end Sys2Proof.Machine
end

section
namespace Sys2Proof.Machine

/-! ### An engine faults (R272) -/

/-- Engine `e` is free of the command at `idx`, which it `ends` or not. -/
def freed (ends : Bool) (e q idx : Nat) (s : State) : State :=
  let s := modCmd q idx (fun k => { k with engine := none, detail := if ends then copyDetail e k else k.detail }) s
  modEngine e (fun x => { x with job := none, yields := false }) (if ends then count (0x6001 + e) 3 s else s)

section
variable {e q : Nat} {c : Cmd} {s : State}

/-- An engine that no fence waits for is released with no more ado. -/
theorem leaveEngine_freed (ends : Bool) (hengine : c.engine = some e) (hfencing : (getEngine s e).fencing = false) : leaveEngine ends q c s = freed ends e q c.idx s := by
  have hopen : (getEngine (freed ends e q c.idx s) e).fencing = false := by
    rw [freed, getEngine_modEngine, if_pos rfl]
    cases ends <;> exact hfencing
  rw [leaveEngine, hengine]
  change fenceBoundary e (freed ends e q c.idx s) = _
  rw [fenceBoundary, hopen]
  rfl

theorem cmds_freed (ends : Bool) (e : Nat) (hcmds : (getQueue s q).cmds = [c]) :
    (getQueue (freed ends e q c.idx s) q).cmds = [{ c with engine := none, detail := if ends then copyDetail e c else c.detail }] := by
  cases ends <;> simp [freed, modCmd, hcmds]

theorem getEngine_freed (ends : Bool) (e q idx d : Nat) (s : State) :
    getEngine (freed ends e q idx s) d = if d = e then { getEngine s e with job := none, yields := false } else getEngine s d := by
  rw [freed, getEngine_modEngine]
  cases ends <;> rfl

theorem ctr_freed_ends (e q idx : Nat) (s : State) : ctr (freed true e q idx s) (0x6001 + e) 3 = ctr s (0x6001 + e) 3 + 1 := by
  rw [freed, ctr_modEngine, if_pos rfl, ctr_count_same, modCmd, ctr_modQueue]

theorem ctr_freed_other {j : Nat} (hj : j < 256 ∧ j ≠ 3) (ends : Bool) (e q idx : Nat) (s : State) : ctr (freed ends e q idx s) (0x6001 + e) j = ctr s (0x6001 + e) j := by
  have hne : okey (0x6001 + e) j ≠ okey (0x6001 + e) 3 := fun h => hj.2 ((okey_inj hj.1 (by decide)).1 h).2
  cases ends with
  | true => rw [freed, ctr_modEngine, if_pos rfl, ctr_count, if_neg hne, modCmd, ctr_modQueue]
  | false => rw [freed, ctr_modEngine, if_neg Bool.false_ne_true, modCmd, ctr_modQueue]

theorem kept_freed (ends : Bool) (e q idx : Nat) (s : State) : (freed ends e q idx s).acts = s.acts ∧ (freed ends e q idx s).mem = s.mem := by
  cases ends <;> exact ⟨rfl, rfl⟩

/-- What a command's going to an engine changes. -/
theorem parts_given (e q idx : Nat) (s : State) :
    (getQueue (given e q idx s) q).cmds = ((getQueue s q).cmds.map fun k => if k.idx = idx then { k with engine := some e } else k) ∧
    (∀ d, getEngine (given e q idx s) d = if d = e then { getEngine s e with job := some (q, idx), yields := false } else getEngine s d) ∧
    (∀ i j, ctr (given e q idx s) i j = ctr s i j) ∧ (given e q idx s).acts = s.acts ∧ (given e q idx s).mem = s.mem := by
  refine ⟨?_, fun d => ?_, fun i j => ?_, rfl, rfl⟩ <;> simp [given, modCmd]

/-- A second fault completes the command with its status. -/
theorem engineFaults_again {st : Status} (hjob : (getEngine s e).job = some (q, c.idx)) (hfencing : (getEngine s e).fencing = false) (hengine : c.engine = some e)
    (hcmds : (getQueue s q).cmds = [c]) (hreruns : c.reruns ≠ 0) : engineFaults e st s = finCmd q c.idx st (freed true e q c.idx s) := by
  rw [engineFaults, hjob]
  dsimp only
  rw [findCmd_single hcmds]
  dsimp only
  rw [if_neg hreruns, leaveEngine_freed true hengine hfencing]

/-- A command is marked for its second run (R272). -/
def markRerun (e : Nat) (k : Cmd) : Cmd :=
  { k with reruns := 1, burst := k.committed, avoid := some e, reissued := true, detail := copyDetail e { k with reissued := true } }

/-- A command whose engine has faulted once, before it goes to another engine. -/
def rerunCmd (e : Nat) (c : Cmd) : Cmd := { markRerun e c with engine := none }

/-- The state once engine `e` has given up the command that it faulted on. -/
def faultedOnce (e q idx : Nat) (s : State) : State := freed false e q idx (count (0x6001 + e) 5 (modCmd q idx (markRerun e) s))

theorem cmds_faultedOnce (e : Nat) (hcmds : (getQueue s q).cmds = [c]) : (getQueue (faultedOnce e q c.idx s) q).cmds = [rerunCmd e c] := by
  simp [faultedOnce, freed, modCmd, hcmds, rerunCmd, markRerun]

theorem getEngine_faultedOnce (e q idx d : Nat) (s : State) :
    getEngine (faultedOnce e q idx s) d = if d = e then { getEngine s e with job := none, yields := false } else getEngine s d := by
  rw [faultedOnce, getEngine_freed]
  rfl

theorem engineIdle_faultedOnce {d : Nat} (h : d ≠ e) (q idx : Nat) (s : State) : engineIdle (faultedOnce e q idx s) d = engineIdle s d := by
  rw [engineIdle, engineIdle, getEngine_faultedOnce, if_neg h]

theorem ctr_faultedOnce (e q idx : Nat) (s : State) : ctr (faultedOnce e q idx s) (0x6001 + e) 5 = ctr s (0x6001 + e) 5 + 1 := by
  have hctrs : (faultedOnce e q idx s).ctrs = (count (0x6001 + e) 5 s).ctrs := by simp [faultedOnce, freed, modCmd, modQueue, modEngine, count, countN, ctr]
  rw [ctr, hctrs, ← ctr, ctr_count_same]

theorem kept_faultedOnce (e q idx : Nat) (s : State) :
    (faultedOnce e q idx s).peers = s.peers ∧ (faultedOnce e q idx s).acts = s.acts ∧ (faultedOnce e q idx s).mem = s.mem := by
  simp [faultedOnce, freed, modCmd, modQueue, modEngine, count, countN]

theorem othersIdle_faultedOnce (h : OthersIdle q s) (e idx : Nat) : OthersIdle q (faultedOnce e q idx s) := by
  have hqueues : (faultedOnce e q idx s).queues = (modCmd q idx (fun k => { k with engine := none, detail := k.detail }) (modCmd q idx (markRerun e) s)).queues := rfl
  rw [OthersIdle, hqueues]
  exact othersIdle_modQueue (othersIdle_modQueue h _) _

/-- After the first fault the command goes to the next engine of its class. -/
theorem engineFaults_first {st : Status} (hpeers : s.peers = []) (hjob : (getEngine s e).job = some (q, c.idx)) (hfencing : (getEngine s e).fencing = false)
    (hengine : c.engine = some e) (hfin : c.fin = none) (hrecheck : c.recheck = false) (hold : c.oldPart = false) (hcmds : (getQueue s q).cmds = [c]) (hreruns : c.reruns = 0) :
    engineFaults e st s = placeCmd q c.idx (faultedOnce e q c.idx s) := by
  obtain ⟨hpeers', -⟩ := kept_faultedOnce e q c.idx s
  have hfind : findCmd (faultedOnce e q c.idx s) q c.idx = some (rerunCmd e c) := findCmd_single (c := rerunCmd e c) (cmds_faultedOnce e hcmds)
  rw [engineFaults, hjob]
  dsimp only
  rw [findCmd_single hcmds]
  dsimp only
  rw [if_pos hreruns, leaveEngine_freed false hengine (by exact hfencing)]
  change (if (c.oldPart || c.recheck) = true then checkCopy none q c.idx (dropLanded (.queueCmd q c.idx) (faultedOnce e q c.idx s)) else
    if ((findCmd (dropLanded (.queueCmd q c.idx) (faultedOnce e q c.idx s)) q c.idx).any fun k => k.fin.isNone) = true then
      placeCmd q c.idx (dropLanded (.queueCmd q c.idx) (faultedOnce e q c.idx s)) else dropLanded (.queueCmd q c.idx) (faultedOnce e q c.idx s)) = _
  have hrest : (rerunCmd e c).fin.isNone = true := by
    change c.fin.isNone = true
    rw [hfin]
    rfl
  rw [dropLanded_of_noPeers (hpeers'.trans hpeers), hfind, hold, hrecheck, if_neg (by decide), Option.any_some, if_pos hrest]

end

section
variable {e : EngineId} {q : QueueId} {c : Cmd} {st : Status} {s : State}

/-- With no migration copy on the engine its fault is that of its command. -/
theorem exec_engineFault {t : State} (hfab : fabOn s = true) (hst : st ≠ .ok) (hmigrate : (getEngine s e).migrate = none) (h : engineFaults e st s = t) (hacts : t.acts = []) :
    exec (.engineFault e st) s = .next t := by
  have heffect : (if st = .ok then s else engineFault e.val st s) = t := by
    rw [if_neg hst, engineFault, hmigrate]
    exact h
  have hdone := done_onFab (f := fun s => if st = .ok then s else engineFault e.val st s) hfab (by rw [heffect, hacts])
  rw [heffect] at hdone
  exact hdone

/-- The second time an engine faults on a command it completes with the status. -/
theorem exec_engineFault_ends (hfab : fabOn s = true) (hacts : s.acts = []) (hst : st ≠ .ok) (hjob : (getEngine s e).job = some (q.val, c.idx))
    (hmigrate : (getEngine s e).migrate = none) (hfencing : (getEngine s e).fencing = false) (hengine : c.engine = some e.val) (hcmds : (getQueue s q).cmds = [c])
    (hreruns : c.reruns ≠ 0) (hfin : c.fin = none) : ∃ t k, exec (.engineFault e st) s = .next t ∧ (getQueue t q).cmds = [k] ∧ k.fin = some st ∧ k.engine = none ∧
      k.detail = BitVec.ofNat 128 (pack [(16, 0x8000 + e), (1, b2n c.poison), (1, b2n c.reissued)]) ∧ (getEngine t e).job = none ∧
      ctr t (0x6001 + e) 3 = ctr s (0x6001 + e) 3 + 1 ∧ { t with queues := s.queues, engines := s.engines, ctrs := s.ctrs, wraps := s.wraps } = s := by
  refine ⟨_, { c with engine := none, detail := copyDetail e c, fin := some st },
    exec_engineFault hfab hst hmigrate (engineFaults_again hjob hfencing hengine hcmds hreruns) ?_, ?_, rfl, rfl, rfl, ?_, ?_, ?_⟩
  · simp [finCmd, freed, modCmd, modQueue, modEngine, count, countN, hacts]
  · rw [finCmd, modCmd, getQueue_modQueue, if_pos rfl, cmds_freed true e hcmds]
    simp [hfin]
  · rw [finCmd, modCmd, getEngine_modQueue, getEngine_freed, if_pos rfl]
  · rw [finCmd, modCmd, ctr_modQueue, ctr_freed_ends]
  · simp [finCmd, freed, modCmd, modQueue, modEngine, count, countN]

/-- The first time an engine faults on a command it runs again on the next idle engine of its class. -/
theorem exec_engineFault_reruns {e' : EngineId} (hfab : fabOn s = true) (hacts : s.acts = []) (hpeers : s.peers = []) (hst : st ≠ .ok)
    (hjob : (getEngine s e).job = some (q.val, c.idx)) (hmigrate : (getEngine s e).migrate = none) (hfencing : (getEngine s e).fencing = false) (hothers : OthersIdle q s)
    (hengine : c.engine = some e.val) (hfin : c.fin = none) (hrecheck : c.recheck = false) (hold : c.oldPart = false) (hcmds : (getQueue s q).cmds = [c]) (hreruns : c.reruns = 0)
    (hop : slOp c.slot = 4) (hlo : (engineClass c.slot c.foot).1 ≤ e') (hhi : e'.val < (engineClass c.slot c.foot).1 + (engineClass c.slot c.foot).2) (hne : e' ≠ e)
    (hidle : engineIdle s e' = true) (hbefore : ∀ d : Nat, (engineClass c.slot c.foot).1 ≤ d → d < e'.val → d ≠ e.val → engineIdle s d = false) :
    ∃ t k, exec (.engineFault e st) s = .next t ∧ (getQueue t q).cmds = [k] ∧ k.reruns = 1 ∧ k.burst = c.committed ∧ k.engine = some e'.val ∧ k.reissued = true ∧
      k.avoid = some e.val ∧ k.fin = none ∧ (getEngine t e).job = none ∧ (getEngine t e').job = some (q.val, c.idx) ∧
      ctr t (0x6001 + e) 5 = ctr s (0x6001 + e) 5 + 1 ∧ t.mem = s.mem := by
  have hne' : e'.val ≠ e.val := fun h => hne (Fin.ext h)
  let u := faultedOnce e q c.idx s
  obtain ⟨-, hkept, hmem⟩ := kept_faultedOnce e q c.idx s
  have hplace : placeCmd q c.idx u = assignEngine e' q (rerunCmd e c) u :=
    placeCmd_assigns (findCmd_single (c := rerunCmd e c) (cmds_faultedOnce e hcmds)) (othersIdle_faultedOnce hothers e c.idx) hlo hhi
      (fun h => hne' (Option.some.inj h).symm) (by rw [engineIdle_faultedOnce hne', hidle])
      fun d h1 h2 havoid => by
        have hd : d ≠ e.val := fun h => havoid (congrArg some h.symm)
        rw [engineIdle_faultedOnce hd, hbefore d h1 h2 hd]
  obtain ⟨x, hx⟩ := assignEngine_given (c := rerunCmd e c) (fun h => absurd (hop.symm.trans h) (by decide)) e' q u
  have hfaults : engineFaults e st s = withSched x (given e' q c.idx u) :=
    (engineFaults_first hpeers hjob hfencing hengine hfin hrecheck hold hcmds hreruns).trans (hplace.trans hx)
  obtain ⟨hqueue, hengines, hctr, hacts', hmem'⟩ := parts_given e' q c.idx u
  refine ⟨_, { rerunCmd e c with engine := some e'.val }, exec_engineFault hfab hst hmigrate hfaults (hacts'.trans (hkept.trans hacts)), ?_, rfl, rfl, rfl, rfl, rfl, hfin, ?_,
    ?_, ?_, hmem'.trans hmem⟩
  · rw [getQueue_withSched, hqueue, cmds_faultedOnce e hcmds]
    simp [rerunCmd, markRerun]
  · rw [getEngine_withSched, hengines, if_neg hne'.symm, getEngine_faultedOnce, if_pos rfl]
  · rw [getEngine_withSched, hengines, if_pos rfl]
  · rw [ctr_withSched, hctr, ctr_faultedOnce]

end

end Sys2Proof.Machine
end

section
namespace Sys2Proof.Machine

/-! ### The counters of queues and engines beside an access of storage

An access of storage counts at the homes (0x3800, 0x5000), below the counters of the queues and engines (0x6000 and up). -/

/-- The counters from 0x6000:00 on. -/
def queueCtrs (s : State) (k : Nat) : Word := tget 0 s.ctrs (okey 0x6000 k)

theorem queueCtrs_same {s t : State} (h : t.ctrs = s.ctrs) : queueCtrs t = queueCtrs s := by
  funext k
  rw [queueCtrs, h, queueCtrs]

theorem ctr_eq_queueCtrs (s : State) (e k : Nat) : ctr s (0x6000 + e) k = queueCtrs s (256 * e + k) := by
  have hkey : okey (0x6000 + e) k = okey 0x6000 (256 * e + k) := by unfold okey; omega
  rw [ctr, hkey, queueCtrs]

/-- A counter below 0x6000 is none of them. -/
theorem queueCtrs_countN {i j : Nat} (h : okey i j < okey 0x6000 0) (n : Nat) (s : State) : queueCtrs (countN i j n s) = queueCtrs s := by
  funext k
  have hne : okey 0x6000 k ≠ okey i j := by
    unfold okey at *
    omega
  have hctr := ctr_countN i j n 0x6000 k s
  rw [if_neg hne] at hctr
  exact hctr

theorem queueCtrs_count {i j : Nat} (h : okey i j < okey 0x6000 0) (s : State) : queueCtrs (count i j s) = queueCtrs s := queueCtrs_countN h 1 s

theorem queueCtrs_portSend (p : Nat) (o : Out) (s : State) : queueCtrs (portSend p o s) = queueCtrs s := by
  unfold portSend
  split <;> rfl

/-- An access that stores nothing and counts nothing of queues and engines. -/
structure Served (s t : State) : Prop extends Reads s t where
  counts : queueCtrs t = queueCtrs s

theorem Served.refl (s : State) : Served s s := ⟨.refl s, rfl⟩

theorem Served.trans {s t u : State} (h : Served s t) (k : Served t u) : Served s u := ⟨h.toReads.trans k.toReads, k.counts.trans h.counts⟩

theorem Served.ite {c : Prop} [Decidable c] {s t u : State} (ht : Served s t) (hu : Served s u) : Served s (if c then t else u) := by
  split
  · exact ht
  · exact hu

theorem Served.foldl {α : Type} {f : State → α → State} (hf : ∀ s x, s.mem.flaws = [] → Served s (f s x)) (l : List α) {s : State} (hflaws : s.mem.flaws = []) :
    Served s (l.foldl f s) := by
  induction l generalizing s with
  | nil => exact .refl s
  | cons x l ih =>
    have hx := hf s x hflaws
    exact hx.trans (ih (hx.flaws.trans hflaws))

theorem served_count {i j : Nat} (s : State) (h : okey 0x4100 5 ≠ okey i j) (hlow : okey i j < okey 0x6000 0) : Served s (count i j s) :=
  ⟨(books_count s h).toReads, queueCtrs_count hlow s⟩

theorem served_portSend (p : Nat) (o : Out) (s : State) : Served s (portSend p o s) := ⟨(books_portSend p o s).toReads, queueCtrs_portSend p o s⟩

theorem served_touch (g : Nat) (s : State) : Served s (touch g s) := ⟨reads_touch g s, queueCtrs_same (ctrs_touch g s)⟩

theorem served_touchStack (g : Nat) (s : State) : Served s (touchStack g s) := ⟨reads_touchStack g s, rfl⟩

theorem served_setNear (p g : Nat) (l : NearLine) (s : State) : Served s (setNear p g l s) := by
  refine ⟨reads_setNear p g l s, ?_⟩
  unfold setNear
  dsimp only
  split <;> rfl

theorem served_setDir (g : Nat) (e : DirEntry) (s : State) : Served s (setDir g e s) := ⟨reads_setDir g e s, rfl⟩

theorem served_setLine (l : Nat) (d : Option DevLine) (s : State) : Served s (setLine l d s) := ⟨reads_setLine l d s, rfl⟩

theorem served_setShingle (g : Nat) (x : Shingle) (s : State) : Served s (setShingle g x s) := ⟨reads_setShingle g x s, queueCtrs_same (ctrs_setShingle g x s)⟩

theorem served_unfresh (gs : List Nat) (s : State) : Served s (unfresh gs s) := by
  refine ⟨reads_unfresh gs s, ?_⟩
  unfold unfresh
  split <;> rfl

theorem served_d2h (g : Nat) (req : String) (data : Option Line) (mask : Word) (poison : Bool) (s : State) : Served s (d2h g req data mask poison s) := by
  refine ⟨reads_d2h g req data mask poison s, ?_⟩
  unfold d2h
  dsimp only
  rw [queueCtrs_portSend]
  split <;> rfl

theorem served_dropCopies {s : State} (hflaws : s.mem.flaws = []) (g : Nat) : Served s (dropCopies g s) := by
  unfold dropCopies
  dsimp only
  have hround : Served s (if (getDir s g).st = .broadcast then count 0x3800 0x0B s else s) := Served.ite (served_count s (by decide) (by decide)) (.refl s)
  refine hround.trans ((Served.foldl (fun st p _ => ?_) _ (hround.flaws.trans hflaws)).trans (served_setDir g {} _))
  exact Served.ite (served_setNear p g {} st) ((served_portSend _ _ st).trans (served_count _ (by decide) (by decide)))

theorem served_releaseShingle (g : Nat) (s : State) : Served s (releaseShingle g s) := by
  unfold releaseShingle
  split
  · exact (served_d2h _ _ _ _ _ s).trans (served_setShingle _ _ _)
  · exact (served_d2h _ _ _ _ _ s).trans (served_setShingle _ _ _)
  · exact (served_d2h _ _ _ _ _ s).trans (served_setShingle _ _ _)
  · exact served_setShingle _ _ s

theorem served_recallNear {s : State} (hflaws : s.mem.flaws = []) (g : Nat) : Served s (recallNear g s) :=
  (served_dropCopies hflaws g).trans (Served.ite (served_setShingle _ _ _) (.refl _))

theorem served_evictLine {s : State} (hflaws : s.mem.flaws = []) (l : Nat) : Served s (evictLine l s) := by
  unfold evictLine
  have hshingles : Served s ((rangeFrom (4 * l) 4).foldl (fun st g => releaseShingle g (recallNear g st)) s) :=
    Served.foldl (fun st g h => (served_recallNear h g).trans (served_releaseShingle g _)) _ hflaws
  exact (Served.ite hshingles (Served.ite (served_touchStack _ s) (.refl s))).trans (served_setLine l none _)

theorem served_allocLine {s t : State} (hflaws : s.mem.flaws = []) {l keySlot : Nat} (h : allocLine l keySlot s = some t) : Served s t := by
  unfold allocLine at h
  dsimp only at h
  split at h
  · cases h
  split at h
  · cases h
    exact served_setLine _ _ s
  have hway : Served s (stepWay (homeOf s (4 * l)) 0 s).2 := ⟨reads_stepWay _ 0 s, rfl⟩
  split at h
  · cases h
  split at h
  · cases h
    exact hway.trans ((served_evictLine (hway.flaws.trans hflaws) _).trans (served_setLine _ _ _))
  · cases h
    exact hway.trans (served_setLine _ _ _)

theorem served_stackLine {s : State} (hflaws : s.mem.flaws = []) (g keySlot cache : Nat) (write full : Bool) : Served s (stackLine g keySlot cache write full s) := by
  unfold stackLine
  extract_lets l s₁ fetch fill s₂ s₃
  have hevict : Served s s₁ := by
    unfold s₁
    split
    · exact (served_evictLine hflaws l).ite (.refl s)
    · exact .refl s
  have hfetch (st : State) : Served st (fetch st) := (Served.ite (.refl st) (served_touchStack g st)).trans (served_setShingle _ _ _)
  have hfill {st : State} (h : st.mem.flaws = []) : Served st (fill st) := by
    refine Served.ite ((hfetch st).trans (Served.foldl (fun x k hx => ?_) _ ((hfetch st).flaws.trans h))) (hfetch st)
    rw [meetFlaw_sound hx]
    exact Served.ite (.refl x) (served_setShingle _ _ _)
  have hflaws₁ : s₁.mem.flaws = [] := hevict.flaws.trans hflaws
  have hline : Served s₁ s₂ := by
    unfold s₂
    split
    · exact Served.ite (Served.ite (served_touchStack g s₁) ((served_count s₁ (by decide) (by decide)).trans (hfetch _))) (served_count s₁ (by decide) (by decide))
    · split
      · exact served_touchStack g s₁
      · split
        next st hst =>
          have hmiss : Served s₁ (count 0x3800 6 st) := (served_allocLine hflaws₁ hst).trans (served_count st (by decide) (by decide))
          exact hmiss.trans (hfill (hmiss.flaws.trans hflaws₁))
        next => exact served_touchStack g s₁
  have hthrough : Served s₂ s₃ := Served.ite (served_touchStack g s₂) (.refl s₂)
  exact hevict.trans (hline.trans (hthrough.trans ((Served.ite (served_setShingle _ _ _) (.refl s₃)).trans (served_touch g _))))

/-! ### A run of bytes goes to one granule of the stacks -/

/-- `t` is `s` with the bytes `bs` at `pa`, in one granule; nothing outside it, no queue, no engine and no counter of theirs has changed. -/
structure RunStored (pa : Nat) (bs : List Byte) (s t : State) : Prop extends Aside s t where
  counts : queueCtrs t = queueCtrs s
  stored : ∀ i, i < bs.length → byteAt t (pa + i) = bs.getD i 0
  others : ∀ b, b < pa / 64 * 64 ∨ pa / 64 * 64 + 64 ≤ b → byteAt t b = byteAt s b

theorem Served.stores {pa : Nat} {bs : List Byte} {s t u : State} (h : Served s t) (k : RunStored pa bs t u) : RunStored pa bs s u :=
  ⟨h.toAside.trans k.toAside, k.counts.trans h.counts, k.stored, fun b hb => (k.others b hb).trans (h.byteAt b)⟩

theorem RunStored.served {pa : Nat} {bs : List Byte} {s t u : State} (h : RunStored pa bs s t) (k : Served t u) : RunStored pa bs s u :=
  ⟨h.toAside.trans k.toAside, k.counts.trans h.counts, fun i hi => (k.byteAt _).trans (h.stored i hi), fun b hb => (k.byteAt b).trans (h.others b hb)⟩

/-- Whatever key the granule has had, the written bytes stand in it. -/
theorem runStored_writeRun {s : State} {c k pa : Nat} {bs : List Byte} (hflaws : s.mem.flaws = []) (hn : 0 < bs.length) (hfit : pa % 64 + bs.length ≤ 64)
    (hstacks : target pa = .stacks) : RunStored pa bs s (writeRun c k pa bs false s) := by
  have hg : target (pa / 64 * 64) = .stacks := (target_granule pa).trans hstacks
  rw [writeRun_single hflaws hn hfit]
  refine (served_touch (pa / 64) s).stores ?_
  obtain ⟨hbytes, hothers⟩ := onlyGranule_of_putBytes (bytes_writeGranule (s := touch (pa / 64) s) (c := c) (k := k) (.inl hg)
    (BitVec.ofNat 512 (ofLe bs * 2 ^ (8 * (pa % 64)))) (maskOf (pa % 64) bs.length) false)
  refine ⟨aside_writeGranule_stacks hg _ _, queueCtrs_same (ctrs_writeGranule _ _ _ _ _ _ _), fun i hi => ?_, hothers⟩
  have hplace : pa + i = pa / 64 * 64 + (pa % 64 + i) := by omega
  rw [hplace, hbytes _ (by omega), lineByte_mergeLine _ _ _ (by omega), maskBit_maskOf (by omega), if_pos (decide_eq_true ⟨by omega, by omega⟩),
    lineByte_shifted hfit (by omega), Nat.add_sub_cancel_left]

/-- The home's part in such a write. -/
theorem runStored_homeWrite {s : State} {c k pa cache : Nat} {bs : List Byte} (hflaws : s.mem.flaws = []) (hn : 0 < bs.length) (hfit : pa % 64 + bs.length ≤ 64)
    (hstacks : target pa = .stacks) : RunStored pa bs s (homeWrite c k pa bs false cache s) := by
  unfold homeWrite
  simp only [granulesOf_single hn hfit, List.foldl_cons, List.foldl_nil, hstacks, if_true, meetWrite_sound hflaws, reduceCtorEq, if_false]
  have hdrop := served_dropCopies hflaws (pa / 64)
  have hbefore := hdrop.trans (served_stackLine (hdrop.flaws.trans hflaws) (pa / 64) k cache true
    (decide (pa ≤ pa / 64 * 64) && decide (pa / 64 * 64 + 64 ≤ pa + bs.length)))
  exact (hbefore.stores (runStored_writeRun (hbefore.flaws.trans hflaws) hn hfit hstacks)).served (served_unfresh _ _)

end Sys2Proof.Machine
end

section
namespace Sys2Proof.Machine

/-! ### A completion record in device memory (R273, R275) -/

section
variable {q : QueueId} {c : Cmd} {s : State}

/-- The record of a ring in the stacks is written at once. -/
theorem writeCq_stacks {q : Nat} (hclear : WayClear s [] (cqExtent s q)) (hstacks : target (cqPlace (getQueue s q)) = .stacks)
    (hok : accessVerdict s (qCtx (getQueue s q).cfg) (qKey (getQueue s q).cfg) (cqPlace (getQueue s q)) 32 = .ok) (img : List Byte) :
    writeCq q img none s = (.written, homeWrite (qCtx (getQueue s q).cfg) (qKey (getQueue s q).cfg) (cqPlace (getQueue s q)) img false 2
      (chargeBytes (qCtx (getQueue s q).cfg) (cqPlace (getQueue s q)) 32 s)) := by
  have hextent : cqExtent s q = [⟨0, cqPlace (getQueue s q), 32, qKey (getQueue s q).cfg, 2, false, false⟩] := by
    rw [cqExtent, hstacks, if_neg (by decide)]
  rw [hextent] at hclear
  rw [writeCq]
  simp only [hstacks, hok, reduceCtorEq, if_false, if_true, ne_eq, not_true_eq_false, bulkReady_of_wayClear hclear]

theorem length_cqRecord (q : Nat) (c : Cmd) (s : State) : (cqRecord q c s).length = 32 := length_toLe 32 _

/-- What the write of a record in the stacks leaves. -/
theorem runStored_cqRecord {q pa : Nat} (hflaws : s.mem.flaws = []) (haligned : pa % 32 = 0) (hstacks : target pa = .stacks) (x k : Nat) :
    RunStored pa (cqRecord q c s) s (homeWrite x k pa (cqRecord q c s) false 2 (chargeBytes x pa 32 s)) := by
  have hcharge : Served s (chargeBytes x pa 32 s) := ⟨(books_chargeBytes x pa 32 s).toReads, rfl⟩
  have hlen := length_cqRecord q c s
  exact hcharge.stores (runStored_homeWrite (hcharge.flaws.trans hflaws) (by omega) (by omega) hstacks)

/-- A record in the stacks is written, counts at once, and its command leaves. -/
theorem exec_completionRecord_written {pa : Nat} (hfab : fabOn s = true) (hacts : s.acts = []) (hcmds : (getQueue s q).cmds = [c])
    (hready : recordReady s q c = true) (hnew : c.cqAt = none) (hdone : c.doneNum = none) (hflashing : slOp c.slot ≠ 6) (hwait : slOp c.slot ≠ 8)
    (hstate : (getQueue s q).state = 1) (hjournal : (getQueue s q).jrn.state = 0) (hclosing : (getQueue s q).jrn.closing = false) (hprod : (getQueue s q).cqProd < 2 ^ 32)
    (hclear : WayClear s [] (cqExtent s q)) (hsignal : qCqSignal (getQueue s q).cfg = false)
    (hplace : pa = qCq (getQueue s q).cfg + 32 * ((getQueue s q).cqProd % 2 ^ qCqLog2 (getQueue s q).cfg)) (haligned : pa % 32 = 0) (hstacks : target pa = .stacks)
    (hok : accessVerdict s (qCtx (getQueue s q).cfg) (qKey (getQueue s q).cfg) pa 32 = .ok) (hflaws : s.mem.flaws = []) :
    ∃ t, exec (.completionRecord q c.idx) s = .next t ∧ (getQueue t q).cmds = [] ∧ (getQueue t q).cqProd = ((getQueue s q).cqProd + 1) % 2 ^ 32 ∧
      bytesAt t pa 32 = cqRecord q c s ∧ (∀ b, b < pa / 64 * 64 ∨ pa / 64 * 64 + 64 ≤ b → byteAt t b = byteAt s b) ∧
      ctr t 0x6000 0x0B = ctr s 0x6000 0x0B + 1 := by
  have hpa : cqPlace (getQueue s q) = pa := by rw [cqPlace, cqNext_single hcmds hnew hprod, hplace]
  have hstored := runStored_cqRecord (q := q) (c := c) hflaws haligned hstacks (qCtx (getQueue s q).cfg) (qKey (getQueue s q).cfg)
  have hwrite := writeCq_stacks hclear (by rw [hpa, hstacks]) (by rw [hpa, hok]) (cqRecord q c s)
  rw [hpa] at hwrite
  generalize homeWrite _ _ pa (cqRecord q c s) false 2 _ = u at hstored hwrite
  have hqueue : getQueue u q = getQueue s q := hstored.getQueue q
  have hputs : completionRecord q c.idx s = recordCounted q c u := by
    rw [completionRecord_puts hcmds hready hnew hjournal, putRecord]
    dsimp only
    rw [cqImage_single hcmds hnew hprod, hdone, if_neg (by simp)]
    dsimp only [Option.bind]
    rw [hwrite]
    exact leaveQueue_cqCounts hflashing hwait (by rw [hqueue, hsignal]) (by rw [hqueue, hclosing])
  obtain ⟨hkept, hmem⟩ := kept_recordCounted q c u
  have hbyte (b : Nat) : byteAt (recordCounted q c u) b = byteAt u b := by rw [byteAt, hmem, ← byteAt]
  refine ⟨_, done_onFab hfab ?_, ?_⟩ <;> rw [hputs]
  · rw [hkept, hstored.acts, hacts]
  rw [getQueue_recordCounted (hqueue ▸ hcmds) (hqueue ▸ hstate)]
  refine ⟨rfl, by rw [hqueue], ?_, fun b hb => (hbyte b).trans (hstored.others b hb), ?_⟩
  · have hlen := length_cqRecord q c s
    refine List.ext_getElem (by simp [bytesAt, hlen]) fun i _ hi => ?_
    simp only [bytesAt, List.getElem_map, List.getElem_range]
    rw [hbyte, hstored.stored i hi, List.getD_eq_getElem]
  · rw [ctr_recordCounted]
    exact congrArg (· + 1) (congrFun hstored.counts 0x0B)

end

end Sys2Proof.Machine
end

section
namespace Sys2Proof.Machine

/-! ### A burst writes its bytes (R270) -/

/-- What a copy's write leaves as it was: the queues, the engines, the peers, the pending acts, the errors of storage, and the counters of queues and engines. -/
structure Spares (s t : State) : Prop where
  queues : t.queues = s.queues
  engines : t.engines = s.engines
  peers : t.peers = s.peers
  acts : t.acts = s.acts
  flaws : t.mem.flaws = s.mem.flaws
  counts : queueCtrs t = queueCtrs s

theorem Spares.refl (s : State) : Spares s s := ⟨rfl, rfl, rfl, rfl, rfl, rfl⟩

theorem Spares.trans {s t u : State} (h : Spares s t) (k : Spares t u) : Spares s u :=
  ⟨k.queues.trans h.queues, k.engines.trans h.engines, k.peers.trans h.peers, k.acts.trans h.acts, k.flaws.trans h.flaws, k.counts.trans h.counts⟩

theorem Aside.engines {s t : State} (h : Aside s t) : t.engines = s.engines := (congrArg (fun x : State => x.engines) h.beside :)

theorem RunStored.spares {pa : Nat} {bs : List Byte} {s t : State} (h : RunStored pa bs s t) : Spares s t :=
  ⟨h.queues, h.engines, h.peers, h.acts, h.flaws, h.counts⟩

theorem spares_softAccess (pa n : Nat) (write : Bool) (s : State) : Spares s (softAccess pa n write s) ∧ (softAccess pa n write s).mem = s.mem := by
  unfold softAccess
  split
  · exact ⟨.refl s, rfl⟩
  · exact ⟨⟨rfl, rfl, rfl, rfl, rfl, rfl⟩, rfl⟩

section
variable {x : Extent} {s : State}

/-- A piece of a run, in one granule of the stacks, goes to its place. -/
theorem writeFoot_piece {q idx ctx va : Nat} {bs : List Byte} (hcopy : (getQueue s q).cmds.any (fun k => k.idx = idx && fld k.slot 88 8 = 2) = false)
    (hflaws : s.mem.flaws = []) (hlo : x.va ≤ va) (hhi : va < x.va + x.len) (hn : 0 < bs.length) (hfit : (x.pa + (va - x.va)) % 64 + bs.length ≤ 64)
    (hstacks : target (x.pa + (va - x.va)) = .stacks) :
    Spares s (writeFoot (.queueCmd q idx) ctx [x] va bs false s) ∧
    (∀ i, i < bs.length → byteAt (writeFoot (.queueCmd q idx) ctx [x] va bs false s) (x.pa + (va - x.va) + i) = bs.getD i 0) ∧
    ∀ b, b < (x.pa + (va - x.va)) / 64 * 64 ∨ (x.pa + (va - x.va)) / 64 * 64 + 64 ≤ b → byteAt (writeFoot (.queueCmd q idx) ctx [x] va bs false s) b = byteAt s b := by
  have hextent : extentOf [x] va = some x := by simp [extentOf, hlo, hhi]
  obtain ⟨hsoft, hmem⟩ := spares_softAccess (x.pa + (va - x.va)) bs.length true s
  have hwrite : writeFoot (.queueCmd q idx) ctx [x] va bs false s =
      homeWrite ctx x.keySlot (x.pa + (va - x.va)) bs false x.cache (softAccess (x.pa + (va - x.va)) bs.length true s) := by
    rw [writeFoot, hextent]
    simp only [hcopy, hstacks, Bool.false_eq_true, if_false]
  rw [hwrite]
  have hstored := runStored_homeWrite (c := ctx) (k := x.keySlot) (cache := x.cache) (hsoft.flaws.trans hflaws) hn hfit hstacks
  refine ⟨hsoft.trans hstored.spares, hstored.stored, fun b hb => (hstored.others b hb).trans ?_⟩
  rw [byteAt, hmem, byteAt]

/-- What is written of a burst once its first `m` granules are. -/
structure BurstPart (x : Extent) (bs : List (Byte × Bool)) (m : Nat) (s t : State) : Prop where
  spares : Spares s t
  stored : ∀ i, i < x.len → x.pa % 64 + i < 64 * m → byteAt t (x.pa + i) = (bs.getD i (0, false)).1
  others : ∀ b, b < x.pa / 64 * 64 ∨ (x.pa / 64 + m) * 64 ≤ b → byteAt t b = byteAt s b

/-- One granule's piece of a burst. -/
def burstPiece (x : Extent) (bs : List (Byte × Bool)) (g : Nat) : List (Byte × Bool) :=
  (bs.drop (max x.va (g * 64) - x.va)).take (min (x.va + bs.length) (g * 64 + 64) - max x.va (g * 64))

theorem getD_burstPiece {bs : List (Byte × Bool)} {g i : Nat} (hi : i < min (x.va + bs.length) (g * 64 + 64) - max x.va (g * 64)) :
    ((burstPiece x bs g).map (·.1)).getD i 0 = (bs.getD (max x.va (g * 64) - x.va + i) (0, false)).1 := by
  have hin : max x.va (g * 64) - x.va + i < bs.length := by omega
  rw [burstPiece, List.getD_eq_getElem _ _ (by simp; omega), List.getD_eq_getElem _ _ hin]
  simp

theorem burstPiece_clean {bs : List (Byte × Bool)} (hclean : bs.any (·.2) = false) (g : Nat) : (burstPiece x bs g).any (·.2) = false := by
  rw [List.any_eq_false] at hclean ⊢
  exact fun b hb => hclean b (List.mem_of_mem_drop (List.mem_of_mem_take hb))

/-- Granule after granule of a burst is written. -/
theorem burstPart_fold {q idx ctx : Nat} {bs : List (Byte × Bool)} (hcopy : (getQueue s q).cmds.any (fun k => k.idx = idx && fld k.slot 88 8 = 2) = false)
    (hflaws : s.mem.flaws = []) (hlen : bs.length = x.len) (hclean : bs.any (·.2) = false) (halign : x.pa % 64 = x.va % 64) (hstacks : target x.pa = .stacks)
    (hreach : x.pa + x.len ≤ 2 ^ 48) (m : Nat) (hm : m ≤ (x.va + x.len - 1) / 64 - x.va / 64 + 1) (hpos : 0 < x.len) :
    BurstPart x bs m s ((rangeFrom (x.va / 64) m).foldl (fun st g => writeFoot (.queueCmd q idx) ctx [x] (max x.va (g * 64)) ((burstPiece x bs g).map (·.1))
      ((burstPiece x bs g).any (·.2)) st) s) := by
  induction m with
  | zero => exact ⟨.refl s, fun i _ hi => by omega, fun b _ => rfl⟩
  | succ m ih =>
    rw [rangeFrom_succ, List.foldl_append, List.foldl_cons, List.foldl_nil]
    generalize hw : (rangeFrom (x.va / 64) m).foldl _ s = w at ih ⊢
    obtain ⟨hspares, hstored, hothers⟩ := ih (by omega)
    let g := x.va / 64 + m
    let lo := max x.va (g * 64)
    have hlo : x.va ≤ lo := le_max_left _ _
    have hhi : lo < x.va + x.len := by omega
    have hplace : (x.pa + (lo - x.va)) / 64 = x.pa / 64 + m := by omega
    have hlength : ((burstPiece x bs g).map (·.1)).length = min (x.va + x.len) (g * 64 + 64) - lo := by
      rw [List.length_map, burstPiece, List.length_take, List.length_drop, hlen]
      omega
    have hqueue : getQueue w q = getQueue s q := by rw [getQueue, hspares.queues, ← getQueue]
    have htarget : target (x.pa + (lo - x.va)) = .stacks := by
      have hpage : (x.pa + (lo - x.va)) / 2 ^ 48 = x.pa / 2 ^ 48 := by omega
      rw [target, hpage, ← target, hstacks]
    rw [burstPiece_clean hclean]
    obtain ⟨hspares', hstored', hothers'⟩ := writeFoot_piece (ctx := ctx) (bs := (burstPiece x bs g).map (·.1)) (by rw [hqueue, hcopy]) (hspares.flaws.trans hflaws)
      hlo hhi (by omega) (by omega) htarget
    rw [hplace] at hothers'
    refine ⟨hspares.trans hspares', fun i hi hm => ?_, fun b hb => ?_⟩
    · by_cases hold : x.pa % 64 + i < 64 * m
      · rw [hothers' _ (by omega), hstored i hi hold]
      · have hsplit : x.pa + i = x.pa + (lo - x.va) + (i - (lo - x.va)) := by omega
        have hindex : max x.va (g * 64) - x.va + (i - (lo - x.va)) = i := by omega
        rw [hsplit, hstored' _ (by omega), getD_burstPiece (by omega), hindex]
    · rw [hothers' b (by omega), hothers b (by omega)]

/-- A burst to the stacks puts its bytes in their places, and touches only their granules. -/
theorem writeBurst_stores {q idx ctx : Nat} {bs : List (Byte × Bool)} (hcopy : (getQueue s q).cmds.any (fun k => k.idx = idx && fld k.slot 88 8 = 2) = false)
    (hflaws : s.mem.flaws = []) (hlen : bs.length = x.len) (hclean : bs.any (·.2) = false) (halign : x.pa % 64 = x.va % 64) (hstacks : target x.pa = .stacks)
    (hreach : x.pa + x.len ≤ 2 ^ 48) (hpos : 0 < x.len) :
    Spares s (writeBurst (.queueCmd q idx) ctx [x] x.va bs s) ∧
    (∀ i, i < x.len → byteAt (writeBurst (.queueCmd q idx) ctx [x] x.va bs s) (x.pa + i) = (bs.getD i (0, false)).1) ∧
    ∀ b, b < x.pa / 64 * 64 ∨ (x.pa + x.len + 63) / 64 * 64 ≤ b → byteAt (writeBurst (.queueCmd q idx) ctx [x] x.va bs s) b = byteAt s b := by
  have hpart := burstPart_fold (ctx := ctx) hcopy hflaws hlen hclean halign hstacks hreach _ (Nat.le_refl _) hpos
  have hfold : writeBurst (.queueCmd q idx) ctx [x] x.va bs s = (rangeFrom (x.va / 64) ((x.va + x.len - 1) / 64 - x.va / 64 + 1)).foldl
      (fun st g => writeFoot (.queueCmd q idx) ctx [x] (max x.va (g * 64)) ((burstPiece x bs g).map (·.1)) ((burstPiece x bs g).any (·.2)) st) s := by
    rw [writeBurst, granulesOf, hlen, if_neg (by omega)]
    simp only [burstPiece, hlen]
  rw [hfold]
  obtain ⟨hspares, hstored, hothers⟩ := hpart
  exact ⟨hspares, fun i hi => hstored i hi (by omega), fun b hb => hothers b (by omega)⟩

end

end Sys2Proof.Machine
end

section
namespace Sys2Proof.Machine

/-! ### The one burst of a fill or an inline write (R270) -/

/-- Byte `i` of a fill or of an inline write (Table 10.10). -/
def burstByte (v : BitVec 2048) (i : Nat) : Byte := if slOp v = 4 then BitVec.ofNat 8 (slBody v (288 + 8 * (i % 4)) 8) else BitVec.ofNat 8 (slBody v (8 * i) 8)

/-- A burst of `n` bytes is charged to its context and counted for its engine. -/
def burstCharged (e ctx n : Nat) (work : Work) (s : State) : State := countN (0x6001 + e) 4 n (chargeInd ctx work s)

theorem kept_burstCharged (e ctx n : Nat) (work : Work) (s : State) :
    (burstCharged e ctx n work s).queues = s.queues ∧ (burstCharged e ctx n work s).engines = s.engines ∧ (burstCharged e ctx n work s).peers = s.peers ∧
    (burstCharged e ctx n work s).acts = s.acts ∧ (burstCharged e ctx n work s).mem = s.mem := ⟨rfl, rfl, rfl, rfl, rfl⟩

theorem ctr_burstCharged (e ctx n : Nat) (work : Work) (s : State) :
    ctr (burstCharged e ctx n work s) (0x6001 + e) 3 = ctr s (0x6001 + e) 3 ∧
    ctr (burstCharged e ctx n work s) (0x6001 + e) 4 = ctr s (0x6001 + e) 4 + BitVec.ofNat 64 n := by
  have hne : okey (0x6001 + e) 3 ≠ okey (0x6001 + e) 4 := by unfold okey; omega
  refine ⟨?_, ?_⟩ <;> rw [burstCharged, ctr_countN]
  · rw [if_neg hne]
    rfl
  · rw [if_pos rfl]
    rfl

/-- The first `n` of these bytes, none poisoned. -/
def burstOf (v : BitVec 2048) (n : Nat) : List (Byte × Bool) := (List.range n).map fun i => (burstByte v i, false)

/-- A queue's one command, a fill or an inline write of one burst to one extent of the stacks, ends its burst on engine `e`. -/
structure Bursts (q : Nat) (e : Nat) (c : Cmd) (x : Extent) (s : State) : Prop where
  peers : s.peers = []
  plain : isJournaled s q = false
  job : (getEngine s e).job = some (q, c.idx)
  cmds : (getQueue s q).cmds = [c]
  recheck : c.recheck = false
  op : slOp c.slot = 4 ∨ slOp c.slot = 5
  burst : c.burst = 0
  fin : c.fin = none
  foot : c.foot = [x]
  va : x.va = (copyTerms c.slot).1
  len : x.len = (copyTerms c.slot).2.2
  short : x.len ≤ 2 ^ 20
  pos : x.len ≠ 0
  inStacks : target x.pa = .stacks
  align : x.pa % 64 = x.va % 64
  reach : x.pa + x.len ≤ 2 ^ 48
  flaws : s.mem.flaws = []
  clear : WayClear s [] [x]
  allowed : footVerdict s (queueCtx s q) [x] = .ok
  checked : s.xfers.any (fun y => y.receiver = 0x8000 + e && !y.write) = false

section
variable {q e : Nat} {c : Cmd} {x : Extent} {s : State} (h : Bursts q e c x s)
include h

theorem Bursts.terms : copyTerms c.slot = (x.va, (copyTerms c.slot).2.1, x.len) := by rw [h.va, h.len]

theorem Bursts.notCopy : slOp c.slot ≠ 3 := by
  obtain hop | hop := h.op <;> omega

theorem Bursts.unstaged : hasExternal s q c = false := by simp [hasExternal, h.plain]

/-- Its writes in this burst are its whole extent. -/
theorem Bursts.writes : [x].filterMap (clipExtent x.va x.len) = [x] := by
  have hclip : clipExtent x.va x.len x = some x := by
    have hcut : max x.va x.va < min (x.va + x.len) (x.va + x.len) := by have hpos := h.pos; omega
    rw [clipExtent, if_pos hcut]
    simp
  rw [List.filterMap_cons_some hclip, List.filterMap_nil]

theorem Bursts.alive : copyHostDead s q c = false := by
  have hdead : hostDeadIn s q c.foot x.va x.len = false := by simp [hostDeadIn, h.foot, h.inStacks]
  rw [copyHostDead, h.terms]
  simp [h.notCopy, hdead]

theorem Bursts.bytes (ext : Ext) (w : Waiter) (ctx : Nat) : burstBytes s ext w ctx c 0 = burstOf c.slot x.len := by
  have hlen : min (2 ^ 20) (x.len - 0 * 2 ^ 20) = x.len := by have hshort := h.short; omega
  rw [burstBytes, h.terms]
  dsimp only
  rw [hlen]
  refine List.map_congr_left fun i _ => ?_
  rw [Nat.zero_mul, Nat.zero_add, burstByte]
  obtain hop | hop := h.op <;> rw [hop] <;> rfl

theorem Bursts.single : burstCount c ≤ 0 + 1 := by
  have hshort := h.short
  rw [burstCount, ← h.len]
  omega

omit h in
/-- No command of the queue is a COURSE, whose writes are noted as they are made. -/
theorem noCourse (hcmds : (getQueue s q).cmds = [c]) (hop : slOp c.slot = 4 ∨ slOp c.slot = 5) :
    (getQueue s q).cmds.any (fun k => k.idx = c.idx && fld k.slot 88 8 = 2) = false := by
  have hne : fld c.slot 88 8 ≠ 2 := by
    change slOp c.slot ≠ 2
    omega
  simp [hcmds, hne]

/-- The bytes stand in their places. -/
theorem Bursts.stores : Spares s (writeBurst (.queueCmd q c.idx) (queueCtx s q) [x] x.va (burstOf c.slot x.len) s) ∧
    (∀ i, i < x.len → byteAt (writeBurst (.queueCmd q c.idx) (queueCtx s q) [x] x.va (burstOf c.slot x.len) s) (x.pa + i) = burstByte c.slot i) ∧
    ∀ b, b < x.pa / 64 * 64 ∨ (x.pa + x.len + 63) / 64 * 64 ≤ b →
      byteAt (writeBurst (.queueCmd q c.idx) (queueCtx s q) [x] x.va (burstOf c.slot x.len) s) b = byteAt s b := by
  have hclean : (burstOf c.slot x.len).any (·.2) = false := by simp [burstOf]
  obtain ⟨hspares, hstored, hothers⟩ := writeBurst_stores (ctx := queueCtx s q) (noCourse h.cmds h.op) h.flaws (by simp [burstOf]) hclean h.align h.inStacks h.reach
    (Nat.pos_of_ne_zero h.pos)
  refine ⟨hspares, fun i hi => (hstored i hi).trans ?_, hothers⟩
  simp [burstOf, hi]

/-- The state once the burst's bytes stand in their places. -/
theorem Bursts.ends (ext : Ext) : ∃ (F : Cmd → Cmd) (work : Work), (∀ k, (F k).idx = k.idx ∧ (F k).fin = some (k.fin.getD .ok)) ∧
    burstEnds e ext s = leaveEngine true q c (modCmd q c.idx F (burstCharged e (queueCtx s q) x.len work
      (writeBurst (.queueCmd q c.idx) (queueCtx s q) [x] x.va (burstOf c.slot x.len) s))) := by
  have hlen : min (2 ^ 20) x.len = x.len := Nat.min_eq_right h.short
  have hbad : worst (footVerdict s (queueCtx s q) ([] ++ [x])) (if copyHostDead s q c = true then .deadTarget else .ok) = .ok := by
    rw [h.alive, List.nil_append, h.allowed]
    rfl
  have hpeers : peerWaits s (.queueCmd q c.idx) = false := by rw [peerWaits, h.peers]; rfl
  have hnotes : noteExtents (queueCtx s q) 5 [] s = s := rfl
  obtain ⟨hspares, -⟩ := h.stores
  have hcount : (burstOf c.slot x.len).length = x.len := by simp [burstOf]
  have hlanded (work : Work) (u : State) (hu : u.peers = s.peers) :
      dropLanded (.queueCmd q c.idx) (countN (0x6001 + e) 4 x.len (chargeInd (queueCtx s q) work u)) = burstCharged e (queueCtx s q) x.len work u := by
    obtain ⟨-, -, hpeers, -⟩ := kept_burstCharged e (queueCtx s q) x.len work u
    exact dropLanded_of_noPeers (hpeers.trans (hu.trans h.peers)) _
  rw [burstEnds, h.job]
  dsimp only
  rw [findCmd_single h.cmds]
  dsimp only
  rw [h.terms, h.recheck, h.burst, h.unstaged, h.foot]
  dsimp only
  simp only [hnotes, h.notCopy, hlen, Nat.zero_mul, Nat.sub_zero, Nat.add_zero, h.writes, Bool.false_and, Bool.false_eq_true, if_false, bulkReady_of_wayClear h.clear, hbad, hpeers, h.checked, h.single,
    Bool.not_true, Bool.or_self, ne_eq, not_true_eq_false, if_true, List.foldl_nil, h.bytes, hcount]
  rw [hlanded _ _ hspares.peers]
  refine ⟨_, _, ?_, rfl⟩
  exact fun k => ⟨rfl, rfl⟩

end

/-- A fill or an inline write of one burst to the stacks is done with it: its bytes stand in their places, and its engine is free. -/
theorem exec_burstComplete {q : QueueId} {e : EngineId} {c : Cmd} {x : Extent} {s : State} (h : Bursts q e c x s) (hfab : fabOn s = true) (hacts : s.acts = [])
    (hfencing : (getEngine s e).fencing = false) (hengine : c.engine = some e.val) (ext : Ext) :
    ∃ t k, exec (.burstComplete e ext) s = .next t ∧ (∀ i, i < x.len → byteAt t (x.pa + i) = burstByte c.slot i) ∧
      (∀ a, a < x.pa / 64 * 64 ∨ (x.pa + x.len + 63) / 64 * 64 ≤ a → byteAt t a = byteAt s a) ∧ (getQueue t q).cmds = [k] ∧ k.fin = some .ok ∧ k.engine = none ∧
      (getEngine t e).job = none ∧ ctr t (0x6001 + e) 3 = ctr s (0x6001 + e) 3 + 1 ∧ ctr t (0x6001 + e) 4 = ctr s (0x6001 + e) 4 + BitVec.ofNat 64 x.len := by
  obtain ⟨F, work, hF, hends⟩ := h.ends ext
  obtain ⟨hspares, hstored, hothers⟩ := h.stores
  generalize writeBurst (.queueCmd q c.idx) (queueCtx s q) [x] x.va (burstOf c.slot x.len) s = u at hends hspares hstored hothers
  obtain ⟨hqueues, hengines, -, hkept, hmem⟩ := kept_burstCharged e (queueCtx s q) x.len work u
  obtain ⟨hctr3, hctr4⟩ := ctr_burstCharged e (queueCtx s q) x.len work u
  generalize burstCharged e (queueCtx s q) x.len work u = w at hends hqueues hengines hkept hmem hctr3 hctr4
  obtain ⟨hidx, hfin⟩ := hF c
  have hfinished : (F c).fin = some .ok := by rw [hfin, h.fin]; rfl
  have hengine' (d : Nat) : getEngine w d = getEngine s d := by rw [getEngine, hengines, hspares.engines, ← getEngine]
  have hcmds : (getQueue (modCmd q c.idx F w) q).cmds = [F c] := by
    rw [modCmd, getQueue_modQueue, if_pos rfl, getQueue, hqueues, hspares.queues, ← getQueue, h.cmds]
    simp
  have hcounts (k : Nat) : ctr u (0x6001 + e) k = ctr s (0x6001 + e) k := by
    have hkey (y : State) : ctr y (0x6001 + e) k = queueCtrs y (256 * (1 + e.val) + k) := by rw [← ctr_eq_queueCtrs, ← Nat.add_assoc]
    rw [hkey, hkey, hspares.counts]
  have hleave : burstEnds e ext s = freed true e q c.idx (modCmd q c.idx F w) := by
    rw [hends]
    exact leaveEngine_freed true hengine (by rw [modCmd, getEngine_modQueue, hengine', hfencing])
  obtain ⟨hacts₁, hmem₁⟩ := kept_freed true e q c.idx (modCmd q c.idx F w)
  obtain ⟨hacts₂, hmem₂, -⟩ := kept_modCmd q c.idx F w
  have hbyte (b : Nat) : byteAt (freed true e q c.idx (modCmd q c.idx F w)) b = byteAt u b := by rw [byteAt, hmem₁, hmem₂, hmem, ← byteAt]
  refine ⟨_, { F c with engine := none, detail := copyDetail e (F c) }, done_onFab hfab ?_, ?_⟩ <;> rw [hleave]
  · rw [hacts₁, hacts₂, hkept, hspares.acts, hacts]
  refine ⟨fun i hi => (hbyte _).trans (hstored i hi), fun a ha => (hbyte a).trans (hothers a ha), ?_, hfinished, rfl, ?_, ?_, ?_⟩
  · rw [← hidx]
    exact cmds_freed true e (hidx ▸ hcmds)
  · rw [getEngine_freed, if_pos rfl]
  · rw [ctr_freed_ends, modCmd, ctr_modQueue, hctr3, hcounts]
  · rw [ctr_freed_other (by decide), modCmd, ctr_modQueue, hctr4, hcounts]

end Sys2Proof.Machine
end

section
open Sys2Proof Sys2Proof.Machine

/-- Settles O47: the burst's bytes granule by granule, the two faults of an engine, and the three ways of a completion record. -/
theorem enginesAndCompletions : Obligations.EnginesAndCompletions := by
  refine ⟨?_, ?_, ?_, ?_, ?_, ?_, ?_⟩
  · intro s q e c x ext hfab hacts hpeers hplain hjob hfencing hcmds hengine hrecheck hop hburst hfin hfoot hva hlen hshort hpos halign hstacks hreach hflaws hclear
      hallowed hchecked
    exact exec_burstComplete ⟨hpeers, hplain, hjob, hcmds, hrecheck, hop, hburst, hfin, hfoot, hva, hlen, hshort, hpos, hstacks, halign, hreach, hflaws, hclear, hallowed,
      hchecked⟩ hfab hacts hfencing hengine ext
  · intro s q e e' c st hfab hacts hpeers hst hjob hmigrate hfencing hothers hengine hfin hrecheck hold hcmds hreruns hop hlo hhi hne hidle hbefore
    exact exec_engineFault_reruns hfab hacts hpeers hst hjob hmigrate hfencing hothers hengine hfin hrecheck hold hcmds hreruns hop hlo hhi hne hidle hbefore
  · intro s q e c st hfab hacts hst hjob hmigrate hfencing hengine hcmds hreruns hfin
    exact exec_engineFault_ends hfab hacts hst hjob hmigrate hfencing hengine hcmds hreruns hfin
  · intro s q c pa hfab hacts hcmds hready hnew hdone hflashing hwait hstate hjournal hclosing hprod hclear hsignal hplace haligned hstacks hok hflaws
    exact exec_completionRecord_written hfab hacts hcmds hready hnew hdone hflashing hwait hstate hjournal hclosing hprod hclear hsignal hplace haligned hstacks hok hflaws
  · intro s q c hfab hacts hcmds hready hnew hdone hjournal hprod hhost halive hlinks
    exact exec_completionRecord_posts hfab hacts hcmds hready hnew hdone hjournal hprod hhost halive hlinks
  · intro s q c p n hfab hacts hcmds hplaced hdone
    exact ⟨fun hconfirmed hflashing hwait hstate hsignal hclosing =>
        exec_completionRecord_confirmed hfab hacts hcmds hplaced hdone hconfirmed hflashing hwait hstate hsignal hclosing,
      fun hunconfirmed hp => exec_completionRecord_awaits hfab hacts hcmds hplaced hunconfirmed hp⟩
  · intro s q c hacts hfind hnew hfin
    exact exec_completionRecord_unfinished hacts hfind hnew hfin

end
